-- ==== Sys2Proof/Word.lean ====
section
/-! DEFINITION. The word types of the device (00 "Bits and bytes"): a byte, the 32-bit register word (R7), the 64-bit
queue word and scalar, a 64-byte line. -/

namespace Sys2Proof

/-- A byte. -/
abbrev Byte := BitVec 8

/-- A 32-bit register word (R7). -/
abbrev Word := BitVec 32

/-- A 64-bit word: a queue word, a scalar register, device time. -/
abbrev DWord := BitVec 64

end Sys2Proof
end

