-- ==== Sys2Proof/Syntax.lean ====
section
/-! DEFINITION. The commands of the device: one constructor of `Instr` per row of spec/opcode_table.json, in the table's
order, with the operands that the row takes.  An event row takes what the environment brings with the event. -/

namespace Sys2Proof

/-- A requester on the device: its NI identity (05 R218) and the QCLASS of the request (05 R221). -/
structure Requester where
  ni : Nat
  qclass : Nat
  deriving DecidableEq, Repr

/-- What a SECDED decoder finds in one code word (05 R223, R261). -/
inductive Ecc where
  | clean | single | double
  deriving DecidableEq, Repr

/-- What a DRAM controller finds in a line it reads (05 R250). -/
inductive LineErr where
  | clean | single | double | parity
  deriving DecidableEq, Repr

/-- A flit: data bits [511:0] and header bits [619:512] (05 R221).  Its check bits [639:620] are those of its two SECDED codes,
whose matrices the spec does not give: the rows that bring a flit name the bits of the 640 that the link has flipped. -/
structure Flit where
  data : BitVec 512
  hdr : BitVec 108
  deriving DecidableEq, Repr

/-- One arbiter of the table of 05 "Arbiters". -/
inductive ArbId where
  | dram (ctl : Nat)
  | larder (bank : Nat)
  | router (r out : Nat)
  | register (unit : Nat)
  deriving DecidableEq, Repr

/-- Where a one-step Sync carries its originTimestamp, and its UDP checksum if it has one (03 R147). -/
structure SyncLoc where
  origin : Nat
  udpSum : Option Nat
  deriving DecidableEq, Repr

/-- A feature that a FAPI PDU requests (11 R513, R514): codewords, modulation order in bits per symbol, DFT-s-OFDM in place of
CP-OFDM, mapping type A or B, SSB case (0 A, 1 B, 2 C and so on) and L_max, ports, PUCCH or PRACH format (a long format by its number, a
short one by 16 × its letter + its number), comb, DMRS type, DMRS symbols and additional positions, codebook ports, panels and type, beam
identity, LDPC base graph, subcarrier spacing µ; and those that the part does not serve. -/
inductive NrFeature where
  | codewords (n : Nat) | modulation (bits : Nat) | dftS | mappingB (b : Bool) | ssb (case lMax : Nat) | ports (n : Nat)
  | pucchFormat (n : Nat) | prachFormat (n : Nat) | comb (n : Nat) | dmrs (type symbols additional : Nat)
  | codebook (type panels ports : Nat) | beam (i : Nat) | baseGraph (n : Nat) | numerology (mu : Nat)
  | extendedCp | ptRs | repetitionA | repetitionB | sidelink | positioning | other
  deriving DecidableEq, Repr

/-- A PDU of a P7 request (11 R513-R516): kind 0 PDSCH, 1 PDCCH, 2 CSI-RS, 3 SSB, 4 PRACH, 5 PUSCH, 6 PUCCH, 7 SRS; its
layers, its DCIs, the features it requests, and its bytes as SCF 222.10.02 lays them out. -/
structure FapiPdu where
  kind : Nat
  layers : Nat
  dcis : Nat
  features : List NrFeature
  bytes : List Byte
  deriving DecidableEq, Repr

/-- A TLV of CONFIG.request (11 R547): its tag and value, the bytes of the carrier block that hold the same parameter, and
the feature that it requests. -/
structure ConfigTlv where
  tag : Nat
  value : Nat
  place : Option (Nat × Nat)
  feature : Option NrFeature
  deriving DecidableEq, Repr

/-- A fronthaul message (11 R519-R525): the length of its frame, whether it comes as eCPRI over Ethernet (not over IP/UDP) with a well
formed header, its eCPRI type, a C-plane section's type, whether it carries a section extension, and its beam identity, the compression
of U-plane data (the codes of COMP, R550; any other value one not supported), eAxC identity, plane 0 downlink U, 1 downlink C, 2 uplink
C, 3 uplink U, air start of its symbol in ticks, first resource element, resource elements of a C-plane section, and the U-plane data as
sent. -/
structure FhMsg where
  octets : Nat
  overEthernet : Bool
  headerOk : Bool
  type : Nat
  section_ : Nat
  extension : Bool
  beam : Nat
  comp : Nat
  eaxc : Nat
  plane : Nat
  symbol : Nat
  first : Nat
  count : Nat
  data : List Byte
  deriving DecidableEq, Repr

/-- A code block (12 R574, R576): base graph 1 or 2, circular buffer N_cb, rate-matched length E_r and lifting size Zc. -/
structure CodeBlock where
  graph : Nat
  ncb : Nat
  er : Nat
  zc : Nat
  deriving DecidableEq, Repr

/-- What the FAPI PUSCH PDU of an allocation says to the gate and decoder (12 R554, R555, R576, R580): DFT-s-OFDM or repetition type A,
which the classical half alone serves, new data, RNTI, HARQ process, the end of its last symbol in ticks, and the code blocks of its
transport block. -/
structure PuschInfo where
  dftS : Bool
  repetition : Bool
  newData : Bool
  rnti : Nat
  harq : Nat
  symEnd : Nat
  blocks : List CodeBlock
  deriving DecidableEq, Repr


/-- What a decoder finds in an access unit, by ITU-T H.264 or H.265 (13 R586, R587, R594, R595): an unsupported tool, the
picture size, the decoded-picture-buffer size, a syntax error, 10-bit samples, whether the picture is output and referred to,
the slots still referred to, and its rows of luma and then interleaved chroma, without padding. -/
structure VisDecode where
  tool : Bool
  w : Nat
  h : Nat
  dpb : Nat
  bad : Bool
  ten : Bool
  shown : Bool
  ref : Bool
  refs : List Nat
  data : List Byte
  deriving DecidableEq, Repr


/-- A CAN frame on the bus (14 R668, R670, R674). -/
structure CanFrame where
  id : BitVec 29
  xtd : Bool
  rtr : Bool
  dlc : BitVec 4
  fdf : Bool
  brs : Bool
  esi : Bool
  data : List Byte
  deriving DecidableEq, Repr

/-- The commands (spec/opcode_table.json). -/
inductive Instr where
  /-- REGISTER_WRITE (R6). A write to a register field that has no behaviour of its own sets the field according to its access code, after the reserved-value and lock checks. -/
  | registerWrite (rq : Requester) (addr size data : Nat)
  /-- NOC_REQUEST (R220). A requester issues a read or write request, which is decoded to its target NI and checked against the memory map and the access rules. -/
  | nocRequest (rq : Requester) (write : Bool) (addr len : Nat) (data : List Byte) (poison : Bool)
  /-- PCIE_ENDPOINT_ACCESS (R51). A PCIe access at BAR0 offset X reaches device address X, and a bus error on it is answered with Completer Abort. -/
  | pcieEndpointAccess (write : Bool) (offset len : Nat) (data : List Byte)
  /-- CELLAR_LOCAL_ACCESS (R47). The cellar core accesses its local map, which reaches ROM, SRAM, the cellar windows or the device-map aperture. -/
  | cellarLocalAccess (write : Bool) (addr len : Nat) (data : List Byte)
  /-- NOC_FLIT_ROUTE (R228). A router checks a flit's header, acts on its turn code and forwards it. -/
  | nocFlitRoute (router inPort : Nat) (flit : Flit) (err : List Nat)
  /-- NOC_FLIT_EJECT (R226). The target NI checks both SECDED groups of an arriving flit and delivers it, poisoned if its data is uncorrectable. -/
  | nocFlitEject (ni : Nat) (flit : Flit) (err : List Nat)
  /-- NOC_RESPONSE_ARRIVAL (R232). A response reaches the source NI and completes its request, or is discarded if its request has already timed out. -/
  | nocResponseArrival (ni tag : Nat)
  /-- NOC_REQ_TIMEOUT (R239). A request left unanswered for NOC_TIMEOUT cycles completes with a bus error. -/
  | nocReqTimeout (ni tag : Nat)
  /-- ARB_WINDOW_START (R240). At each arbiter window start, every credit counter is refilled to its weight. -/
  | arbWindowStart (arb : ArbId)
  /-- MEM_ARB_COMMIT (R243). A write to MEM_ARB_COMMIT copies every MEM arbiter shadow to its active value. -/
  | memArbCommit (rq : Requester) (data : Nat)
  /-- NOC_ARB_COMMIT (R243). A write to NOC_ARB_COMMIT copies the NOC arbiter shadows in every router to their active values. -/
  | nocArbCommit (rq : Requester) (data : Nat)
  /-- DRAM_READ (R250). A DRAM controller reads a line and checks its ECC and address parity, correcting and writing back a single-bit error. -/
  | dramRead (ctl : Nat) (ecc : LineErr)
  /-- DRAM_WRITE (R251). A DRAM controller writes a whole line, or reads, merges and writes a partial line, storing poisoned data as uncorrectable. -/
  | dramWrite (ctl : Nat) (ecc : LineErr)
  /-- DRAM_REFRESH (R254). A channel's all-bank refresh falls due and takes the channel at the next access boundary. -/
  | dramRefresh (ch : Nat)
  /-- MR4_POLL (R255). Every 16 ms the controller reads MR4 and, if needed, changes the refresh rate. -/
  | mr4Poll (ch : Nat) (temp : Int)
  /-- LARDER_READ (R261). A larder bank reads a line and corrects or reports ECC errors per 64-bit word. -/
  | larderRead (bank : Nat) (errs : List (Nat × Ecc))
  /-- LARDER_WRITE (R261). A larder bank writes a line, marking poisoned words uncorrectable. -/
  | larderWrite (bank : Nat) (errs : List (Nat × Ecc))
  /-- VDD_CEL_POWER_GOOD (R770). VDD_CEL reaches power-good, the device enters CELLAR and device time starts from 0. -/
  | vddCelPowerGood
  /-- VDD_CEL_LOSS (R774). VDD_CEL loses power-good, every pad goes to high impedance and the device enters OFF. -/
  | vddCelLoss
  /-- VDD_IO33_LOW (R771). VDD_IO33 falls below 3.0 V while VDD_CEL holds, and the cellar is held in a PORn-type reset. -/
  | vddIo33Low
  /-- VDD_IO33_RESTORED (R771). 1 ms after VDD_IO33 returns above 3.1 V, the cellar leaves reset. -/
  | vddIo33Restored
  /-- PORN_RESET (R102). PORn is held low for at least 1 µs, which resets the cellar and removes the main domains without drain. -/
  | pornReset
  /-- WATCHDOG_EXPIRY (R108). The cellar watchdog receives no valid kick within PERIOD_MS and takes a PORn-type reset. -/
  | watchdogExpiry
  /-- WDOG_KICK (R108). A write of the kick key to SYS_WDOG_KICK restarts the watchdog count. -/
  | wdogKick (rq : Requester) (data : Nat)
  /-- SOFTWARE_COLD_RESET (R102). SYS_RESET.COLD written with a valid key takes a cold reset with the effects of PORn. -/
  | softwareColdReset (rq : Requester) (data : Nat)
  /-- SOFTWARE_WARM_RESET (R102). SYS_RESET.WARM written with a valid key drains, fences and removes the main domains while the cellar keeps running. -/
  | softwareWarmReset (rq : Requester) (data late : Nat)
  /-- START_UP (R86). After a reset, the cellar core starts on the RC oscillator and begins the start-up sequence. -/
  | startUp
  /-- FLL_LOCK (R86). The FLL locks to the crystal, the cellar clock moves to it, and Floor reads TJ_MIN to decide on warming. -/
  | fllLock (tjMin : BitVec 16) (mfio63 : Bool)
  /-- WARM_END (R86). TJ_MIN reaches −20 °C, so the warming load stops and start-up continues at step 6. -/
  | warmEnd (tjMin : BitVec 16)
  /-- WARM_LIMIT_EXPIRED (R90). LIMIT_MIN minutes of warming pass without TJ_MIN reaching −20 °C, so the fabric load stops and the device stays in the Cellar tier. -/
  | warmLimitExpired (tjMin : BitVec 16)
  /-- COLD_WAIT_READING (R94). With warming disabled, Floor reads TJ_MIN every second and continues start-up once it reaches −20 °C. -/
  | coldWaitReading (tjMin : BitVec 16)
  /-- RAIL_CHANNEL_POWER_GOOD (R99). A sequencer channel's power-good asserts, and the next channel in order is enabled. -/
  | railChannelPowerGood (ch : Nat)
  /-- RAIL_FAULT_TIMEOUT (R100). A power-good fails to assert within 10 ms of its enable, so every raised channel is lowered and the device stays in CELLAR. -/
  | railFaultTimeout (ch : Nat)
  /-- RAIL_FAULT_DROP (R101). A power-good drops while its channel is enabled, so every main domain is removed without drain and the device enters CELLAR. -/
  | railFaultDrop (ch : Nat)
  /-- RAIL_FAULT_RETRY (R104). 10 s after a rail fault that struck in RUN, HOLDOVER or STANDBY, Floor requests RUN once. -/
  | railFaultRetry
  /-- REFCLK_DETECTED (R86). REFCLK is detected after the Ground channels rise, and the Ground domains switch on. -/
  | refclkDetected
  /-- REFCLK_ABSENT (R93). REFCLK is not detected within 100 ms, so the rails are lowered and the device stays in CELLAR. -/
  | refclkAbsent
  /-- CONFIG_START (R184). The configuration controller reads the boot pointer block and begins pass 1 on the chosen image. -/
  | configStart (pointer : Option (List Byte))
  /-- CONFIG_PASS1_DONE (R184). Pass 1 ends: the key, signature and SVN are checked, the PIN_PLAN is applied and the digest is kept. -/
  | configPass1Done (image0 image1 : List Byte)
  /-- DRAM_TRAINING_DONE (R256). DRAM training completes, or fails twice and fences off the Ground domains. -/
  | dramTrainingDone (fail : Nat)
  /-- CONFIG_PASS2_DONE (R184). Pass 2 ends: the digest is compared, the resume image is stored and the service cluster is released. -/
  | configPass2Done (image : List Byte)
  /-- CFG_SOURCE_LOST (R187). A flash read gives no data for 65,536 cycles, so configuration aborts. -/
  | cfgSourceLost (offset : Nat)
  /-- CFG_DONE (R184). The Full-tier bodies are loaded, CFG_DONE is logged and forwarding of the CHAIN body begins. -/
  | cfgDone
  /-- CHAIN_PASS_START (R195). After the gap, a forwarding device sends the next pass of its CHAIN body on CFG_DO. -/
  | chainPassStart
  /-- CHAIN_FRAME_RECEIVE (R197). A chain member receives a frame on CFG_DI and checks its CRC, order and flags. -/
  | chainFrameReceive (frame : List Byte)
  /-- CHAIN_FRAME_GAP (R197). More than 10 ms passes after the previous frame of a pass, so that pass is discarded. -/
  | chainFrameGap
  /-- CFG_CHAIN_TIMEOUT (R198). No pass 2 is used within CHAIN_WAIT_S seconds, so configuration aborts. -/
  | cfgChainTimeout
  /-- FLASH_SVC_ENABLE (R96). A write of 1 to SYS_FLASH_SVC.EN in CELLAR after an abort raises channels 0–2 and switches on the CFG path for flash service. -/
  | flashSvcEnable (rq : Requester)
  /-- FLASH_SVC_DISABLE (R97). A write of 0 to SYS_FLASH_SVC.EN fences domains 2 and 3 and lowers channels 2, 1 and 0. -/
  | flashSvcDisable (rq : Requester) (late : Nat)
  /-- XSPI_READ_CMD (R192). A CFG_XSPI_CMD write with WRITE 0 runs an indirect flash command and reads data into CFG_XSPI_DATA. -/
  | xspiReadCmd (rq : Requester) (data : Nat) (din : List Byte)
  /-- XSPI_WRITE_CMD (R192). A CFG_XSPI_CMD write with WRITE 1 sends an indirect flash command with data from CFG_XSPI_DATA. -/
  | xspiWriteCmd (rq : Requester) (data : Nat)
  /-- SEC_KEY_REVOKE (R217). A SEC_KEY_REVOKE write marks key slots for revocation, or is refused whole if it names the running image's slot. -/
  | secKeyRevoke (rq : Requester) (data : Nat)
  /-- PWR_REQ_CELLAR (R72). A firmware request to enter CELLAR, accepted only from an allowed mode while not busy. -/
  | pwrReqCellar (rq : Requester) (late : Nat)
  /-- PWR_REQ_STANDBY (R78). A firmware request for STANDBY sheds tenants, fences the Full domains, puts DRAM in self-refresh and lowers the rails. -/
  | pwrReqStandby (rq : Requester) (late : Nat)
  /-- PWR_REQ_RUN (R72). A firmware request for RUN starts start-up at step 6, or resumes from STANDBY or HOLDOVER. -/
  | pwrReqRun (rq : Requester) (late : Nat) (bad : Option Nat)
  /-- PWR_REQ_HOLDOVER (R83). A firmware request for HOLDOVER sheds tenants and fences the domains that carry no radio. -/
  | pwrReqHoldover (rq : Requester) (late : Nat)
  /-- STANDBY_WAKE (R79). An enabled wake source in STANDBY starts the resume to RUN, with the resume image's digest checked. -/
  | standbyWake (source : Nat) (bad : Option Nat)
  /-- MAINS_LOST (R83). The mains-loss source reports mains lost, which starts HOLDOVER entry from RUN, or is latched while busy, and sets ON_BATTERY. -/
  | mainsLost (late : Nat)
  /-- MAINS_PRESENT_DWELL (R85). Mains has been present for HOLD_DWELL_S seconds, so HOLDOVER is left for RUN and ON_BATTERY clears. -/
  | mainsPresentDwell
  /-- DOMAIN_ON_REQUEST (R68). An on request for a domain closes its switch, starts its clocks, releases reset and sets its state bit. -/
  | domainOnRequest (rq : Requester) (mask : Nat)
  /-- DOMAIN_OFF_REQUEST (R64). An off request asserts FENCE_REQ, so the domain's interfaces refuse new requests while it drains. -/
  | domainOffRequest (rq : Requester) (mask : Nat)
  /-- FENCE_ACK (R64). The domain asserts FENCE_ACK, so it is masked and clamped and its power switch opens 4 cycles later. -/
  | fenceAck (dom : Nat)
  /-- FENCE_TIMEOUT (R65). FENCE_ACK is missing at 50 µs, so SYS fences and switches the domain off without it. -/
  | fenceTimeout (dom : Nat)
  /-- CELLAR_CLOCK_MOVE (R71). At the due audio-frame boundary, or at once, the cellar clock source moves between the FLL and REFCLK. -/
  | cellarClockMove
  /-- XTAL_FAIL (R109). The crystal gives no edge for 1 ms, so the cellar clock and the watchdog move to the RC oscillator. -/
  | xtalFail
  /-- CRYSTAL_RESTORED (R669). The crystal has given edges for 1 ms again, so the CAN controllers resume. -/
  | crystalRestored
  /-- GOVERNOR_EVALUATION (R110). Every 1 ms the governor compares TJ_MAX with its thresholds and enters or clears levels in order. -/
  | governorEvaluation (tjMin tjMax : BitVec 16)
  /-- THERMAL_TRIP (R113). TJ_MAX reaches 125 °C, so every main domain is removed without drain within 200 µs and the device enters CELLAR. -/
  | thermalTrip (tjMax : BitVec 16)
  /-- TRIP_RESTART (R114). After a trip with TRIP_RESTART 1, TJ_MAX falls to 100 °C or below and start-up begins at step 6. -/
  | tripRestart (tjMax : BitVec 16)
  /-- AVS_SET_POINT (R767). The device writes a VDD_CORE set point over AVSBus and reads it back to confirm it was reached. -/
  | avsSetPoint (mv : Nat) (answer : Option Nat)
  /-- CLK_MODE_REQ_ADAPTIVE (R129). A CLK_MODE_REQ write of Adaptive holds the crossings, changes mode at an alignment mark and resumes. -/
  | clkModeReqAdaptive (rq : Requester) (ticks : Nat)
  /-- CLK_MODE_REQ_DETERMINISTIC (R129). A CLK_MODE_REQ write of Deterministic raises the VDD_CORE floor, holds the crossings and changes mode at an alignment mark. -/
  | clkModeReqDeterministic (rq : Requester) (floor : Option Nat)
  /-- CLK_MODE_FLOOR_TIMEOUT (R130). The voltage floor is not reached within 98,304 ticks, so the mode change is abandoned. -/
  | clkModeFloorTimeout
  /-- DROOP_STRETCH (R123). An island's droop detector fires and its next cycle is stretched. -/
  | droopStretch (island cycles : Nat)
  /-- REFCLK_LOST (R136). REFCLK gives no edge for 10 µs in RUN or HOLDOVER, so the generators run free, the mode becomes Adaptive and radio is withdrawn. -/
  | refclkLost
  /-- REFCLK_RELOCK (R138). REFCLK has given edges for 1 ms, so the generators relock and device time returns to REFCLK. -/
  | refclkRelock
  /-- CLK_RATE_WRITE (R143). A CLK_RATE write sets the rate offset, clamped to ±200 ppm. -/
  | clkRateWrite (rq : Requester) (data : Nat)
  /-- CLK_STEP_WRITE (R144). A write to CLK_STEP_HI arms a time step, or refuses one larger than 1 tick while radio is released. -/
  | clkStepWrite (rq : Requester) (data : Nat)
  /-- CLK_STEP_APPLY (R144). At the first alignment mark after the arming write, the step is added to device time. -/
  | clkStepApply
  /-- PPS_IN_EDGE (R148). A rising edge on PPS_IN captures device time and counts the edge. -/
  | ppsInEdge
  /-- CLK_PPS_MISSING (R149). No PPS_IN edge for 1.1 s while EXPECT is 1 is logged once. -/
  | clkPpsMissing
  /-- PPS_OUT_RISE (R151). Device time reaches n × 491,520,000 + OFFSET, so PPS_OUT rises. -/
  | ppsOutRise
  /-- PPS_OUT_FALL (R151). WIDTH_MS after its rise, PPS_OUT falls. -/
  | ppsOutFall
  /-- ETH_FRAME_RECEIVE (R146). An Ethernet port receives a frame and timestamps it if CLK_PTP_CFG selects it. -/
  | ethFrameReceive (port : Nat) (frame : List Byte)
  /-- ETH_FRAME_TRANSMIT (R147). An Ethernet port transmits a frame, timestamping it and inserting the one-step Sync origin timestamp. -/
  | ethFrameTransmit (port : Nat) (frame : List Byte) (sync : Option SyncLoc)
  /-- SYNCE_SQUELCH (R153). The selected port loses receive lock with SQUELCH 1, so the SyncE output is held low. -/
  | synceSquelch (out : Nat)
  /-- SYNCE_UNSQUELCH (R153). The port has held lock for 100 ms, so the SyncE output resumes. -/
  | synceUnsquelch (out : Nat)
  /-- CLK_RUN_ARM (R163). A write of ARM to CLK_RUN_CTRL arms the run mark. -/
  | clkRunArm (rq : Requester) (data : Nat)
  /-- CLK_RUN_MARK (R155). The run mark falls at an alignment mark, which clears CLK_RUN_STAT and is logged. -/
  | clkRunMark
  /-- HATCH_POST (R203). A write to CFG_HATCH_POST_HI reads a descriptor and queues it in the hatch. -/
  | hatchPost (rq : Requester) (data : Nat)
  /-- HATCH_LANE_POST (R352). Two words on a stream port's hatch lane post a descriptor to the hatch. -/
  | hatchLanePost (port : Nat) (lo hi : Word)
  /-- SHELF_LOAD (R207). The hatch takes a SHELF_LOAD descriptor, marks the shelf not valid and writes and checks it. -/
  | shelfLoad
  /-- REGION_RELOAD (R212). The hatch takes a REGION_RELOAD, idles the region's lanes, fences it and rewrites every shelf, table and idle entry. -/
  | regionReload
  /-- ROUTE_LOAD (R205). The hatch takes a ROUTE_LOAD and reloads route tables from a checked source. -/
  | routeLoad
  /-- HATCH_LOAD_COMPLETE (R209). A shelf or route load completes, so the shelf becomes valid and a completion word is written. -/
  | hatchLoadComplete (cycles : Nat)
  /-- REGION_RELOADED (R212). After writing, the region resets on shelf 0 and at the next alignment mark its isolation is released. -/
  | regionReloaded (cycles : Nat)
  /-- STR_ENABLE (R272). A write of 1 to STR_CTRL.EN enables the storeroom if its pools and rings are valid, freeing every crate. -/
  | strEnable (rq : Requester) (data : Nat)
  /-- POOL_ALLOC (R275). A read of STR_POOLp_ALLOC pops the top crate of the pool, makes the reader its owner and returns its handle. -/
  | poolAlloc (rq : Requester) (pool : Nat)
  /-- CRATE_FREE (R279). A write to STR_CRATE_FREE checks the handle and owner and pushes the crate onto its free stack. -/
  | crateFree (rq : Requester) (handle : Word)
  /-- CRATE_GIVE_LATCH (R279). A write to STR_CRATE_GIVE_LO latches the crate handle for the requester. -/
  | crateGiveLatch (rq : Requester) (handle : Word)
  /-- CRATE_GIVE (R279). A write to STR_CRATE_GIVE_HI checks the latched crate and gives it to the named context. -/
  | crateGive (rq : Requester) (data : Nat)
  /-- CRATE_RECLAIM (R283). A write to STR_CRATE_RECLAIM frees every crate owned by a context and logs the count. -/
  | crateReclaim (rq : Requester) (data : Nat)
  /-- QUEUE_ENABLE (R286). A write of 1 to STR_Qn_CFG.EN enables a queue if its ring is valid. -/
  | queueEnable (rq : Requester) (q data : Nat)
  /-- QUEUE_PUSH (R288). A producer writes words to a queue aperture, and each word is stored, overwrites old packets or is dropped. -/
  | queuePush (rq : Requester) (q offset : Nat) (data : List Byte)
  /-- QUEUE_POP (R289). A consumer reads the pop aperture and receives words with their status, pinning the head packet. -/
  | queuePop (rq : Requester) (q offset len : Nat)
  /-- QUEUE_SKIP (R294). A write of SKIP discards the rest of the head packet and unpins it. -/
  | queueSkip (rq : Requester) (q : Nat)
  /-- QUEUE_FLUSH (R301). A write of FLUSH empties the queue, unpins its head and ends dropping, without counting losses. -/
  | queueFlush (rq : Requester) (q : Nat)
  /-- QUEUE_CLEAR (R300). A write of CLEAR sets LOST_WORDS and LOST_PKTS to 0. -/
  | queueClear (rq : Requester) (q : Nat)
  /-- EVENT_ARRIVAL (R311). An event reaches the log intake, or is dropped and counted if the intake is full. -/
  | eventArrival (raised : DWord) (island : Nat) (code : BitVec 16) (a0 a1 a2 : Word)
  /-- LOG_INTAKE_WRITE (R311). Every 4 cellar cycles the intake writes one entry to the ring with the next sequence number and copies it for routing. -/
  | logIntakeWrite
  /-- LOG_STATUS (R315). A management-port STATUS request is answered with the log head and the lost counters. -/
  | logStatus (payload : List Byte)
  /-- LOG_READ (R316). A management-port READ request returns up to COUNT entries from FROM_SEQ. -/
  | logRead (payload : List Byte)
  /-- LOG_ACK (R315). A management-port ACK request sets LOG_ACK_SEQ to FROM_SEQ. -/
  | logAck (payload : List Byte)
  /-- LOG_BAD_REQUEST (R315). A log request with an unknown OP or a COUNT out of range is answered with OP 0x00FF. -/
  | logBadRequest (payload : List Byte)
  /-- SLOT_STROBE (R532). The radio slot strobe reaches a region and requests a switch to a named shelf at a named tick. -/
  | slotStrobe (region shelf tick : Nat)
  /-- REGION_TIMER_ARM (R338). A write to GFB_REGr_SW_AT_HI arms the region timer's switch request. -/
  | regionTimerArm (rq : Requester) (region data : Nat)
  /-- TRIGGER_CELL (R338). The trigger cell's output carries V 1 with bit 31 set, which requests a switch 16 ticks later. -/
  | triggerCell (region : Nat)
  /-- SW_REQ (R338). A firmware write to GFB_REGr_SW_REQ requests a switch 64 ticks after it arrives. -/
  | swReq (rq : Requester) (region data : Nat)
  /-- SHELF_SWITCH (R340). At T the pending switch takes the target shelf's records in every island, or is refused if the shelf is not valid. -/
  | shelfSwitch (region : Nat)
  /-- SP_CHANNEL_CONFIG (R351). A write that sets a stream-port channel MODE above 0 starts the channel if its ring and lanes are valid. -/
  | spChannelConfig (rq : Requester) (port ch data : Nat)
  /-- SP_CHANNEL_RESTART (R350). Writing 1 to a channel's ERR restarts the channel. -/
  | spChannelRestart (rq : Requester) (port ch : Nat)
  /-- SP_OUTBOUND_WORD (R347). An outbound channel takes valid words from its lanes and writes them as ring lines or queue words. -/
  | spOutboundWord (port ch : Nat) (word : Word)
  /-- CUT_PAIRS_WRITE (R358). A write to GFB_CUT_CFG.PAIRS sets cut pairs, refused without CUT, while radio is released, or with lanes outside CONV. -/
  | cutPairsWrite (rq : Requester) (data : Nat)
  /-- CUT_RELEASE (R357). At a cut word's release instant, port 7 releases it, or data 0 if it is late. -/
  | cutRelease (lane : Nat) (sat : Bool)
  /-- BR (R379). C-slot branch relative by IMM bundles. -/
  | br (e : Nat)
  /-- JMP (R379). C-slot jump to the address in SA. -/
  | jmp (e : Nat)
  /-- CALL (R379). C-slot call that saves the return address in S63. -/
  | call (e : Nat)
  /-- RET (R379). C-slot return to the address in S63. -/
  | ret (e : Nat)
  /-- LOOP (R393). C-slot loop that repeats the next bundles SA times, pushing the loop stack. -/
  | loop (e : Nat)
  /-- WAITALL (R379). C-slot wait: the next bundle waits until the bank holds no scoreboard entry. -/
  | waitall (e : Nat)
  /-- WAITST (R379). C-slot wait: the next bundle waits until every store is acknowledged. -/
  | waitst (e : Nat)
  /-- HALT (R399). C-slot halt that ends the job and pushes a completion word once entries and stores drain. -/
  | halt (e : Nat)
  /-- EVT (R379). C-slot event that raises IE_USER. -/
  | evt (e : Nat)
  /-- BRK (R379). C-slot breakpoint that raises BREAK. -/
  | brk (e : Nat)
  /-- NOP (R376). Opcode 0x00 in any slot does nothing. -/
  | nop (e slot : Nat) (fetch : Ecc)
  /-- ADD (R380). S-slot add. -/
  | add (e slot : Nat)
  /-- SUB (R380). S-slot subtract. -/
  | sub (e slot : Nat)
  /-- AND (R380). S-slot bitwise and. -/
  | and (e slot : Nat)
  /-- OR (R380). S-slot bitwise or. -/
  | or (e slot : Nat)
  /-- XOR (R380). S-slot bitwise exclusive or. -/
  | xor (e slot : Nat)
  /-- SLL (R380). S-slot left shift. -/
  | sll (e slot : Nat)
  /-- SRL (R380). S-slot logical right shift. -/
  | srl (e slot : Nat)
  /-- SRA (R380). S-slot arithmetic right shift. -/
  | sra (e slot : Nat)
  /-- MUL (R380). S-slot multiply, giving the low 64 bits. -/
  | mul (e slot : Nat)
  /-- MULH (R380). S-slot signed multiply, giving the high 64 bits. -/
  | mulh (e slot : Nat)
  /-- DIV (R382). S-slot signed division, with the defined results for division by 0 and overflow. -/
  | div (e slot : Nat)
  /-- REM (R382). S-slot signed remainder, with the defined results for division by 0 and overflow. -/
  | rem (e slot : Nat)
  /-- MIN (R380). S-slot signed minimum. -/
  | min (e slot : Nat)
  /-- MAX (R380). S-slot signed maximum. -/
  | max (e slot : Nat)
  /-- LIH (R380). S-slot load of IMM into the high half of SD. -/
  | lih (e slot : Nat)
  /-- CMP_EQ (R380). S-slot compare for equality into a predicate. -/
  | cmpEq (e slot : Nat)
  /-- CMP_LT (R380). S-slot signed less-than compare into a predicate. -/
  | cmpLt (e slot : Nat)
  /-- CMP_LTU (R380). S-slot unsigned less-than compare into a predicate. -/
  | cmpLtu (e slot : Nat)
  /-- PAND (R380). S-slot predicate and. -/
  | pand (e slot : Nat)
  /-- POR (R380). S-slot predicate or. -/
  | por (e slot : Nat)
  /-- PNOT (R380). S-slot predicate not. -/
  | pnot (e slot : Nat)
  /-- TIME (R380). S-slot read of device time into SD. -/
  | time (e slot : Nat)
  /-- MLOADB (R440). M-slot broadcast weight load into rows ROW0 onward. -/
  | mloadb (e : Nat)
  /-- MLOADF (R441). M-slot moving-front weight load of rows 0 to COUNT − 1. -/
  | mloadf (e : Nat)
  /-- MMUL (R443). M-slot matrix multiply that writes the accumulator rows. -/
  | mmul (e : Nat)
  /-- MMULA (R443). M-slot matrix multiply that adds to the accumulator rows. -/
  | mmula (e : Nat)
  /-- MCONV (R449). M-slot convolution tap whose activation addresses are generated from a descriptor. -/
  | mconv (e : Nat)
  /-- MDRAIN (R452). M-slot drain of accumulators to staging in the output format, with optional scale and bias. -/
  | mdrain (e : Nat)
  /-- CHAIN (R456). V-slot fused chain of up to 8 stages on vector elements. -/
  | chainOp (e : Nat)
  /-- VMOV (R455). V-slot vector move. -/
  | vmov (e : Nat)
  /-- VZERO (R455). V-slot vector zero. -/
  | vzero (e : Nat)
  /-- LDV (R384). L-slot load of 256 staging bytes into a vector register. -/
  | ldv (e : Nat) (ecc : Ecc)
  /-- STV (R384). L-slot store of a vector register to staging. -/
  | stv (e : Nat)
  /-- LDS (R384). L-slot load of 8 staging bytes into a scalar register. -/
  | lds (e : Nat) (ecc : Ecc)
  /-- STS (R384). L-slot store of a scalar register to staging. -/
  | sts (e : Nat)
  /-- DMAIN (R384). L-slot DMA from device memory to staging. -/
  | dmain (e : Nat)
  /-- DMAOUT (R384). L-slot DMA from staging to device memory. -/
  | dmaout (e : Nat)
  /-- STM_S (R406). L-slot blocking store of the scalar registers named in a mask. -/
  | stmS (e : Nat)
  /-- LDM_S (R406). L-slot blocking load of the scalar registers named in a mask. -/
  | ldmS (e : Nat)
  /-- STM_V (R406). L-slot blocking store of the vector registers named in a mask. -/
  | stmV (e : Nat)
  /-- LDM_V (R406). L-slot blocking load of the vector registers named in a mask. -/
  | ldmV (e : Nat)
  /-- STM_P (R406). L-slot blocking store of the predicates named in a mask. -/
  | stmP (e : Nat)
  /-- LDM_P (R406). L-slot blocking load of the predicates named in a mask. -/
  | ldmP (e : Nat)
  /-- SAVEH_L (R410). L-slot blocking save of the low half and control state to a save area. -/
  | savehL (e : Nat)
  /-- SAVEH_U (R410). L-slot blocking save of the high half to a save area. -/
  | savehU (e : Nat)
  /-- RESTH_L (R411). L-slot blocking restore of the low half from a checked save area. -/
  | resthL (e : Nat)
  /-- RESTH_U (R411). L-slot blocking restore of the high half from a checked save area. -/
  | resthU (e : Nat)
  /-- LDD (R384). L-slot blocking load of 8 bytes of device memory into a scalar register. -/
  | ldd (e : Nat)
  /-- STD (R384). L-slot store of a scalar register to device memory. -/
  | std (e : Nat)
  /-- OPERATION_COMPLETE (R387). An M, V or L operation completes and releases its scoreboard entry. -/
  | operationComplete (e entry err : Nat)
  /-- BLOCKING_TRANSFER_FAULT (R407). A blocking L transfer faults after issue, so PROGRESS keeps the registers not yet transferred and the bank stops resumably. -/
  | blockingTransferFault (e bank done : Nat) (ue : Bool)
  /-- DMA_FAULT (R417). A DMA or STD ending in an error raises an imprecise exception at the next bundle boundary. -/
  | dmaFault (e bank : Nat)
  /-- SPILL_BLOCK_FETCHED (R492). A spilled weight block completes in the ring, and reads waiting on it may issue. -/
  | spillBlockFetched (e bank block : Nat)
  /-- BUDGET_EXCEEDED (R416). A bank's issued cycles exceed BUDGET, which raises a resumable exception. -/
  | budgetExceeded (e bank : Nat)
  /-- DOORBELL (R394). A rising doorbell edge makes the scheduler pop one job packet for each idle bank. -/
  | doorbell (e : Nat)
  /-- JOB_START (R397). A start job packet clears the bank's registers, sets S1 and S2 and runs from ENTRY, pre-empting lower banks. -/
  | jobStart (e bank done : Nat)
  /-- JOB_RESUME (R398). A resume job packet restores the save-area chain and continues at the saved PC. -/
  | jobResume (e bank done : Nat)
  /-- BANK_SWITCH_COMPLETE (R402). After the drain, the 24-cycle bank switch completes and the new bank's first bundle issues. -/
  | bankSwitchComplete (e : Nat)
  /-- BANK_RESUME (R404). A pre-empted bank resumes when no higher bank has work, continuing its suspended transfers. -/
  | bankResume (e done : Nat)
  /-- BANK_RESUME_CMD (R418). A write of RESUME to a resumably stopped bank issues the faulting bundle again. -/
  | bankResumeCmd (rq : Requester) (e bank done : Nat)
  /-- BANK_ABORT (R419). A write of ABORT to a stopped bank ends the job with status 1 or 3. -/
  | bankAbort (rq : Requester) (e bank : Nat)
  /-- BANK_EVICT (R413). A write of EVICT stops a running or pre-empted bank at its next issue instant. -/
  | bankEvict (rq : Requester) (e bank done : Nat)
  /-- EVICTION_COMPLETE (R413). The scheduler writes the linked save areas and ends the job with status 2. -/
  | evictionComplete (e bank : Nat)
  /-- CODE_STORE_WRITE (R374). A write to the code-store window collects per bundle and replaces the bundle whole at offset +0x3C. -/
  | codeStoreWrite (rq : Requester) (e offset data : Nat)
  /-- BANK_VIEW_ACCESS (R423). An access to a bank's register view, answered only in an idle, pre-empted or stopped state. -/
  | bankViewAccess (rq : Requester) (e bank : Nat) (write : Bool) (offset data : Nat)
  /-- CLR_SAT (R468). A write of CLR_SAT clears both saturation counters of the bank. -/
  | clrSat (rq : Requester) (e bank : Nat)
  /-- MODEL_ACTIVATE (R479). A write of GO reads a package header and checks it, then waits for the bank to be idle. -/
  | modelActivate (rq : Requester) (e bank data : Nat)
  /-- MODEL_LOAD_BEGIN (R479). Once the bank is idle, the loader copies the code and resident weights and fills the attic slice. -/
  | modelLoadBegin (e bank : Nat)
  /-- MODEL_ACTIVE (R479). Loading completes, STATE becomes resident or spilled and jobs resume. -/
  | modelActive (e bank : Nat)
  /-- MODEL_LOAD_FAIL (R483). A package read error or a fence during loading leaves the bank with no model. -/
  | modelLoadFail (e bank cause addr : Nat)
  /-- MODEL_DROP (R485). A write of DROP releases the bank's model, code range and attic slice. -/
  | modelDrop (rq : Requester) (e bank data : Nat)
  /-- RADIO_RELEASE (R536). A write of RAD_CTRL.RELEASE, or step 13 of start-up, checks the conditions and starts foreground calibration. -/
  | radioRelease (rq : Requester) (data : Nat)
  /-- RADIO_RELEASED (R536). At the first frame boundary after calibration, RELEASED sets and slot timing starts. -/
  | radioReleased (calOk : Bool)
  /-- RADIO_WITHDRAW (R538). A write of RAD_CTRL.WITHDRAW stops each carrier at its next slot boundary. -/
  | radioWithdraw (rq : Requester) (data : Nat)
  /-- BACKGROUND_CALIBRATION (R512). A background ADC calibration result is applied, or is kept back if it is out of tolerance. -/
  | backgroundCalibration (chain param value : Nat) (inTolerance : Bool)
  /-- FRAME_BOUNDARY (R530). A carrier's frame boundary falls and its SFN advances. -/
  | frameBoundary (carrier : Nat)
  /-- SLOT_BOUNDARY (R531). A carrier's slot boundary, at which withdrawals, beam commits and layer limits take effect. -/
  | slotBoundary (carrier : Nat) (sats : List Nat)
  /-- BEAM_COMMIT (R529). A write to RAD_BEAM_COMMIT copies a carrier's beam table, to take effect at a later slot boundary. -/
  | beamCommit (rq : Requester) (data : Nat)
  /-- FRONTHAUL_FRAME_RECEIVE (R520). An eCPRI fronthaul frame is received and checked against the supported options and its timing window. -/
  | fronthaulFrameReceive (port : Nat) (msg : FhMsg)
  /-- ONE_WAY_DELAY_MEASUREMENT (R519). An eCPRI type 5 one-way delay measurement is answered in hardware. -/
  | oneWayDelayMeasurement (port id : Nat)
  /-- PARAM_REQUEST (R546). FAPI PARAM.request is answered with PARAM.response. -/
  | paramRequest (carrier : Nat)
  /-- CONFIG_REQUEST (R547). FAPI CONFIG.request is checked against RADIO_CONFIG and answered with CONFIG.response. -/
  | configRequest (carrier : Nat) (tlvs : List ConfigTlv)
  /-- START_REQUEST (R548). FAPI START.request starts a carrier if radio is released. -/
  | startRequest (carrier : Nat)
  /-- STOP_REQUEST (R546). FAPI STOP.request stops a carrier. -/
  | stopRequest (carrier : Nat)
  /-- DL_TTI_REQUEST (R534). FAPI DL_TTI.request supplies a slot's downlink PDUs, used only if it arrives in time and within the limits. -/
  | dlTtiRequest (carrier sfn slot : Nat) (pdus : List FapiPdu)
  /-- UL_TTI_REQUEST (R533). FAPI UL_TTI.request supplies a slot's uplink PDUs. -/
  | ulTtiRequest (carrier sfn slot : Nat) (pdus : List FapiPdu)
  /-- UL_DCI_REQUEST (R533). FAPI UL_DCI.request supplies uplink DCIs. -/
  | ulDciRequest (carrier sfn slot : Nat) (pdus : List FapiPdu)
  /-- TX_DATA_REQUEST (R544). FAPI TX_Data.request supplies transport-block crates. -/
  | txDataRequest (carrier sfn slot : Nat) (crates : List (Nat × Nat))
  /-- FAPI_UNSUPPORTED_MESSAGE (R546). A FAPI message of an unsupported type is answered with ERROR.indication. -/
  | fapiUnsupportedMessage (carrier type : Nat)
  /-- SLOT_INDICATION (R533). Two slots before a slot's air boundary, SLOT.indication is pushed. -/
  | slotIndication (carrier : Nat)
  /-- UCI_INDICATION (R533). At E + 49,152 ticks, UCI.indication for PUCCH is pushed. -/
  | uciIndication (carrier : Nat)
  /-- TB_CRC_DEADLINE (R578). At E + 122,880 ticks, every PUSCH transport block has been CRC-checked and SRS.indication is pushed. -/
  | tbCrcDeadline (carrier : Nat)
  /-- CRC_INDICATION (R533). At E + 126,976 ticks, CRC.indication, RX_Data.indication and PUSCH UCI are pushed. -/
  | crcIndication (carrier : Nat)
  /-- RACH_INDICATION (R533). At E + 491,520 ticks, RACH.indication is pushed. -/
  | rachIndication (carrier : Nat)
  /-- ALLOCATION_READY (R562). The fabric posts a PUSCH allocation descriptor, and the gate admits and dispatches a learned job or refuses it. -/
  | allocationReady (desc : Nat) (pdu : PuschInfo)
  /-- CLASSICAL_LLR_COMPLETE (R566). An allocation's classical LLRs are complete, which may make the choice. -/
  | classicalLlrComplete (alloc : Nat)
  /-- LEARNED_COMPLETION (R568). A learned job's completion word arrives and makes the choice, or is discarded if late. -/
  | learnedCompletion
  /-- GUARD_INSTANT (R566). At Tg, the gate makes every outstanding choice without waiting. -/
  | guardInstant (carrier : Nat)
  /-- ENGINE_OVERDUE (R561). Device time passes an engine's projected free instant with a job outstanding, so the engine is made overdue. -/
  | engineOverdue (engine : Nat)
  /-- RAD_LR_COMMIT (R571). A write to RAD_LR_COMMIT applies the gate shadows to later slots. -/
  | radLrCommit (rq : Requester) (data : Nat)
  /-- LDPC_BLOCK_DONE (R575). A code block stops iterating, with HARQ combining and its CRC checked, and its island takes the next block. -/
  | ldpcBlockDone (island iters : Nat) (good tbCrc : Bool) (data : List Byte)
  /-- LDPC_CUTOFF (R577). At E + 120,832 ticks, blocks still iterating stop and blocks not started fail. -/
  | ldpcCutoff (carrier : Nat)
  /-- RAD_LDPC_COMMIT (R579). A write to RAD_LDPC_COMMIT applies MAX_ITER and the scales to later blocks. -/
  | radLdpcCommit (rq : Requester) (data : Nat)
  /-- STREAM_ENABLE (R589). A write of 1 to VIS_STRm_CFG.EN enables a decode stream if its limits and slots are valid. -/
  | streamEnable (rq : Requester) (stream data : Nat)
  /-- ACCESS_UNIT (R590). A decoder takes an access-unit packet and decodes it, freeing its crates. -/
  | accessUnit (dec : Nat) (pic : VisDecode)
  /-- FRAME_OUTPUT (R596). A stream outputs a frame, which queues one composition job per enabled channel. -/
  | frameOutput (stream slot : Nat)
  /-- COMPOSITION_JOB_START (R597). A job starts: commits take effect and the descriptor is read and checked. -/
  | compositionJobStart
  /-- COMPOSITION_PASS_END (R613). The composition pass ends and the mask-signature proof decides release or withholding. -/
  | compositionPassEnd
  /-- COMPOSITION_RELEASE (R597). The release copy completes and the completion packet is pushed. -/
  | compositionRelease
  /-- VIS_CH_COMMIT (R599). A write to VIS_CHn_COMMIT makes the descriptor address effective for the next job. -/
  | visChCommit (rq : Requester) (ch data : Nat)
  /-- VIS_COEF_COMMIT (R605). A write to VIS_COEF_COMMIT makes the pending coefficient sets active from the next job. -/
  | visCoefCommit (rq : Requester) (data : Nat)
  /-- VIS_CH_RETURN (R622). A write to VIS_CHn_RETURN returns a lent persistent buffer. -/
  | visChReturn (rq : Requester) (ch data : Nat)
  /-- VIS_ENABLE (R624). A write of 1 to VIS_CTRL.EN enables vision if a VISION_CONFIG exists. -/
  | visEnable (rq : Requester) (data : Nat)
  /-- PIN_CFG_WRITE (R639). A write to CEL_PIN_CFGi updates a pin, switching its function through a park if FUNC, SIG or ANALOG change. -/
  | pinCfgWrite (rq : Requester) (pin data : Nat)
  /-- GPIO_OUT_WRITE (R645). A write to CEL_GPIO_OUTb changes only the bits that the writer owns in GPIO function. -/
  | gpioOutWrite (rq : Requester) (bank data : Nat)
  /-- PINQ_WORD (R648). The cellar bridge pops a pin command word and applies it as a FABRIC-owner GPIO write. -/
  | pinqWord
  /-- MATCHER_HIT (R652). A pattern matcher's HIT sets, raising the plant interrupt, a wake or a queue push. -/
  | matcherHit (m : Nat) (levels : BitVec 16)
  /-- ADC_CONVERSION (R656). A plant ADC conversion slot ends and the channel's result register updates. -/
  | adcConversion (ch : Nat) (uv : Int)
  /-- TACH_EDGE (R657). A rising tachometer edge updates FREQ from the last period. -/
  | tachEdge (t : Nat)
  /-- TACH_TIMEOUT (R657). No tachometer edge for 1 s sets FREQ to 0. -/
  | tachTimeout (t : Nat)
  /-- WINDOW_EXIT (R660). A comparator input leaves its window, setting OUT, latching trip channels and reporting mains loss. -/
  | windowExit (k : Nat) (uv : Int)
  /-- WINDOW_RETURN (R658). A comparator input returns inside its window by the hysteresis, clearing OUT. -/
  | windowReturn (k : Nat) (uv : Int)
  /-- TRIP_LATCH_CLEAR (R662). A W1C write to LATCHED clears a channel's latch if no tripping comparator is still out. -/
  | tripLatchClear (rq : Requester) (data : Nat)
  /-- PWM_COMMIT (R666). A write to CEL_PWM_COMMIT marks channels to take their shadows at the next period start, or at once if disabled. -/
  | pwmCommit (rq : Requester) (data : Nat)
  /-- PWM_PERIOD_START (R666). A PWM channel starts a period, taking committed shadows and driving again after a cleared latch. -/
  | pwmPeriodStart (ch : Nat)
  /-- PLE_SAMPLE (R685). A Plant Loop Engine loop samples its PV and computes and writes its PWM output. -/
  | pleSample (l : Nat)
  /-- CAN_FRAME_RECEIVE (R670). A CAN controller receives a frame, filters it and stores it in the FIFO or discards it. -/
  | canFrameReceive (n : Nat) (frame : CanFrame) (sof : DWord)
  /-- CAN_TX_REQUEST (R672). A write to TX_REQ marks transmit slots pending. -/
  | canTxRequest (rq : Requester) (n data : Nat)
  /-- CAN_TX_DONE (R672). A frame is sent successfully, so its TX_PEND bit clears and its TX_DONE bit sets. -/
  | canTxDone (n slot started : Nat)
  /-- CAN_RX_POP (R671). A write to RX_POP frees the head receive slot. -/
  | canRxPop (rq : Requester) (n data : Nat)
  /-- CAN_BUS_OFF (R673). A controller enters bus-off. -/
  | canBusOff (n tec : Nat)
  /-- CAN_BUS_OFF_RECOVERY (R673). With AUTO_REC set, a controller recovers after 128 occurrences of 11 recessive bits. -/
  | canBusOffRecovery (n : Nat)
  /-- UART_TXD_WRITE (R678). A write to CEL_UARTu_TXD queues a byte, and an END byte starts sending the frame. -/
  | uartTxdWrite (rq : Requester) (u data : Nat)
  /-- UART_FRAME_SENT (R676). A UART frame finishes sending and DE drops after DE_HOLD bit times. -/
  | uartFrameSent (u : Nat)
  /-- UART_BYTE_RECEIVE (R679). A UART receives a byte into its FIFO, or drops it if the FIFO is full. -/
  | uartByteReceive (u : Nat) (byte : Byte)
  /-- UART_FRAME_END (R677). A silence of t3.5 ends a Modbus frame and marks its last byte with END and CRC_OK. -/
  | uartFrameEnd (u : Nat)
  /-- UART_RXD_POP (R690). A read of CEL_UARTu_RXD pops one byte from the receive FIFO. -/
  | uartRxdPop (rq : Requester) (u : Nat)
  /-- I2C_COMMAND (R680). A write to CEL_I2Cn_CMD starts an I²C transfer. -/
  | i2cCommand (rq : Requester) (n data : Nat)
  /-- I2C_COMMAND_DONE (R680). An I²C transfer ends and BUSY clears. -/
  | i2cCommandDone (n done : Nat) (nack arb : Bool) (data : List Byte)
  /-- I2C_TIMEOUT (R681). SCL is held low for 25 ms, which ends the command and releases the bus. -/
  | i2cTimeout (n done : Nat)
  /-- SPI_COMMAND (R682). A write to CEL_SPIn_CMD starts a full-duplex SPI transfer. -/
  | spiCommand (rq : Requester) (n data : Nat)
  /-- SPI_COMMAND_DONE (R682). An SPI transfer ends, the received bytes are in DATA and CS is released unless held. -/
  | spiCommandDone (n : Nat) (data : List Byte)
  /-- AUDIO_SAMPLE (R692). Each microphone produces a 16 kHz sample into its ring and SAMPLE_CNT advances. -/
  | audioSample (x0 x1 : Int)
  /-- AUDIO_FRAME_BOUNDARY (R702). Every 160 samples the spotter takes features from the last 400 samples. -/
  | audioFrameBoundary
  /-- AUDIO_RING_READ (R695). A read of a pre-roll ring returns samples, while other ring accesses get a bus error. -/
  | audioRingRead (rq : Requester) (write : Bool) (offset len : Nat)
  /-- SPOTTER_SCORE (R703). The spotter's score for a frame is formed, and a detection is made if it reaches THRESH outside the refractory period. -/
  | spotterScore
  /-- SPOT_ENABLE (R707). A write of 1 to CEL_SPOT_CFG.EN enables the spotter if its model is valid. -/
  | spotEnable (rq : Requester) (data : Nat)
  /-- CONSOLE_TIMEOUT (R706). CONSOLE_MIN minutes after a detection, the maintenance console closes. -/
  | consoleTimeout
  /-- VERIFY_REQUEST (R711). Once RUN, the storeroom and READY allow it, the cellar bridge pushes the verifier job. -/
  | verifyRequest
  /-- VERIFY_COMPLETION (R714). The bridge pops a verifier completion and reads the verdict, setting VSTATE. -/
  | verifyCompletion
  /-- VERIFY_TIMEOUT (R715). TIMEOUT_MS after the request with no verdict, VSTATE becomes 6. -/
  | verifyTimeout
  /-- BATTERY_CUT (R725). On battery, the battery ADC reads below CODE for DWELL_S, so radio is withdrawn and CELLAR is requested. -/
  | batteryCut
  /-- TETHER_FRAME_RECEIVE (R730). A Tether port receives a frame, accepts it in sequence or discards it and asks for a replay. -/
  | tetherFrameReceive (port : Nat) (frame : List Byte) (fec : Nat)
  /-- TETHER_REPLAY_TIMEOUT (R731). ACK has not advanced for 2 µs, so the sender replays, and after 16 replays the link goes down. -/
  | tetherReplayTimeout (port : Nat)
  /-- TETHER_TRAINED (R733). A connected port completes training and exchanges HELLO. -/
  | tetherTrained (port : Nat)
  /-- TETHER_TRAIN_RETRY (R733). A port not trained within 50 ms retries training. -/
  | tetherTrainRetry (port : Nat)
  /-- GROUP_FORM_START (R737). At step 12 of start-up a device with a GROUP section starts forming its group. -/
  | groupFormStart
  /-- HELLO (R742). A HELLO message from the peer is checked for group identity, leadership and wiring. -/
  | hello (port : Nat) (groupId : List Byte) (member peerPort epoch : Nat)
  /-- MANIFEST (R743). The leader judges a member's manifest and answers ADMIT, BENCH, YIELD or DISSOLVE. -/
  | manifest (device : Nat) (manifest : List Byte)
  /-- ADMIT (R737). A member that receives ADMIT sets STATE 2 and continues start-up. -/
  | admitMsg (members : Nat)
  /-- BENCH (R745). A member that receives BENCH sets STATE 3 and takes no group work. -/
  | bench (members : Nat)
  /-- YIELD (R744). A member that receives YIELD takes a group reset and reconfigures from the chain. -/
  | yield (late : Nat)
  /-- DISSOLVE (R746). A device that receives DISSOLVE sets STATE 5 and leaves group radio timing. -/
  | dissolve (member reason : Nat)
  /-- JOINED (R740). A device that receives JOINED stops forwarding its CHAIN body after the pass in progress. -/
  | joined
  /-- RESEND (R744). A device that receives RESEND forwards its CHAIN body again from its resume image. -/
  | resend
  /-- GRP_FORM_TIMEOUT (R737). FORM_WAIT_S passes without an answer, so a member sets STATE 4 and the leader continues. -/
  | grpFormTimeout
  /-- TIME_EXCHANGE (R748). Every 62.5 ms a parent and child exchange time frames, and the child updates its offset and servo. -/
  | timeExchange (child : Option Nat) (ok : Bool) (t1 t2 t3 t4 : DWord) (parentOfs : Int)
  /-- MOVE_POST (R754). A write to GRP_MOVE_POST_HI posts a mover descriptor. -/
  | movePost (rq : Requester) (data : Nat)
  /-- MOVE_WRITE (R755). Mover OP 1 writes local bytes to a remote member. -/
  | moveWrite (remote : Nat)
  /-- MOVE_READ (R755). Mover OP 2 reads remote bytes to local memory. -/
  | moveRead (remote : Nat) (bytes : List Byte)
  /-- MOVE_PUSH (R755). Mover OP 3 pushes local bytes as one packet to a remote queue. -/
  | movePush (remote : Nat)
  /-- MOVE_COMPLETE (R756). A mover descriptor completes with a status word in CQ. -/
  | moveComplete
  /-- GRP_RESET (R757). A keyed write of GRP_RESET on the leader sends RESET to the masked members and may reset the leader. -/
  | grpReset (rq : Requester) (data : Nat)
  /-- TETHER_GROUP_RESET (R758). A member receives RESET from member 0 and takes a Tether group reset. -/
  | tetherGroupReset (source late : Nat)
  /-- TETHER_LOCK_LOST (R732). A Tether port loses receive lock, so the link goes down, its replay buffer is discarded, GRP_LINK_DOWN is logged with Arg2 = 1 and the port retrains. -/
  | tetherLockLost (port : Nat)
  /-- CLK_ISLAND_UNLOCK (R123). An island generator stays out of lock for more than 64 of its cycles while REFCLK is present, and 0x0201 CLK_ISLAND_UNLOCK is logged. -/
  | clkIslandUnlock (island : Nat)
  /-- MATCHER_OUT_CLEAR (R653). A MODE 1 pattern matcher's pattern A stops holding, so OUT clears and, as the mains-loss source, it begins reporting mains present. -/
  | matcherOutClear (m : Nat) (levels : BitVec 16)
  /-- SP_INBOUND_WORD (R347). An inbound stream-port channel reads ring lines while PTR differs from FPTR, or pops its queue, and delivers the words to its bound fabric lanes. -/
  | spInboundWord (port ch : Nat)
  /-- DDC_WORD_PRESENTED (R505). A completed DDC stream word crosses the converter link and port 6 presents it on its lane, counting ADC overflows and numbering cut-pair words. -/
  | ddcWordPresented (chain stream : Nat) (word : Word) (ovr : Nat)
  deriving DecidableEq, Repr

end Sys2Proof
end

