-- ==== Sys2Proof/Decode.lean ====
section
/-! DEFINITION. The reading of command words.  The device is commanded by accesses and events, and no row of spec/opcode_table.json
has an encoding in bits, so no word spells a command. -/

namespace Sys2Proof

/-- The command that a word spells by the table's bits: none, since the table gives no row any bits. -/
def decodeTableWord (_nbits _w : Nat) : Option Instr := none

end Sys2Proof
end

