-- ==== Sys2Proof/Config.lean ====
section
/-! DEFINITION. What the spec leaves to an implementation or leaves open: opaque constants, so that nothing can be proved
about their values. -/

namespace Sys2Proof.Config

/-- A value the spec leaves open; the argument is a counter in the state, so each use is fresh. -/
opaque freeValue : Nat → Nat

/-- A byte of the boot ROM (01 R47): the spec gives the ROM's place and size and no contents. -/
opaque romByte : Nat → Byte

/-- A byte of the wake-phrase model that Floor firmware holds in ROM (15): the spec gives no contents. -/
opaque defaultModelByte : Nat → Byte

/-- Weight of an NI at a unit's register arbiter (05 "Arbiters" gives that arbiter no weights). -/
opaque registerWeight : Nat → Int

/-- Which of the two receiver cycles takes a word that crosses in Adaptive Clocking Mode (03 R131), by sending cycle and
crossing: true for the later. -/
opaque crossingLate : Nat → Nat → Bool

/-- The valid bit of an idle value, by its CODE (04 R211 gives the data and not the bit). -/
opaque idleValid : Nat → Bool

/-- Byte offset within a HARQ buffer at which an LLR is combined, by the PUSCH PDU's HARQ process and RNTI and the LLR's index:
the circular buffer of TS 38.212, which the spec does not restate (12 R580). -/
opaque harqPlace : Nat → Nat → Nat → Nat

/-- What a stage of the downlink gives (11 R526): by the stage's place in the table, the numbers that set it and its input.  The
processing is that of TS 38.211, TS 38.212, TS 38.214 and the radio library, which the spec does not restate. -/
opaque radioStage : Nat → List Nat → Nat → Nat

/-- round(4 × log2(E + 1)) of a mel band (0-39) of 400 samples, by the Hann window, FFT and mel bands of 15 R702, whose arithmetic
the spec does not restate. -/
opaque melBand : List Int → Nat → Int

/-- SHA-384 value in a key-digest slot (04 R216): one-time-programmable fuses, whose values the spec does not give. -/
opaque fuseKeyDigest : Nat → Nat

/-- Programmed key slots, revoked key slots and the SVN floor as the part leaves the factory (04 R216). -/
opaque fuseProgrammed : Nat
opaque fuseRevoked : Nat
opaque fuseSvnFloor : Nat

/-- A byte of the device key (0) or the group key (1) of 04 R166, which the spec does not give. -/
opaque aesKeyByte : Nat → Nat → Byte

end Sys2Proof.Config
end

