-- ==== Sys2Proof/Machine/State.lean ====
section
/-! DEFINITION. The state of the device as plain data, the reasons a step can stop, and the state after reset.
Register fields live in one sparse table keyed by register address and bit (`csr`); what a unit holds beyond its registers
stands in that unit's own structure.  A field with no reset value in the spec takes the value of its declaration here,
named in INVENTORY.md and in the assumption log. -/

namespace Sys2Proof.Machine

/-- A command never faults: every error the spec gives is an effect on the state (a bus error, a refused write, a log
entry, an exception record).  Safe: no constructor, nobody raises one. -/
inductive Fault where
  deriving DecidableEq, Repr

/-- The model refuses a command only when it gives it no meaning.  Safe: nothing about such a command can be proved. -/
inductive Refusal where
  /-- Raised by the dispatch for a command that has no meaning yet.  Safe. -/
  | notModelled (mnemonic : String)
  deriving DecidableEq, Repr

/-- The access codes of 00 R6. -/
inductive Access where
  | rw | ro | wo | w1c | wl | rws
  deriving DecidableEq, Repr

/-- One field of a register: address of the register, lowest bit, width, access code, reset value, whether a read computes
it from other state, and the reserved ranges of its encoding (00 R6, R17). -/
structure Fld where
  addr : Nat
  lo : Nat
  w : Nat
  acc : Access
  reset : Nat
  live : Bool
  rsv : List (Nat × Nat)
  deriving DecidableEq, Repr

/-- A row of the register table: first address, the (count, stride) of each index, and the fields at the indices. -/
structure RegRow where
  base : Nat
  dims : List (Nat × Nat)
  flds : Nat → Nat → List Fld

/-- A sparse table keyed by a number, keys strictly rising. -/
abbrev Tbl (α : Type) := List (Nat × α)

/-- A sparse byte memory: addresses strictly rising, no byte equal to what an unlisted address reads as. -/
abbrev Mem := List Host.Cell

/-- The part (00 R1). -/
inductive Part where
  | jx740 | jx741 | jx720
  deriving DecidableEq, Repr

/-- The answer to the last access. -/
structure Resp where
  busError : Bool := false
  /-- STATUS 2 (05 R221). -/
  poisoned : Bool := false
  /-- The bytes read, the first in bits [7:0] (00 R4). -/
  value : Nat := 0
  /-- Completer Abort on the PCIe link (01 R52). -/
  abort : Bool := false
  deriving DecidableEq, Repr

/-- An event on its way to the trouble log (06 R307). -/
structure LogEv where
  time : DWord
  island : Nat
  code : BitVec 16
  a0 : Word
  a1 : Word
  a2 : Word
  deriving DecidableEq, Repr

/-- A trouble-log entry (06 R307). -/
structure LogEntry where
  seq : Nat
  ev : LogEv
  deriving DecidableEq, Repr

/-- The trouble log: intake of 16, ring of 4096 slots, events dropped since the last 0x0C0F (06 R307-R313). -/
structure LogState where
  intake : List LogEv := []
  dropped : Nat := 0
  ring : List LogEntry := []
  /-- Payload of the last reply on the management port (06 R316). -/
  reply : Option (List Byte) := none
  /-- Time of the last entry of each rate-limited code and index. -/
  limited : Tbl DWord := []
  deriving DecidableEq, Repr

/-- Clock source of the cellar islands (02 R70, R86, R109). -/
inductive CellarClk where
  | rc | fll | refclk
  deriving DecidableEq, Repr

/-- Power, start-up and reset state beyond the SYS registers (chapter 02). -/
structure Power where
  /-- VDD_CEL has lost power-good: mode OFF. -/
  off : Bool := false
  /-- The cellar is held in reset by VDD_IO33 (17 R771). -/
  held : Bool := false
  /-- Step of R86 at which start-up stands; 0 when none is in progress. -/
  step : Nat := 1
  /-- Sequencer enables and power-goods, bit per channel (R98). -/
  chEn : Nat := 0
  chPg : Nat := 0
  /-- Channels still to be raised, in order (R99). -/
  raise : List Nat := []
  clk : CellarClk := .rc
  clkMove : Option CellarClk := none
  /-- The sample count at whose frame boundary that move takes place, none where it takes place at once (R71). -/
  clkDue : Option Nat := none
  xtalOk : Bool := true
  /-- Instant since which the crystal has given edges (R109, 14 R669). -/
  xtalAt : Nat := 0
  refclk : Bool := false
  /-- Domains whose FENCE_REQ is asserted (R64). -/
  fenceReq : Nat := 0
  /-- Device time and fabric cycle of the FENCE_REQ of each of them (R64, 07 R360). -/
  fenceAt : Tbl (Nat × Nat) := []
  /-- Requests that wait for the fence of their domain, oldest first: domain, and true for on (R69). -/
  domPend : List (Nat × Bool) := []
  /-- Causes not yet logged by RESET_TAKEN, with the mode before the reset (R106). -/
  rstPend : Option (Nat × Nat) := some (1, 0)
  /-- PWM channel 6 driven at HEAT_DUTY (R88). -/
  heater : Bool := false
  /-- Fabric regions running as the warming load (R89). -/
  warmRegions : Nat := 0
  warmStart : DWord := 0
  coldWait : Bool := false
  /-- The last configuration aborted, or CFG_NO_FLASH, or a rail fault: flash service may start (R96). -/
  cfgAborted : Bool := false
  railFaulted : Bool := false
  /-- Floor's one request after a rail fault is due (R104). -/
  railRetry : Bool := false
  railAt : DWord := 0
  tripped : Bool := false
  /-- Flash service is being entered (R96). -/
  flashWait : Bool := false
  /-- The mains-loss source reports mains lost; the report has not been taken by a transition; and since when the source has
  reported mains present (R72, R76, 15 R723). -/
  mainsLost : Bool := false
  mainsTrig : Bool := false
  /-- SYS_PWR_STAT.MAINS_LOST was latched in the transition that is in progress or has just ended in RUN (R76). -/
  mainsLatched : Bool := false
  mainsBack : Nat := 0
  /-- Tier of RUN before STANDBY or HOLDOVER, and the domains that were on (R78, R85). -/
  keptTier : Nat := 1
  keptDom : Nat := 0
  /-- Service cores released with their images, bit per core; and core 0 in retention, in which none of them runs (R78, R81,
  R86). -/
  cores : Nat := 0
  core0Retained : Bool := false
  /-- Time of the last watchdog kick (R108). -/
  kick : DWord := 0
  /-- VDD_CORE set point and last value read back in millivolts; the regulator answered (17 R766-R768). -/
  avs : Nat := 750
  avsRead : Nat := 750
  /-- Level 3 halves the layers at the next slot boundary (R110). -/
  tierDeclared : Nat := 1
  deriving DecidableEq, Repr

/-- CLK unit state beyond its registers (chapter 03). -/
structure Clock where
  time : DWord := 0
  frac : Word := 0
  beat : DWord := 0
  /-- Device ticks since the last beat, and since the last cellar cycle. -/
  tickPhase : Nat := 0
  cellPhase : Nat := 0
  /-- The generators run free, REFCLK being lost (R136). -/
  free : Bool := false
  /-- Source of device time is REFCLK (R140, R141). -/
  fromRefclk : Bool := false
  /-- Target of a mode change in progress and its start. -/
  change : Option Nat := none
  changeAt : DWord := 0
  floorDet : Bool := false
  pinned : List Nat := []
  cut : Bool := false
  stretch : Tbl Nat := []
  unlocked : List Nat := []
  stepLo : Word := 0
  step : Option DWord := none
  runArmed : Bool := false
  /-- A PPS_IN edge has come since ARM with SRC 1. -/
  runPps : Bool := false
  ppsIn : Option DWord := none
  ppsMissing : Bool := false
  /-- Device time has just reached an instant of R151. -/
  ppsDue : Bool := false
  ppsOut : Bool := false
  ppsRise : DWord := 0
  squelched : Nat := 0
  /-- Recovered-clock lock of the Ethernet ports is lost, bit per port. -/
  rxStamp : Tbl DWord := []
  txStamp : Tbl DWord := []
  /-- Last frame sent by each Ethernet port. -/
  txFrame : Tbl (List Byte) := []
  rxFrame : Tbl (List Byte) := []
  deriving DecidableEq, Repr

/-- A directory entry of an image (04 R166). -/
structure Section where
  type : Nat
  flags : Nat
  target : Nat
  offset : Nat
  length : Nat
  deriving DecidableEq, Repr

/-- The header fields of the running image that later rules use (04 R165). -/
structure ImageHdr where
  parts : Nat := 0
  minRev : Nat := 0
  tier : Nat := 0
  keySlot : Nat := 0
  imageLen : Nat := 0
  svn : Nat := 0
  flags : Nat := 0
  sections : List Section := []
  deriving DecidableEq, Repr

/-- MEMORY_MAP (04 R173), in bytes. -/
structure MemMap where
  atticBase : Nat := 0
  atticSize : Nat := 0
  frameBase : Nat := 0
  frameSize : Nat := 0
  resumeBase : Nat := 0
  deriving DecidableEq, Repr

/-- A pass being received on CFG_DI (04 R194-R198). -/
structure ChainRx where
  pass : Nat
  hop : Nat
  next : Nat
  total : Nat
  bytes : List Byte
  /-- The pass began after DRAM was trained; end of its last frame. -/
  late : Bool
  at_ : DWord
  deriving DecidableEq, Repr

/-- The fields of the boot pointer block (04 R181), which set the flash interface for the passes (04 R184 step 2). -/
structure Pointer where
  count : Nat
  profile : Nat
  div : Nat
  dummy : Nat
  readCmd : Nat
  offset0 : Nat
  offset1 : Nat
  deriving DecidableEq, Repr

/-- An indirect flash command as it was sent (04 R215). -/
structure XspiCmd where
  opcode : Nat
  addrBytes : Nat
  dummy : Nat
  len : Nat
  write : Bool
  addr : Nat
  deriving DecidableEq, Repr

/-- Configuration state (chapter 04). -/
structure Cfg where
  hdr : ImageHdr := {}
  map : MemMap := {}
  pointer : Option Pointer := none
  /-- Pin configuration held at t0 (R189). -/
  pinsAtT0 : Tbl Nat := []
  digest : Option Nat := none
  /-- Stored digest of the resume image (R79), and section digest table (R184, R191). -/
  resumeDigest : Option Nat := none
  sectionDigests : Tbl Nat := []
  /-- Bytes of the last whole pass received as pass 1 or pass 2. -/
  chainRx : Option ChainRx := none
  chainPass1 : Option (List Byte) := none
  chainPass2 : Option (List Byte) := none
  chainT0 : DWord := 0
  /-- Sending side: body bytes, passes sent, sending allowed. -/
  chainTx : Option (List Byte) := none
  chainSent : Nat := 0
  chainStop : Bool := false
  /-- Bytes of the last pass sent on CFG_DO, and the device time at which it ends (R195). -/
  cfgDo : List Byte := []
  chainEnd : Nat := 0
  /-- ON mask of the DOMAIN_PLAN, and RADIO mask. -/
  planOn : Nat := 0
  planRadio : Nat := 0
  /-- MODE of the CLOCK_PLAN (R174). -/
  planMode : Nat := 1
  /-- Fuses blown by the device itself: slots revoked, slots marked for revocation, SVN floor (R216, R179). -/
  keyRevoked : Nat := 0
  keyMarked : Nat := 0
  svnFloor : Nat := 0
  /-- The last xSPI command, and the data bytes of the last write among them (R192, R215). -/
  xspiCmd : Option XspiCmd := none
  xspiOut : List Byte := []
  /-- Bodies held for the Full load: the section index of each REGION, SHELF, ... is read from the resume image. -/
  groupBody : Option (List Byte) := none
  radioBody : Option (List Byte) := none
  visionBody : Option (List Byte) := none
  deriving DecidableEq, Repr

/-- A hatch descriptor (04 R203) with its poster. -/
structure HatchDesc where
  op : Nat
  shelf : Nat
  region : Nat
  src : Nat
  section_ : Nat
  addr : Nat
  length : Nat
  queue : Nat
  tag : Nat
  reserved : Bool
  poster : Nat
  deriving DecidableEq, Repr

/-- The hatch: waiting descriptors, the one carried out with the subcode of its check, the image of a region that waits for its
fence, and the half posts of the stream ports' hatch lanes (04 R204, R212, 07 R352). -/
structure Hatch where
  queue : List HatchDesc := []
  cur : Option (HatchDesc × Nat) := none
  body : Option (List Byte) := none
  /-- The half post of each stream port. -/
  lane : Tbl Nat := []
  deriving DecidableEq, Repr

/-- A line access waiting at a memory controller or larder bank, with the request flit that carries it (05 R222, R242); a
posted one, of a stream write, has no answer (05 R233). -/
structure LineReq where
  ni : Nat
  tag : Nat
  qclass : Nat
  seq : Nat
  last : Bool
  addr : Nat
  len : Nat
  write : Bool
  data : List Byte
  poison : Bool
  flit : Flit
  posted : Bool := false
  deriving DecidableEq, Repr

/-- An outstanding request of an NI (05 R234, R239). -/
structure Outstanding where
  ni : Nat
  tag : Nat
  dst : Nat
  addr : Nat
  len : Nat
  write : Bool
  lines : Nat
  /-- Device time of its injection, and once it is late of its time-out (R239). -/
  at_ : Nat := 0
  got : Tbl (List Byte) := []
  done : Nat := 0
  poisoned : Bool := false
  /-- A flit of the request or of its response has been dropped (R225). -/
  lost : Bool := false
  /-- It has timed out (R239). -/
  late : Bool := false
  deriving DecidableEq, Repr

/-- A request that waits at its NI for a TAG and the space of its response (05 R234). -/
structure WaitReq where
  rq : Requester
  write : Bool
  addr : Nat
  len : Nat
  data : List Byte
  poison : Bool
  deriving DecidableEq, Repr

/-- A burst of a DRAM controller: its requester index and channel, the channel line served last and the accesses it has left
(05 R244). -/
structure Burst where
  ix : Nat
  channel : Nat
  line : Nat
  left : Nat
  deriving DecidableEq, Repr

/-- The network on chip and the arbiters of the memories (chapter 05). -/
structure Noc where
  out : List Outstanding := []
  queue : List LineReq := []
  /-- Requests that wait for a TAG, oldest first. -/
  wait : List WaitReq := []
  credits : Tbl (List Int) := []
  /-- Start of the running window of each arbiter. -/
  windows : Tbl Nat := []
  /-- Flits formed by the NIs and not yet at a router, oldest first (R221, R236). -/
  inj : List (Nat × Flit) := []
  /-- Flits in the router input buffers, (router, input port) and the flit, oldest first: 4 of each VN at each port (R233). -/
  bufs : List (Nat × Nat × Flit) := []
  /-- Flits on links: (router, port) and the flit; port 0 east, 1 north, 2 west, 3 south, 4 and 5 local. -/
  wires : List (Nat × Nat × Flit) := []
  delivered : List (Nat × Flit) := []
  /-- By controller: the burst in progress, and the patrol scrub's start and lines read since (R244, R253). -/
  bursts : Tbl Burst := []
  scrub : Tbl (Nat × Nat) := []
  /-- By channel: when its next refresh falls due, until when a refresh holds it, and its last reading of MR4 (R254, R255). -/
  refDue : Tbl Nat := []
  refUntil : Tbl Nat := []
  mr4At : Tbl Nat := []
  /-- Accesses sent out on the PCIe link in root role: write, address, bytes (01 R41, R52). -/
  pcieOut : List (Bool × Nat × List Byte) := []
  deriving DecidableEq, Repr

/-- A line of the service cluster's L2 (01 R46): its 64 bytes, and whether a core has written it since it was filled. -/
structure L2Line where
  data : List Byte
  dirty : Bool
  deriving DecidableEq, Repr

/-- Byte memories and their error records (chapters 01, 05). -/
structure Stores where
  dram : Mem := []
  larder : Mem := []
  sram : Mem := []
  /-- DRAM lines and larder 64-bit words stored as uncorrectable by a write carrying POISON (05 R252, R261). -/
  dramBad : List Nat := []
  larderBad : List Nat := []
  /-- The service cluster's L2, by device address / 64 (01 R46). -/
  l2 : Tbl L2Line := []
  deriving DecidableEq, Repr

/-- The state word of a crate (06 R271). -/
structure Crate where
  alloc : Bool := false
  gen : Nat := 1
  owner : Nat := 0
  deriving DecidableEq, Repr

/-- A stream queue beyond its registers and its ring in the larder (06 R286-R301). -/
structure StrQueue where
  /-- Ring position of the oldest word. -/
  head : Nat := 0
  /-- End marks of the stored words, oldest first. -/
  marks : List Bool := []
  pinned : Bool := false
  dropping : Bool := false
  /-- SKIP discards words still to come of the packet in progress. -/
  skipping : Bool := false
  /-- Words of the packet in progress, popped ones included. -/
  total : Nat := 0
  cut : Bool := false
  deriving DecidableEq, Repr

/-- The storeroom (chapter 06). -/
structure Store where
  crates : Tbl Crate := []
  free : Tbl (List Nat) := []
  latch : Tbl Nat := []
  lowLogged : List Nat := []
  queues : Tbl StrQueue := []
  deriving DecidableEq, Repr

/-- A lane: 32 bits of data and a valid bit (07 R322). -/
structure Lane where
  d : Word := 0
  v : Bool := false
  deriving DecidableEq, Repr

/-- A fabric cell: hold registers, accumulators, the last ALU result, its output and MAC results on their way (07 "The
cell"). -/
structure Cell where
  h0 : Word := 0
  h1 : Word := 0
  h2 : Word := 0
  h3 : Word := 0
  acc0 : BitVec 40 := 0
  acc1 : BitVec 40 := 0
  alu : Word := 0
  o : Lane := {}
  /-- MAC results by the fabric cycle in which they reach O. -/
  mac : List (Nat × Lane) := []
  deriving DecidableEq, Repr

/-- A pending shelf switch: rank of its source (3 strobe, 2 timer, 1 trigger cell, 0 firmware), target shelf, instant T
(07 R337, R338). -/
structure Pend where
  rank : Nat
  target : Nat
  at_ : Nat
  deriving DecidableEq, Repr

/-- A fabric region (07, 04 R211-R214). -/
structure Region where
  /-- Shelves, function tables and idle entries, in the layout of the region's shelf window (07 R367). -/
  img : Mem := []
  valid : Nat := 0
  active : Nat := 0
  pend : Option Pend := none
  /-- Fenced or isolated: its leaving lanes carry idle values. -/
  isolated : Bool := false
  /-- A REGION_RELOAD of the region is in progress, or its check has failed (04 R212, R213). -/
  reloading : Bool := false
  /-- The last switch in Adaptive Clocking Mode: the shelf before it, its fabric cycle, and the counter of the free value that
  gives each island's lag (R341). -/
  old : Option (Nat × Nat × Nat) := none
  cells : Tbl Cell := []
  /-- Last value of each border lane leaving the region. -/
  last : Tbl Lane := []
  deriving DecidableEq, Repr

/-- A word in a crossing: fabric cycle in which it is taken, island and incoming lane. -/
structure Flight where
  at_ : Nat
  island : Nat
  lane : Nat
  w : Lane
  deriving DecidableEq, Repr

/-- A stream-port channel beyond its registers (07 R346-R350). -/
structure Channel where
  /-- Bytes of the line being packed, lines waiting in the FIFO, the first half of a 64-bit word, and 64-bit words of the
  packet in progress. -/
  line : List Byte := []
  fifo : List (List Byte) := []
  half : Option Word := none
  words : Nat := 0
  /-- Words that an inbound channel has read and not yet delivered, oldest first (R346). -/
  inq : List Word := []
  deriving DecidableEq, Repr

/-- A cut pair: words presented at port 6, with the fabric cycle of each that is not yet released, arrived at and released from
port 7, and words waiting (07 R355-R357). -/
structure CutLane where
  presented : Nat := 0
  times : Tbl Nat := []
  arrived : Nat := 0
  released : Nat := 0
  waiting : Tbl Word := []
  deriving DecidableEq, Repr

/-- The fabric and its stream ports (chapter 07). -/
structure Fabric where
  regions : Tbl Region := []
  /-- Fabric cycles, four to a beat; a multiple of four falls on each beat. -/
  cycle : Nat := 0
  flights : List Flight := []
  /-- Words held at their senders by a full crossing, oldest first: sender, island and lane towards, word (03 R134). -/
  held : List (Nat × Nat × Nat × Lane) := []
  /-- Cycle in which the last word of each crossing was taken. -/
  lastTaken : Tbl Nat := []
  channels : Tbl Channel := []
  cuts : Tbl CutLane := []
  /-- Words released towards link end 1, newest last: lane, word, and the fabric cycle of its DAC output (R355 step 12). -/
  cutOut : List (Nat × Word × Nat) := []
  /-- Words of port 7 lanes in CONV that are not cut pairs, for their DUC streams: lane, word, and the fabric cycle of the DAC output
  (11 R503, R505). -/
  ducOut : List (Nat × Word × Nat) := []
  deriving DecidableEq, Repr

/-- A job packet (08 R395). -/
structure Job where
  resume : Bool
  cq : Nat
  tag : Nat
  entry : Nat
  arg0 : DWord
  arg1 : DWord
  budget : Nat
  deriving DecidableEq, Repr

/-- A frame of a bank's loop stack: passes left, first bundle and last bundle of the body (08 R379, R393). -/
structure LoopFrame where
  count : Nat
  start : Nat
  last : Nat
  deriving DecidableEq, Repr

/-- A blocking L operation captured at issue (08 R406): opcode, device address, the registers still to transfer, the link
of a save area, the destination of LDD, the PC of its bundle, and the bytes of each register read at issue. -/
structure Transfer where
  op : Nat
  addr : Nat
  mask : Nat
  link : Nat
  rx : Nat
  pc : Nat
  data : List (Nat × List Byte)
  area : List Byte
  deriving DecidableEq, Repr

/-- A bank's weight set (09 R432): held format, whether its scales were loaded, EXP and GSIZE of the load, rows of 128
weight codes by K row, and rows of 128 FP32 scales by group.  An unlisted row is zeros, an unlisted group 1.0. -/
structure WeightSet where
  loaded : Bool := false
  fmt : Nat := 0
  exp : Nat := 0
  scaled : Bool := false
  gsize : Nat := 0
  rows : Tbl (List Nat) := []
  scales : Tbl (List Nat) := []
  deriving DecidableEq, Repr

/-- The model of a bank (10 R475-R489): working area, weight bytes, resident bytes, code range, and the loader's state. -/
structure BankModel where
  work : Nat := 0
  w : Nat := 0
  res : Nat := 0
  codeAt : Nat := 0
  codeLen : Nat := 0
  deriving DecidableEq, Repr

/-- An accepted activation (10 R479): package address, header fields and the read error met by the copies of step 4: 0 bus
error or 1 STATUS 2, with the address. -/
structure Loading where
  addr : Nat
  codeOfs : Nat
  codeLen : Nat
  entry : Nat
  weightOfs : Nat
  w : Nat
  work : Nat
  codeAt : Nat
  spill : Bool
  begun : Bool := false
  done : Bool := false
  err : Option (Nat × Nat) := none
  deriving DecidableEq, Repr

/-- The spill ring of a bank (10 R488-R493): for each of its two slots the spilled block and whether it is complete, blocks
first read in this job, and the fetches that wait for a slot to be free of readers (block, slot). -/
structure Ring where
  slots : Tbl (Nat × Bool) := []
  seen : List Nat := []
  wait : List (Nat × Nat) := []
  missLogged : Bool := false
  /-- A bundle waits on the pager: instant up to which its wait is counted (10 R491). -/
  waitAt : Option Nat := none
  deriving DecidableEq, Repr

/-- A register bank of an engine (08 R368). -/
structure Bank where
  s : Tbl DWord := []
  v : Tbl (BitVec 2048) := []
  p : Tbl (BitVec 256) := []
  pc : Nat := 0
  /-- The bundle issued last. -/
  lastPc : Nat := 0
  loops : List LoopFrame := []
  /-- IE_BANKb_STAT.STATE. -/
  state : Nat := 0
  /-- A job popped and not yet started. -/
  ready : Option Job := none
  job : Option Job := none
  /-- Engine cycles issued for the job; the budget no longer applies (R418). -/
  cycles : Nat := 0
  noBudget : Bool := false
  /-- IE_BANKb_PROGRESS. -/
  progress : Nat := 0
  /-- The blocking operation in progress, suspended or faulted; the bundle issues again with only its L slot (R408). -/
  transfer : Option Transfer := none
  again : Bool := false
  waitAll : Bool := false
  waitSt : Bool := false
  halting : Bool := false
  evict : Bool := false
  /-- A DMA has faulted; the slot is L (R417). -/
  dmaFault : Bool := false
  weights : WeightSet := {}
  stateErrLogged : Bool := false
  model : BankModel := {}
  loading : Option Loading := none
  ring : Ring := {}
  deriving DecidableEq, Repr

/-- A scoreboard entry with the results that its completion writes (08 R387). -/
structure Entry where
  id : Nat
  bank : Nat
  slot : Nat
  op : Nat
  dstS : Nat := 0
  dstV : Nat := 0
  dstP : Nat := 0
  reads : List (Nat × Nat) := []
  writes : List (Nat × Nat) := []
  blocks : List Nat := []
  sOut : List (Nat × DWord) := []
  vOut : List (Nat × BitVec 2048) := []
  stage : List (Nat × List Byte) := []
  /-- Saturations of each element written, in order. -/
  sats : List Nat := []
  /-- DMA and STD: device address, staging offset, length, bytes of STD. -/
  dev : Nat := 0
  off : Nat := 0
  len : Nat := 0
  out : List Byte := []
  /-- The job has ended: the results are discarded. -/
  drop : Bool := false
  /-- Instant of issue; engine cycles until the operation completes, and for which it holds its port of the array or the vector engine's
  input (09 R430, R431, R467). -/
  at_ : Nat := 0
  cycles : Nat := 0
  hold : Nat := 0
  deriving DecidableEq, Repr

/-- An inference engine (08, 09, 10). -/
structure Engine where
  code : Mem := []
  /-- Code-store words collected for a bundle that is not yet replaced, by word offset (R374). -/
  collect : Tbl Nat := []
  staging : Mem := []
  banks : Tbl Bank := []
  active : Nat := 0
  /-- Target of the bank switch in progress. -/
  switching : Option Nat := none
  /-- Doorbell level seen by the scheduler (R394). -/
  doorbell : Bool := false
  entries : List Entry := []
  deriving DecidableEq, Repr

/-- A FAPI message to L2 as the spec determines it: carrier, SCF message type, SFN and slot, error code, and what it
carries; its bytes are laid out by SCF 222.10.02 (11 R543). -/
structure FapiMsg where
  carrier : Nat
  type : Nat
  sfn : Nat
  slot : Nat
  code : Nat
  args : List Nat
  deriving DecidableEq, Repr

/-- An accepted P7 request: its slot's air boundary, its PDUs and its crates (11 R533, R544). -/
structure SlotReq where
  carrier : Nat
  type : Nat
  boundary : Int
  sfn : Nat
  slot : Nat
  pdus : List FapiPdu
  crates : List (Nat × Nat)
  deriving DecidableEq, Repr

/-- A stage of the downlink (11 R526). -/
inductive TxStage where
  | encode | modulate | precode | frame | receive | beam | ifft | duc
  deriving DecidableEq, Repr

/-- A downlink slot that went through its stages: carrier, air boundary, the stages of the role, and what the last of them gives, 0 for
a slot transmitted as zero (11 R526, R535). -/
structure TxSlot where
  carrier : Nat
  boundary : Int
  stages : List TxStage
  signal : Nat
  deriving DecidableEq, Repr

/-- Resource elements of one antenna's symbol that the fronthaul is to bring: a C-plane section received by an O-RU, or an uplink symbol
that an O-DU awaits (11 R523, R524): eAxC identity, plane of the section, air start of the symbol, first element and their number, and
beam identity. -/
structure FhSection where
  eaxc : Nat
  plane : Nat
  symbol : Nat
  first : Nat
  count : Nat
  beam : Nat
  deriving DecidableEq, Repr

/-- U-plane data in time, decompressed: a word for each element, I in the low half (11 R522, R526). -/
structure FhData where
  eaxc : Nat
  symbol : Nat
  first : Nat
  elements : List Nat
  deriving DecidableEq, Repr

/-- A fronthaul message that left: plane, eAxC identity, air start of its symbol, and the tick at which it left (11 R521, R524). -/
structure FhSent where
  plane : Nat
  eaxc : Nat
  symbol : Int
  at_ : Int
  deriving DecidableEq, Repr

/-- A code block in an island of the decoder: its allocation and its number there, the instant at which it entered, and MAX_ITER and the
scales as they stood then (12 R575-R579). -/
structure LdpcRun where
  alloc : Nat
  block : Nat
  at_ : Nat
  maxIter : Nat
  scales : List Nat
  deriving DecidableEq, Repr

/-- The gate's settings for a carrier's slots (12 R571). -/
structure GateCfg where
  mode : Nat := 1
  engines : Nat := 15
  thresh : Nat := 0xC000
  guard_ : Nat := 73728
  base : Nat := 320
  per : Nat := 6
  deriving DecidableEq, Repr

/-- A PUSCH allocation in the gate or the decoder (12 R557-R582). -/
structure Alloc where
  id : Nat
  tag : Nat
  carrier : Nat
  sfn : Nat
  slot : Nat
  /-- End of its slot and its guard instant. -/
  slotEnd : Int
  guardAt : Int
  mode : Nat
  thresh : Nat
  pdu : PuschInfo
  g : Nat
  desc : Nat
  inputs : List Nat
  cl : List Nat
  ll : List Nat
  /-- The classical crates could not be allocated. -/
  noCl : Bool := false
  /-- Engine of the dispatched job. -/
  engine : Option Nat := none
  clDone : Bool := false
  /-- STATUS, arrival and CONF of the completion word. -/
  comp : Option (Nat × Nat × Nat) := none
  /-- Choice: 0 none, 1 classical, 2 learned. -/
  chosen : Option Nat := none
  /-- Blocks still to decode, cut blocks, payload, and the TB CRC. -/
  left : Nat := 0
  payload : List Byte := []
  crc : Option Bool := none
  reported : Bool := false
  freed : Bool := false
  deriving DecidableEq, Repr

/-- The radio datapath and the learned receiver (chapters 11, 12). -/
structure Radio where
  /-- Start of foreground calibration; chains' applied calibration values, keyed 256 × chain + parameter. -/
  calAt : DWord := 0
  cal : Tbl Nat := []
  requester : Nat := 0
  /-- Carriers still to stop for a withdrawal, its cause and requester. -/
  stopMask : Nat := 0
  stopCause : Nat := 0
  stopRq : Nat := 0
  /-- FAPI state of each carrier: 0 idle, 1 configured, 2 running; carriers that STOP.request stops. -/
  fapi : Tbl Nat := []
  fapiStop : Nat := 0
  sfn : Tbl Nat := []
  slot : Tbl Nat := []
  /-- Carriers whose streams run; raw streams run. -/
  streams : Nat := 0
  raw : Bool := false
  /-- Beam tables in use, and copied tables with the time of their commit. -/
  beams : Tbl (List Byte) := []
  beamPend : List (Nat × Nat × List Byte) := []
  reqs : List SlotReq := []
  sent : List FapiMsg := []
  /-- Downlink slots sent; the layer limit of governor level 3 is in force (11 R526, R542). -/
  tx : List TxSlot := []
  limited : Bool := false
  /-- Phase of each stream's NCO, keyed 2 × chain + stream, ADC chains 0–3 and DAC chains 4–7 (11 R502). -/
  nco : Tbl Nat := []
  /-- Fronthaul: sections whose window is open, U-plane data in time, symbols completed from them with their elements, messages sent;
  last answer to a delay measurement on each port. -/
  cplane : List FhSection := []
  uplane : List FhData := []
  symbols : List (FhSection × List Nat) := []
  fhSent : List FhSent := []
  owd : Tbl (Nat × Nat) := []
  /-- Settings in force by carrier, and committed ones: time, carriers still to take them, values. -/
  gate : Tbl GateCfg := []
  /-- By carrier: the air boundary from which the settings in force hold, and those before them. -/
  gatePrev : Tbl (Int × GateCfg) := []
  gatePend : List (Nat × Nat × Tbl GateCfg) := []
  freeAt : Tbl Nat := []
  nextId : Nat := 0
  allocs : List Alloc := []
  /-- Code blocks waiting (allocation and block number) and, by island, the block in it. -/
  blocks : List (Nat × Nat) := []
  islands : Tbl LdpcRun := []
  /-- Key of each HARQ buffer in use: carrier, RNTI, process; and the places in it that hold LLRs. -/
  harq : Tbl (Nat × Nat × Nat) := []
  harqHeld : Tbl (List Nat) := []
  deriving DecidableEq, Repr

/-- A picture in a frame slot (13 R592-R595): its slot, presentation time, size and depth, whether it is to be output as a
copy, whether the decoder refers to it or has still to output it, and the composition jobs on it. -/
structure VisPic where
  slot : Nat
  pts : Nat
  w : Nat
  h : Nat
  ten : Bool
  bad : Bool
  ref : Bool
  wait : Bool
  jobs : Nat
  deriving DecidableEq, Repr

/-- A decode stream: its pictures, and size, depth and bytes of the frame output last. -/
structure VisStream where
  pics : List VisPic := []
  last : Option (Nat × Nat × Bool × List Byte) := none
  deriving DecidableEq, Repr

/-- A composition job (13 R596, R597): phase 0 waiting, 1 in its pass, 2 in its release copy. -/
structure VisJob where
  ch : Nat
  stream : Nat
  slot : Nat
  pts : Nat
  frame : Nat
  w : Nat
  h : Nat
  ten : Bool
  phase : Nat := 0
  desc : List Byte := []
  /-- End of the pass. -/
  endAt : Nat := 0
  /-- Data crates and list crate of the release. -/
  crates : List Nat := []
  list : Nat := 0
  /-- Signatures of the tiles. -/
  tiles : List Nat := []
  deriving DecidableEq, Repr

/-- Vision (chapter 13): streams, the stream served last by each decoder, jobs with the running one first, coefficient taps
keyed 512 × set + 8 × phase + tap (pending, committed, active), committed descriptor addresses, buffers lent (bit 2n + b), the
buffer of the next job of each channel, and valid tile-signature entries by 2n + b. -/
structure Vision where
  streams : Tbl VisStream := []
  served : Tbl Nat := []
  jobs : List VisJob := []
  coefPend : Tbl Nat := []
  coefNext : Option (Tbl Nat) := none
  coef : Tbl Nat := []
  descNext : Tbl Nat := []
  lent : Nat := 0
  buf : Tbl Nat := []
  sigValid : Tbl Nat := []
  deriving DecidableEq, Repr

/-- A pin in a switch (14 R639-R642): the cycle t0 in device ticks, the driver held by PARK 0 (0 hi-Z with keeper, 1 drive 0,
2 drive 1, 3 the level of a peripheral's driver), and the PWM output left, 2 × channel + side. -/
structure PinPark where
  t0 : Nat
  hold : Nat
  pwm : Option Nat
  deriving DecidableEq, Repr

/-- A PWM channel: start of its count, committed PERIOD, DUTY and DEAD, and a cleared latch that waits for a period start
(14 R662-R666). -/
structure Pwm where
  start : Nat := 0
  take : Option (Nat × Nat × Nat) := none
  wait : Bool := false
  deriving DecidableEq, Repr

/-- A loop of the Plant Loop Engine: the write that set EN, and prev (14 R684, R685). -/
structure Ple where
  enAt : Nat := 0
  prev : Int := 0
  deriving DecidableEq, Repr

/-- A UART (14 R675-R679): received bytes as CEL_UARTu_RXD gives them, bytes to send with END in bit 8, the frame being
received, whether the rest of it is dropped, whether a silence longer than t1.5 fell in it, the end of the last byte received,
the start of the frame being sent, the last frame sent with the end of its last stop bit, and the instant until which DE is
held after it. -/
structure Uart where
  rx : List Nat := []
  tx : List Nat := []
  frame : List Byte := []
  dropping : Bool := false
  gap : Bool := false
  lastRx : Nat := 0
  sending : Option Nat := none
  sent : List Byte := []
  lastTx : Nat := 0
  deUntil : Nat := 0
  deriving DecidableEq, Repr

/-- A CAN controller beyond its registers: the bytes of its frame slots by offset from 0x800, and the last frame sent
(14 R671-R674). -/
structure CanCtl where
  slots : Mem := []
  sent : List Byte := []
  deriving DecidableEq, Repr

/-- Pins and plant I/O beyond the CEL registers (chapter 14). -/
structure Plant where
  parks : Tbl PinPark := []
  /-- Output data of a bank before its last write, and that write's instant (14 R647). -/
  outWas : Tbl (Nat × Nat) := []
  /-- Instant at which pattern A of a matcher last began to hold (14 R651). -/
  matchA : Tbl Nat := []
  /-- Last pop of the pin command queue. -/
  pinqAt : Option Nat := none
  /-- Channels converted in this scan, scans since CH_EN was written, and the start of the scan (14 R655). -/
  adcDone : Nat := 0
  adcScans : Nat := 0
  adcAt : Nat := 0
  tachEdge : Tbl Nat := []
  pwm : Tbl Pwm := []
  ple : Tbl Ple := []
  uart : Tbl Uart := []
  can : Tbl CanCtl := []
  /-- Running commands and the chip select that is held low, plus 1. -/
  i2cCmd : Tbl Nat := []
  spiCmd : Tbl Nat := []
  spiCs : Tbl Nat := []
  /-- Instants of the CMD writes and the bytes that the last commands sent, I²C n under n and SPI n under 2 + n. -/
  cmdAt : Tbl Nat := []
  cmdSent : Tbl (List Byte) := []
  /-- Interrupts raised to the cellar core, and wake sources that have acted, in the bits of SYS_WAKE_EN. -/
  plantIrq : Bool := false
  audioIrq : Bool := false
  wake : Nat := 0
  /-- Since when the battery channel has read below CODE (15 R725). -/
  battLow : Option Nat := none
  deriving DecidableEq, Repr

/-- A pending verification (15 R710-R716): its request's instant, and whether the detection has reached RUN. -/
structure Verify where
  sample : Nat
  mic : Nat
  request : Option Nat := none
  seenRun : Bool := false
  deriving DecidableEq, Repr

/-- Cellar services beyond their registers (chapter 15). -/
structure Service where
  /-- Both pre-roll rings, from CEL offset 0x4_0000. -/
  rings : Mem := []
  /-- Model memory, from CEL offset 0x6_0000: bytes that differ from what the memory holds otherwise, which is the default
  model of Floor where it has been loaded, else 0. -/
  model : Mem := []
  modelRom : Bool := false
  /-- Samples and frame boundaries since EN became 1, the instant of the last sample, frames scored, and the frames that have
  passed since the last detection. -/
  count : Nat := 0
  sampleAt : Nat := 0
  frames : Nat := 0
  scored : Nat := 0
  lastDet : Option Nat := none
  /-- Features of the last frames, oldest first. -/
  feats : List (List Int) := []
  /-- The console is open until this instant. -/
  console : Option Nat := none
  ver : Option Verify := none
  /-- Floor's charge hold (R722): SP is held at zero current, and since when the battery is back in its band. -/
  chargeHeld : Bool := false
  bandAt : Option Nat := none
  deriving DecidableEq, Repr

/-- A group message between members (16 R737-R746, R757), and the time frame of R748 with the mean offset that the sender
reports in units of 2^−16 ticks. -/
inductive GrpMsg where
  | hello (id : List Byte) (member port : Nat)
  | manifest (bytes : List Byte)
  | admitted (members : Nat)
  | bench (members : Nat)
  | yield
  | dissolve (member reason : Nat)
  | joined
  | resend
  | reset
  | request (write : Bool) (qclass addr : Nat) (data : List Byte)
  | push (qclass queue : Nat) (data : List Byte)
  | time (offset : Int)
  deriving DecidableEq, Repr

/-- A frame kept for replay: SEQ, TYPE, destination member, message, and VN, ACK and NAK as it left (16 R729, R731). -/
structure TetherOut where
  seq : Nat
  type : Nat
  member : Nat
  msg : GrpMsg
  vn : Nat := 0
  ack : Nat := 0
  nak : Bool := false
  deriving DecidableEq, Repr

/-- An accepted frame: TYPE, VN and its 80 bytes of BODY (16 R729, R730). -/
structure TetherIn where
  type : Nat
  vn : Nat
  body : List Byte
  deriving DecidableEq, Repr

/-- A Tether port (16 R729-R733): the SEQ expected, whether NAK stands in the next outgoing frame and has been set for that SEQ,
the SEQ of the next new frame, the replay buffer and the frames that wait for it, replays without an advance of ACK, the time of
that advance or of the start of training, accepted frames, the frames of the last replay, and whether HELLO has passed. -/
structure Tether where
  next : Nat := 0
  nak : Bool := false
  nakSent : Bool := false
  seq : Nat := 0
  unacked : List TetherOut := []
  waiting : List TetherOut := []
  replays : Nat := 0
  ackAt : DWord := 0
  rx : List TetherIn := []
  replayed : List TetherOut := []
  hello : Bool := false
  deriving DecidableEq, Repr

/-- A mover descriptor (16 R754) with its status once known, and the bytes moved. -/
structure Move where
  op : Nat
  member : Nat
  qclass : Nat
  queue : Nat
  length : Nat
  local_ : Nat
  remote : Nat
  cq : Nat
  tag : Nat
  data : List Byte := []
  status : Option Nat := none
  deriving DecidableEq, Repr

/-- The group (chapter 16) beyond its registers. -/
structure Group where
  ports : Tbl Tether := []
  /-- t0 of step 12. -/
  formAt : DWord := 0
  /-- The device judged under each member index, and members answered since the leader's last reset. -/
  judged : Tbl Nat := []
  answered : List Nat := []
  /-- Time: the last 16 offsets times two, failed exchanges in a row, lock start, start of the unbroken span within ±50 ns, and
  whether the member has been excluded since lock start. -/
  offs : List Int := []
  fails : Nat := 0
  lockAt : DWord := 0
  goodAt : Option DWord := none
  wasOut : Bool := false
  moves : List Move := []
  /-- Member and reason for which the group was dissolved. -/
  cause : Nat × Nat := (0, 0)
  /-- The leader's own reset after RESET was sent. -/
  resetAt : Option DWord := none
  deriving DecidableEq, Repr

/-- The state of the device and the queue of the commands that wait. -/
structure State where
  part : Part := .jx740
  /-- The PCIe port is in root role; the spec gives no way to choose (01 R41, R42, R52; log entry 79). -/
  pcieRoot : Bool := false
  pending : List Instr := []
  /-- Register fields, keyed 32 × address + lowest bit, those at their reset value left out. -/
  csr : Tbl Nat := []
  /-- Pending values of RWS fields (00 R6), same keys. -/
  shadow : Tbl Nat := []
  /-- WL fields written since cold reset (00 R21). -/
  wl : List Nat := []
  /-- Latched high words of 64-bit quantities: requester NI, address and value (00 R10). -/
  hiLatch : List (Nat × Nat × Nat) := []
  resp : Resp := {}
  /-- The model's own counter behind `Config.freeValue`. -/
  fresh : Nat := 0
  log : LogState := {}
  pw : Power := {}
  ck : Clock := {}
  cfg : Cfg := {}
  hatch : Hatch := {}
  noc : Noc := {}
  mem : Stores := {}
  str : Store := {}
  fab : Fabric := {}
  ie : Tbl Engine := []
  rad : Radio := {}
  vis : Vision := {}
  cel : Plant := {}
  svc : Service := {}
  grp : Group := {}
  /-- The device has reloaded after a YIELD since its last cold reset (16 R741). -/
  yielded : Bool := false
  deriving DecidableEq, Repr

/-- The device as VDD_CEL reaches power-good: mode CELLAR, device time 0, start-up at step 1, the log's ring empty and the entry
of the transition from OFF in the intake (00 R6, 02 R72, R77, R86, 03 R139, 06 R309). -/
def State.reset : State := { log := { intake := [⟨0, 234, 0x0116, 1, 0, 1⟩] } }

end Sys2Proof.Machine
end

