-- ==== Sys2Proof/Machine/Regs.lean ====
section
/-! DEFINITION. The registers of the device: one `Fld` per field of every register table of the spec, and the table of
registers by address that a register access looks up.  Field names are the manual's: `NAME.FIELD`, with an index for an
array of registers.  The access codes are those of R6. -/

namespace Sys2Proof.Machine

namespace Reg

/-! SYS window (02_cellar_power_startup, R116). -/

/-- SYS_ID.PART [31:16] RO (R116). -/
def SYS_ID.PART : Fld := ⟨0xF00000000, 16, 16, .ro, 0, true, []⟩
/-- SYS_ID.REV_LETTER [15:8] RO (R116). -/
def SYS_ID.REV_LETTER : Fld := ⟨0xF00000000, 8, 8, .ro, 0x41, false, []⟩
/-- SYS_ID.REV_DIGIT [7:0] RO (R116). -/
def SYS_ID.REV_DIGIT : Fld := ⟨0xF00000000, 0, 8, .ro, 1, false, []⟩
/-- SYS_PWR_MODE.MODE [2:0] RO (R116). -/
def SYS_PWR_MODE.MODE : Fld := ⟨0xF00000004, 0, 3, .ro, 1, false, []⟩
/-- SYS_PWR_MODE.TIER [5:4] RO (R116). -/
def SYS_PWR_MODE.TIER : Fld := ⟨0xF00000004, 4, 2, .ro, 1, false, []⟩
/-- SYS_PWR_MODE.BUSY [8:8] RO (R116). -/
def SYS_PWR_MODE.BUSY : Fld := ⟨0xF00000004, 8, 1, .ro, 0, false, []⟩
/-- SYS_PWR_MODE.TARGET [14:12] RO (R116). -/
def SYS_PWR_MODE.TARGET : Fld := ⟨0xF00000004, 12, 3, .ro, 0, false, []⟩
/-- SYS_PWR_REQ.TARGET [2:0] WO (R116). -/
def SYS_PWR_REQ.TARGET : Fld := ⟨0xF00000008, 0, 3, .wo, 0, false, [(0, 0), (5, 5), (6, 6), (7, 7)]⟩
/-- SYS_PWR_STAT.MAINS_LOST [0:0] W1C (R116). -/
def SYS_PWR_STAT.MAINS_LOST : Fld := ⟨0xF0000000C, 0, 1, .w1c, 0, false, []⟩
/-- SYS_PWR_STAT.RADIO_RELEASED [1:1] RO (R116). -/
def SYS_PWR_STAT.RADIO_RELEASED : Fld := ⟨0xF0000000C, 1, 1, .ro, 0, false, []⟩
/-- SYS_DOM_STATE.DOM [22:0] RO (R116). -/
def SYS_DOM_STATE.DOM : Fld := ⟨0xF00000010, 0, 23, .ro, 0, false, []⟩
/-- SYS_DOM_ON_REQ.DOM [22:0] WO (R116). -/
def SYS_DOM_ON_REQ.DOM : Fld := ⟨0xF00000014, 0, 23, .wo, 0, false, []⟩
/-- SYS_DOM_OFF_REQ.DOM [22:0] WO (R116). -/
def SYS_DOM_OFF_REQ.DOM : Fld := ⟨0xF00000018, 0, 23, .wo, 0, false, []⟩
/-- SYS_FENCE_ACK.DOM [22:0] RO (R116). -/
def SYS_FENCE_ACK.DOM : Fld := ⟨0xF0000001C, 0, 23, .ro, 0, false, []⟩
/-- SYS_FENCE_TO.DOM [22:0] W1C (R116). -/
def SYS_FENCE_TO.DOM : Fld := ⟨0xF00000020, 0, 23, .w1c, 0, false, []⟩
/-- SYS_DOM_FUSED.DOM [22:0] RO (R116). -/
def SYS_DOM_FUSED.DOM : Fld := ⟨0xF00000024, 0, 23, .ro, 0, true, []⟩
/-- SYS_DOM_RADIO.DOM [22:0] RO (R116). -/
def SYS_DOM_RADIO.DOM : Fld := ⟨0xF00000028, 0, 23, .ro, 0, false, []⟩
/-- SYS_RST_CAUSE.CAUSE [6:0] W1C (R116). -/
def SYS_RST_CAUSE.CAUSE : Fld := ⟨0xF00000030, 0, 7, .w1c, 1, false, []⟩
/-- SYS_RESET.KEY [31:16] WO (R116). -/
def SYS_RESET.KEY : Fld := ⟨0xF00000034, 16, 16, .wo, 0, false, []⟩
/-- SYS_RESET.WARM [1:1] WO (R116). -/
def SYS_RESET.WARM : Fld := ⟨0xF00000034, 1, 1, .wo, 0, false, []⟩
/-- SYS_RESET.COLD [0:0] WO (R116). -/
def SYS_RESET.COLD : Fld := ⟨0xF00000034, 0, 1, .wo, 0, false, []⟩
/-- SYS_WDOG_CFG.EN [16:16] WL (R116). -/
def SYS_WDOG_CFG.EN : Fld := ⟨0xF00000038, 16, 1, .wl, 0, false, []⟩
/-- SYS_WDOG_CFG.PERIOD_MS [15:0] RW (R116). -/
def SYS_WDOG_CFG.PERIOD_MS : Fld := ⟨0xF00000038, 0, 16, .rw, 2000, false, []⟩
/-- SYS_WDOG_KICK.KEY [15:0] WO (R116). -/
def SYS_WDOG_KICK.KEY : Fld := ⟨0xF0000003C, 0, 16, .wo, 0, false, []⟩
/-- SYS_WARM_CFG.WARM_EN [24:24] RW (R116). -/
def SYS_WARM_CFG.WARM_EN : Fld := ⟨0xF00000040, 24, 1, .rw, 1, false, []⟩
/-- SYS_WARM_CFG.HEAT_DUTY [23:16] RW (R116). -/
def SYS_WARM_CFG.HEAT_DUTY : Fld := ⟨0xF00000040, 16, 8, .rw, 100, false, []⟩
/-- SYS_WARM_CFG.LIMIT_MIN [13:8] RW (R116). -/
def SYS_WARM_CFG.LIMIT_MIN : Fld := ⟨0xF00000040, 8, 6, .rw, 15, false, []⟩
/-- SYS_WARM_CFG.REGIONS [2:0] RW (R116). -/
def SYS_WARM_CFG.REGIONS : Fld := ⟨0xF00000040, 0, 3, .rw, 6, false, []⟩
/-- SYS_WARM_STAT.ELAPSED_S [31:16] RO (R116). -/
def SYS_WARM_STAT.ELAPSED_S : Fld := ⟨0xF00000044, 16, 16, .ro, 0, false, []⟩
/-- SYS_WARM_STAT.ATTEMPTS [15:8] RO (R116). -/
def SYS_WARM_STAT.ATTEMPTS : Fld := ⟨0xF00000044, 8, 8, .ro, 0, false, []⟩
/-- SYS_WARM_STAT.EXPIRED [1:1] RO (R116). -/
def SYS_WARM_STAT.EXPIRED : Fld := ⟨0xF00000044, 1, 1, .ro, 0, false, []⟩
/-- SYS_WARM_STAT.ACTIVE [0:0] RO (R116). -/
def SYS_WARM_STAT.ACTIVE : Fld := ⟨0xF00000044, 0, 1, .ro, 0, false, []⟩
/-- SYS_TJ.TJ_MIN [31:16] RO (R116). -/
def SYS_TJ.TJ_MIN : Fld := ⟨0xF00000050, 16, 16, .ro, 0, false, []⟩
/-- SYS_TJ.TJ_MAX [15:0] RO (R116). -/
def SYS_TJ.TJ_MAX : Fld := ⟨0xF00000050, 0, 16, .ro, 0, false, []⟩
/-- SYS_GOV_STAT.LEVEL [2:0] RO (R116). -/
def SYS_GOV_STAT.LEVEL : Fld := ⟨0xF00000054, 0, 3, .ro, 0, false, []⟩
/-- SYS_THERM_CFG.TRIP_RESTART [8:8] RW (R116). -/
def SYS_THERM_CFG.TRIP_RESTART : Fld := ⟨0xF00000058, 8, 1, .rw, 1, false, []⟩
/-- SYS_THERM_CFG.THROTTLE_DUTY [7:0] RW (R116). -/
def SYS_THERM_CFG.THROTTLE_DUTY : Fld := ⟨0xF00000058, 0, 8, .rw, 50, false, []⟩
/-- SYS_WAKE_EN.SOURCES [4:0] RW (R116). -/
def SYS_WAKE_EN.SOURCES : Fld := ⟨0xF00000060, 0, 5, .rw, 1, false, []⟩
/-- SYS_WAKE_CAUSE.SOURCES [4:0] W1C (R116). -/
def SYS_WAKE_CAUSE.SOURCES : Fld := ⟨0xF00000064, 0, 5, .w1c, 0, false, []⟩
/-- SYS_HOLD_CFG.HOLD_DWELL_S [23:16] RW (R116). -/
def SYS_HOLD_CFG.HOLD_DWELL_S : Fld := ⟨0xF00000068, 16, 8, .rw, 30, false, []⟩
/-- SYS_HOLD_CFG.MATCHER [11:8] RW (R116). -/
def SYS_HOLD_CFG.MATCHER : Fld := ⟨0xF00000068, 8, 4, .rw, 0, false, []⟩
/-- SYS_HOLD_CFG.COMPARATOR [6:4] RW (R116). -/
def SYS_HOLD_CFG.COMPARATOR : Fld := ⟨0xF00000068, 4, 3, .rw, 0, false, []⟩
/-- SYS_HOLD_CFG.SRC [1:0] RW (R116). -/
def SYS_HOLD_CFG.SRC : Fld := ⟨0xF00000068, 0, 2, .rw, 0, false, [(3, 3)]⟩
/-- SYS_CEL_APERTURE.BASE [4:0] RW (R116). -/
def SYS_CEL_APERTURE.BASE : Fld := ⟨0xF00000070, 0, 5, .rw, 0b11110, false, []⟩
/-- SYS_FLASH_SVC.EN [0:0] RW (R116). -/
def SYS_FLASH_SVC.EN : Fld := ⟨0xF00000074, 0, 1, .rw, 0, false, []⟩
/-- SYS_FLASH_SVC.ACTIVE [1:1] RO (R116). -/
def SYS_FLASH_SVC.ACTIVE : Fld := ⟨0xF00000074, 1, 1, .ro, 0, false, []⟩
/-! CLK window (03_islands_time_determinism, R162). -/

/-- CLK_MODE.MODE [1:0] RO (R162). -/
def CLK_MODE.MODE : Fld := ⟨0xF00100000, 0, 2, .ro, 1, false, []⟩
/-- CLK_MODE_REQ.TARGET [1:0] WO (R162). -/
def CLK_MODE_REQ.TARGET : Fld := ⟨0xF00100004, 0, 2, .wo, 0, false, [(0, 0), (3, 3)]⟩
/-- CLK_MODE_STAT.BUSY [0:0] RO (R162). -/
def CLK_MODE_STAT.BUSY : Fld := ⟨0xF00100008, 0, 1, .ro, 0, false, []⟩
/-- CLK_MODE_STAT.REFCLK_OK [1:1] RO (R162). -/
def CLK_MODE_STAT.REFCLK_OK : Fld := ⟨0xF00100008, 1, 1, .ro, 0, false, []⟩
/-- CLK_ISLAND_SEL.INDEX [7:0] RW (R162). -/
def CLK_ISLAND_SEL.INDEX : Fld := ⟨0xF00100010, 0, 8, .rw, 0, false, []⟩
/-- CLK_ISLAND_STAT.RATIO5 [7:0] RO (R162). -/
def CLK_ISLAND_STAT.RATIO5 : Fld := ⟨0xF00100014, 0, 8, .ro, 0, true, []⟩
/-- CLK_ISLAND_STAT.LOCKED [8:8] RO (R162). -/
def CLK_ISLAND_STAT.LOCKED : Fld := ⟨0xF00100014, 8, 1, .ro, 0, true, []⟩
/-- CLK_ISLAND_STAT.PINNED [9:9] RO (R162). -/
def CLK_ISLAND_STAT.PINNED : Fld := ⟨0xF00100014, 9, 1, .ro, 0, true, []⟩
/-- CLK_ISLAND_STAT.LIVE [10:10] RO (R162). -/
def CLK_ISLAND_STAT.LIVE : Fld := ⟨0xF00100014, 10, 1, .ro, 0, true, []⟩
/-- CLK_ISLAND_STRETCH.COUNT [31:0] RO (R162). -/
def CLK_ISLAND_STRETCH.COUNT : Fld := ⟨0xF00100018, 0, 32, .ro, 0, true, []⟩
/-- CLK_TIME_LO.TIME [31:0] RO (R162). -/
def CLK_TIME_LO.TIME : Fld := ⟨0xF00100020, 0, 32, .ro, 0, true, []⟩
/-- CLK_TIME_HI.TIME [31:0] RO (R162). -/
def CLK_TIME_HI.TIME : Fld := ⟨0xF00100024, 0, 32, .ro, 0, true, []⟩
/-- CLK_TIME_FRAC.FRAC [31:0] RO (R162). -/
def CLK_TIME_FRAC.FRAC : Fld := ⟨0xF00100028, 0, 32, .ro, 0, false, []⟩
/-- CLK_RATE.RATE [31:0] RW (R162). -/
def CLK_RATE.RATE : Fld := ⟨0xF00100030, 0, 32, .rw, 0, false, []⟩
/-- CLK_STEP_LO.STEP [31:0] WO (R162). -/
def CLK_STEP_LO.STEP : Fld := ⟨0xF00100038, 0, 32, .wo, 0, false, []⟩
/-- CLK_STEP_HI.STEP [31:0] WO (R162). -/
def CLK_STEP_HI.STEP : Fld := ⟨0xF0010003C, 0, 32, .wo, 0, false, []⟩
/-- CLK_PPS_IN_LO.CAP [31:0] RO (R162). -/
def CLK_PPS_IN_LO.CAP : Fld := ⟨0xF00100040, 0, 32, .ro, 0, false, []⟩
/-- CLK_PPS_IN_HI.CAP [31:0] RO (R162). -/
def CLK_PPS_IN_HI.CAP : Fld := ⟨0xF00100044, 0, 32, .ro, 0, false, []⟩
/-- CLK_PPS_STAT.COUNT [15:0] RO (R162). -/
def CLK_PPS_STAT.COUNT : Fld := ⟨0xF00100048, 0, 16, .ro, 0, false, []⟩
/-- CLK_PPS_STAT.EXPECT [16:16] RW (R162). -/
def CLK_PPS_STAT.EXPECT : Fld := ⟨0xF00100048, 16, 1, .rw, 0, false, []⟩
/-- CLK_PPS_STAT.JUMP [17:17] W1C (R162). -/
def CLK_PPS_STAT.JUMP : Fld := ⟨0xF00100048, 17, 1, .w1c, 0, false, []⟩
/-- CLK_PPS_OUT_CFG.EN [31:31] RW (R162). -/
def CLK_PPS_OUT_CFG.EN : Fld := ⟨0xF00100050, 31, 1, .rw, 0, false, []⟩
/-- CLK_PPS_OUT_CFG.WIDTH_MS [9:0] RW (R162). -/
def CLK_PPS_OUT_CFG.WIDTH_MS : Fld := ⟨0xF00100050, 0, 10, .rw, 100, false, []⟩
/-- CLK_PPS_OUT_OFS.OFFSET [31:0] RW (R162). -/
def CLK_PPS_OUT_OFS.OFFSET : Fld := ⟨0xF00100054, 0, 32, .rw, 0, false, []⟩
/-- CLK_PTP_CFG.PORTS [3:0] RW (R162). -/
def CLK_PTP_CFG.PORTS : Fld := ⟨0xF00100058, 0, 4, .rw, 0, false, []⟩
/-- CLK_PTP_CFG.ONE_STEP [4:4] RW (R162). -/
def CLK_PTP_CFG.ONE_STEP : Fld := ⟨0xF00100058, 4, 1, .rw, 0, false, []⟩
/-- CLK_PTP_LAT.TX [31:16] RW (R162). -/
def CLK_PTP_LAT.TX (i : Nat) : Fld := ⟨(0xF00100060 + 4 * i), 16, 16, .rw, 0, false, []⟩
/-- CLK_PTP_LAT.RX [15:0] RW (R162). -/
def CLK_PTP_LAT.RX (i : Nat) : Fld := ⟨(0xF00100060 + 4 * i), 0, 16, .rw, 0, false, []⟩
/-- CLK_SYNCE_CFG.PORT0 [1:0] RW (R162). -/
def CLK_SYNCE_CFG.PORT0 : Fld := ⟨0xF00100070, 0, 2, .rw, 0, false, []⟩
/-- CLK_SYNCE_CFG.PORT1 [5:4] RW (R162). -/
def CLK_SYNCE_CFG.PORT1 : Fld := ⟨0xF00100070, 4, 2, .rw, 0, false, []⟩
/-- CLK_SYNCE_CFG.EN0 [8:8] RW (R162). -/
def CLK_SYNCE_CFG.EN0 : Fld := ⟨0xF00100070, 8, 1, .rw, 0, false, []⟩
/-- CLK_SYNCE_CFG.EN1 [9:9] RW (R162). -/
def CLK_SYNCE_CFG.EN1 : Fld := ⟨0xF00100070, 9, 1, .rw, 0, false, []⟩
/-- CLK_SYNCE_CFG.SQUELCH [12:12] RW (R162). -/
def CLK_SYNCE_CFG.SQUELCH : Fld := ⟨0xF00100070, 12, 1, .rw, 1, false, []⟩
/-- CLK_RUN_AT_LO.AT [31:0] RW (R162). -/
def CLK_RUN_AT_LO.AT : Fld := ⟨0xF00100080, 0, 32, .rw, 0, false, []⟩
/-- CLK_RUN_AT_HI.AT [31:0] RW (R162). -/
def CLK_RUN_AT_HI.AT : Fld := ⟨0xF00100084, 0, 32, .rw, 0, false, []⟩
/-- CLK_RUN_CTRL.ARM [0:0] WO (R162). -/
def CLK_RUN_CTRL.ARM : Fld := ⟨0xF00100088, 0, 1, .wo, 0, false, []⟩
/-- CLK_RUN_CTRL.SRC [1:1] RW (R162). -/
def CLK_RUN_CTRL.SRC : Fld := ⟨0xF00100088, 1, 1, .rw, 0, false, []⟩
/-- CLK_RUN_STAT.GOV [0:0] W1C (R162). -/
def CLK_RUN_STAT.GOV : Fld := ⟨0xF0010008C, 0, 1, .w1c, 0, false, []⟩
/-- CLK_RUN_STAT.MODE [1:1] W1C (R162). -/
def CLK_RUN_STAT.MODE : Fld := ⟨0xF0010008C, 1, 1, .w1c, 0, false, []⟩
/-- CLK_RUN_STAT.FENCE [2:2] W1C (R162). -/
def CLK_RUN_STAT.FENCE : Fld := ⟨0xF0010008C, 2, 1, .w1c, 0, false, []⟩
/-- CLK_RUN_STAT.DROOP [3:3] W1C (R162). -/
def CLK_RUN_STAT.DROOP : Fld := ⟨0xF0010008C, 3, 1, .w1c, 0, false, []⟩
/-- CLK_RUN_STAT.REFCLK [4:4] W1C (R162). -/
def CLK_RUN_STAT.REFCLK : Fld := ⟨0xF0010008C, 4, 1, .w1c, 0, false, []⟩
/-- CLK_RUN_STAT.ADAPTIVE [5:5] W1C (R162). -/
def CLK_RUN_STAT.ADAPTIVE : Fld := ⟨0xF0010008C, 5, 1, .w1c, 0, false, []⟩
/-- CLK_BEAT_LO.BEATS [31:0] RO (R162). -/
def CLK_BEAT_LO.BEATS : Fld := ⟨0xF00100090, 0, 32, .ro, 0, true, []⟩
/-- CLK_BEAT_HI.BEATS [31:0] RO (R162). -/
def CLK_BEAT_HI.BEATS : Fld := ⟨0xF00100094, 0, 32, .ro, 0, true, []⟩
/-! CFG window (04_bitstream_configuration, R215). -/

/-- CFG_STAT.PHASE [2:0] RO (R215). -/
def CFG_STAT.PHASE : Fld := ⟨0xF00200000, 0, 3, .ro, 0, false, []⟩
/-- CFG_STAT.SOURCE [5:4] RO (R215). -/
def CFG_STAT.SOURCE : Fld := ⟨0xF00200000, 4, 2, .ro, 0, false, []⟩
/-- CFG_STAT.HOP [15:8] RO (R215). -/
def CFG_STAT.HOP : Fld := ⟨0xF00200000, 8, 8, .ro, 0, false, []⟩
/-- CFG_ABORT.CODE [15:0] RO (R215). -/
def CFG_ABORT.CODE : Fld := ⟨0xF00200004, 0, 16, .ro, 0, false, []⟩
/-- CFG_DIGEST.DIGEST [31:0] RO (R215). -/
def CFG_DIGEST.DIGEST (i : Nat) : Fld := ⟨(0xF00200010 + 4 * i), 0, 32, .ro, 0, false, []⟩
/-- CFG_SVN.SVN [31:0] RO (R215). -/
def CFG_SVN.SVN : Fld := ⟨0xF00200040, 0, 32, .ro, 0, false, []⟩
/-- CFG_CHAIN_CFG.PASSES [7:0] RW (R215). -/
def CFG_CHAIN_CFG.PASSES : Fld := ⟨0xF00200044, 0, 8, .rw, 8, false, []⟩
/-- CFG_CHAIN_CFG.WAIT_S [15:8] RW (R215). -/
def CFG_CHAIN_CFG.WAIT_S : Fld := ⟨0xF00200044, 8, 8, .rw, 60, false, []⟩
/-- CFG_CHAIN_CFG.GAP_MS [25:16] RW (R215). -/
def CFG_CHAIN_CFG.GAP_MS : Fld := ⟨0xF00200044, 16, 10, .rw, 250, false, []⟩
/-- CFG_CHAIN_STAT.SENT [15:0] RO (R215). -/
def CFG_CHAIN_STAT.SENT : Fld := ⟨0xF00200048, 0, 16, .ro, 0, false, []⟩
/-- CFG_CHAIN_STAT.BAD [31:16] RO (R215). -/
def CFG_CHAIN_STAT.BAD : Fld := ⟨0xF00200048, 16, 16, .ro, 0, false, []⟩
/-- CFG_HATCH_POST_LO.ADDR [31:0] RW (R215). -/
def CFG_HATCH_POST_LO.ADDR : Fld := ⟨0xF00200050, 0, 32, .rw, 0, false, []⟩
/-- CFG_HATCH_POST_HI.ADDR [31:0] RW (R215). -/
def CFG_HATCH_POST_HI.ADDR : Fld := ⟨0xF00200054, 0, 32, .rw, 0, false, []⟩
/-- CFG_HATCH_STAT.DEPTH [3:0] RO (R215). -/
def CFG_HATCH_STAT.DEPTH : Fld := ⟨0xF00200058, 0, 4, .ro, 0, true, []⟩
/-- CFG_HATCH_STAT.BUSY [8:8] RO (R215). -/
def CFG_HATCH_STAT.BUSY : Fld := ⟨0xF00200058, 8, 1, .ro, 0, true, []⟩
/-- CFG_HATCH_STAT.LAST [23:16] RO (R215). -/
def CFG_HATCH_STAT.LAST : Fld := ⟨0xF00200058, 16, 8, .ro, 0, false, []⟩
/-- CFG_XSPI_CMD.OPCODE [7:0] WO (R215). -/
def CFG_XSPI_CMD.OPCODE : Fld := ⟨0xF00200060, 0, 8, .wo, 0, false, []⟩
/-- CFG_XSPI_CMD.ADDR_BYTES [10:8] WO (R215). -/
def CFG_XSPI_CMD.ADDR_BYTES : Fld := ⟨0xF00200060, 8, 3, .wo, 0, false, [(1, 1), (2, 2), (5, 5), (6, 6), (7, 7)]⟩
/-- CFG_XSPI_CMD.DUMMY [15:11] WO (R215). -/
def CFG_XSPI_CMD.DUMMY : Fld := ⟨0xF00200060, 11, 5, .wo, 0, false, []⟩
/-- CFG_XSPI_CMD.LEN [22:16] WO (R215). -/
def CFG_XSPI_CMD.LEN : Fld := ⟨0xF00200060, 16, 7, .wo, 0, false, []⟩
/-- CFG_XSPI_CMD.WRITE [24:24] WO (R215). -/
def CFG_XSPI_CMD.WRITE : Fld := ⟨0xF00200060, 24, 1, .wo, 0, false, []⟩
/-- CFG_XSPI_ADDR.ADDR [31:0] RW (R215). -/
def CFG_XSPI_ADDR.ADDR : Fld := ⟨0xF00200064, 0, 32, .rw, 0, false, []⟩
/-- CFG_XSPI_DATA.DATA [31:0] RW (R215). -/
def CFG_XSPI_DATA.DATA (i : Nat) : Fld := ⟨(0xF00200080 + 4 * i), 0, 32, .rw, 0, false, []⟩
/-! SEC window (04_bitstream_configuration, R216). -/

/-- SEC_KEY_DIGEST.DIGEST [31:0] RO (R216). -/
def SEC_KEY_DIGEST.DIGEST (i : Nat) : Fld := ⟨(0xF00700000 + 4 * i), 0, 32, .ro, 0, true, []⟩
/-- SEC_KEY_STATE.PROGRAMMED [3:0] RO (R216). -/
def SEC_KEY_STATE.PROGRAMMED : Fld := ⟨0xF007000C0, 0, 4, .ro, 0, true, []⟩
/-- SEC_KEY_STATE.REVOKED [11:8] RO (R216). -/
def SEC_KEY_STATE.REVOKED : Fld := ⟨0xF007000C0, 8, 4, .ro, 0, true, []⟩
/-- SEC_KEY_REVOKE.SLOT [3:0] WL (R216). -/
def SEC_KEY_REVOKE.SLOT : Fld := ⟨0xF007000C4, 0, 4, .wl, 0, false, []⟩
/-- SEC_SVN_FLOOR.FLOOR [5:0] RO (R216). -/
def SEC_SVN_FLOOR.FLOOR : Fld := ⟨0xF007000C8, 0, 6, .ro, 0, true, []⟩
/-- SEC_PIN_OWN.OWN0 [2:0] RO (R216). -/
def SEC_PIN_OWN.OWN0 (i : Nat) : Fld := ⟨(0xF00700200 + 4 * i), 0, 3, .ro, 0, true, []⟩
/-- SEC_PIN_OWN.OWN1 [6:4] RO (R216). -/
def SEC_PIN_OWN.OWN1 (i : Nat) : Fld := ⟨(0xF00700200 + 4 * i), 4, 3, .ro, 0, true, []⟩
/-- SEC_PIN_OWN.OWN2 [10:8] RO (R216). -/
def SEC_PIN_OWN.OWN2 (i : Nat) : Fld := ⟨(0xF00700200 + 4 * i), 8, 3, .ro, 0, true, []⟩
/-- SEC_PIN_OWN.OWN3 [14:12] RO (R216). -/
def SEC_PIN_OWN.OWN3 (i : Nat) : Fld := ⟨(0xF00700200 + 4 * i), 12, 3, .ro, 0, true, []⟩
/-- SEC_PIN_OWN.OWN4 [18:16] RO (R216). -/
def SEC_PIN_OWN.OWN4 (i : Nat) : Fld := ⟨(0xF00700200 + 4 * i), 16, 3, .ro, 0, true, []⟩
/-- SEC_PIN_OWN.OWN5 [22:20] RO (R216). -/
def SEC_PIN_OWN.OWN5 (i : Nat) : Fld := ⟨(0xF00700200 + 4 * i), 20, 3, .ro, 0, true, []⟩
/-- SEC_PIN_OWN.OWN6 [26:24] RO (R216). -/
def SEC_PIN_OWN.OWN6 (i : Nat) : Fld := ⟨(0xF00700200 + 4 * i), 24, 3, .ro, 0, true, []⟩
/-- SEC_PIN_OWN.OWN7 [30:28] RO (R216). -/
def SEC_PIN_OWN.OWN7 (i : Nat) : Fld := ⟨(0xF00700200 + 4 * i), 28, 3, .ro, 0, true, []⟩
/-! NOC window (05_noc_arbiters_memory, R264). -/

/-- NOC_ARB_WEIGHT.WEIGHT [15:0] RWS (R264). -/
def NOC_ARB_WEIGHT.WEIGHT (i : Nat) : Fld := ⟨(0xF00300000 + 4 * i), 0, 16, .rws, ([64, 64, 64, 16].getD i 0), false, []⟩
/-- NOC_ARB_WINDOW.CYCLES [15:0] RWS (R264). -/
def NOC_ARB_WINDOW.CYCLES : Fld := ⟨0xF00300010, 0, 16, .rws, 512, false, []⟩
/-- NOC_ARB_COMMIT.COMMIT [0:0] WO (R264). -/
def NOC_ARB_COMMIT.COMMIT : Fld := ⟨0xF00300014, 0, 1, .wo, 0, false, []⟩
/-- NOC_TIMEOUT.CYCLES [23:0] RW (R264). -/
def NOC_TIMEOUT.CYCLES : Fld := ⟨0xF00300018, 0, 24, .rw, 65536, false, []⟩
/-- NOC_ERR_CE.COUNT [31:0] RO (R264). -/
def NOC_ERR_CE.COUNT : Fld := ⟨0xF00300020, 0, 32, .ro, 0, false, []⟩
/-- NOC_ERR_DROP.COUNT [31:0] RO (R264). -/
def NOC_ERR_DROP.COUNT : Fld := ⟨0xF00300024, 0, 32, .ro, 0, false, []⟩
/-- NOC_ERR_TIMEOUT.COUNT [31:0] RO (R264). -/
def NOC_ERR_TIMEOUT.COUNT : Fld := ⟨0xF00300028, 0, 32, .ro, 0, false, []⟩
/-- NOC_RT.ENTRY [31:0] RO (R264). -/
def NOC_RT.ENTRY (i j : Nat) : Fld := ⟨(0xF00310000 + 256 * i + 4 * j), 0, 32, .ro, 0, false, []⟩
/-! MEM window (05_noc_arbiters_memory, R265). -/

/-- MEM_ARB_DRAM.WEIGHT [15:0] RWS (R265). -/
def MEM_ARB_DRAM.WEIGHT (i : Nat) : Fld := ⟨(0xF00400000 + 4 * i), 0, 16, .rws, 0, false, []⟩
/-- MEM_ARB_DRAM.PRIO [25:24] RWS (R265). -/
def MEM_ARB_DRAM.PRIO (i : Nat) : Fld := ⟨(0xF00400000 + 4 * i), 24, 2, .rws, 0, false, []⟩
/-- MEM_ARB_LAR.WEIGHT [15:0] RWS (R265). -/
def MEM_ARB_LAR.WEIGHT (i : Nat) : Fld := ⟨(0xF00400020 + 4 * i), 0, 16, .rws, 0, false, []⟩
/-- MEM_ARB_LAR.PRIO [25:24] RWS (R265). -/
def MEM_ARB_LAR.PRIO (i : Nat) : Fld := ⟨(0xF00400020 + 4 * i), 24, 2, .rws, 0, false, []⟩
/-- MEM_ARB_WINDOW.DRAM [15:0] RWS (R265). -/
def MEM_ARB_WINDOW.DRAM : Fld := ⟨0xF00400040, 0, 16, .rws, 0, false, []⟩
/-- MEM_ARB_WINDOW.LARDER [31:16] RWS (R265). -/
def MEM_ARB_WINDOW.LARDER : Fld := ⟨0xF00400040, 16, 16, .rws, 0, false, []⟩
/-- MEM_ARB_TENURE.TENURE [4:0] RWS (R265). -/
def MEM_ARB_TENURE.TENURE : Fld := ⟨0xF00400044, 0, 5, .rws, 0, false, []⟩
/-- MEM_ARB_COMMIT.COMMIT [0:0] WO (R265). -/
def MEM_ARB_COMMIT.COMMIT : Fld := ⟨0xF00400048, 0, 1, .wo, 0, false, []⟩
/-- MEM_STAT.TRAINED [0:0] RO (R265). -/
def MEM_STAT.TRAINED : Fld := ⟨0xF00400050, 0, 1, .ro, 0, false, []⟩
/-- MEM_STAT.SELF_REFRESH [1:1] RO (R265). -/
def MEM_STAT.SELF_REFRESH : Fld := ⟨0xF00400050, 1, 1, .ro, 0, false, []⟩
/-- MEM_STAT.REF_RATE [3:2] RO (R265). -/
def MEM_STAT.REF_RATE : Fld := ⟨0xF00400050, 2, 2, .ro, 0, false, []⟩
/-- MEM_SCRUB_CFG.EN [0:0] RW (R265). -/
def MEM_SCRUB_CFG.EN : Fld := ⟨0xF00400054, 0, 1, .rw, 0, false, []⟩
/-- MEM_SCRUB_CFG.HOURS [15:8] RW (R265). -/
def MEM_SCRUB_CFG.HOURS : Fld := ⟨0xF00400054, 8, 8, .rw, 0, false, []⟩
/-- MEM_REF_COUNT.COUNT [31:0] RO (R265). -/
def MEM_REF_COUNT.COUNT (i : Nat) : Fld := ⟨(0xF00400060 + 4 * i), 0, 32, .ro, 0, false, []⟩
/-- MEM_DRAM_CE.COUNT [31:0] RO (R265). -/
def MEM_DRAM_CE.COUNT : Fld := ⟨0xF004000A0, 0, 32, .ro, 0, false, []⟩
/-- MEM_DRAM_UE.COUNT [31:0] RO (R265). -/
def MEM_DRAM_UE.COUNT : Fld := ⟨0xF004000A4, 0, 32, .ro, 0, false, []⟩
/-- MEM_LAR_CE.COUNT [31:0] RO (R265). -/
def MEM_LAR_CE.COUNT : Fld := ⟨0xF004000A8, 0, 32, .ro, 0, false, []⟩
/-- MEM_LAR_UE.COUNT [31:0] RO (R265). -/
def MEM_LAR_UE.COUNT : Fld := ⟨0xF004000AC, 0, 32, .ro, 0, false, []⟩
/-- MEM_UE_ADDR_LO.ADDR [31:0] RO (R265). -/
def MEM_UE_ADDR_LO.ADDR : Fld := ⟨0xF004000B0, 0, 32, .ro, 0, false, []⟩
/-- MEM_UE_ADDR_HI.ADDR [31:0] RO (R265). -/
def MEM_UE_ADDR_HI.ADDR : Fld := ⟨0xF004000B4, 0, 32, .ro, 0, false, []⟩
/-! STR window (06_storeroom_events_log, R318). -/

/-- STR_CTRL.EN [0:0] RW (R318). -/
def STR_CTRL.EN : Fld := ⟨0xF00500000, 0, 1, .rw, 0, false, []⟩
/-- STR_STATE_BASE_LO.ADDR [31:0] RW (R318). -/
def STR_STATE_BASE_LO.ADDR : Fld := ⟨0xF00500010, 0, 32, .rw, 0, false, []⟩
/-- STR_STATE_BASE_HI.ADDR [31:0] RW (R318). -/
def STR_STATE_BASE_HI.ADDR : Fld := ⟨0xF00500014, 0, 32, .rw, 0, false, []⟩
/-- STR_CRATE_FREE.HANDLE [31:0] WO (R318). -/
def STR_CRATE_FREE.HANDLE : Fld := ⟨0xF00500040, 0, 32, .wo, 0, false, []⟩
/-- STR_CRATE_GIVE_LO.HANDLE [31:0] WO (R318). -/
def STR_CRATE_GIVE_LO.HANDLE : Fld := ⟨0xF00500044, 0, 32, .wo, 0, false, []⟩
/-- STR_CRATE_GIVE_HI.CONTEXT [7:0] WO (R318). -/
def STR_CRATE_GIVE_HI.CONTEXT : Fld := ⟨0xF00500048, 0, 8, .wo, 0, false, []⟩
/-- STR_CRATE_RECLAIM.CONTEXT [7:0] WO (R318). -/
def STR_CRATE_RECLAIM.CONTEXT : Fld := ⟨0xF0050004C, 0, 8, .wo, 0, false, []⟩
/-- STR_DFREE_COUNT.COUNT [31:0] RO (R318). -/
def STR_DFREE_COUNT.COUNT : Fld := ⟨0xF00500050, 0, 32, .ro, 0, false, []⟩
/-- STR_POOL_BASE_LO.ADDR [31:0] RW (R318). -/
def STR_POOL_BASE_LO.ADDR (i : Nat) : Fld := ⟨(0xF00500100 + 32 * i), 0, 32, .rw, 0, false, []⟩
/-- STR_POOL_BASE_HI.ADDR [31:0] RW (R318). -/
def STR_POOL_BASE_HI.ADDR (i : Nat) : Fld := ⟨(0xF00500104 + 32 * i), 0, 32, .rw, 0, false, []⟩
/-- STR_POOL_COUNT.COUNT [20:0] RW (R318). -/
def STR_POOL_COUNT.COUNT (i : Nat) : Fld := ⟨(0xF00500108 + 32 * i), 0, 21, .rw, 0, false, []⟩
/-- STR_POOL_LOW.LOW [20:0] RW (R318). -/
def STR_POOL_LOW.LOW (i : Nat) : Fld := ⟨(0xF0050010C + 32 * i), 0, 21, .rw, 0, false, []⟩
/-- STR_POOL_STAT.FREE [20:0] RO (R318). -/
def STR_POOL_STAT.FREE (i : Nat) : Fld := ⟨(0xF00500110 + 32 * i), 0, 21, .ro, 0, true, []⟩
/-- STR_POOL_STAT.EMPTY [31:24] RO (R318). -/
def STR_POOL_STAT.EMPTY (i : Nat) : Fld := ⟨(0xF00500110 + 32 * i), 24, 8, .ro, 0, false, []⟩
/-- STR_POOL_ALLOC.HANDLE [31:0] RO (R318). -/
def STR_POOL_ALLOC.HANDLE (i : Nat) : Fld := ⟨(0xF00500114 + 32 * i), 0, 32, .ro, 0, true, []⟩
/-- STR_Q_CFG.EN [0:0] RW (R318). -/
def STR_Q_CFG.EN (i : Nat) : Fld := ⟨(0xF00501000 + 64 * i), 0, 1, .rw, 0, false, []⟩
/-- STR_Q_CFG.DEPTH_LOG2 [12:8] RW (R318). -/
def STR_Q_CFG.DEPTH_LOG2 (i : Nat) : Fld := ⟨(0xF00501000 + 64 * i), 8, 5, .rw, 4, false, [(0, 3), (17, 31)]⟩
/-- STR_Q_BASE_LO.ADDR [31:0] RW (R318). -/
def STR_Q_BASE_LO.ADDR (i : Nat) : Fld := ⟨(0xF00501004 + 64 * i), 0, 32, .rw, 0, false, []⟩
/-- STR_Q_BASE_HI.ADDR [31:0] RW (R318). -/
def STR_Q_BASE_HI.ADDR (i : Nat) : Fld := ⟨(0xF00501008 + 64 * i), 0, 32, .rw, 0, false, []⟩
/-- STR_Q_WORDS.COUNT [16:0] RO (R318). -/
def STR_Q_WORDS.COUNT (i : Nat) : Fld := ⟨(0xF0050100C + 64 * i), 0, 17, .ro, 0, true, []⟩
/-- STR_Q_PKTS.COUNT [16:0] RO (R318). -/
def STR_Q_PKTS.COUNT (i : Nat) : Fld := ⟨(0xF00501010 + 64 * i), 0, 17, .ro, 0, true, []⟩
/-- STR_Q_LOST_WORDS.COUNT [31:0] RO (R318). -/
def STR_Q_LOST_WORDS.COUNT (i : Nat) : Fld := ⟨(0xF00501014 + 64 * i), 0, 32, .ro, 0, false, []⟩
/-- STR_Q_LOST_PKTS.COUNT [31:0] RO (R318). -/
def STR_Q_LOST_PKTS.COUNT (i : Nat) : Fld := ⟨(0xF00501018 + 64 * i), 0, 32, .ro, 0, false, []⟩
/-- STR_Q_CTRL.SKIP [0:0] WO (R318). -/
def STR_Q_CTRL.SKIP (i : Nat) : Fld := ⟨(0xF0050101C + 64 * i), 0, 1, .wo, 0, false, []⟩
/-- STR_Q_CTRL.FLUSH [1:1] WO (R318). -/
def STR_Q_CTRL.FLUSH (i : Nat) : Fld := ⟨(0xF0050101C + 64 * i), 1, 1, .wo, 0, false, []⟩
/-- STR_Q_CTRL.CLEAR [2:2] WO (R318). -/
def STR_Q_CTRL.CLEAR (i : Nat) : Fld := ⟨(0xF0050101C + 64 * i), 2, 1, .wo, 0, false, []⟩
/-- STR_Q_CTRL.PINNED [8:8] RO (R318). -/
def STR_Q_CTRL.PINNED (i : Nat) : Fld := ⟨(0xF0050101C + 64 * i), 8, 1, .ro, 0, true, []⟩
/-- STR_Q_NOTIFY.TARGETS [12:0] RW (R318). -/
def STR_Q_NOTIFY.TARGETS (i : Nat) : Fld := ⟨(0xF00501020 + 64 * i), 0, 13, .rw, 0, false, []⟩
/-- STR_Q_NOTIFY.THRESH [31:16] RW (R318). -/
def STR_Q_NOTIFY.THRESH (i : Nat) : Fld := ⟨(0xF00501020 + 64 * i), 16, 16, .rw, 0, false, []⟩
/-- STR_EVT_ROUTE.TARGETS [12:0] RW (R318). -/
def STR_EVT_ROUTE.TARGETS (i : Nat) : Fld := ⟨(0xF00504000 + 4 * i), 0, 13, .rw, 0, false, []⟩
/-- STR_EVT_ROUTE.QUEUE [22:16] RW (R318). -/
def STR_EVT_ROUTE.QUEUE (i : Nat) : Fld := ⟨(0xF00504000 + 4 * i), 16, 7, .rw, 0, false, []⟩
/-- STR_EVT_ROUTE.QEN [23:23] RW (R318). -/
def STR_EVT_ROUTE.QEN (i : Nat) : Fld := ⟨(0xF00504000 + 4 * i), 23, 1, .rw, 0, false, []⟩
/-- STR_Q_PEND.PEND [31:0] W1C (R318). -/
def STR_Q_PEND.PEND (i : Nat) : Fld := ⟨(0xF00504080 + 4 * i), 0, 32, .w1c, 0, false, []⟩
/-- STR_EVT_PEND.CLASSES [11:0] W1C (R318). -/
def STR_EVT_PEND.CLASSES (i : Nat) : Fld := ⟨(0xF00504100 + 4 * i), 0, 12, .w1c, 0, false, []⟩
/-! LOG window (06_storeroom_events_log, R319). -/

/-- LOG_HEAD_SEQ.SEQ [31:0] RO (R319). -/
def LOG_HEAD_SEQ.SEQ : Fld := ⟨0xF00600000, 0, 32, .ro, 0, false, []⟩
/-- LOG_ACK_SEQ.SEQ [31:0] RW (R319). -/
def LOG_ACK_SEQ.SEQ : Fld := ⟨0xF00600004, 0, 32, .rw, 0, false, []⟩
/-- LOG_LOST_OVER.COUNT [31:0] RO (R319). -/
def LOG_LOST_OVER.COUNT : Fld := ⟨0xF00600008, 0, 32, .ro, 0, false, []⟩
/-- LOG_LOST_DROP.COUNT [31:0] RO (R319). -/
def LOG_LOST_DROP.COUNT : Fld := ⟨0xF0060000C, 0, 32, .ro, 0, false, []⟩
/-- LOG_ENTRY.WORD [31:0] RO (R319). -/
def LOG_ENTRY.WORD (i j : Nat) : Fld := ⟨(0xF00620000 + 32 * i + 4 * j), 0, 32, .ro, 0, true, []⟩
/-! GFB window (07_gensil_fabric, R366). -/

/-- GFB_ID.LIVE [5:0] RO (R366). -/
def GFB_ID.LIVE : Fld := ⟨0xF01000000, 0, 6, .ro, 0, true, []⟩
/-- GFB_ID.CONV [8:8] RO (R366). -/
def GFB_ID.CONV : Fld := ⟨0xF01000000, 8, 1, .ro, 0, true, []⟩
/-- GFB_CUT_CFG.PAIRS [15:0] RW (R366). -/
def GFB_CUT_CFG.PAIRS : Fld := ⟨0xF01000010, 0, 16, .rw, 0, false, []⟩
/-- GFB_CUT_LATE.COUNT [31:0] RO (R366). -/
def GFB_CUT_LATE.COUNT : Fld := ⟨0xF01000014, 0, 32, .ro, 0, false, []⟩
/-- GFB_REG_SHELF.ACTIVE [2:0] RO (R366). -/
def GFB_REG_SHELF.ACTIVE (i : Nat) : Fld := ⟨(0xF01001000 + 256 * i), 0, 3, .ro, 0, true, []⟩
/-- GFB_REG_SHELF.VALID [15:8] RO (R366). -/
def GFB_REG_SHELF.VALID (i : Nat) : Fld := ⟨(0xF01001000 + 256 * i), 8, 8, .ro, 0, true, []⟩
/-- GFB_REG_SHELF.ISOLATED [16:16] RO (R366). -/
def GFB_REG_SHELF.ISOLATED (i : Nat) : Fld := ⟨(0xF01001000 + 256 * i), 16, 1, .ro, 0, true, []⟩
/-- GFB_REG_SHELF.PENDING [17:17] RO (R366). -/
def GFB_REG_SHELF.PENDING (i : Nat) : Fld := ⟨(0xF01001000 + 256 * i), 17, 1, .ro, 0, true, []⟩
/-- GFB_REG_SHELF.TARGET [26:24] RO (R366). -/
def GFB_REG_SHELF.TARGET (i : Nat) : Fld := ⟨(0xF01001000 + 256 * i), 24, 3, .ro, 0, true, []⟩
/-- GFB_REG_SW_REQ.SHELF [2:0] WO (R366). -/
def GFB_REG_SW_REQ.SHELF (i : Nat) : Fld := ⟨(0xF01001004 + 256 * i), 0, 3, .wo, 0, false, []⟩
/-- GFB_REG_SW_CFG.STROBE_EN [0:0] RW (R366). -/
def GFB_REG_SW_CFG.STROBE_EN (i : Nat) : Fld := ⟨(0xF01001008 + 256 * i), 0, 1, .rw, 0, false, []⟩
/-- GFB_REG_SW_CFG.CELL_EN [1:1] RW (R366). -/
def GFB_REG_SW_CFG.CELL_EN (i : Nat) : Fld := ⟨(0xF01001008 + 256 * i), 1, 1, .rw, 0, false, []⟩
/-- GFB_REG_SW_CFG.TRIG_CELL [14:8] RW (R366). -/
def GFB_REG_SW_CFG.TRIG_CELL (i : Nat) : Fld := ⟨(0xF01001008 + 256 * i), 8, 7, .rw, 0, false, []⟩
/-- GFB_REG_SW_CFG.AT_SHELF [26:24] RW (R366). -/
def GFB_REG_SW_CFG.AT_SHELF (i : Nat) : Fld := ⟨(0xF01001008 + 256 * i), 24, 3, .rw, 0, false, []⟩
/-- GFB_REG_SW_AT_LO.AT [31:0] RW (R366). -/
def GFB_REG_SW_AT_LO.AT (i : Nat) : Fld := ⟨(0xF01001010 + 256 * i), 0, 32, .rw, 0, false, []⟩
/-- GFB_REG_SW_AT_HI.AT [31:0] RW (R366). -/
def GFB_REG_SW_AT_HI.AT (i : Nat) : Fld := ⟨(0xF01001014 + 256 * i), 0, 32, .rw, 0, false, []⟩
/-- GFB_REG_SW_COUNT.COUNT [31:0] RO (R366). -/
def GFB_REG_SW_COUNT.COUNT (i : Nat) : Fld := ⟨(0xF01001020 + 256 * i), 0, 32, .ro, 0, false, []⟩
/-- GFB_REG_SW_COLLIDE.COUNT [31:0] RO (R366). -/
def GFB_REG_SW_COLLIDE.COUNT (i : Nat) : Fld := ⟨(0xF01001024 + 256 * i), 0, 32, .ro, 0, false, []⟩
/-- GFB_SP_CFG.CONV [15:0] RW (R366). -/
def GFB_SP_CFG.CONV (i : Nat) : Fld := ⟨(0xF01002000 + 1024 * i), 0, 16, .rw, 0, false, []⟩
/-- GFB_SP_CFG.HATCH [16:16] RW (R366). -/
def GFB_SP_CFG.HATCH (i : Nat) : Fld := ⟨(0xF01002000 + 1024 * i), 16, 1, .rw, 0, false, []⟩
/-- GFB_CH_CFG.MODE [1:0] RW (R366). -/
def GFB_CH_CFG.MODE (i j : Nat) : Fld := ⟨(0xF01002100 + 1024 * i + 64 * j), 0, 2, .rw, 0, false, [(3, 3)]⟩
/-- GFB_CH_CFG.CLASS [3:2] RW (R366). -/
def GFB_CH_CFG.CLASS (i j : Nat) : Fld := ⟨(0xF01002100 + 1024 * i + 64 * j), 2, 2, .rw, 3, false, []⟩
/-- GFB_CH_CFG.QUEUE [22:16] RW (R366). -/
def GFB_CH_CFG.QUEUE (i j : Nat) : Fld := ⟨(0xF01002100 + 1024 * i + 64 * j), 16, 7, .rw, 0, false, []⟩
/-- GFB_CH_CFG.ERR [31:31] W1C (R366). -/
def GFB_CH_CFG.ERR (i j : Nat) : Fld := ⟨(0xF01002100 + 1024 * i + 64 * j), 31, 1, .w1c, 0, false, []⟩
/-- GFB_CH_LANES.LANES [15:0] RW (R366). -/
def GFB_CH_LANES.LANES (i j : Nat) : Fld := ⟨(0xF01002104 + 1024 * i + 64 * j), 0, 16, .rw, 0, false, []⟩
/-- GFB_CH_BASE_LO.ADDR [31:0] RW (R366). -/
def GFB_CH_BASE_LO.ADDR (i j : Nat) : Fld := ⟨(0xF01002108 + 1024 * i + 64 * j), 0, 32, .rw, 0, false, []⟩
/-- GFB_CH_BASE_HI.ADDR [31:0] RW (R366). -/
def GFB_CH_BASE_HI.ADDR (i j : Nat) : Fld := ⟨(0xF0100210C + 1024 * i + 64 * j), 0, 32, .rw, 0, false, []⟩
/-- GFB_CH_SIZE.BYTES [31:0] RW (R366). -/
def GFB_CH_SIZE.BYTES (i j : Nat) : Fld := ⟨(0xF01002110 + 1024 * i + 64 * j), 0, 32, .rw, 0, false, []⟩
/-- GFB_CH_PTR.OFFSET [31:0] RO (R366). -/
def GFB_CH_PTR.OFFSET (i j : Nat) : Fld := ⟨(0xF01002114 + 1024 * i + 64 * j), 0, 32, .ro, 0, false, []⟩
/-- GFB_CH_FPTR.OFFSET [31:0] RW (R366). -/
def GFB_CH_FPTR.OFFSET (i j : Nat) : Fld := ⟨(0xF01002118 + 1024 * i + 64 * j), 0, 32, .rw, 0, false, []⟩
/-- GFB_CH_PKT_WORDS.WORDS [15:0] RW (R366). -/
def GFB_CH_PKT_WORDS.WORDS (i j : Nat) : Fld := ⟨(0xF0100211C + 1024 * i + 64 * j), 0, 16, .rw, 1, false, []⟩
/-- GFB_CH_DROP.COUNT [31:0] RO (R366). -/
def GFB_CH_DROP.COUNT (i j : Nat) : Fld := ⟨(0xF01002120 + 1024 * i + 64 * j), 0, 32, .ro, 0, false, []⟩
/-! IE window (08_engine_core_isa, R421). -/

/-- IE_ID.ENGINE [1:0] RO (R421). -/
def IE_ID.ENGINE (i : Nat) : Fld := ⟨(0xF02000000 + 4194304 * i), 0, 2, .ro, 0, true, []⟩
/-- IE_CTRL.EN [0:0] RW (R421). -/
def IE_CTRL.EN (i : Nat) : Fld := ⟨(0xF02000004 + 4194304 * i), 0, 1, .rw, 0, false, []⟩
/-- IE_CTRL.B0_AUTO_ABORT [1:1] RW (R421). -/
def IE_CTRL.B0_AUTO_ABORT (i : Nat) : Fld := ⟨(0xF02000004 + 4194304 * i), 1, 1, .rw, 1, false, []⟩
/-- IE_STAT.ACTIVE [1:0] RO (R421). -/
def IE_STAT.ACTIVE (i : Nat) : Fld := ⟨(0xF02000008 + 4194304 * i), 0, 2, .ro, 0, true, []⟩
/-- IE_STAT.SWITCHING [4:4] RO (R421). -/
def IE_STAT.SWITCHING (i : Nat) : Fld := ⟨(0xF02000008 + 4194304 * i), 4, 1, .ro, 0, true, []⟩
/-- IE_STAT.SB_USED [14:8] RO (R421). -/
def IE_STAT.SB_USED (i : Nat) : Fld := ⟨(0xF02000008 + 4194304 * i), 8, 7, .ro, 0, true, []⟩
/-- IE_STAT.DOORBELL [16:16] RO (R421). -/
def IE_STAT.DOORBELL (i : Nat) : Fld := ⟨(0xF02000008 + 4194304 * i), 16, 1, .ro, 0, true, []⟩
/-- IE_BANK_CTRL.RESUME [0:0] WO (R421). -/
def IE_BANK_CTRL.RESUME (i j : Nat) : Fld := ⟨(0xF02000100 + 4194304 * i + 128 * j), 0, 1, .wo, 0, false, []⟩
/-- IE_BANK_CTRL.ABORT [1:1] WO (R421). -/
def IE_BANK_CTRL.ABORT (i j : Nat) : Fld := ⟨(0xF02000100 + 4194304 * i + 128 * j), 1, 1, .wo, 0, false, []⟩
/-- IE_BANK_CTRL.EVICT [2:2] WO (R421). -/
def IE_BANK_CTRL.EVICT (i j : Nat) : Fld := ⟨(0xF02000100 + 4194304 * i + 128 * j), 2, 1, .wo, 0, false, []⟩
/-- IE_BANK_STAT.STATE [2:0] RO (R421). -/
def IE_BANK_STAT.STATE (i j : Nat) : Fld := ⟨(0xF02000104 + 4194304 * i + 128 * j), 0, 3, .ro, 0, true, []⟩
/-- IE_BANK_STAT.SB_HELD [14:8] RO (R421). -/
def IE_BANK_STAT.SB_HELD (i j : Nat) : Fld := ⟨(0xF02000104 + 4194304 * i + 128 * j), 8, 7, .ro, 0, true, []⟩
/-- IE_BANK_JOBQ.QUEUE [6:0] RW (R421). -/
def IE_BANK_JOBQ.QUEUE (i j : Nat) : Fld := ⟨(0xF02000108 + 4194304 * i + 128 * j), 0, 7, .rw, 0, false, []⟩
/-- IE_BANK_JOBQ.EN [8:8] RW (R421). -/
def IE_BANK_JOBQ.EN (i j : Nat) : Fld := ⟨(0xF02000108 + 4194304 * i + 128 * j), 8, 1, .rw, 0, false, []⟩
/-- IE_BANK_SS.BASE [9:0] RW (R421). -/
def IE_BANK_SS.BASE (i j : Nat) : Fld := ⟨(0xF0200010C + 4194304 * i + 128 * j), 0, 10, .rw, 0, false, []⟩
/-- IE_BANK_SS.SIZE [26:16] RW (R421). -/
def IE_BANK_SS.SIZE (i j : Nat) : Fld := ⟨(0xF0200010C + 4194304 * i + 128 * j), 16, 11, .rw, 0, false, []⟩
/-- IE_BANK_EXC.CAUSE [7:0] RO (R421). -/
def IE_BANK_EXC.CAUSE (i j : Nat) : Fld := ⟨(0xF02000110 + 4194304 * i + 128 * j), 0, 8, .ro, 0, false, []⟩
/-- IE_BANK_EXC.SLOT [10:8] RO (R421). -/
def IE_BANK_EXC.SLOT (i j : Nat) : Fld := ⟨(0xF02000110 + 4194304 * i + 128 * j), 8, 3, .ro, 0, false, []⟩
/-- IE_BANK_EXC.SUBCODE [23:16] RO (R421). -/
def IE_BANK_EXC.SUBCODE (i j : Nat) : Fld := ⟨(0xF02000110 + 4194304 * i + 128 * j), 16, 8, .ro, 0, false, []⟩
/-- IE_BANK_EXC.RESUMABLE [24:24] RO (R421). -/
def IE_BANK_EXC.RESUMABLE (i j : Nat) : Fld := ⟨(0xF02000110 + 4194304 * i + 128 * j), 24, 1, .ro, 0, false, []⟩
/-- IE_BANK_EXC.IMPRECISE [25:25] RO (R421). -/
def IE_BANK_EXC.IMPRECISE (i j : Nat) : Fld := ⟨(0xF02000110 + 4194304 * i + 128 * j), 25, 1, .ro, 0, false, []⟩
/-- IE_BANK_EXC_PC.PC [18:0] RO (R421). -/
def IE_BANK_EXC_PC.PC (i j : Nat) : Fld := ⟨(0xF02000114 + 4194304 * i + 128 * j), 0, 19, .ro, 0, false, []⟩
/-- IE_BANK_PROGRESS_LO.MASK [31:0] RO (R421). -/
def IE_BANK_PROGRESS_LO.MASK (i j : Nat) : Fld := ⟨(0xF02000118 + 4194304 * i + 128 * j), 0, 32, .ro, 0, true, []⟩
/-- IE_BANK_PROGRESS_HI.MASK [31:0] RO (R421). -/
def IE_BANK_PROGRESS_HI.MASK (i j : Nat) : Fld := ⟨(0xF0200011C + 4194304 * i + 128 * j), 0, 32, .ro, 0, true, []⟩
/-- IE_BANK_EVICT_LO.ADDR [31:0] RW (R421). -/
def IE_BANK_EVICT_LO.ADDR (i j : Nat) : Fld := ⟨(0xF02000120 + 4194304 * i + 128 * j), 0, 32, .rw, 0, false, []⟩
/-- IE_BANK_EVICT_HI.ADDR [31:0] RW (R421). -/
def IE_BANK_EVICT_HI.ADDR (i j : Nat) : Fld := ⟨(0xF02000124 + 4194304 * i + 128 * j), 0, 32, .rw, 0, false, []⟩
/-- IE_BANK_TAG.TAG [15:0] RO (R421). -/
def IE_BANK_TAG.TAG (i j : Nat) : Fld := ⟨(0xF02000128 + 4194304 * i + 128 * j), 0, 16, .ro, 0, true, []⟩
/-- IE_BANK_MSTAT.WFMT [3:0] RO (R421). -/
def IE_BANK_MSTAT.WFMT (i j : Nat) : Fld := ⟨(0xF02000140 + 4194304 * i + 128 * j), 0, 4, .ro, 0, true, []⟩
/-- IE_BANK_MSTAT.WLOADED [4:4] RO (R421). -/
def IE_BANK_MSTAT.WLOADED (i j : Nat) : Fld := ⟨(0xF02000140 + 4194304 * i + 128 * j), 4, 1, .ro, 0, true, []⟩
/-- IE_BANK_MSTAT.SCALED [5:5] RO (R421). -/
def IE_BANK_MSTAT.SCALED (i j : Nat) : Fld := ⟨(0xF02000140 + 4194304 * i + 128 * j), 5, 1, .ro, 0, true, []⟩
/-- IE_BANK_MSTAT.GSIZE [7:6] RO (R421). -/
def IE_BANK_MSTAT.GSIZE (i j : Nat) : Fld := ⟨(0xF02000140 + 4194304 * i + 128 * j), 6, 2, .ro, 0, true, []⟩
/-- IE_BANK_MSTAT.STATE_ERR [8:8] W1C (R421). -/
def IE_BANK_MSTAT.STATE_ERR (i j : Nat) : Fld := ⟨(0xF02000140 + 4194304 * i + 128 * j), 8, 1, .w1c, 0, false, []⟩
/-- IE_BANK_MSTAT.DRIFT [9:9] W1C (R421). -/
def IE_BANK_MSTAT.DRIFT (i j : Nat) : Fld := ⟨(0xF02000140 + 4194304 * i + 128 * j), 9, 1, .w1c, 0, false, []⟩
/-- IE_BANK_MSTAT.CLR_SAT [16:16] WO (R421). -/
def IE_BANK_MSTAT.CLR_SAT (i j : Nat) : Fld := ⟨(0xF02000140 + 4194304 * i + 128 * j), 16, 1, .wo, 0, false, []⟩
/-- IE_BANK_SAT_M.COUNT [31:0] RO (R421). -/
def IE_BANK_SAT_M.COUNT (i j : Nat) : Fld := ⟨(0xF02000144 + 4194304 * i + 128 * j), 0, 32, .ro, 0, false, []⟩
/-- IE_BANK_SAT_V.COUNT [31:0] RO (R421). -/
def IE_BANK_SAT_V.COUNT (i j : Nat) : Fld := ⟨(0xF02000148 + 4194304 * i + 128 * j), 0, 32, .ro, 0, false, []⟩
/-- IE_BANK_DRIFT_CFG.RATIO [15:0] RW (R421). -/
def IE_BANK_DRIFT_CFG.RATIO (i j : Nat) : Fld := ⟨(0xF0200014C + 4194304 * i + 128 * j), 0, 16, .rw, 66, false, []⟩
/-- IE_BANK_DRIFT_CFG.WLOG2 [20:16] RW (R421). -/
def IE_BANK_DRIFT_CFG.WLOG2 (i j : Nat) : Fld := ⟨(0xF0200014C + 4194304 * i + 128 * j), 16, 5, .rw, 20, false, []⟩
/-- IE_BANK_DRIFT_CFG.DRIFT_EN [31:31] RW (R421). -/
def IE_BANK_DRIFT_CFG.DRIFT_EN (i j : Nat) : Fld := ⟨(0xF0200014C + 4194304 * i + 128 * j), 31, 1, .rw, 0, false, []⟩
/-- IE_BANK_WIN_OUT.COUNT [31:0] RO (R421). -/
def IE_BANK_WIN_OUT.COUNT (i j : Nat) : Fld := ⟨(0xF02000150 + 4194304 * i + 128 * j), 0, 32, .ro, 0, false, []⟩
/-- IE_BANK_WIN_SAT.COUNT [31:0] RO (R421). -/
def IE_BANK_WIN_SAT.COUNT (i j : Nat) : Fld := ⟨(0xF02000154 + 4194304 * i + 128 * j), 0, 32, .ro, 0, false, []⟩
/-- IE_BANK_MODEL_ADDR_LO.ADDR [31:0] RW (R421). -/
def IE_BANK_MODEL_ADDR_LO.ADDR (i j : Nat) : Fld := ⟨(0xF02000158 + 4194304 * i + 128 * j), 0, 32, .rw, 0, false, []⟩
/-- IE_BANK_MODEL_ADDR_HI.ADDR [31:0] RW (R421). -/
def IE_BANK_MODEL_ADDR_HI.ADDR (i j : Nat) : Fld := ⟨(0xF0200015C + 4194304 * i + 128 * j), 0, 32, .rw, 0, false, []⟩
/-- IE_BANK_MODEL_ACT.CODE_AT [18:0] RW (R421). -/
def IE_BANK_MODEL_ACT.CODE_AT (i j : Nat) : Fld := ⟨(0xF02000160 + 4194304 * i + 128 * j), 0, 19, .rw, 0, false, []⟩
/-- IE_BANK_MODEL_ACT.DROP [30:30] WO (R421). -/
def IE_BANK_MODEL_ACT.DROP (i j : Nat) : Fld := ⟨(0xF02000160 + 4194304 * i + 128 * j), 30, 1, .wo, 0, false, []⟩
/-- IE_BANK_MODEL_ACT.GO [31:31] WO (R421). -/
def IE_BANK_MODEL_ACT.GO (i j : Nat) : Fld := ⟨(0xF02000160 + 4194304 * i + 128 * j), 31, 1, .wo, 0, false, []⟩
/-- IE_BANK_MODEL_STAT.STATE [2:0] RO (R421). -/
def IE_BANK_MODEL_STAT.STATE (i j : Nat) : Fld := ⟨(0xF02000164 + 4194304 * i + 128 * j), 0, 3, .ro, 0, false, []⟩
/-- IE_BANK_MODEL_STAT.BUSY [8:8] RO (R421). -/
def IE_BANK_MODEL_STAT.BUSY (i j : Nat) : Fld := ⟨(0xF02000164 + 4194304 * i + 128 * j), 8, 1, .ro, 0, false, []⟩
/-- IE_BANK_MODEL_STAT.REASON [19:16] RO (R421). -/
def IE_BANK_MODEL_STAT.REASON (i j : Nat) : Fld := ⟨(0xF02000164 + 4194304 * i + 128 * j), 16, 4, .ro, 0, false, []⟩
/-- IE_BANK_MODEL_ENTRY.ENTRY [18:0] RO (R421). -/
def IE_BANK_MODEL_ENTRY.ENTRY (i j : Nat) : Fld := ⟨(0xF02000168 + 4194304 * i + 128 * j), 0, 19, .ro, 0, false, []⟩
/-- IE_BANK_SPILL_BYTES.BYTES [31:0] RO (R421). -/
def IE_BANK_SPILL_BYTES.BYTES (i j : Nat) : Fld := ⟨(0xF0200016C + 4194304 * i + 128 * j), 0, 32, .ro, 0, false, []⟩
/-- IE_BANK_SPILL_WAIT.CYCLES [31:0] RO (R421). -/
def IE_BANK_SPILL_WAIT.CYCLES (i j : Nat) : Fld := ⟨(0xF02000170 + 4194304 * i + 128 * j), 0, 32, .ro, 0, false, []⟩
/-- IE_BANK_SPILL_MISS.COUNT [31:0] RO (R421). -/
def IE_BANK_SPILL_MISS.COUNT (i j : Nat) : Fld := ⟨(0xF02000174 + 4194304 * i + 128 * j), 0, 32, .ro, 0, false, []⟩
/-! RAD window (11_radio_converters_fronthaul, R552). -/

/-- RAD_CTRL.RELEASE [0:0] WO (R552). -/
def RAD_CTRL.RELEASE : Fld := ⟨0xF03000000, 0, 1, .wo, 0, false, []⟩
/-- RAD_CTRL.WITHDRAW [1:1] WO (R552). -/
def RAD_CTRL.WITHDRAW : Fld := ⟨0xF03000000, 1, 1, .wo, 0, false, []⟩
/-- RAD_STAT.RELEASED [0:0] RO (R552). -/
def RAD_STAT.RELEASED : Fld := ⟨0xF03000004, 0, 1, .ro, 0, false, []⟩
/-- RAD_STAT.CALIBRATING [1:1] RO (R552). -/
def RAD_STAT.CALIBRATING : Fld := ⟨0xF03000004, 1, 1, .ro, 0, false, []⟩
/-- RAD_STAT.ROLE [3:2] RO (R552). -/
def RAD_STAT.ROLE : Fld := ⟨0xF03000004, 2, 2, .ro, 0, false, []⟩
/-- RAD_STAT.MAX_LAYERS [6:4] RO (R552). -/
def RAD_STAT.MAX_LAYERS : Fld := ⟨0xF03000004, 4, 3, .ro, 0, false, []⟩
/-- RAD_STAT.STARTED [9:8] RO (R552). -/
def RAD_STAT.STARTED : Fld := ⟨0xF03000004, 8, 2, .ro, 0, false, []⟩
/-- RAD_STAT.REASON [23:16] RO (R552). -/
def RAD_STAT.REASON : Fld := ⟨0xF03000004, 16, 8, .ro, 0, false, []⟩
/-- RAD_STAT.CAUSE [31:24] RO (R552). -/
def RAD_STAT.CAUSE : Fld := ⟨0xF03000004, 24, 8, .ro, 0, false, []⟩
/-- RAD_ADC_OVR.COUNT [31:0] RO (R552). -/
def RAD_ADC_OVR.COUNT (i : Nat) : Fld := ⟨(0xF03000020 + 4 * i), 0, 32, .ro, 0, false, []⟩
/-- RAD_DAC_SAT.COUNT [31:0] RO (R552). -/
def RAD_DAC_SAT.COUNT (i : Nat) : Fld := ⟨(0xF03000030 + 4 * i), 0, 32, .ro, 0, false, []⟩
/-- RAD_FAPI_LATE.COUNT [31:0] RO (R552). -/
def RAD_FAPI_LATE.COUNT (i : Nat) : Fld := ⟨(0xF03000040 + 4 * i), 0, 32, .ro, 0, false, []⟩
/-- RAD_DL_EMPTY.COUNT [31:0] RO (R552). -/
def RAD_DL_EMPTY.COUNT (i : Nat) : Fld := ⟨(0xF03000048 + 4 * i), 0, 32, .ro, 0, false, []⟩
/-- RAD_BEAM_BASE_LO.ADDR [31:0] RW (R552). -/
def RAD_BEAM_BASE_LO.ADDR (i : Nat) : Fld := ⟨(0xF03000060 + 8 * i), 0, 32, .rw, 0, false, []⟩
/-- RAD_BEAM_BASE_HI.ADDR [31:0] RW (R552). -/
def RAD_BEAM_BASE_HI.ADDR (i : Nat) : Fld := ⟨(0xF03000064 + 8 * i), 0, 32, .rw, 0, false, []⟩
/-- RAD_BEAM_COMMIT.CARRIERS [1:0] WO (R552). -/
def RAD_BEAM_COMMIT.CARRIERS : Fld := ⟨0xF03000070, 0, 2, .wo, 0, false, []⟩
/-- RAD_ETH_CFG.EN [0:0] RW (R552). -/
def RAD_ETH_CFG.EN (i : Nat) : Fld := ⟨(0xF03000100 + 64 * i), 0, 1, .rw, 0, false, []⟩
/-- RAD_ETH_CFG.SPEED [2:1] RW (R552). -/
def RAD_ETH_CFG.SPEED (i : Nat) : Fld := ⟨(0xF03000100 + 64 * i), 1, 2, .rw, 1, false, [(0, 0), (3, 3)]⟩
/-- RAD_ETH_CFG.RS_FEC [3:3] RW (R552). -/
def RAD_ETH_CFG.RS_FEC (i : Nat) : Fld := ⟨(0xF03000100 + 64 * i), 3, 1, .rw, 1, false, []⟩
/-- RAD_ETH_STAT.LINK [0:0] RO (R552). -/
def RAD_ETH_STAT.LINK (i : Nat) : Fld := ⟨(0xF03000104 + 64 * i), 0, 1, .ro, 0, false, []⟩
/-- RAD_ETH_MAC_LO.MAC [31:0] RW (R552). -/
def RAD_ETH_MAC_LO.MAC (i : Nat) : Fld := ⟨(0xF03000108 + 64 * i), 0, 32, .rw, 0, false, []⟩
/-- RAD_ETH_MAC_HI.MAC [15:0] RW (R552). -/
def RAD_ETH_MAC_HI.MAC (i : Nat) : Fld := ⟨(0xF0300010C + 64 * i), 0, 16, .rw, 0, false, []⟩
/-- RAD_ETH_ON_TIME.COUNT [31:0] RO (R552). -/
def RAD_ETH_ON_TIME.COUNT (i : Nat) : Fld := ⟨(0xF03000110 + 64 * i), 0, 32, .ro, 0, false, []⟩
/-- RAD_ETH_EARLY.COUNT [31:0] RO (R552). -/
def RAD_ETH_EARLY.COUNT (i : Nat) : Fld := ⟨(0xF03000114 + 64 * i), 0, 32, .ro, 0, false, []⟩
/-- RAD_ETH_LATE.COUNT [31:0] RO (R552). -/
def RAD_ETH_LATE.COUNT (i : Nat) : Fld := ⟨(0xF03000118 + 64 * i), 0, 32, .ro, 0, false, []⟩
/-- RAD_ETH_DROP.COUNT [31:0] RO (R552). -/
def RAD_ETH_DROP.COUNT (i : Nat) : Fld := ⟨(0xF0300011C + 64 * i), 0, 32, .ro, 0, false, []⟩
/-! RADLR window (12_learned_receiver, R585). -/

/-- RAD_LR_CFG.GATE_MODE [1:0] RWS (R585). -/
def RAD_LR_CFG.GATE_MODE : Fld := ⟨0xF03001000, 0, 2, .rws, 1, false, [(3, 3)]⟩
/-- RAD_LR_CFG.ENGINES [7:4] RWS (R585). -/
def RAD_LR_CFG.ENGINES : Fld := ⟨0xF03001000, 4, 4, .rws, 15, false, []⟩
/-- RAD_LR_CFG.CQ [14:8] RW (R585). -/
def RAD_LR_CFG.CQ : Fld := ⟨0xF03001000, 8, 7, .rw, 0, false, []⟩
/-- RAD_LR_GUARD.TICKS [16:0] RWS (R585). -/
def RAD_LR_GUARD.TICKS : Fld := ⟨0xF03001004, 0, 17, .rws, 73728, false, []⟩
/-- RAD_LR_THRESH.THRESH0 [15:0] RWS (R585). -/
def RAD_LR_THRESH.THRESH0 : Fld := ⟨0xF03001008, 0, 16, .rws, 0xC000, false, []⟩
/-- RAD_LR_THRESH.THRESH1 [31:16] RWS (R585). -/
def RAD_LR_THRESH.THRESH1 : Fld := ⟨0xF03001008, 16, 16, .rws, 0xC000, false, []⟩
/-- RAD_LR_BUDGET.BASE [15:0] RWS (R585). -/
def RAD_LR_BUDGET.BASE : Fld := ⟨0xF0300100C, 0, 16, .rws, 320, false, []⟩
/-- RAD_LR_BUDGET.PER [31:16] RWS (R585). -/
def RAD_LR_BUDGET.PER : Fld := ⟨0xF0300100C, 16, 16, .rws, 6, false, []⟩
/-- RAD_LR_COMMIT.COMMIT [0:0] WO (R585). -/
def RAD_LR_COMMIT.COMMIT : Fld := ⟨0xF03001010, 0, 1, .wo, 0, false, []⟩
/-- RAD_LR_STAT.ELIGIBLE [3:0] RO (R585). -/
def RAD_LR_STAT.ELIGIBLE : Fld := ⟨0xF03001014, 0, 4, .ro, 0, true, []⟩
/-- RAD_LR_STAT.OVERDUE [7:4] RO (R585). -/
def RAD_LR_STAT.OVERDUE : Fld := ⟨0xF03001014, 4, 4, .ro, 0, true, []⟩
/-- RAD_LR_CLEAR.CLEAR [0:0] WO (R585). -/
def RAD_LR_CLEAR.CLEAR : Fld := ⟨0xF03001018, 0, 1, .wo, 0, false, []⟩
/-- RAD_LR_LAYERS.LAYERS [3:0] RW (R585). -/
def RAD_LR_LAYERS.LAYERS (i : Nat) : Fld := ⟨(0xF03001020 + 4 * i), 0, 4, .rw, 15, false, []⟩
/-- RAD_LR_CNT.COUNT [31:0] RO (R585). -/
def RAD_LR_CNT.COUNT (i j : Nat) : Fld := ⟨(0xF03001100 + 64 * i + 4 * j), 0, 32, .ro, 0, false, []⟩
/-- RAD_LDPC_CFG.MAX_ITER [4:0] RWS (R585). -/
def RAD_LDPC_CFG.MAX_ITER : Fld := ⟨0xF03001200, 0, 5, .rws, 8, false, []⟩
/-- RAD_LDPC_COMMIT.COMMIT [0:0] WO (R585). -/
def RAD_LDPC_COMMIT.COMMIT : Fld := ⟨0xF03001204, 0, 1, .wo, 0, false, []⟩
/-- RAD_LDPC_CUT.COUNT [31:0] RO (R585). -/
def RAD_LDPC_CUT.COUNT : Fld := ⟨0xF03001208, 0, 32, .ro, 0, false, []⟩
/-- RAD_LDPC_HARQ_FULL.COUNT [31:0] RO (R585). -/
def RAD_LDPC_HARQ_FULL.COUNT : Fld := ⟨0xF0300120C, 0, 32, .ro, 0, false, []⟩
/-- RAD_LDPC_SCALE.ENTRIES [31:0] RWS (R585). -/
def RAD_LDPC_SCALE.ENTRIES (i : Nat) : Fld := ⟨(0xF03001240 + 4 * i), 0, 32, .rws, 0xC0C0C0C0, false, []⟩
/-- RAD_HARQ_BASE_LO.ADDR [31:0] RW (R585). -/
def RAD_HARQ_BASE_LO.ADDR : Fld := ⟨0xF03001280, 0, 32, .rw, 0, false, []⟩
/-- RAD_HARQ_BASE_HI.ADDR [31:0] RW (R585). -/
def RAD_HARQ_BASE_HI.ADDR : Fld := ⟨0xF03001284, 0, 32, .rw, 0, false, []⟩
/-- RAD_HARQ_CFG.BUFS [6:0] RW (R585). -/
def RAD_HARQ_CFG.BUFS : Fld := ⟨0xF03001288, 0, 7, .rw, 0, false, []⟩
/-! VIS window (13_vision_privacy_compositor, R625). -/

/-- VIS_CTRL.EN [0:0] RW (R625). -/
def VIS_CTRL.EN : Fld := ⟨0xF03800000, 0, 1, .rw, 0, false, []⟩
/-- VIS_STAT.BUSY [0:0] RO (R625). -/
def VIS_STAT.BUSY : Fld := ⟨0xF03800004, 0, 1, .ro, 0, true, []⟩
/-- VIS_STAT.QUEUED [15:8] RO (R625). -/
def VIS_STAT.QUEUED : Fld := ⟨0xF03800004, 8, 8, .ro, 0, true, []⟩
/-- VIS_PROOF_BASE_LO.ADDR [31:0] RO (R625). -/
def VIS_PROOF_BASE_LO.ADDR : Fld := ⟨0xF03800010, 0, 32, .ro, 0, false, []⟩
/-- VIS_PROOF_BASE_HI.ADDR [31:0] RO (R625). -/
def VIS_PROOF_BASE_HI.ADDR : Fld := ⟨0xF03800014, 0, 32, .ro, 0, false, []⟩
/-- VIS_PROOF_SIZE.BYTES [31:0] RO (R625). -/
def VIS_PROOF_SIZE.BYTES : Fld := ⟨0xF03800018, 0, 32, .ro, 0, false, []⟩
/-- VIS_SIG_BASE_LO.ADDR [31:0] RO (R625). -/
def VIS_SIG_BASE_LO.ADDR : Fld := ⟨0xF03800020, 0, 32, .ro, 0, false, []⟩
/-- VIS_SIG_BASE_HI.ADDR [31:0] RO (R625). -/
def VIS_SIG_BASE_HI.ADDR : Fld := ⟨0xF03800024, 0, 32, .ro, 0, false, []⟩
/-- VIS_CSC.K [17:0] RW (R625). -/
def VIS_CSC.K (i : Nat) : Fld := ⟨(0xF03800030 + 4 * i), 0, 18, .rw, ([19133, 0, 29459, 19133, 258640, 253388, 19133, 34711, 0].getD i 0), false, []⟩
/-- VIS_CSC_OFS.OFS [29:0] RW (R625). -/
def VIS_CSC_OFS.OFS : Fld := ⟨0xF03800054, 0, 30, .rw, 537395264, false, []⟩
/-- VIS_COEF_COMMIT.COMMIT [0:0] WO (R625). -/
def VIS_COEF_COMMIT.COMMIT : Fld := ⟨0xF03800060, 0, 1, .wo, 0, false, []⟩
/-- VIS_STR_CFG.EN [0:0] RW (R625). -/
def VIS_STR_CFG.EN (i : Nat) : Fld := ⟨(0xF03801000 + 64 * i), 0, 1, .rw, 0, false, []⟩
/-- VIS_STR_CFG.CODEC [2:1] RW (R625). -/
def VIS_STR_CFG.CODEC (i : Nat) : Fld := ⟨(0xF03801000 + 64 * i), 1, 2, .rw, 1, false, [(0, 0), (3, 3)]⟩
/-- VIS_STR_CFG.INQ [14:8] RW (R625). -/
def VIS_STR_CFG.INQ (i : Nat) : Fld := ⟨(0xF03801000 + 64 * i), 8, 7, .rw, 0, false, []⟩
/-- VIS_STR_CFG.MAX_FPS [23:16] RW (R625). -/
def VIS_STR_CFG.MAX_FPS (i : Nat) : Fld := ⟨(0xF03801000 + 64 * i), 16, 8, .rw, 30, false, []⟩
/-- VIS_STR_SIZE.MAX_W [12:0] RW (R625). -/
def VIS_STR_SIZE.MAX_W (i : Nat) : Fld := ⟨(0xF03801004 + 64 * i), 0, 13, .rw, 1920, false, []⟩
/-- VIS_STR_SIZE.MAX_H [28:16] RW (R625). -/
def VIS_STR_SIZE.MAX_H (i : Nat) : Fld := ⟨(0xF03801004 + 64 * i), 16, 13, .rw, 1080, false, []⟩
/-- VIS_STR_SLOT_BASE_LO.ADDR [31:0] RW (R625). -/
def VIS_STR_SLOT_BASE_LO.ADDR (i : Nat) : Fld := ⟨(0xF03801008 + 64 * i), 0, 32, .rw, 0, false, []⟩
/-- VIS_STR_SLOT_BASE_HI.ADDR [31:0] RW (R625). -/
def VIS_STR_SLOT_BASE_HI.ADDR (i : Nat) : Fld := ⟨(0xF0380100C + 64 * i), 0, 32, .rw, 0, false, []⟩
/-- VIS_STR_SLOT.COUNT [4:0] RW (R625). -/
def VIS_STR_SLOT.COUNT (i : Nat) : Fld := ⟨(0xF03801010 + 64 * i), 0, 5, .rw, 8, false, []⟩
/-- VIS_STR_SLOT.PAGES [28:16] RW (R625). -/
def VIS_STR_SLOT.PAGES (i : Nat) : Fld := ⟨(0xF03801010 + 64 * i), 16, 13, .rw, 0, false, []⟩
/-- VIS_STR_STAT.STATE [1:0] RO (R625). -/
def VIS_STR_STAT.STATE (i : Nat) : Fld := ⟨(0xF03801014 + 64 * i), 0, 2, .ro, 0, false, []⟩
/-- VIS_STR_STAT.REASON [15:8] RO (R625). -/
def VIS_STR_STAT.REASON (i : Nat) : Fld := ⟨(0xF03801014 + 64 * i), 8, 8, .ro, 0, false, []⟩
/-- VIS_STR_FRAMES.COUNT [31:0] RO (R625). -/
def VIS_STR_FRAMES.COUNT (i : Nat) : Fld := ⟨(0xF03801018 + 64 * i), 0, 32, .ro, 0, false, []⟩
/-- VIS_STR_CONCEALED.COUNT [31:0] RO (R625). -/
def VIS_STR_CONCEALED.COUNT (i : Nat) : Fld := ⟨(0xF0380101C + 64 * i), 0, 32, .ro, 0, false, []⟩
/-- VIS_CH_CFG.EN [0:0] RW (R625). -/
def VIS_CH_CFG.EN (i : Nat) : Fld := ⟨(0xF03802000 + 64 * i), 0, 1, .rw, 0, false, []⟩
/-- VIS_CH_CFG.STREAM [5:1] RW (R625). -/
def VIS_CH_CFG.STREAM (i : Nat) : Fld := ⟨(0xF03802000 + 64 * i), 1, 5, .rw, 0, false, []⟩
/-- VIS_CH_CFG.CQ [14:8] RW (R625). -/
def VIS_CH_CFG.CQ (i : Nat) : Fld := ⟨(0xF03802000 + 64 * i), 8, 7, .rw, 0, false, []⟩
/-- VIS_CH_CFG.CONSUMER [23:16] RW (R625). -/
def VIS_CH_CFG.CONSUMER (i : Nat) : Fld := ⟨(0xF03802000 + 64 * i), 16, 8, .rw, 0, false, []⟩
/-- VIS_CH_DESC_LO.ADDR [31:0] RWS (R625). -/
def VIS_CH_DESC_LO.ADDR (i : Nat) : Fld := ⟨(0xF03802004 + 64 * i), 0, 32, .rws, 0, false, []⟩
/-- VIS_CH_DESC_HI.ADDR [31:0] RWS (R625). -/
def VIS_CH_DESC_HI.ADDR (i : Nat) : Fld := ⟨(0xF03802008 + 64 * i), 0, 32, .rws, 0, false, []⟩
/-- VIS_CH_COMMIT.COMMIT [0:0] WO (R625). -/
def VIS_CH_COMMIT.COMMIT (i : Nat) : Fld := ⟨(0xF0380200C + 64 * i), 0, 1, .wo, 0, false, []⟩
/-- VIS_CH_RETURN.BUF [1:0] WO (R625). -/
def VIS_CH_RETURN.BUF (i : Nat) : Fld := ⟨(0xF03802010 + 64 * i), 0, 2, .wo, 0, false, []⟩
/-- VIS_CH_RELEASED.COUNT [31:0] RO (R625). -/
def VIS_CH_RELEASED.COUNT (i : Nat) : Fld := ⟨(0xF03802014 + 64 * i), 0, 32, .ro, 0, false, []⟩
/-- VIS_CH_WITHHELD.COUNT [31:0] RO (R625). -/
def VIS_CH_WITHHELD.COUNT (i : Nat) : Fld := ⟨(0xF03802018 + 64 * i), 0, 32, .ro, 0, false, []⟩
/-- VIS_CH_OTHER.COUNT [31:0] RO (R625). -/
def VIS_CH_OTHER.COUNT (i : Nat) : Fld := ⟨(0xF0380201C + 64 * i), 0, 32, .ro, 0, false, []⟩
/-- VIS_COEF.TAP0 [15:0] RW (R625). -/
def VIS_COEF.TAP0 (i j : Nat) : Fld := ⟨(0xF03810000 + 16 * i + 4 * j), 0, 16, .rw, 0, true, []⟩
/-- VIS_COEF.TAP1 [31:16] RW (R625). -/
def VIS_COEF.TAP1 (i j : Nat) : Fld := ⟨(0xF03810000 + 16 * i + 4 * j), 16, 16, .rw, 0, true, []⟩
/-! CEL window (14_pins_plant_io, R690). -/

/-- CEL_PIN_CFG.DRIVE [3:0] RW (R690). -/
def CEL_PIN_CFG.DRIVE (i : Nat) : Fld := ⟨(0xF04000000 + 4 * i), 0, 4, .rw, 3, false, []⟩
/-- CEL_PIN_CFG.HYST [4:4] RW (R690). -/
def CEL_PIN_CFG.HYST (i : Nat) : Fld := ⟨(0xF04000000 + 4 * i), 4, 1, .rw, 1, false, []⟩
/-- CEL_PIN_CFG.TTL [5:5] RW (R690). -/
def CEL_PIN_CFG.TTL (i : Nat) : Fld := ⟨(0xF04000000 + 4 * i), 5, 1, .rw, 0, false, []⟩
/-- CEL_PIN_CFG.ANALOG [6:6] RW (R690). -/
def CEL_PIN_CFG.ANALOG (i : Nat) : Fld := ⟨(0xF04000000 + 4 * i), 6, 1, .rw, 0, false, []⟩
/-- CEL_PIN_CFG.OE [7:7] RW (R690). -/
def CEL_PIN_CFG.OE (i : Nat) : Fld := ⟨(0xF04000000 + 4 * i), 7, 1, .rw, 0, false, []⟩
/-- CEL_PIN_CFG.FUNC [11:8] RW (R690). -/
def CEL_PIN_CFG.FUNC (i : Nat) : Fld := ⟨(0xF04000000 + 4 * i), 8, 4, .rw, (if i = 48 then 1 else 0), false, [(7, 15)]⟩
/-- CEL_PIN_CFG.SIG [15:12] RW (R690). -/
def CEL_PIN_CFG.SIG (i : Nat) : Fld := ⟨(0xF04000000 + 4 * i), 12, 4, .rw, (if i = 48 then 12 else 0), false, []⟩
/-- CEL_PIN_CFG.PARK [18:16] RW (R690). -/
def CEL_PIN_CFG.PARK (i : Nat) : Fld := ⟨(0xF04000000 + 4 * i), 16, 3, .rw, 1, false, [(4, 7)]⟩
/-- CEL_PIN_CFG.PULL [21:20] RW (R690). -/
def CEL_PIN_CFG.PULL (i : Nat) : Fld := ⟨(0xF04000000 + 4 * i), 20, 2, .rw, 0, false, [(3, 3)]⟩
/-- CEL_PIN_CFG.OWNER [26:24] RW (R690). -/
def CEL_PIN_CFG.OWNER (i : Nat) : Fld := ⟨(0xF04000000 + 4 * i), 24, 3, .rw, 0, false, [(5, 7)]⟩
/-- CEL_GPIO_OUT.DATA [15:0] RW (R690). -/
def CEL_GPIO_OUT.DATA (i : Nat) : Fld := ⟨(0xF04000400 + 4 * i), 0, 16, .rw, 0, false, []⟩
/-- CEL_GPIO_IN.PAD [15:0] RO (R690). -/
def CEL_GPIO_IN.PAD (i : Nat) : Fld := ⟨(0xF04000440 + 4 * i), 0, 16, .ro, 0, true, []⟩
/-- CEL_PINQ_CFG.QUEUE [6:0] RW (R690). -/
def CEL_PINQ_CFG.QUEUE : Fld := ⟨0xF04000480, 0, 7, .rw, 0, false, []⟩
/-- CEL_PINQ_CFG.EN [8:8] RW (R690). -/
def CEL_PINQ_CFG.EN : Fld := ⟨0xF04000480, 8, 1, .rw, 0, false, []⟩
/-- CEL_PINQ_BAD.COUNT [31:0] RO (R690). -/
def CEL_PINQ_BAD.COUNT : Fld := ⟨0xF04000484, 0, 32, .ro, 0, false, []⟩
/-- CEL_PM_CFG.MODE [1:0] RW (R690). -/
def CEL_PM_CFG.MODE (i : Nat) : Fld := ⟨(0xF04000800 + 64 * i), 0, 2, .rw, 0, false, []⟩
/-- CEL_PM_CFG.WAKE [2:2] RW (R690). -/
def CEL_PM_CFG.WAKE (i : Nat) : Fld := ⟨(0xF04000800 + 64 * i), 2, 1, .rw, 0, false, []⟩
/-- CEL_PM_CFG.QEN [3:3] RW (R690). -/
def CEL_PM_CFG.QEN (i : Nat) : Fld := ⟨(0xF04000800 + 64 * i), 3, 1, .rw, 0, false, []⟩
/-- CEL_PM_CFG.QUEUE [14:8] RW (R690). -/
def CEL_PM_CFG.QUEUE (i : Nat) : Fld := ⟨(0xF04000800 + 64 * i), 8, 7, .rw, 0, false, []⟩
/-- CEL_PM_PAT.VAL_A [15:0] RW (R690). -/
def CEL_PM_PAT.VAL_A (i : Nat) : Fld := ⟨(0xF04000804 + 64 * i), 0, 16, .rw, 0, false, []⟩
/-- CEL_PM_PAT.VAL_B [31:16] RW (R690). -/
def CEL_PM_PAT.VAL_B (i : Nat) : Fld := ⟨(0xF04000804 + 64 * i), 16, 16, .rw, 0, false, []⟩
/-- CEL_PM_CARE.CARE_A [15:0] RW (R690). -/
def CEL_PM_CARE.CARE_A (i : Nat) : Fld := ⟨(0xF04000808 + 64 * i), 0, 16, .rw, 0, false, []⟩
/-- CEL_PM_CARE.CARE_B [31:16] RW (R690). -/
def CEL_PM_CARE.CARE_B (i : Nat) : Fld := ⟨(0xF04000808 + 64 * i), 16, 16, .rw, 0, false, []⟩
/-- CEL_PM_TIME.DB [15:0] RW (R690). -/
def CEL_PM_TIME.DB (i : Nat) : Fld := ⟨(0xF0400080C + 64 * i), 0, 16, .rw, 0, false, []⟩
/-- CEL_PM_TIME.WIN [31:16] RW (R690). -/
def CEL_PM_TIME.WIN (i : Nat) : Fld := ⟨(0xF0400080C + 64 * i), 16, 16, .rw, 0, false, []⟩
/-- CEL_PM_SEL.PIN0 [7:0] RW (R690). -/
def CEL_PM_SEL.PIN0 (i j : Nat) : Fld := ⟨(0xF04000810 + 64 * i + 4 * j), 0, 8, .rw, 0xFF, false, [(160, 254)]⟩
/-- CEL_PM_SEL.PIN1 [15:8] RW (R690). -/
def CEL_PM_SEL.PIN1 (i j : Nat) : Fld := ⟨(0xF04000810 + 64 * i + 4 * j), 8, 8, .rw, 0xFF, false, [(160, 254)]⟩
/-- CEL_PM_SEL.PIN2 [23:16] RW (R690). -/
def CEL_PM_SEL.PIN2 (i j : Nat) : Fld := ⟨(0xF04000810 + 64 * i + 4 * j), 16, 8, .rw, 0xFF, false, [(160, 254)]⟩
/-- CEL_PM_SEL.PIN3 [31:24] RW (R690). -/
def CEL_PM_SEL.PIN3 (i j : Nat) : Fld := ⟨(0xF04000810 + 64 * i + 4 * j), 24, 8, .rw, 0xFF, false, [(160, 254)]⟩
/-- CEL_PM_STAT.HIT [0:0] W1C (R690). -/
def CEL_PM_STAT.HIT (i : Nat) : Fld := ⟨(0xF04000820 + 64 * i), 0, 1, .w1c, 0, false, []⟩
/-- CEL_PM_STAT.OUT [1:1] RO (R690). -/
def CEL_PM_STAT.OUT (i : Nat) : Fld := ⟨(0xF04000820 + 64 * i), 1, 1, .ro, 0, false, []⟩
/-- CEL_PM_STAT.VEC [31:16] RO (R690). -/
def CEL_PM_STAT.VEC (i : Nat) : Fld := ⟨(0xF04000820 + 64 * i), 16, 16, .ro, 0, false, []⟩
/-- CEL_ADC_CFG.CH_EN [15:0] RW (R690). -/
def CEL_ADC_CFG.CH_EN : Fld := ⟨0xF04001000, 0, 16, .rw, 0, false, []⟩
/-- CEL_ADC_PERIOD.SLOTS [23:0] RW (R690). -/
def CEL_ADC_PERIOD.SLOTS : Fld := ⟨0xF04001004, 0, 24, .rw, 1003, false, []⟩
/-- CEL_ADC_RES.CODE [15:0] RO (R690). -/
def CEL_ADC_RES.CODE (i : Nat) : Fld := ⟨(0xF04001040 + 4 * i), 0, 16, .ro, 0, false, []⟩
/-- CEL_ADC_RES.SCAN [31:24] RO (R690). -/
def CEL_ADC_RES.SCAN (i : Nat) : Fld := ⟨(0xF04001040 + 4 * i), 24, 8, .ro, 0, false, []⟩
/-- CEL_CMP_CFG.EN [0:0] RW (R690). -/
def CEL_CMP_CFG.EN (i : Nat) : Fld := ⟨(0xF04001100 + 16 * i), 0, 1, .rw, 0, false, []⟩
/-- CEL_CMP_CFG.TRIP_EN [1:1] RW (R690). -/
def CEL_CMP_CFG.TRIP_EN (i : Nat) : Fld := ⟨(0xF04001100 + 16 * i), 1, 1, .rw, 0, false, []⟩
/-- CEL_CMP_CFG.TRIP_MASK [15:8] RW (R690). -/
def CEL_CMP_CFG.TRIP_MASK (i : Nat) : Fld := ⟨(0xF04001100 + 16 * i), 8, 8, .rw, 0, false, []⟩
/-- CEL_CMP_CFG.HYS [18:16] RW (R690). -/
def CEL_CMP_CFG.HYS (i : Nat) : Fld := ⟨(0xF04001100 + 16 * i), 16, 3, .rw, 2, false, []⟩
/-- CEL_CMP_THR.LO [9:0] RW (R690). -/
def CEL_CMP_THR.LO (i : Nat) : Fld := ⟨(0xF04001104 + 16 * i), 0, 10, .rw, 0, false, []⟩
/-- CEL_CMP_THR.HI [25:16] RW (R690). -/
def CEL_CMP_THR.HI (i : Nat) : Fld := ⟨(0xF04001104 + 16 * i), 16, 10, .rw, 1023, false, []⟩
/-- CEL_CMP_STAT.OUT [0:0] RO (R690). -/
def CEL_CMP_STAT.OUT (i : Nat) : Fld := ⟨(0xF04001108 + 16 * i), 0, 1, .ro, 0, false, []⟩
/-- CEL_TACH.FREQ [15:0] RO (R690). -/
def CEL_TACH.FREQ (i : Nat) : Fld := ⟨(0xF04001180 + 4 * i), 0, 16, .ro, 0, false, []⟩
/-- CEL_TRIP_STAT.LATCHED [7:0] W1C (R690). -/
def CEL_TRIP_STAT.LATCHED : Fld := ⟨0xF040011C0, 0, 8, .w1c, 0, false, []⟩
/-- CEL_PWM_CFG.EN [0:0] RW (R690). -/
def CEL_PWM_CFG.EN (i : Nat) : Fld := ⟨(0xF04001200 + 16 * i), 0, 1, .rw, 0, false, []⟩
/-- CEL_PWM_CFG.OFF_H [1:1] RW (R690). -/
def CEL_PWM_CFG.OFF_H (i : Nat) : Fld := ⟨(0xF04001200 + 16 * i), 1, 1, .rw, 0, false, []⟩
/-- CEL_PWM_CFG.OFF_L [2:2] RW (R690). -/
def CEL_PWM_CFG.OFF_L (i : Nat) : Fld := ⟨(0xF04001200 + 16 * i), 2, 1, .rw, 0, false, []⟩
/-- CEL_PWM_CFG.PRESCALE [15:8] RW (R690). -/
def CEL_PWM_CFG.PRESCALE (i : Nat) : Fld := ⟨(0xF04001200 + 16 * i), 8, 8, .rw, 0, false, []⟩
/-- CEL_PWM_PERIOD.COUNT [15:0] RWS (R690). -/
def CEL_PWM_PERIOD.COUNT (i : Nat) : Fld := ⟨(0xF04001204 + 16 * i), 0, 16, .rws, 0, false, []⟩
/-- CEL_PWM_DUTY.COUNT [15:0] RWS (R690). -/
def CEL_PWM_DUTY.COUNT (i : Nat) : Fld := ⟨(0xF04001208 + 16 * i), 0, 16, .rws, 0, false, []⟩
/-- CEL_PWM_DEAD.COUNT [9:0] RWS (R690). -/
def CEL_PWM_DEAD.COUNT (i : Nat) : Fld := ⟨(0xF0400120C + 16 * i), 0, 10, .rws, 0, false, []⟩
/-- CEL_PWM_COMMIT.CHANNELS [7:0] WO (R690). -/
def CEL_PWM_COMMIT.CHANNELS : Fld := ⟨0xF04001280, 0, 8, .wo, 0, false, []⟩
/-- CEL_PLE_CFG.EN [0:0] RW (R690). -/
def CEL_PLE_CFG.EN (i : Nat) : Fld := ⟨(0xF04001400 + 32 * i), 0, 1, .rw, 0, false, []⟩
/-- CEL_PLE_CFG.SRC_KIND [2:1] RW (R690). -/
def CEL_PLE_CFG.SRC_KIND (i : Nat) : Fld := ⟨(0xF04001400 + 32 * i), 1, 2, .rw, 0, false, [(3, 3)]⟩
/-- CEL_PLE_CFG.SRC [7:4] RW (R690). -/
def CEL_PLE_CFG.SRC (i : Nat) : Fld := ⟨(0xF04001400 + 32 * i), 4, 4, .rw, 0, false, []⟩
/-- CEL_PLE_CFG.INV [8:8] RW (R690). -/
def CEL_PLE_CFG.INV (i : Nat) : Fld := ⟨(0xF04001400 + 32 * i), 8, 1, .rw, 0, false, []⟩
/-- CEL_PLE_CFG.PWM [14:12] RW (R690). -/
def CEL_PLE_CFG.PWM (i : Nat) : Fld := ⟨(0xF04001400 + 32 * i), 12, 3, .rw, 0, false, []⟩
/-- CEL_PLE_CFG.OUT_EN [15:15] RW (R690). -/
def CEL_PLE_CFG.OUT_EN (i : Nat) : Fld := ⟨(0xF04001400 + 32 * i), 15, 1, .rw, 0, false, []⟩
/-- CEL_PLE_CFG.PERIOD_MS [29:16] RW (R690). -/
def CEL_PLE_CFG.PERIOD_MS (i : Nat) : Fld := ⟨(0xF04001400 + 32 * i), 16, 14, .rw, 1000, false, []⟩
/-- CEL_PLE_SP.SP [15:0] RW (R690). -/
def CEL_PLE_SP.SP (i : Nat) : Fld := ⟨(0xF04001404 + 32 * i), 0, 16, .rw, 0, false, []⟩
/-- CEL_PLE_SP.PV_REG [31:16] RW (R690). -/
def CEL_PLE_SP.PV_REG (i : Nat) : Fld := ⟨(0xF04001404 + 32 * i), 16, 16, .rw, 0, false, []⟩
/-- CEL_PLE_GAIN.KP [15:0] RW (R690). -/
def CEL_PLE_GAIN.KP (i : Nat) : Fld := ⟨(0xF04001408 + 32 * i), 0, 16, .rw, 0, false, []⟩
/-- CEL_PLE_GAIN.KI [31:16] RW (R690). -/
def CEL_PLE_GAIN.KI (i : Nat) : Fld := ⟨(0xF04001408 + 32 * i), 16, 16, .rw, 0, false, []⟩
/-- CEL_PLE_LIM.OUT_MIN [15:0] RW (R690). -/
def CEL_PLE_LIM.OUT_MIN (i : Nat) : Fld := ⟨(0xF0400140C + 32 * i), 0, 16, .rw, 0, false, []⟩
/-- CEL_PLE_LIM.OUT_MAX [31:16] RW (R690). -/
def CEL_PLE_LIM.OUT_MAX (i : Nat) : Fld := ⟨(0xF0400140C + 32 * i), 16, 16, .rw, 65535, false, []⟩
/-- CEL_PLE_SLEW.SLEW [15:0] RW (R690). -/
def CEL_PLE_SLEW.SLEW (i : Nat) : Fld := ⟨(0xF04001410 + 32 * i), 0, 16, .rw, 0, false, []⟩
/-- CEL_PLE_INTEG.INTEG [31:0] RW (R690). -/
def CEL_PLE_INTEG.INTEG (i : Nat) : Fld := ⟨(0xF04001414 + 32 * i), 0, 32, .rw, 0, false, []⟩
/-- CEL_PLE_OUT.OUT [15:0] RO (R690). -/
def CEL_PLE_OUT.OUT (i : Nat) : Fld := ⟨(0xF04001418 + 32 * i), 0, 16, .ro, 0, false, []⟩
/-- CEL_PLE_OUT.PV [31:16] RO (R690). -/
def CEL_PLE_OUT.PV (i : Nat) : Fld := ⟨(0xF04001418 + 32 * i), 16, 16, .ro, 0, false, []⟩
/-- CEL_PLE_STAT.NOSRC [0:0] W1C (R690). -/
def CEL_PLE_STAT.NOSRC (i : Nat) : Fld := ⟨(0xF0400141C + 32 * i), 0, 1, .w1c, 0, false, []⟩
/-- CEL_PLE_STAT.LIMITED [1:1] RO (R690). -/
def CEL_PLE_STAT.LIMITED (i : Nat) : Fld := ⟨(0xF0400141C + 32 * i), 1, 1, .ro, 0, false, []⟩
/-- CEL_UART_CFG.EN [0:0] RW (R690). -/
def CEL_UART_CFG.EN (i : Nat) : Fld := ⟨(0xF04001800 + 64 * i), 0, 1, .rw, 0, false, []⟩
/-- CEL_UART_CFG.BITLEN [19:4] RW (R690). -/
def CEL_UART_CFG.BITLEN (i : Nat) : Fld := ⟨(0xF04001800 + 64 * i), 4, 16, .rw, 5120, false, []⟩
/-- CEL_UART_CFG.FRAC [23:20] RW (R690). -/
def CEL_UART_CFG.FRAC (i : Nat) : Fld := ⟨(0xF04001800 + 64 * i), 20, 4, .rw, 0, false, []⟩
/-- CEL_UART_FMT.SEVEN [0:0] RW (R690). -/
def CEL_UART_FMT.SEVEN (i : Nat) : Fld := ⟨(0xF04001804 + 64 * i), 0, 1, .rw, 0, false, []⟩
/-- CEL_UART_FMT.PAR [2:1] RW (R690). -/
def CEL_UART_FMT.PAR (i : Nat) : Fld := ⟨(0xF04001804 + 64 * i), 1, 2, .rw, 1, false, [(3, 3)]⟩
/-- CEL_UART_FMT.STOP2 [3:3] RW (R690). -/
def CEL_UART_FMT.STOP2 (i : Nat) : Fld := ⟨(0xF04001804 + 64 * i), 3, 1, .rw, 0, false, []⟩
/-- CEL_UART_FMT.MODBUS [4:4] RW (R690). -/
def CEL_UART_FMT.MODBUS (i : Nat) : Fld := ⟨(0xF04001804 + 64 * i), 4, 1, .rw, 1, false, []⟩
/-- CEL_UART_FMT.DE_HOLD [11:8] RW (R690). -/
def CEL_UART_FMT.DE_HOLD (i : Nat) : Fld := ⟨(0xF04001804 + 64 * i), 8, 4, .rw, 1, false, []⟩
/-- CEL_UART_TXD.BYTE [7:0] WO (R690). -/
def CEL_UART_TXD.BYTE (i : Nat) : Fld := ⟨(0xF04001808 + 64 * i), 0, 8, .wo, 0, false, []⟩
/-- CEL_UART_TXD.END [8:8] WO (R690). -/
def CEL_UART_TXD.END (i : Nat) : Fld := ⟨(0xF04001808 + 64 * i), 8, 1, .wo, 0, false, []⟩
/-- CEL_UART_RXD.RXD [11:0] RO (R690). -/
def CEL_UART_RXD.RXD (i : Nat) : Fld := ⟨(0xF0400180C + 64 * i), 0, 12, .ro, 0, true, []⟩
/-- CEL_UART_STAT.TX_LEVEL [8:0] RO (R690). -/
def CEL_UART_STAT.TX_LEVEL (i : Nat) : Fld := ⟨(0xF04001810 + 64 * i), 0, 9, .ro, 0, true, []⟩
/-- CEL_UART_STAT.RX_LEVEL [24:16] RO (R690). -/
def CEL_UART_STAT.RX_LEVEL (i : Nat) : Fld := ⟨(0xF04001810 + 64 * i), 16, 9, .ro, 0, true, []⟩
/-- CEL_UART_RX_LOST.COUNT [31:0] RO (R690). -/
def CEL_UART_RX_LOST.COUNT (i : Nat) : Fld := ⟨(0xF04001814 + 64 * i), 0, 32, .ro, 0, false, []⟩
/-- CEL_I2C_CFG.SPEED [1:0] RW (R690). -/
def CEL_I2C_CFG.SPEED (i : Nat) : Fld := ⟨(0xF04001A00 + 128 * i), 0, 2, .rw, 0, false, [(3, 3)]⟩
/-- CEL_I2C_CFG.EN [4:4] RW (R690). -/
def CEL_I2C_CFG.EN (i : Nat) : Fld := ⟨(0xF04001A00 + 128 * i), 4, 1, .rw, 0, false, []⟩
/-- CEL_I2C_CMD.ADDR [6:0] WO (R690). -/
def CEL_I2C_CMD.ADDR (i : Nat) : Fld := ⟨(0xF04001A04 + 128 * i), 0, 7, .wo, 0, false, []⟩
/-- CEL_I2C_CMD.READ [7:7] WO (R690). -/
def CEL_I2C_CMD.READ (i : Nat) : Fld := ⟨(0xF04001A04 + 128 * i), 7, 1, .wo, 0, false, []⟩
/-- CEL_I2C_CMD.LEN [14:8] WO (R690). -/
def CEL_I2C_CMD.LEN (i : Nat) : Fld := ⟨(0xF04001A04 + 128 * i), 8, 7, .wo, 0, false, []⟩
/-- CEL_I2C_CMD.STOP [15:15] WO (R690). -/
def CEL_I2C_CMD.STOP (i : Nat) : Fld := ⟨(0xF04001A04 + 128 * i), 15, 1, .wo, 0, false, []⟩
/-- CEL_I2C_STAT.BUSY [0:0] RO (R690). -/
def CEL_I2C_STAT.BUSY (i : Nat) : Fld := ⟨(0xF04001A08 + 128 * i), 0, 1, .ro, 0, false, []⟩
/-- CEL_I2C_STAT.NACK [1:1] RO (R690). -/
def CEL_I2C_STAT.NACK (i : Nat) : Fld := ⟨(0xF04001A08 + 128 * i), 1, 1, .ro, 0, false, []⟩
/-- CEL_I2C_STAT.ARB_LOST [2:2] RO (R690). -/
def CEL_I2C_STAT.ARB_LOST (i : Nat) : Fld := ⟨(0xF04001A08 + 128 * i), 2, 1, .ro, 0, false, []⟩
/-- CEL_I2C_STAT.TIMEOUT [3:3] RO (R690). -/
def CEL_I2C_STAT.TIMEOUT (i : Nat) : Fld := ⟨(0xF04001A08 + 128 * i), 3, 1, .ro, 0, false, []⟩
/-- CEL_I2C_STAT.DONE [14:8] RO (R690). -/
def CEL_I2C_STAT.DONE (i : Nat) : Fld := ⟨(0xF04001A08 + 128 * i), 8, 7, .ro, 0, false, []⟩
/-- CEL_I2C_DATA.DATA [31:0] RW (R690). -/
def CEL_I2C_DATA.DATA (i j : Nat) : Fld := ⟨(0xF04001A40 + 128 * i + 4 * j), 0, 32, .rw, 0, false, []⟩
/-- CEL_SPI_CMD.LEN [6:0] WO (R690). -/
def CEL_SPI_CMD.LEN (i : Nat) : Fld := ⟨(0xF04001B00 + 128 * i), 0, 7, .wo, 0, false, []⟩
/-- CEL_SPI_CMD.CS [9:8] WO (R690). -/
def CEL_SPI_CMD.CS (i : Nat) : Fld := ⟨(0xF04001B00 + 128 * i), 8, 2, .wo, 0, false, []⟩
/-- CEL_SPI_CMD.MODE [13:12] WO (R690). -/
def CEL_SPI_CMD.MODE (i : Nat) : Fld := ⟨(0xF04001B00 + 128 * i), 12, 2, .wo, 0, false, []⟩
/-- CEL_SPI_CMD.DIV [23:16] WO (R690). -/
def CEL_SPI_CMD.DIV (i : Nat) : Fld := ⟨(0xF04001B00 + 128 * i), 16, 8, .wo, 0, false, []⟩
/-- CEL_SPI_CMD.HOLD_CS [24:24] WO (R690). -/
def CEL_SPI_CMD.HOLD_CS (i : Nat) : Fld := ⟨(0xF04001B00 + 128 * i), 24, 1, .wo, 0, false, []⟩
/-- CEL_SPI_STAT.BUSY [0:0] RO (R690). -/
def CEL_SPI_STAT.BUSY (i : Nat) : Fld := ⟨(0xF04001B08 + 128 * i), 0, 1, .ro, 0, false, []⟩
/-- CEL_SPI_DATA.DATA [31:0] RW (R690). -/
def CEL_SPI_DATA.DATA (i j : Nat) : Fld := ⟨(0xF04001B40 + 128 * i + 4 * j), 0, 32, .rw, 0, false, []⟩
/-- CEL_CAN_CTRL.EN [0:0] RW (R690). -/
def CEL_CAN_CTRL.EN (i : Nat) : Fld := ⟨(0xF04004000 + 16384 * i), 0, 1, .rw, 0, false, []⟩
/-- CEL_CAN_CTRL.FD [1:1] RW (R690). -/
def CEL_CAN_CTRL.FD (i : Nat) : Fld := ⟨(0xF04004000 + 16384 * i), 1, 1, .rw, 0, false, []⟩
/-- CEL_CAN_CTRL.LISTEN [2:2] RW (R690). -/
def CEL_CAN_CTRL.LISTEN (i : Nat) : Fld := ⟨(0xF04004000 + 16384 * i), 2, 1, .rw, 0, false, []⟩
/-- CEL_CAN_CTRL.AUTO_REC [3:3] RW (R690). -/
def CEL_CAN_CTRL.AUTO_REC (i : Nat) : Fld := ⟨(0xF04004000 + 16384 * i), 3, 1, .rw, 0, false, []⟩
/-- CEL_CAN_CTRL.TDC [4:4] RW (R690). -/
def CEL_CAN_CTRL.TDC (i : Nat) : Fld := ⟨(0xF04004000 + 16384 * i), 4, 1, .rw, 0, false, []⟩
/-- CEL_CAN_NBT.BRP [7:0] RW (R690). -/
def CEL_CAN_NBT.BRP (i : Nat) : Fld := ⟨(0xF04004004 + 16384 * i), 0, 8, .rw, 0x01, false, []⟩
/-- CEL_CAN_NBT.TSEG1 [15:8] RW (R690). -/
def CEL_CAN_NBT.TSEG1 (i : Nat) : Fld := ⟨(0xF04004004 + 16384 * i), 8, 8, .rw, 0x3F, false, []⟩
/-- CEL_CAN_NBT.TSEG2 [22:16] RW (R690). -/
def CEL_CAN_NBT.TSEG2 (i : Nat) : Fld := ⟨(0xF04004004 + 16384 * i), 16, 7, .rw, 0x10, false, []⟩
/-- CEL_CAN_NBT.SJW [30:24] RW (R690). -/
def CEL_CAN_NBT.SJW (i : Nat) : Fld := ⟨(0xF04004004 + 16384 * i), 24, 7, .rw, 0x10, false, []⟩
/-- CEL_CAN_DBT.BRP [4:0] RW (R690). -/
def CEL_CAN_DBT.BRP (i : Nat) : Fld := ⟨(0xF04004008 + 16384 * i), 0, 5, .rw, 0, false, []⟩
/-- CEL_CAN_DBT.TSEG1 [12:8] RW (R690). -/
def CEL_CAN_DBT.TSEG1 (i : Nat) : Fld := ⟨(0xF04004008 + 16384 * i), 8, 5, .rw, 4, false, []⟩
/-- CEL_CAN_DBT.TSEG2 [19:16] RW (R690). -/
def CEL_CAN_DBT.TSEG2 (i : Nat) : Fld := ⟨(0xF04004008 + 16384 * i), 16, 4, .rw, 3, false, []⟩
/-- CEL_CAN_DBT.SJW [27:24] RW (R690). -/
def CEL_CAN_DBT.SJW (i : Nat) : Fld := ⟨(0xF04004008 + 16384 * i), 24, 4, .rw, 3, false, []⟩
/-- CEL_CAN_STAT.TEC [7:0] RO (R690). -/
def CEL_CAN_STAT.TEC (i : Nat) : Fld := ⟨(0xF04004010 + 16384 * i), 0, 8, .ro, 0, false, []⟩
/-- CEL_CAN_STAT.REC [15:8] RO (R690). -/
def CEL_CAN_STAT.REC (i : Nat) : Fld := ⟨(0xF04004010 + 16384 * i), 8, 8, .ro, 0, false, []⟩
/-- CEL_CAN_STAT.STATE [17:16] RO (R690). -/
def CEL_CAN_STAT.STATE (i : Nat) : Fld := ⟨(0xF04004010 + 16384 * i), 16, 2, .ro, 0, false, []⟩
/-- CEL_CAN_TX_REQ.SLOTS [15:0] WO (R690). -/
def CEL_CAN_TX_REQ.SLOTS (i : Nat) : Fld := ⟨(0xF04004014 + 16384 * i), 0, 16, .wo, 0, false, []⟩
/-- CEL_CAN_TX_PEND.SLOTS [15:0] RO (R690). -/
def CEL_CAN_TX_PEND.SLOTS (i : Nat) : Fld := ⟨(0xF04004018 + 16384 * i), 0, 16, .ro, 0, false, []⟩
/-- CEL_CAN_TX_DONE.SLOTS [15:0] W1C (R690). -/
def CEL_CAN_TX_DONE.SLOTS (i : Nat) : Fld := ⟨(0xF0400401C + 16384 * i), 0, 16, .w1c, 0, false, []⟩
/-- CEL_CAN_RX_STAT.COUNT [6:0] RO (R690). -/
def CEL_CAN_RX_STAT.COUNT (i : Nat) : Fld := ⟨(0xF04004020 + 16384 * i), 0, 7, .ro, 0, false, []⟩
/-- CEL_CAN_RX_STAT.HEAD [21:16] RO (R690). -/
def CEL_CAN_RX_STAT.HEAD (i : Nat) : Fld := ⟨(0xF04004020 + 16384 * i), 16, 6, .ro, 0, false, []⟩
/-- CEL_CAN_RX_POP.POP [0:0] WO (R690). -/
def CEL_CAN_RX_POP.POP (i : Nat) : Fld := ⟨(0xF04004024 + 16384 * i), 0, 1, .wo, 0, false, []⟩
/-- CEL_CAN_RX_LOST.COUNT [31:0] RO (R690). -/
def CEL_CAN_RX_LOST.COUNT (i : Nat) : Fld := ⟨(0xF04004028 + 16384 * i), 0, 32, .ro, 0, false, []⟩
/-- CEL_CAN_FLT.ID [28:0] RW (R690). -/
def CEL_CAN_FLT.ID (i j : Nat) : Fld := ⟨(0xF04004100 + 16384 * i + 8 * j), 0, 29, .rw, 0, false, []⟩
/-- CEL_CAN_FLT.XTD [29:29] RW (R690). -/
def CEL_CAN_FLT.XTD (i j : Nat) : Fld := ⟨(0xF04004100 + 16384 * i + 8 * j), 29, 1, .rw, 0, false, []⟩
/-- CEL_CAN_FLT.EN [31:31] RW (R690). -/
def CEL_CAN_FLT.EN (i j : Nat) : Fld := ⟨(0xF04004100 + 16384 * i + 8 * j), 31, 1, .rw, 0, false, []⟩
/-- CEL_CAN_MASK.MASK [28:0] RW (R690). -/
def CEL_CAN_MASK.MASK (i j : Nat) : Fld := ⟨(0xF04004104 + 16384 * i + 8 * j), 0, 29, .rw, 0, false, []⟩
/-- CEL_CAN_MASK.WAKE [31:31] RW (R690). -/
def CEL_CAN_MASK.WAKE (i j : Nat) : Fld := ⟨(0xF04004104 + 16384 * i + 8 * j), 31, 1, .rw, 0, false, []⟩
/-! CELSVC window (15_cellar_services, R727). -/

/-- CEL_AUDIO_CFG.EN [0:0] RW (R727). -/
def CEL_AUDIO_CFG.EN : Fld := ⟨0xF04020000, 0, 1, .rw, 0, false, []⟩
/-- CEL_AUDIO_CFG.PDM_DIV [1:1] RW (R727). -/
def CEL_AUDIO_CFG.PDM_DIV : Fld := ⟨0xF04020000, 1, 1, .rw, 0, false, []⟩
/-- CEL_AUDIO_CFG.MIC_EN [5:4] RW (R727). -/
def CEL_AUDIO_CFG.MIC_EN : Fld := ⟨0xF04020000, 4, 2, .rw, 0, false, []⟩
/-- CEL_AUDIO_CFG.GAIN0 [11:8] RW (R727). -/
def CEL_AUDIO_CFG.GAIN0 : Fld := ⟨0xF04020000, 8, 4, .rw, 0, false, [(8, 15)]⟩
/-- CEL_AUDIO_CFG.GAIN1 [15:12] RW (R727). -/
def CEL_AUDIO_CFG.GAIN1 : Fld := ⟨0xF04020000, 12, 4, .rw, 0, false, [(8, 15)]⟩
/-- CEL_AUDIO_STAT.SRC [1:0] RO (R727). -/
def CEL_AUDIO_STAT.SRC : Fld := ⟨0xF04020004, 0, 2, .ro, 1, false, []⟩
/-- CEL_AUDIO_STAT.GLITCH [15:8] RO (R727). -/
def CEL_AUDIO_STAT.GLITCH : Fld := ⟨0xF04020004, 8, 8, .ro, 0, false, []⟩
/-- CEL_AUDIO_SAMPLES.SAMPLE_CNT [31:0] RO (R727). -/
def CEL_AUDIO_SAMPLES.SAMPLE_CNT : Fld := ⟨0xF04020008, 0, 32, .ro, 0, false, []⟩
/-- CEL_AUDIO_CLIP.COUNT [31:0] RO (R727). -/
def CEL_AUDIO_CLIP.COUNT (i : Nat) : Fld := ⟨(0xF0402000C + 4 * i), 0, 32, .ro, 0, false, []⟩
/-- CEL_SPOT_CFG.EN [0:0] RW (R727). -/
def CEL_SPOT_CFG.EN : Fld := ⟨0xF04020100, 0, 1, .rw, 0, false, []⟩
/-- CEL_SPOT_CFG.MIC_SEL [2:1] RW (R727). -/
def CEL_SPOT_CFG.MIC_SEL : Fld := ⟨0xF04020100, 1, 2, .rw, 0, false, [(3, 3)]⟩
/-- CEL_SPOT_CFG.THRESH [15:8] RW (R727). -/
def CEL_SPOT_CFG.THRESH : Fld := ⟨0xF04020100, 8, 8, .rw, 192, false, []⟩
/-- CEL_SPOT_CFG.REFRACT [31:16] RW (R727). -/
def CEL_SPOT_CFG.REFRACT : Fld := ⟨0xF04020100, 16, 16, .rw, 200, false, []⟩
/-- CEL_SPOT_STAT.SCORE [7:0] RO (R727). -/
def CEL_SPOT_STAT.SCORE : Fld := ⟨0xF04020104, 0, 8, .ro, 0, false, []⟩
/-- CEL_SPOT_STAT.REASON [11:8] RO (R727). -/
def CEL_SPOT_STAT.REASON : Fld := ⟨0xF04020104, 8, 4, .ro, 0, false, []⟩
/-- CEL_WAKE_SEQ.SEQ [31:0] RO (R727). -/
def CEL_WAKE_SEQ.SEQ : Fld := ⟨0xF04020110, 0, 32, .ro, 0, false, []⟩
/-- CEL_WAKE_SAMPLE.SAMPLE [31:0] RO (R727). -/
def CEL_WAKE_SAMPLE.SAMPLE : Fld := ⟨0xF04020114, 0, 32, .ro, 0, false, []⟩
/-- CEL_WAKE_REC.SCORE [7:0] RO (R727). -/
def CEL_WAKE_REC.SCORE : Fld := ⟨0xF04020118, 0, 8, .ro, 0, false, []⟩
/-- CEL_WAKE_REC.VSTATE [10:8] RO (R727). -/
def CEL_WAKE_REC.VSTATE : Fld := ⟨0xF04020118, 8, 3, .ro, 0, false, []⟩
/-- CEL_WAKE_REC.MODE [14:12] RO (R727). -/
def CEL_WAKE_REC.MODE : Fld := ⟨0xF04020118, 12, 3, .ro, 0, false, []⟩
/-- CEL_WAKE_REC.VSCORE [23:16] RO (R727). -/
def CEL_WAKE_REC.VSCORE : Fld := ⟨0xF04020118, 16, 8, .ro, 0, false, []⟩
/-- CEL_VER_CFG.EN [0:0] RW (R727). -/
def CEL_VER_CFG.EN : Fld := ⟨0xF04020120, 0, 1, .rw, 0, false, []⟩
/-- CEL_VER_CFG.READY [1:1] RW (R727). -/
def CEL_VER_CFG.READY : Fld := ⟨0xF04020120, 1, 1, .rw, 0, false, []⟩
/-- CEL_VER_CFG.JOBQ [14:8] RW (R727). -/
def CEL_VER_CFG.JOBQ : Fld := ⟨0xF04020120, 8, 7, .rw, 0, false, []⟩
/-- CEL_VER_CFG.CQ [22:16] RW (R727). -/
def CEL_VER_CFG.CQ : Fld := ⟨0xF04020120, 16, 7, .rw, 0, false, []⟩
/-- CEL_VER_CFG.VENG [25:24] RW (R727). -/
def CEL_VER_CFG.VENG : Fld := ⟨0xF04020120, 24, 2, .rw, 0, false, []⟩
/-- CEL_VER_LEN.VLEN [15:0] RW (R727). -/
def CEL_VER_LEN.VLEN : Fld := ⟨0xF04020124, 0, 16, .rw, 24000, false, []⟩
/-- CEL_VER_LEN.TIMEOUT_MS [31:16] RW (R727). -/
def CEL_VER_LEN.TIMEOUT_MS : Fld := ⟨0xF04020124, 16, 16, .rw, 400, false, []⟩
/-- CEL_VER_ENTRY.ENTRY [18:0] RW (R727). -/
def CEL_VER_ENTRY.ENTRY : Fld := ⟨0xF04020128, 0, 19, .rw, 0, false, []⟩
/-- CEL_VER_ADDR_LO.ADDR [31:0] RW (R727). -/
def CEL_VER_ADDR_LO.ADDR : Fld := ⟨0xF04020130, 0, 32, .rw, 0, false, []⟩
/-- CEL_VER_ADDR_HI.ADDR [31:0] RW (R727). -/
def CEL_VER_ADDR_HI.ADDR : Fld := ⟨0xF04020134, 0, 32, .rw, 0, false, []⟩
/-- CEL_WAKE_CFG.CONSOLE_MIN [7:0] RW (R727). -/
def CEL_WAKE_CFG.CONSOLE_MIN : Fld := ⟨0xF04020140, 0, 8, .rw, 10, false, []⟩
/-- CEL_HOLD_STAT.ON_BATTERY [0:0] RO (R727). -/
def CEL_HOLD_STAT.ON_BATTERY : Fld := ⟨0xF04020200, 0, 1, .ro, 0, false, []⟩
/-- CEL_HOLD_STAT.CUT [1:1] RO (R727). -/
def CEL_HOLD_STAT.CUT : Fld := ⟨0xF04020200, 1, 1, .ro, 0, false, []⟩
/-- CEL_HOLD_CFG.FW_BATT [0:0] RW (R727). -/
def CEL_HOLD_CFG.FW_BATT : Fld := ⟨0xF04020204, 0, 1, .rw, 0, false, []⟩
/-- CEL_HOLD_CUT.CODE [15:0] RW (R727). -/
def CEL_HOLD_CUT.CODE : Fld := ⟨0xF04020208, 0, 16, .rw, 43000, false, []⟩
/-- CEL_HOLD_CUT.BATT_CH [19:16] RW (R727). -/
def CEL_HOLD_CUT.BATT_CH : Fld := ⟨0xF04020208, 16, 4, .rw, 0, false, []⟩
/-- CEL_HOLD_CUT.DWELL_S [31:24] RW (R727). -/
def CEL_HOLD_CUT.DWELL_S : Fld := ⟨0xF04020208, 24, 8, .rw, 10, false, []⟩
/-- CEL_HOLD_LIM.OUT_MAX_BAT [15:0] RW (R727). -/
def CEL_HOLD_LIM.OUT_MAX_BAT (i : Nat) : Fld := ⟨(0xF04020210 + 4 * i), 0, 16, .rw, 0, false, []⟩
/-- CEL_HOLD_LIM.EN [31:31] RW (R727). -/
def CEL_HOLD_LIM.EN (i : Nat) : Fld := ⟨(0xF04020210 + 4 * i), 31, 1, .rw, 0, false, []⟩
/-- CEL_PLANT_DEF.APPLIED [0:0] RO (R727). -/
def CEL_PLANT_DEF.APPLIED : Fld := ⟨0xF04020240, 0, 1, .ro, 0, false, []⟩
/-! GRP window (16_device_groups, R761). -/

/-- GRP_STAT.STATE [2:0] RO (R761). -/
def GRP_STAT.STATE : Fld := ⟨0xF04800000, 0, 3, .ro, 0, false, []⟩
/-- GRP_STAT.ROLE [6:4] RO (R761). -/
def GRP_STAT.ROLE : Fld := ⟨0xF04800000, 4, 3, .ro, 0, false, []⟩
/-- GRP_STAT.MEMBER [10:8] RO (R761). -/
def GRP_STAT.MEMBER : Fld := ⟨0xF04800000, 8, 3, .ro, 0, false, []⟩
/-- GRP_STAT.INCLUDED [12:12] RO (R761). -/
def GRP_STAT.INCLUDED : Fld := ⟨0xF04800000, 12, 1, .ro, 0, false, []⟩
/-- GRP_STAT.BEHIND [13:13] RO (R761). -/
def GRP_STAT.BEHIND : Fld := ⟨0xF04800000, 13, 1, .ro, 0, false, []⟩
/-- GRP_MEMBERS.ADMITTED [7:0] RO (R761). -/
def GRP_MEMBERS.ADMITTED : Fld := ⟨0xF04800004, 0, 8, .ro, 0, false, []⟩
/-- GRP_MEMBERS.BENCHED [15:8] RO (R761). -/
def GRP_MEMBERS.BENCHED : Fld := ⟨0xF04800004, 8, 8, .ro, 0, false, []⟩
/-- GRP_MEMBERS.LOST [23:16] RO (R761). -/
def GRP_MEMBERS.LOST : Fld := ⟨0xF04800004, 16, 8, .ro, 0, false, []⟩
/-- GRP_EPOCH_LO.EPOCH [31:0] RO (R761). -/
def GRP_EPOCH_LO.EPOCH : Fld := ⟨0xF04800008, 0, 32, .ro, 0, false, []⟩
/-- GRP_EPOCH_HI.EPOCH [31:0] RO (R761). -/
def GRP_EPOCH_HI.EPOCH : Fld := ⟨0xF0480000C, 0, 32, .ro, 0, false, []⟩
/-- GRP_RESET.KEY [31:16] WO (R761). -/
def GRP_RESET.KEY : Fld := ⟨0xF04800010, 16, 16, .wo, 0, false, []⟩
/-- GRP_RESET.MASK [7:0] WO (R761). -/
def GRP_RESET.MASK : Fld := ⟨0xF04800010, 0, 8, .wo, 0, false, []⟩
/-- GRP_TIME_CFG.HW_SERVO [0:0] RW (R761). -/
def GRP_TIME_CFG.HW_SERVO : Fld := ⟨0xF04800018, 0, 1, .rw, 1, false, []⟩
/-- GRP_TIME_STAT.LOCKED [0:0] RO (R761). -/
def GRP_TIME_STAT.LOCKED : Fld := ⟨0xF0480001C, 0, 1, .ro, 0, false, []⟩
/-- GRP_TIME_STAT.LOCK_S [15:8] RO (R761). -/
def GRP_TIME_STAT.LOCK_S : Fld := ⟨0xF0480001C, 8, 8, .ro, 0, true, []⟩
/-- GRP_TIME_OFS_LO.OFS [31:0] RO (R761). -/
def GRP_TIME_OFS_LO.OFS : Fld := ⟨0xF04800020, 0, 32, .ro, 0, false, []⟩
/-- GRP_TIME_OFS_HI.OFS [31:0] RO (R761). -/
def GRP_TIME_OFS_HI.OFS : Fld := ⟨0xF04800024, 0, 32, .ro, 0, false, []⟩
/-- GRP_TIME_DELAY.TICKS [31:0] RO (R761). -/
def GRP_TIME_DELAY.TICKS : Fld := ⟨0xF04800028, 0, 32, .ro, 0, false, []⟩
/-- GRP_MOVE_POST_LO.ADDR [31:0] RW (R761). -/
def GRP_MOVE_POST_LO.ADDR : Fld := ⟨0xF04800030, 0, 32, .rw, 0, false, []⟩
/-- GRP_MOVE_POST_HI.ADDR [31:0] RW (R761). -/
def GRP_MOVE_POST_HI.ADDR : Fld := ⟨0xF04800034, 0, 32, .rw, 0, false, []⟩
/-- GRP_TETHER_STAT.STATE [1:0] RO (R761). -/
def GRP_TETHER_STAT.STATE (i : Nat) : Fld := ⟨(0xF04800100 + 64 * i), 0, 2, .ro, 0, false, []⟩
/-- GRP_TETHER_STAT.PEER_MEMBER [6:4] RO (R761). -/
def GRP_TETHER_STAT.PEER_MEMBER (i : Nat) : Fld := ⟨(0xF04800100 + 64 * i), 4, 3, .ro, 0, false, []⟩
/-- GRP_TETHER_STAT.PEER_PORT [9:8] RO (R761). -/
def GRP_TETHER_STAT.PEER_PORT (i : Nat) : Fld := ⟨(0xF04800100 + 64 * i), 8, 2, .ro, 0, false, []⟩
/-- GRP_TETHER_RETRY.COUNT [31:0] RO (R761). -/
def GRP_TETHER_RETRY.COUNT (i : Nat) : Fld := ⟨(0xF04800104 + 64 * i), 0, 32, .ro, 0, false, []⟩
/-- GRP_TETHER_CRC.COUNT [31:0] RO (R761). -/
def GRP_TETHER_CRC.COUNT (i : Nat) : Fld := ⟨(0xF04800108 + 64 * i), 0, 32, .ro, 0, false, []⟩
/-- GRP_TETHER_FEC_CE.COUNT [31:0] RO (R761). -/
def GRP_TETHER_FEC_CE.COUNT (i : Nat) : Fld := ⟨(0xF0480010C + 64 * i), 0, 32, .ro, 0, false, []⟩
/-- GRP_TETHER_DOWN.COUNT [31:0] RO (R761). -/
def GRP_TETHER_DOWN.COUNT (i : Nat) : Fld := ⟨(0xF04800110 + 64 * i), 0, 32, .ro, 0, false, []⟩
/-- GRP_MEMBER.YIELDS [3:0] RO (R761). -/
def GRP_MEMBER.YIELDS (i : Nat) : Fld := ⟨(0xF04800400 + 4 * i), 0, 4, .ro, 0, false, []⟩
/-- GRP_MEMBER.VERDICT [11:8] RO (R761). -/
def GRP_MEMBER.VERDICT (i : Nat) : Fld := ⟨(0xF04800400 + 4 * i), 8, 4, .ro, 0, false, []⟩

/-- Registers of the SYS window by address (R116), part 0. -/
def rowsSYS0 : List RegRow :=
  [⟨0xF00000000, [], fun _ _ => [SYS_ID.PART, SYS_ID.REV_LETTER, SYS_ID.REV_DIGIT]⟩,
   ⟨0xF00000004, [], fun _ _ => [SYS_PWR_MODE.MODE, SYS_PWR_MODE.TIER, SYS_PWR_MODE.BUSY, SYS_PWR_MODE.TARGET]⟩,
   ⟨0xF00000008, [], fun _ _ => [SYS_PWR_REQ.TARGET]⟩,
   ⟨0xF0000000C, [], fun _ _ => [SYS_PWR_STAT.MAINS_LOST, SYS_PWR_STAT.RADIO_RELEASED]⟩,
   ⟨0xF00000010, [], fun _ _ => [SYS_DOM_STATE.DOM]⟩,
   ⟨0xF00000014, [], fun _ _ => [SYS_DOM_ON_REQ.DOM]⟩,
   ⟨0xF00000018, [], fun _ _ => [SYS_DOM_OFF_REQ.DOM]⟩,
   ⟨0xF0000001C, [], fun _ _ => [SYS_FENCE_ACK.DOM]⟩,
   ⟨0xF00000020, [], fun _ _ => [SYS_FENCE_TO.DOM]⟩,
   ⟨0xF00000024, [], fun _ _ => [SYS_DOM_FUSED.DOM]⟩,
   ⟨0xF00000028, [], fun _ _ => [SYS_DOM_RADIO.DOM]⟩,
   ⟨0xF00000030, [], fun _ _ => [SYS_RST_CAUSE.CAUSE]⟩,
   ⟨0xF00000034, [], fun _ _ => [SYS_RESET.KEY, SYS_RESET.WARM, SYS_RESET.COLD]⟩,
   ⟨0xF00000038, [], fun _ _ => [SYS_WDOG_CFG.EN, SYS_WDOG_CFG.PERIOD_MS]⟩,
   ⟨0xF0000003C, [], fun _ _ => [SYS_WDOG_KICK.KEY]⟩,
   ⟨0xF00000040, [], fun _ _ => [SYS_WARM_CFG.WARM_EN, SYS_WARM_CFG.HEAT_DUTY, SYS_WARM_CFG.LIMIT_MIN, SYS_WARM_CFG.REGIONS]⟩,
   ⟨0xF00000044, [], fun _ _ => [SYS_WARM_STAT.ELAPSED_S, SYS_WARM_STAT.ATTEMPTS, SYS_WARM_STAT.EXPIRED, SYS_WARM_STAT.ACTIVE]⟩,
   ⟨0xF00000050, [], fun _ _ => [SYS_TJ.TJ_MIN, SYS_TJ.TJ_MAX]⟩,
   ⟨0xF00000054, [], fun _ _ => [SYS_GOV_STAT.LEVEL]⟩,
   ⟨0xF00000058, [], fun _ _ => [SYS_THERM_CFG.TRIP_RESTART, SYS_THERM_CFG.THROTTLE_DUTY]⟩,
   ⟨0xF00000060, [], fun _ _ => [SYS_WAKE_EN.SOURCES]⟩,
   ⟨0xF00000064, [], fun _ _ => [SYS_WAKE_CAUSE.SOURCES]⟩,
   ⟨0xF00000068, [], fun _ _ => [SYS_HOLD_CFG.HOLD_DWELL_S, SYS_HOLD_CFG.MATCHER, SYS_HOLD_CFG.COMPARATOR, SYS_HOLD_CFG.SRC]⟩,
   ⟨0xF00000070, [], fun _ _ => [SYS_CEL_APERTURE.BASE]⟩]

/-- Registers of the SYS window by address (R116), part 1. -/
def rowsSYS1 : List RegRow :=
  [⟨0xF00000074, [], fun _ _ => [SYS_FLASH_SVC.EN, SYS_FLASH_SVC.ACTIVE]⟩]

/-- Registers of the CLK window by address (R162), part 0. -/
def rowsCLK0 : List RegRow :=
  [⟨0xF00100000, [], fun _ _ => [CLK_MODE.MODE]⟩,
   ⟨0xF00100004, [], fun _ _ => [CLK_MODE_REQ.TARGET]⟩,
   ⟨0xF00100008, [], fun _ _ => [CLK_MODE_STAT.BUSY, CLK_MODE_STAT.REFCLK_OK]⟩,
   ⟨0xF00100010, [], fun _ _ => [CLK_ISLAND_SEL.INDEX]⟩,
   ⟨0xF00100014, [], fun _ _ => [CLK_ISLAND_STAT.RATIO5, CLK_ISLAND_STAT.LOCKED, CLK_ISLAND_STAT.PINNED, CLK_ISLAND_STAT.LIVE]⟩,
   ⟨0xF00100018, [], fun _ _ => [CLK_ISLAND_STRETCH.COUNT]⟩,
   ⟨0xF00100020, [], fun _ _ => [CLK_TIME_LO.TIME]⟩,
   ⟨0xF00100024, [], fun _ _ => [CLK_TIME_HI.TIME]⟩,
   ⟨0xF00100028, [], fun _ _ => [CLK_TIME_FRAC.FRAC]⟩,
   ⟨0xF00100030, [], fun _ _ => [CLK_RATE.RATE]⟩,
   ⟨0xF00100038, [], fun _ _ => [CLK_STEP_LO.STEP]⟩,
   ⟨0xF0010003C, [], fun _ _ => [CLK_STEP_HI.STEP]⟩,
   ⟨0xF00100040, [], fun _ _ => [CLK_PPS_IN_LO.CAP]⟩,
   ⟨0xF00100044, [], fun _ _ => [CLK_PPS_IN_HI.CAP]⟩,
   ⟨0xF00100048, [], fun _ _ => [CLK_PPS_STAT.COUNT, CLK_PPS_STAT.EXPECT, CLK_PPS_STAT.JUMP]⟩,
   ⟨0xF00100050, [], fun _ _ => [CLK_PPS_OUT_CFG.EN, CLK_PPS_OUT_CFG.WIDTH_MS]⟩,
   ⟨0xF00100054, [], fun _ _ => [CLK_PPS_OUT_OFS.OFFSET]⟩,
   ⟨0xF00100058, [], fun _ _ => [CLK_PTP_CFG.PORTS, CLK_PTP_CFG.ONE_STEP]⟩,
   ⟨0xF00100060, [(4, 4)], fun i _ => [CLK_PTP_LAT.TX i, CLK_PTP_LAT.RX i]⟩,
   ⟨0xF00100070, [], fun _ _ => [CLK_SYNCE_CFG.PORT0, CLK_SYNCE_CFG.PORT1, CLK_SYNCE_CFG.EN0, CLK_SYNCE_CFG.EN1, CLK_SYNCE_CFG.SQUELCH]⟩,
   ⟨0xF00100080, [], fun _ _ => [CLK_RUN_AT_LO.AT]⟩,
   ⟨0xF00100084, [], fun _ _ => [CLK_RUN_AT_HI.AT]⟩,
   ⟨0xF00100088, [], fun _ _ => [CLK_RUN_CTRL.ARM, CLK_RUN_CTRL.SRC]⟩,
   ⟨0xF0010008C, [], fun _ _ => [CLK_RUN_STAT.GOV, CLK_RUN_STAT.MODE, CLK_RUN_STAT.FENCE, CLK_RUN_STAT.DROOP, CLK_RUN_STAT.REFCLK, CLK_RUN_STAT.ADAPTIVE]⟩]

/-- Registers of the CLK window by address (R162), part 1. -/
def rowsCLK1 : List RegRow :=
  [⟨0xF00100090, [], fun _ _ => [CLK_BEAT_LO.BEATS]⟩,
   ⟨0xF00100094, [], fun _ _ => [CLK_BEAT_HI.BEATS]⟩]

/-- Registers of the CFG window by address (R215), part 0. -/
def rowsCFG0 : List RegRow :=
  [⟨0xF00200000, [], fun _ _ => [CFG_STAT.PHASE, CFG_STAT.SOURCE, CFG_STAT.HOP]⟩,
   ⟨0xF00200004, [], fun _ _ => [CFG_ABORT.CODE]⟩,
   ⟨0xF00200010, [(12, 4)], fun i _ => [CFG_DIGEST.DIGEST i]⟩,
   ⟨0xF00200040, [], fun _ _ => [CFG_SVN.SVN]⟩,
   ⟨0xF00200044, [], fun _ _ => [CFG_CHAIN_CFG.PASSES, CFG_CHAIN_CFG.WAIT_S, CFG_CHAIN_CFG.GAP_MS]⟩,
   ⟨0xF00200048, [], fun _ _ => [CFG_CHAIN_STAT.SENT, CFG_CHAIN_STAT.BAD]⟩,
   ⟨0xF00200050, [], fun _ _ => [CFG_HATCH_POST_LO.ADDR]⟩,
   ⟨0xF00200054, [], fun _ _ => [CFG_HATCH_POST_HI.ADDR]⟩,
   ⟨0xF00200058, [], fun _ _ => [CFG_HATCH_STAT.DEPTH, CFG_HATCH_STAT.BUSY, CFG_HATCH_STAT.LAST]⟩,
   ⟨0xF00200060, [], fun _ _ => [CFG_XSPI_CMD.OPCODE, CFG_XSPI_CMD.ADDR_BYTES, CFG_XSPI_CMD.DUMMY, CFG_XSPI_CMD.LEN, CFG_XSPI_CMD.WRITE]⟩,
   ⟨0xF00200064, [], fun _ _ => [CFG_XSPI_ADDR.ADDR]⟩,
   ⟨0xF00200080, [(16, 4)], fun i _ => [CFG_XSPI_DATA.DATA i]⟩]

/-- Registers of the SEC window by address (R216), part 0. -/
def rowsSEC0 : List RegRow :=
  [⟨0xF00700000, [(48, 4)], fun i _ => [SEC_KEY_DIGEST.DIGEST i]⟩,
   ⟨0xF007000C0, [], fun _ _ => [SEC_KEY_STATE.PROGRAMMED, SEC_KEY_STATE.REVOKED]⟩,
   ⟨0xF007000C4, [], fun _ _ => [SEC_KEY_REVOKE.SLOT]⟩,
   ⟨0xF007000C8, [], fun _ _ => [SEC_SVN_FLOOR.FLOOR]⟩,
   ⟨0xF00700200, [(20, 4)], fun i _ => [SEC_PIN_OWN.OWN0 i, SEC_PIN_OWN.OWN1 i, SEC_PIN_OWN.OWN2 i, SEC_PIN_OWN.OWN3 i, SEC_PIN_OWN.OWN4 i, SEC_PIN_OWN.OWN5 i, SEC_PIN_OWN.OWN6 i, SEC_PIN_OWN.OWN7 i]⟩]

/-- Registers of the NOC window by address (R264), part 0. -/
def rowsNOC0 : List RegRow :=
  [⟨0xF00300000, [(4, 4)], fun i _ => [NOC_ARB_WEIGHT.WEIGHT i]⟩,
   ⟨0xF00300010, [], fun _ _ => [NOC_ARB_WINDOW.CYCLES]⟩,
   ⟨0xF00300014, [], fun _ _ => [NOC_ARB_COMMIT.COMMIT]⟩,
   ⟨0xF00300018, [], fun _ _ => [NOC_TIMEOUT.CYCLES]⟩,
   ⟨0xF00300020, [], fun _ _ => [NOC_ERR_CE.COUNT]⟩,
   ⟨0xF00300024, [], fun _ _ => [NOC_ERR_DROP.COUNT]⟩,
   ⟨0xF00300028, [], fun _ _ => [NOC_ERR_TIMEOUT.COUNT]⟩,
   ⟨0xF00310000, [(64, 256), (64, 4)], fun i j => [NOC_RT.ENTRY i j]⟩]

/-- Registers of the MEM window by address (R265), part 0. -/
def rowsMEM0 : List RegRow :=
  [⟨0xF00400000, [(8, 4)], fun i _ => [MEM_ARB_DRAM.WEIGHT i, MEM_ARB_DRAM.PRIO i]⟩,
   ⟨0xF00400020, [(7, 4)], fun i _ => [MEM_ARB_LAR.WEIGHT i, MEM_ARB_LAR.PRIO i]⟩,
   ⟨0xF0040003C, [], fun _ _ => []⟩,
   ⟨0xF00400040, [], fun _ _ => [MEM_ARB_WINDOW.DRAM, MEM_ARB_WINDOW.LARDER]⟩,
   ⟨0xF00400044, [], fun _ _ => [MEM_ARB_TENURE.TENURE]⟩,
   ⟨0xF00400048, [], fun _ _ => [MEM_ARB_COMMIT.COMMIT]⟩,
   ⟨0xF00400050, [], fun _ _ => [MEM_STAT.TRAINED, MEM_STAT.SELF_REFRESH, MEM_STAT.REF_RATE]⟩,
   ⟨0xF00400054, [], fun _ _ => [MEM_SCRUB_CFG.EN, MEM_SCRUB_CFG.HOURS]⟩,
   ⟨0xF00400060, [(16, 4)], fun i _ => [MEM_REF_COUNT.COUNT i]⟩,
   ⟨0xF004000A0, [], fun _ _ => [MEM_DRAM_CE.COUNT]⟩,
   ⟨0xF004000A4, [], fun _ _ => [MEM_DRAM_UE.COUNT]⟩,
   ⟨0xF004000A8, [], fun _ _ => [MEM_LAR_CE.COUNT]⟩,
   ⟨0xF004000AC, [], fun _ _ => [MEM_LAR_UE.COUNT]⟩,
   ⟨0xF004000B0, [], fun _ _ => [MEM_UE_ADDR_LO.ADDR]⟩,
   ⟨0xF004000B4, [], fun _ _ => [MEM_UE_ADDR_HI.ADDR]⟩]

/-- Registers of the STR window by address (R318), part 0. -/
def rowsSTR0 : List RegRow :=
  [⟨0xF00500000, [], fun _ _ => [STR_CTRL.EN]⟩,
   ⟨0xF00500010, [], fun _ _ => [STR_STATE_BASE_LO.ADDR]⟩,
   ⟨0xF00500014, [], fun _ _ => [STR_STATE_BASE_HI.ADDR]⟩,
   ⟨0xF00500040, [], fun _ _ => [STR_CRATE_FREE.HANDLE]⟩,
   ⟨0xF00500044, [], fun _ _ => [STR_CRATE_GIVE_LO.HANDLE]⟩,
   ⟨0xF00500048, [], fun _ _ => [STR_CRATE_GIVE_HI.CONTEXT]⟩,
   ⟨0xF0050004C, [], fun _ _ => [STR_CRATE_RECLAIM.CONTEXT]⟩,
   ⟨0xF00500050, [], fun _ _ => [STR_DFREE_COUNT.COUNT]⟩,
   ⟨0xF00500100, [(4, 32)], fun i _ => [STR_POOL_BASE_LO.ADDR i]⟩,
   ⟨0xF00500104, [(4, 32)], fun i _ => [STR_POOL_BASE_HI.ADDR i]⟩,
   ⟨0xF00500108, [(4, 32)], fun i _ => [STR_POOL_COUNT.COUNT i]⟩,
   ⟨0xF0050010C, [(4, 32)], fun i _ => [STR_POOL_LOW.LOW i]⟩,
   ⟨0xF00500110, [(4, 32)], fun i _ => [STR_POOL_STAT.FREE i, STR_POOL_STAT.EMPTY i]⟩,
   ⟨0xF00500114, [(4, 32)], fun i _ => [STR_POOL_ALLOC.HANDLE i]⟩,
   ⟨0xF00501000, [(128, 64)], fun i _ => [STR_Q_CFG.EN i, STR_Q_CFG.DEPTH_LOG2 i]⟩,
   ⟨0xF00501004, [(128, 64)], fun i _ => [STR_Q_BASE_LO.ADDR i]⟩,
   ⟨0xF00501008, [(128, 64)], fun i _ => [STR_Q_BASE_HI.ADDR i]⟩,
   ⟨0xF0050100C, [(128, 64)], fun i _ => [STR_Q_WORDS.COUNT i]⟩,
   ⟨0xF00501010, [(128, 64)], fun i _ => [STR_Q_PKTS.COUNT i]⟩,
   ⟨0xF00501014, [(128, 64)], fun i _ => [STR_Q_LOST_WORDS.COUNT i]⟩,
   ⟨0xF00501018, [(128, 64)], fun i _ => [STR_Q_LOST_PKTS.COUNT i]⟩,
   ⟨0xF0050101C, [(128, 64)], fun i _ => [STR_Q_CTRL.SKIP i, STR_Q_CTRL.FLUSH i, STR_Q_CTRL.CLEAR i, STR_Q_CTRL.PINNED i]⟩,
   ⟨0xF00501020, [(128, 64)], fun i _ => [STR_Q_NOTIFY.TARGETS i, STR_Q_NOTIFY.THRESH i]⟩,
   ⟨0xF00504000, [(12, 4)], fun i _ => [STR_EVT_ROUTE.TARGETS i, STR_EVT_ROUTE.QUEUE i, STR_EVT_ROUTE.QEN i]⟩]

/-- Registers of the STR window by address (R318), part 1. -/
def rowsSTR1 : List RegRow :=
  [⟨0xF00504080, [(4, 4)], fun i _ => [STR_Q_PEND.PEND i]⟩,
   ⟨0xF00504100, [(13, 4)], fun i _ => [STR_EVT_PEND.CLASSES i]⟩]

/-- Registers of the LOG window by address (R319), part 0. -/
def rowsLOG0 : List RegRow :=
  [⟨0xF00600000, [], fun _ _ => [LOG_HEAD_SEQ.SEQ]⟩,
   ⟨0xF00600004, [], fun _ _ => [LOG_ACK_SEQ.SEQ]⟩,
   ⟨0xF00600008, [], fun _ _ => [LOG_LOST_OVER.COUNT]⟩,
   ⟨0xF0060000C, [], fun _ _ => [LOG_LOST_DROP.COUNT]⟩,
   ⟨0xF00620000, [(4096, 32), (8, 4)], fun i j => [LOG_ENTRY.WORD i j]⟩]

/-- Registers of the GFB window by address (R366), part 0. -/
def rowsGFB0 : List RegRow :=
  [⟨0xF01000000, [], fun _ _ => [GFB_ID.LIVE, GFB_ID.CONV]⟩,
   ⟨0xF01000010, [], fun _ _ => [GFB_CUT_CFG.PAIRS]⟩,
   ⟨0xF01000014, [], fun _ _ => [GFB_CUT_LATE.COUNT]⟩,
   ⟨0xF01001000, [(6, 256)], fun i _ => [GFB_REG_SHELF.ACTIVE i, GFB_REG_SHELF.VALID i, GFB_REG_SHELF.ISOLATED i, GFB_REG_SHELF.PENDING i, GFB_REG_SHELF.TARGET i]⟩,
   ⟨0xF01001004, [(6, 256)], fun i _ => [GFB_REG_SW_REQ.SHELF i]⟩,
   ⟨0xF01001008, [(6, 256)], fun i _ => [GFB_REG_SW_CFG.STROBE_EN i, GFB_REG_SW_CFG.CELL_EN i, GFB_REG_SW_CFG.TRIG_CELL i, GFB_REG_SW_CFG.AT_SHELF i]⟩,
   ⟨0xF01001010, [(6, 256)], fun i _ => [GFB_REG_SW_AT_LO.AT i]⟩,
   ⟨0xF01001014, [(6, 256)], fun i _ => [GFB_REG_SW_AT_HI.AT i]⟩,
   ⟨0xF01001020, [(6, 256)], fun i _ => [GFB_REG_SW_COUNT.COUNT i]⟩,
   ⟨0xF01001024, [(6, 256)], fun i _ => [GFB_REG_SW_COLLIDE.COUNT i]⟩,
   ⟨0xF01002000, [(8, 1024)], fun i _ => [GFB_SP_CFG.CONV i, GFB_SP_CFG.HATCH i]⟩,
   ⟨0xF01002100, [(8, 1024), (8, 64)], fun i j => [GFB_CH_CFG.MODE i j, GFB_CH_CFG.CLASS i j, GFB_CH_CFG.QUEUE i j, GFB_CH_CFG.ERR i j]⟩,
   ⟨0xF01002104, [(8, 1024), (8, 64)], fun i j => [GFB_CH_LANES.LANES i j]⟩,
   ⟨0xF01002108, [(8, 1024), (8, 64)], fun i j => [GFB_CH_BASE_LO.ADDR i j]⟩,
   ⟨0xF0100210C, [(8, 1024), (8, 64)], fun i j => [GFB_CH_BASE_HI.ADDR i j]⟩,
   ⟨0xF01002110, [(8, 1024), (8, 64)], fun i j => [GFB_CH_SIZE.BYTES i j]⟩,
   ⟨0xF01002114, [(8, 1024), (8, 64)], fun i j => [GFB_CH_PTR.OFFSET i j]⟩,
   ⟨0xF01002118, [(8, 1024), (8, 64)], fun i j => [GFB_CH_FPTR.OFFSET i j]⟩,
   ⟨0xF0100211C, [(8, 1024), (8, 64)], fun i j => [GFB_CH_PKT_WORDS.WORDS i j]⟩,
   ⟨0xF01002120, [(8, 1024), (8, 64)], fun i j => [GFB_CH_DROP.COUNT i j]⟩]

/-- Registers of the IE window by address (R421), part 0. -/
def rowsIE0 : List RegRow :=
  [⟨0xF02000000, [(4, 4194304)], fun i _ => [IE_ID.ENGINE i]⟩,
   ⟨0xF02000004, [(4, 4194304)], fun i _ => [IE_CTRL.EN i, IE_CTRL.B0_AUTO_ABORT i]⟩,
   ⟨0xF02000008, [(4, 4194304)], fun i _ => [IE_STAT.ACTIVE i, IE_STAT.SWITCHING i, IE_STAT.SB_USED i, IE_STAT.DOORBELL i]⟩,
   ⟨0xF02000100, [(4, 4194304), (4, 128)], fun i j => [IE_BANK_CTRL.RESUME i j, IE_BANK_CTRL.ABORT i j, IE_BANK_CTRL.EVICT i j]⟩,
   ⟨0xF02000104, [(4, 4194304), (4, 128)], fun i j => [IE_BANK_STAT.STATE i j, IE_BANK_STAT.SB_HELD i j]⟩,
   ⟨0xF02000108, [(4, 4194304), (4, 128)], fun i j => [IE_BANK_JOBQ.QUEUE i j, IE_BANK_JOBQ.EN i j]⟩,
   ⟨0xF0200010C, [(4, 4194304), (4, 128)], fun i j => [IE_BANK_SS.BASE i j, IE_BANK_SS.SIZE i j]⟩,
   ⟨0xF02000110, [(4, 4194304), (4, 128)], fun i j => [IE_BANK_EXC.CAUSE i j, IE_BANK_EXC.SLOT i j, IE_BANK_EXC.SUBCODE i j, IE_BANK_EXC.RESUMABLE i j, IE_BANK_EXC.IMPRECISE i j]⟩,
   ⟨0xF02000114, [(4, 4194304), (4, 128)], fun i j => [IE_BANK_EXC_PC.PC i j]⟩,
   ⟨0xF02000118, [(4, 4194304), (4, 128)], fun i j => [IE_BANK_PROGRESS_LO.MASK i j]⟩,
   ⟨0xF0200011C, [(4, 4194304), (4, 128)], fun i j => [IE_BANK_PROGRESS_HI.MASK i j]⟩,
   ⟨0xF02000120, [(4, 4194304), (4, 128)], fun i j => [IE_BANK_EVICT_LO.ADDR i j]⟩,
   ⟨0xF02000124, [(4, 4194304), (4, 128)], fun i j => [IE_BANK_EVICT_HI.ADDR i j]⟩,
   ⟨0xF02000128, [(4, 4194304), (4, 128)], fun i j => [IE_BANK_TAG.TAG i j]⟩,
   ⟨0xF02000140, [(4, 4194304), (4, 128)], fun i j => [IE_BANK_MSTAT.WFMT i j, IE_BANK_MSTAT.WLOADED i j, IE_BANK_MSTAT.SCALED i j, IE_BANK_MSTAT.GSIZE i j, IE_BANK_MSTAT.STATE_ERR i j, IE_BANK_MSTAT.DRIFT i j, IE_BANK_MSTAT.CLR_SAT i j]⟩,
   ⟨0xF02000144, [(4, 4194304), (4, 128)], fun i j => [IE_BANK_SAT_M.COUNT i j]⟩,
   ⟨0xF02000148, [(4, 4194304), (4, 128)], fun i j => [IE_BANK_SAT_V.COUNT i j]⟩,
   ⟨0xF0200014C, [(4, 4194304), (4, 128)], fun i j => [IE_BANK_DRIFT_CFG.RATIO i j, IE_BANK_DRIFT_CFG.WLOG2 i j, IE_BANK_DRIFT_CFG.DRIFT_EN i j]⟩,
   ⟨0xF02000150, [(4, 4194304), (4, 128)], fun i j => [IE_BANK_WIN_OUT.COUNT i j]⟩,
   ⟨0xF02000154, [(4, 4194304), (4, 128)], fun i j => [IE_BANK_WIN_SAT.COUNT i j]⟩,
   ⟨0xF02000158, [(4, 4194304), (4, 128)], fun i j => [IE_BANK_MODEL_ADDR_LO.ADDR i j]⟩,
   ⟨0xF0200015C, [(4, 4194304), (4, 128)], fun i j => [IE_BANK_MODEL_ADDR_HI.ADDR i j]⟩,
   ⟨0xF02000160, [(4, 4194304), (4, 128)], fun i j => [IE_BANK_MODEL_ACT.CODE_AT i j, IE_BANK_MODEL_ACT.DROP i j, IE_BANK_MODEL_ACT.GO i j]⟩,
   ⟨0xF02000164, [(4, 4194304), (4, 128)], fun i j => [IE_BANK_MODEL_STAT.STATE i j, IE_BANK_MODEL_STAT.BUSY i j, IE_BANK_MODEL_STAT.REASON i j]⟩]

/-- Registers of the IE window by address (R421), part 1. -/
def rowsIE1 : List RegRow :=
  [⟨0xF02000168, [(4, 4194304), (4, 128)], fun i j => [IE_BANK_MODEL_ENTRY.ENTRY i j]⟩,
   ⟨0xF0200016C, [(4, 4194304), (4, 128)], fun i j => [IE_BANK_SPILL_BYTES.BYTES i j]⟩,
   ⟨0xF02000170, [(4, 4194304), (4, 128)], fun i j => [IE_BANK_SPILL_WAIT.CYCLES i j]⟩,
   ⟨0xF02000174, [(4, 4194304), (4, 128)], fun i j => [IE_BANK_SPILL_MISS.COUNT i j]⟩]

/-- Registers of the RAD window by address (R552), part 0. -/
def rowsRAD0 : List RegRow :=
  [⟨0xF03000000, [], fun _ _ => [RAD_CTRL.RELEASE, RAD_CTRL.WITHDRAW]⟩,
   ⟨0xF03000004, [], fun _ _ => [RAD_STAT.RELEASED, RAD_STAT.CALIBRATING, RAD_STAT.ROLE, RAD_STAT.MAX_LAYERS, RAD_STAT.STARTED, RAD_STAT.REASON, RAD_STAT.CAUSE]⟩,
   ⟨0xF03000020, [(4, 4)], fun i _ => [RAD_ADC_OVR.COUNT i]⟩,
   ⟨0xF03000030, [(4, 4)], fun i _ => [RAD_DAC_SAT.COUNT i]⟩,
   ⟨0xF03000040, [(2, 4)], fun i _ => [RAD_FAPI_LATE.COUNT i]⟩,
   ⟨0xF03000048, [(2, 4)], fun i _ => [RAD_DL_EMPTY.COUNT i]⟩,
   ⟨0xF03000060, [(2, 8)], fun i _ => [RAD_BEAM_BASE_LO.ADDR i]⟩,
   ⟨0xF03000064, [(2, 8)], fun i _ => [RAD_BEAM_BASE_HI.ADDR i]⟩,
   ⟨0xF03000070, [], fun _ _ => [RAD_BEAM_COMMIT.CARRIERS]⟩,
   ⟨0xF03000100, [(4, 64)], fun i _ => [RAD_ETH_CFG.EN i, RAD_ETH_CFG.SPEED i, RAD_ETH_CFG.RS_FEC i]⟩,
   ⟨0xF03000104, [(4, 64)], fun i _ => [RAD_ETH_STAT.LINK i]⟩,
   ⟨0xF03000108, [(4, 64)], fun i _ => [RAD_ETH_MAC_LO.MAC i]⟩,
   ⟨0xF0300010C, [(4, 64)], fun i _ => [RAD_ETH_MAC_HI.MAC i]⟩,
   ⟨0xF03000110, [(4, 64)], fun i _ => [RAD_ETH_ON_TIME.COUNT i]⟩,
   ⟨0xF03000114, [(4, 64)], fun i _ => [RAD_ETH_EARLY.COUNT i]⟩,
   ⟨0xF03000118, [(4, 64)], fun i _ => [RAD_ETH_LATE.COUNT i]⟩,
   ⟨0xF0300011C, [(4, 64)], fun i _ => [RAD_ETH_DROP.COUNT i]⟩]

/-- Registers of the RADLR window by address (R585), part 0. -/
def rowsRADLR0 : List RegRow :=
  [⟨0xF03001000, [], fun _ _ => [RAD_LR_CFG.GATE_MODE, RAD_LR_CFG.ENGINES, RAD_LR_CFG.CQ]⟩,
   ⟨0xF03001004, [], fun _ _ => [RAD_LR_GUARD.TICKS]⟩,
   ⟨0xF03001008, [], fun _ _ => [RAD_LR_THRESH.THRESH0, RAD_LR_THRESH.THRESH1]⟩,
   ⟨0xF0300100C, [], fun _ _ => [RAD_LR_BUDGET.BASE, RAD_LR_BUDGET.PER]⟩,
   ⟨0xF03001010, [], fun _ _ => [RAD_LR_COMMIT.COMMIT]⟩,
   ⟨0xF03001014, [], fun _ _ => [RAD_LR_STAT.ELIGIBLE, RAD_LR_STAT.OVERDUE]⟩,
   ⟨0xF03001018, [], fun _ _ => [RAD_LR_CLEAR.CLEAR]⟩,
   ⟨0xF03001020, [(4, 4)], fun i _ => [RAD_LR_LAYERS.LAYERS i]⟩,
   ⟨0xF03001100, [(2, 64), (11, 4)], fun i j => [RAD_LR_CNT.COUNT i j]⟩,
   ⟨0xF03001200, [], fun _ _ => [RAD_LDPC_CFG.MAX_ITER]⟩,
   ⟨0xF03001204, [], fun _ _ => [RAD_LDPC_COMMIT.COMMIT]⟩,
   ⟨0xF03001208, [], fun _ _ => [RAD_LDPC_CUT.COUNT]⟩,
   ⟨0xF0300120C, [], fun _ _ => [RAD_LDPC_HARQ_FULL.COUNT]⟩,
   ⟨0xF03001240, [(16, 4)], fun i _ => [RAD_LDPC_SCALE.ENTRIES i]⟩,
   ⟨0xF03001280, [], fun _ _ => [RAD_HARQ_BASE_LO.ADDR]⟩,
   ⟨0xF03001284, [], fun _ _ => [RAD_HARQ_BASE_HI.ADDR]⟩,
   ⟨0xF03001288, [], fun _ _ => [RAD_HARQ_CFG.BUFS]⟩]

/-- Registers of the VIS window by address (R625), part 0. -/
def rowsVIS0 : List RegRow :=
  [⟨0xF03800000, [], fun _ _ => [VIS_CTRL.EN]⟩,
   ⟨0xF03800004, [], fun _ _ => [VIS_STAT.BUSY, VIS_STAT.QUEUED]⟩,
   ⟨0xF03800010, [], fun _ _ => [VIS_PROOF_BASE_LO.ADDR]⟩,
   ⟨0xF03800014, [], fun _ _ => [VIS_PROOF_BASE_HI.ADDR]⟩,
   ⟨0xF03800018, [], fun _ _ => [VIS_PROOF_SIZE.BYTES]⟩,
   ⟨0xF03800020, [], fun _ _ => [VIS_SIG_BASE_LO.ADDR]⟩,
   ⟨0xF03800024, [], fun _ _ => [VIS_SIG_BASE_HI.ADDR]⟩,
   ⟨0xF03800030, [(9, 4)], fun i _ => [VIS_CSC.K i]⟩,
   ⟨0xF03800054, [], fun _ _ => [VIS_CSC_OFS.OFS]⟩,
   ⟨0xF03800060, [], fun _ _ => [VIS_COEF_COMMIT.COMMIT]⟩,
   ⟨0xF03801000, [(32, 64)], fun i _ => [VIS_STR_CFG.EN i, VIS_STR_CFG.CODEC i, VIS_STR_CFG.INQ i, VIS_STR_CFG.MAX_FPS i]⟩,
   ⟨0xF03801004, [(32, 64)], fun i _ => [VIS_STR_SIZE.MAX_W i, VIS_STR_SIZE.MAX_H i]⟩,
   ⟨0xF03801008, [(32, 64)], fun i _ => [VIS_STR_SLOT_BASE_LO.ADDR i]⟩,
   ⟨0xF0380100C, [(32, 64)], fun i _ => [VIS_STR_SLOT_BASE_HI.ADDR i]⟩,
   ⟨0xF03801010, [(32, 64)], fun i _ => [VIS_STR_SLOT.COUNT i, VIS_STR_SLOT.PAGES i]⟩,
   ⟨0xF03801014, [(32, 64)], fun i _ => [VIS_STR_STAT.STATE i, VIS_STR_STAT.REASON i]⟩,
   ⟨0xF03801018, [(32, 64)], fun i _ => [VIS_STR_FRAMES.COUNT i]⟩,
   ⟨0xF0380101C, [(32, 64)], fun i _ => [VIS_STR_CONCEALED.COUNT i]⟩,
   ⟨0xF03802000, [(8, 64)], fun i _ => [VIS_CH_CFG.EN i, VIS_CH_CFG.STREAM i, VIS_CH_CFG.CQ i, VIS_CH_CFG.CONSUMER i]⟩,
   ⟨0xF03802004, [(8, 64)], fun i _ => [VIS_CH_DESC_LO.ADDR i]⟩,
   ⟨0xF03802008, [(8, 64)], fun i _ => [VIS_CH_DESC_HI.ADDR i]⟩,
   ⟨0xF0380200C, [(8, 64)], fun i _ => [VIS_CH_COMMIT.COMMIT i]⟩,
   ⟨0xF03802010, [(8, 64)], fun i _ => [VIS_CH_RETURN.BUF i]⟩,
   ⟨0xF03802014, [(8, 64)], fun i _ => [VIS_CH_RELEASED.COUNT i]⟩]

/-- Registers of the VIS window by address (R625), part 1. -/
def rowsVIS1 : List RegRow :=
  [⟨0xF03802018, [(8, 64)], fun i _ => [VIS_CH_WITHHELD.COUNT i]⟩,
   ⟨0xF0380201C, [(8, 64)], fun i _ => [VIS_CH_OTHER.COUNT i]⟩,
   ⟨0xF03810000, [(256, 16), (4, 4)], fun i j => [VIS_COEF.TAP0 i j, VIS_COEF.TAP1 i j]⟩]

/-- Registers of the CEL window by address (R690), part 0. -/
def rowsCEL0 : List RegRow :=
  [⟨0xF04000000, [(160, 4)], fun i _ => [CEL_PIN_CFG.DRIVE i, CEL_PIN_CFG.HYST i, CEL_PIN_CFG.TTL i, CEL_PIN_CFG.ANALOG i, CEL_PIN_CFG.OE i, CEL_PIN_CFG.FUNC i, CEL_PIN_CFG.SIG i, CEL_PIN_CFG.PARK i, CEL_PIN_CFG.PULL i, CEL_PIN_CFG.OWNER i]⟩,
   ⟨0xF04000400, [(10, 4)], fun i _ => [CEL_GPIO_OUT.DATA i]⟩,
   ⟨0xF04000440, [(10, 4)], fun i _ => [CEL_GPIO_IN.PAD i]⟩,
   ⟨0xF04000480, [], fun _ _ => [CEL_PINQ_CFG.QUEUE, CEL_PINQ_CFG.EN]⟩,
   ⟨0xF04000484, [], fun _ _ => [CEL_PINQ_BAD.COUNT]⟩,
   ⟨0xF04000800, [(16, 64)], fun i _ => [CEL_PM_CFG.MODE i, CEL_PM_CFG.WAKE i, CEL_PM_CFG.QEN i, CEL_PM_CFG.QUEUE i]⟩,
   ⟨0xF04000804, [(16, 64)], fun i _ => [CEL_PM_PAT.VAL_A i, CEL_PM_PAT.VAL_B i]⟩,
   ⟨0xF04000808, [(16, 64)], fun i _ => [CEL_PM_CARE.CARE_A i, CEL_PM_CARE.CARE_B i]⟩,
   ⟨0xF0400080C, [(16, 64)], fun i _ => [CEL_PM_TIME.DB i, CEL_PM_TIME.WIN i]⟩,
   ⟨0xF04000810, [(16, 64), (4, 4)], fun i j => [CEL_PM_SEL.PIN0 i j, CEL_PM_SEL.PIN1 i j, CEL_PM_SEL.PIN2 i j, CEL_PM_SEL.PIN3 i j]⟩,
   ⟨0xF04000820, [(16, 64)], fun i _ => [CEL_PM_STAT.HIT i, CEL_PM_STAT.OUT i, CEL_PM_STAT.VEC i]⟩,
   ⟨0xF04001000, [], fun _ _ => [CEL_ADC_CFG.CH_EN]⟩,
   ⟨0xF04001004, [], fun _ _ => [CEL_ADC_PERIOD.SLOTS]⟩,
   ⟨0xF04001040, [(16, 4)], fun i _ => [CEL_ADC_RES.CODE i, CEL_ADC_RES.SCAN i]⟩,
   ⟨0xF04001100, [(8, 16)], fun i _ => [CEL_CMP_CFG.EN i, CEL_CMP_CFG.TRIP_EN i, CEL_CMP_CFG.TRIP_MASK i, CEL_CMP_CFG.HYS i]⟩,
   ⟨0xF04001104, [(8, 16)], fun i _ => [CEL_CMP_THR.LO i, CEL_CMP_THR.HI i]⟩,
   ⟨0xF04001108, [(8, 16)], fun i _ => [CEL_CMP_STAT.OUT i]⟩,
   ⟨0xF04001180, [(8, 4)], fun i _ => [CEL_TACH.FREQ i]⟩,
   ⟨0xF040011C0, [], fun _ _ => [CEL_TRIP_STAT.LATCHED]⟩,
   ⟨0xF04001200, [(8, 16)], fun i _ => [CEL_PWM_CFG.EN i, CEL_PWM_CFG.OFF_H i, CEL_PWM_CFG.OFF_L i, CEL_PWM_CFG.PRESCALE i]⟩,
   ⟨0xF04001204, [(8, 16)], fun i _ => [CEL_PWM_PERIOD.COUNT i]⟩,
   ⟨0xF04001208, [(8, 16)], fun i _ => [CEL_PWM_DUTY.COUNT i]⟩,
   ⟨0xF0400120C, [(8, 16)], fun i _ => [CEL_PWM_DEAD.COUNT i]⟩,
   ⟨0xF04001280, [], fun _ _ => [CEL_PWM_COMMIT.CHANNELS]⟩]

/-- Registers of the CEL window by address (R690), part 1. -/
def rowsCEL1 : List RegRow :=
  [⟨0xF04001400, [(8, 32)], fun i _ => [CEL_PLE_CFG.EN i, CEL_PLE_CFG.SRC_KIND i, CEL_PLE_CFG.SRC i, CEL_PLE_CFG.INV i, CEL_PLE_CFG.PWM i, CEL_PLE_CFG.OUT_EN i, CEL_PLE_CFG.PERIOD_MS i]⟩,
   ⟨0xF04001404, [(8, 32)], fun i _ => [CEL_PLE_SP.SP i, CEL_PLE_SP.PV_REG i]⟩,
   ⟨0xF04001408, [(8, 32)], fun i _ => [CEL_PLE_GAIN.KP i, CEL_PLE_GAIN.KI i]⟩,
   ⟨0xF0400140C, [(8, 32)], fun i _ => [CEL_PLE_LIM.OUT_MIN i, CEL_PLE_LIM.OUT_MAX i]⟩,
   ⟨0xF04001410, [(8, 32)], fun i _ => [CEL_PLE_SLEW.SLEW i]⟩,
   ⟨0xF04001414, [(8, 32)], fun i _ => [CEL_PLE_INTEG.INTEG i]⟩,
   ⟨0xF04001418, [(8, 32)], fun i _ => [CEL_PLE_OUT.OUT i, CEL_PLE_OUT.PV i]⟩,
   ⟨0xF0400141C, [(8, 32)], fun i _ => [CEL_PLE_STAT.NOSRC i, CEL_PLE_STAT.LIMITED i]⟩,
   ⟨0xF04001800, [(2, 64)], fun i _ => [CEL_UART_CFG.EN i, CEL_UART_CFG.BITLEN i, CEL_UART_CFG.FRAC i]⟩,
   ⟨0xF04001804, [(2, 64)], fun i _ => [CEL_UART_FMT.SEVEN i, CEL_UART_FMT.PAR i, CEL_UART_FMT.STOP2 i, CEL_UART_FMT.MODBUS i, CEL_UART_FMT.DE_HOLD i]⟩,
   ⟨0xF04001808, [(2, 64)], fun i _ => [CEL_UART_TXD.BYTE i, CEL_UART_TXD.END i]⟩,
   ⟨0xF0400180C, [(2, 64)], fun i _ => [CEL_UART_RXD.RXD i]⟩,
   ⟨0xF04001810, [(2, 64)], fun i _ => [CEL_UART_STAT.TX_LEVEL i, CEL_UART_STAT.RX_LEVEL i]⟩,
   ⟨0xF04001814, [(2, 64)], fun i _ => [CEL_UART_RX_LOST.COUNT i]⟩,
   ⟨0xF04001A00, [(2, 128)], fun i _ => [CEL_I2C_CFG.SPEED i, CEL_I2C_CFG.EN i]⟩,
   ⟨0xF04001A04, [(2, 128)], fun i _ => [CEL_I2C_CMD.ADDR i, CEL_I2C_CMD.READ i, CEL_I2C_CMD.LEN i, CEL_I2C_CMD.STOP i]⟩,
   ⟨0xF04001A08, [(2, 128)], fun i _ => [CEL_I2C_STAT.BUSY i, CEL_I2C_STAT.NACK i, CEL_I2C_STAT.ARB_LOST i, CEL_I2C_STAT.TIMEOUT i, CEL_I2C_STAT.DONE i]⟩,
   ⟨0xF04001A40, [(2, 128), (16, 4)], fun i j => [CEL_I2C_DATA.DATA i j]⟩,
   ⟨0xF04001B00, [(2, 128)], fun i _ => [CEL_SPI_CMD.LEN i, CEL_SPI_CMD.CS i, CEL_SPI_CMD.MODE i, CEL_SPI_CMD.DIV i, CEL_SPI_CMD.HOLD_CS i]⟩,
   ⟨0xF04001B08, [(2, 128)], fun i _ => [CEL_SPI_STAT.BUSY i]⟩,
   ⟨0xF04001B40, [(2, 128), (16, 4)], fun i j => [CEL_SPI_DATA.DATA i j]⟩,
   ⟨0xF04004000, [(2, 16384)], fun i _ => [CEL_CAN_CTRL.EN i, CEL_CAN_CTRL.FD i, CEL_CAN_CTRL.LISTEN i, CEL_CAN_CTRL.AUTO_REC i, CEL_CAN_CTRL.TDC i]⟩,
   ⟨0xF04004004, [(2, 16384)], fun i _ => [CEL_CAN_NBT.BRP i, CEL_CAN_NBT.TSEG1 i, CEL_CAN_NBT.TSEG2 i, CEL_CAN_NBT.SJW i]⟩,
   ⟨0xF04004008, [(2, 16384)], fun i _ => [CEL_CAN_DBT.BRP i, CEL_CAN_DBT.TSEG1 i, CEL_CAN_DBT.TSEG2 i, CEL_CAN_DBT.SJW i]⟩]

/-- Registers of the CEL window by address (R690), part 2. -/
def rowsCEL2 : List RegRow :=
  [⟨0xF04004010, [(2, 16384)], fun i _ => [CEL_CAN_STAT.TEC i, CEL_CAN_STAT.REC i, CEL_CAN_STAT.STATE i]⟩,
   ⟨0xF04004014, [(2, 16384)], fun i _ => [CEL_CAN_TX_REQ.SLOTS i]⟩,
   ⟨0xF04004018, [(2, 16384)], fun i _ => [CEL_CAN_TX_PEND.SLOTS i]⟩,
   ⟨0xF0400401C, [(2, 16384)], fun i _ => [CEL_CAN_TX_DONE.SLOTS i]⟩,
   ⟨0xF04004020, [(2, 16384)], fun i _ => [CEL_CAN_RX_STAT.COUNT i, CEL_CAN_RX_STAT.HEAD i]⟩,
   ⟨0xF04004024, [(2, 16384)], fun i _ => [CEL_CAN_RX_POP.POP i]⟩,
   ⟨0xF04004028, [(2, 16384)], fun i _ => [CEL_CAN_RX_LOST.COUNT i]⟩,
   ⟨0xF04004100, [(2, 16384), (32, 8)], fun i j => [CEL_CAN_FLT.ID i j, CEL_CAN_FLT.XTD i j, CEL_CAN_FLT.EN i j]⟩,
   ⟨0xF04004104, [(2, 16384), (32, 8)], fun i j => [CEL_CAN_MASK.MASK i j, CEL_CAN_MASK.WAKE i j]⟩]

/-- Registers of the CELSVC window by address (R727), part 0. -/
def rowsCELSVC0 : List RegRow :=
  [⟨0xF04020000, [], fun _ _ => [CEL_AUDIO_CFG.EN, CEL_AUDIO_CFG.PDM_DIV, CEL_AUDIO_CFG.MIC_EN, CEL_AUDIO_CFG.GAIN0, CEL_AUDIO_CFG.GAIN1]⟩,
   ⟨0xF04020004, [], fun _ _ => [CEL_AUDIO_STAT.SRC, CEL_AUDIO_STAT.GLITCH]⟩,
   ⟨0xF04020008, [], fun _ _ => [CEL_AUDIO_SAMPLES.SAMPLE_CNT]⟩,
   ⟨0xF0402000C, [(2, 4)], fun i _ => [CEL_AUDIO_CLIP.COUNT i]⟩,
   ⟨0xF04020100, [], fun _ _ => [CEL_SPOT_CFG.EN, CEL_SPOT_CFG.MIC_SEL, CEL_SPOT_CFG.THRESH, CEL_SPOT_CFG.REFRACT]⟩,
   ⟨0xF04020104, [], fun _ _ => [CEL_SPOT_STAT.SCORE, CEL_SPOT_STAT.REASON]⟩,
   ⟨0xF04020110, [], fun _ _ => [CEL_WAKE_SEQ.SEQ]⟩,
   ⟨0xF04020114, [], fun _ _ => [CEL_WAKE_SAMPLE.SAMPLE]⟩,
   ⟨0xF04020118, [], fun _ _ => [CEL_WAKE_REC.SCORE, CEL_WAKE_REC.VSTATE, CEL_WAKE_REC.MODE, CEL_WAKE_REC.VSCORE]⟩,
   ⟨0xF04020120, [], fun _ _ => [CEL_VER_CFG.EN, CEL_VER_CFG.READY, CEL_VER_CFG.JOBQ, CEL_VER_CFG.CQ, CEL_VER_CFG.VENG]⟩,
   ⟨0xF04020124, [], fun _ _ => [CEL_VER_LEN.VLEN, CEL_VER_LEN.TIMEOUT_MS]⟩,
   ⟨0xF04020128, [], fun _ _ => [CEL_VER_ENTRY.ENTRY]⟩,
   ⟨0xF04020130, [], fun _ _ => [CEL_VER_ADDR_LO.ADDR]⟩,
   ⟨0xF04020134, [], fun _ _ => [CEL_VER_ADDR_HI.ADDR]⟩,
   ⟨0xF04020140, [], fun _ _ => [CEL_WAKE_CFG.CONSOLE_MIN]⟩,
   ⟨0xF04020200, [], fun _ _ => [CEL_HOLD_STAT.ON_BATTERY, CEL_HOLD_STAT.CUT]⟩,
   ⟨0xF04020204, [], fun _ _ => [CEL_HOLD_CFG.FW_BATT]⟩,
   ⟨0xF04020208, [], fun _ _ => [CEL_HOLD_CUT.CODE, CEL_HOLD_CUT.BATT_CH, CEL_HOLD_CUT.DWELL_S]⟩,
   ⟨0xF04020210, [(8, 4)], fun i _ => [CEL_HOLD_LIM.OUT_MAX_BAT i, CEL_HOLD_LIM.EN i]⟩,
   ⟨0xF04020240, [], fun _ _ => [CEL_PLANT_DEF.APPLIED]⟩]

/-- Registers of the GRP window by address (R761), part 0. -/
def rowsGRP0 : List RegRow :=
  [⟨0xF04800000, [], fun _ _ => [GRP_STAT.STATE, GRP_STAT.ROLE, GRP_STAT.MEMBER, GRP_STAT.INCLUDED, GRP_STAT.BEHIND]⟩,
   ⟨0xF04800004, [], fun _ _ => [GRP_MEMBERS.ADMITTED, GRP_MEMBERS.BENCHED, GRP_MEMBERS.LOST]⟩,
   ⟨0xF04800008, [], fun _ _ => [GRP_EPOCH_LO.EPOCH]⟩,
   ⟨0xF0480000C, [], fun _ _ => [GRP_EPOCH_HI.EPOCH]⟩,
   ⟨0xF04800010, [], fun _ _ => [GRP_RESET.KEY, GRP_RESET.MASK]⟩,
   ⟨0xF04800018, [], fun _ _ => [GRP_TIME_CFG.HW_SERVO]⟩,
   ⟨0xF0480001C, [], fun _ _ => [GRP_TIME_STAT.LOCKED, GRP_TIME_STAT.LOCK_S]⟩,
   ⟨0xF04800020, [], fun _ _ => [GRP_TIME_OFS_LO.OFS]⟩,
   ⟨0xF04800024, [], fun _ _ => [GRP_TIME_OFS_HI.OFS]⟩,
   ⟨0xF04800028, [], fun _ _ => [GRP_TIME_DELAY.TICKS]⟩,
   ⟨0xF04800030, [], fun _ _ => [GRP_MOVE_POST_LO.ADDR]⟩,
   ⟨0xF04800034, [], fun _ _ => [GRP_MOVE_POST_HI.ADDR]⟩,
   ⟨0xF04800100, [(4, 64)], fun i _ => [GRP_TETHER_STAT.STATE i, GRP_TETHER_STAT.PEER_MEMBER i, GRP_TETHER_STAT.PEER_PORT i]⟩,
   ⟨0xF04800104, [(4, 64)], fun i _ => [GRP_TETHER_RETRY.COUNT i]⟩,
   ⟨0xF04800108, [(4, 64)], fun i _ => [GRP_TETHER_CRC.COUNT i]⟩,
   ⟨0xF0480010C, [(4, 64)], fun i _ => [GRP_TETHER_FEC_CE.COUNT i]⟩,
   ⟨0xF04800110, [(4, 64)], fun i _ => [GRP_TETHER_DOWN.COUNT i]⟩,
   ⟨0xF04800400, [(8, 4)], fun i _ => [GRP_MEMBER.YIELDS i, GRP_MEMBER.VERDICT i]⟩]

/-- Every register of the device. -/
def table : List RegRow :=
  rowsSYS0 ++
  rowsSYS1 ++
  rowsCLK0 ++
  rowsCLK1 ++
  rowsCFG0 ++
  rowsSEC0 ++
  rowsNOC0 ++
  rowsMEM0 ++
  rowsSTR0 ++
  rowsSTR1 ++
  rowsLOG0 ++
  rowsGFB0 ++
  rowsIE0 ++
  rowsIE1 ++
  rowsRAD0 ++
  rowsRADLR0 ++
  rowsVIS0 ++
  rowsVIS1 ++
  rowsCEL0 ++
  rowsCEL1 ++
  rowsCEL2 ++
  rowsCELSVC0 ++
  rowsGRP0

end Reg

end Sys2Proof.Machine
end

