-- ==== Sys2Proof/Machine/Ops.lean ====
section
/-! DEFINITION. The named operations over the state that every unit uses: sparse tables, byte memories, register fields,
free values, the trouble-log intake, the requesters and islands, domains and tiers. -/

namespace Sys2Proof

/-! Requesters and islands. -/

/-- The storeroom context of a requester (06 R270). -/
def Requester.context (r : Requester) : Nat := 4 * r.ni + r.qclass % 4

/-- Service cluster, cellar core or debug port. -/
def Requester.isControl (r : Requester) : Bool := r.ni == 36 || r.ni == 44 || r.ni == 45

/-- Row and column of the router that an NI is attached to (05 R218). -/
def niRouter (ni : Nat) : Option (Nat × Nat) :=
  ([(0, 1), (0, 2), (0, 3), (0, 4), (5, 1), (5, 2), (5, 3), (5, 4),
    (1, 1), (1, 2), (1, 3), (1, 4), (2, 1), (2, 2), (2, 3), (2, 4),
    (3, 1), (3, 2), (3, 3), (3, 4), (4, 1), (4, 2), (4, 3), (4, 4),
    (1, 0), (2, 0), (3, 0), (4, 0),
    (1, 1), (1, 2), (2, 1), (2, 2), (3, 1), (3, 2), (4, 1), (4, 2),
    (0, 0), (1, 3), (0, 5), (0, 5), (1, 5), (2, 5), (2, 5), (1, 4),
    (3, 5), (1, 5), (0, 0), (2, 3), (2, 4)] : List (Nat × Nat))[ni]?

/-- Local port of an NI at its router: 0 or 1 (05 R218). -/
def niPort (ni : Nat) : Nat := if [28, 29, 30, 31, 32, 33, 34, 35, 37, 39, 42, 43, 45, 46, 47, 48].contains ni then 1 else 0

/-- Island of the router that an NI is attached to (05 "The mesh"). -/
def niIsland (ni : Nat) : Nat :=
  match niRouter ni with
  | some (r, c) => 132 + 6 * r + c
  | none => 132

/-- Island that raises the bus events of a requester on its behalf (06 R308; DEDUCED). -/
def Requester.island (r : Requester) : Nat :=
  if r.ni = 44 then 234 else if r.ni = 45 then 237 else if r.ni = 36 then 200 else if r.ni = 39 then 223
  else if r.ni = 38 then 219 else if r.ni = 40 then 224 else if r.ni = 43 then 232 else if r.ni = 37 then 218
  else if r.ni = 41 then 228 else if r.ni = 42 then 230
  else if 24 ≤ r.ni ∧ r.ni ≤ 27 then 110 + 7 * (r.ni - 24)
  else if 28 ≤ r.ni ∧ r.ni ≤ 35 then 96 + (r.ni - 28)
  else niIsland r.ni

end Sys2Proof

namespace Sys2Proof.Machine

/-- The cellar core on its local bus and on the network: NI 44 (01 R47, 05 R218). -/
def cellarCore : Requester := ⟨44, 1⟩

/-! Bits of a number. -/

/-- Bits [lo + w − 1 : lo] of `v`. -/
def bits (v lo w : Nat) : Nat := v / 2 ^ lo % 2 ^ w

/-- Bit `i` of `v`. -/
def bit (v i : Nat) : Bool := v / 2 ^ i % 2 == 1

/-- The distance of `a` from `base`, 0 below it: `a - base` in a form whose evaluation stops at once on an unknown `a`. -/
def off (a base : Nat) : Nat := if base ≤ a then a - base else 0

/-- 1 for true. -/
def b2n (b : Bool) : Nat := if b then 1 else 0

/-- `v` with bit `i` set. -/
def setBit (v i : Nat) : Nat := v ||| 2 ^ i

/-- `v` with bit `i` clear. -/
def clrBit (v i : Nat) : Nat := if bit v i then v - 2 ^ i else v

/-- The bits of `v` that are not in `m`. -/
def andNot (v m : Nat) : Nat := v - (v &&& m)

/-- The positions below `n` whose bit is set in `v`, ascending. -/
def ones (v n : Nat) : List Nat := (List.range n).filter (bit v)

/-- A two's-complement number of `w` bits as an integer. -/
def sInt (v w : Nat) : Int := if v % 2 ^ w < 2 ^ (w - 1) then (v % 2 ^ w : Nat) else (v % 2 ^ w : Nat) - (2 ^ w : Nat)

/-- An integer in `w` bits of two's complement. -/
def ofInt (i : Int) (w : Nat) : Nat := (i % (2 ^ w : Nat)).toNat

/-- An integer held within [lo, hi]. -/
def clampI (lo hi i : Int) : Int := max lo (min hi i)

/-! Bytes, little-endian (00 R4). -/

/-- The number that a list of bytes holds, first byte least significant. -/
def leNat : List Byte → Nat
  | [] => 0
  | b :: bs => b.toNat + 256 * leNat bs

/-- The first `n` bytes of a number, least significant first. -/
def leBytes : Nat → Nat → List Byte
  | 0, _ => []
  | n + 1, v => BitVec.ofNat 8 v :: leBytes n (v / 256)

/-- The number that a list of bytes holds, first byte most significant. -/
def beNat (bs : List Byte) : Nat := leNat bs.reverse

/-- A number in `n` bytes, most significant first. -/
def beBytes (n v : Nat) : List Byte := (leBytes n v).reverse

/-- `n` bytes of a list from `o`; bytes past its end read 0. -/
def slice (bs : List Byte) (o n : Nat) : List Byte :=
  let t := (bs.drop o).take n
  t ++ List.replicate (n - t.length) 0

/-- The number in `n` bytes of a list from `o`, little-endian. -/
def field (bs : List Byte) (o n : Nat) : Nat := leNat (slice bs o n)

/-! Sparse tables. -/

/-- The entry at a key. -/
def Tbl.find {α : Type} : Tbl α → Nat → Option α
  | [], _ => none
  | (a, v) :: t, k => if a = k then some v else Tbl.find t k

/-- The entry at a key, `d` where none is listed. -/
def Tbl.get {α : Type} (t : Tbl α) (k : Nat) (d : α) : α := (Tbl.find t k).getD d

/-- The table without a key. -/
def Tbl.erase {α : Type} (t : Tbl α) (k : Nat) : Tbl α := t.filter fun p => p.1 != k

/-- An entry put before the first larger key. -/
def Tbl.insert {α : Type} : Tbl α → Nat → α → Tbl α
  | [], k, v => [(k, v)]
  | (a, x) :: t, k, v => if k < a then (k, v) :: (a, x) :: t else (a, x) :: Tbl.insert t k v

/-- The table with an entry replaced. -/
def Tbl.set {α : Type} (t : Tbl α) (k : Nat) (v : α) : Tbl α := Tbl.insert (Tbl.erase t k) k v

/-- The table with an entry replaced, the entry left out when it equals the default. -/
def Tbl.put {α : Type} [DecidableEq α] (t : Tbl α) (k : Nat) (v d : α) : Tbl α :=
  if v = d then Tbl.erase t k else Tbl.set t k v

/-- Keys strictly rising, all above `lo`. -/
def Tbl.risingFrom {α : Type} : Tbl α → Nat → Bool
  | [], _ => true
  | (a, _) :: t, lo => decide (lo ≤ a) && Tbl.risingFrom t (a + 1)

/-- Keys strictly rising. -/
def Tbl.rising {α : Type} (t : Tbl α) : Bool := Tbl.risingFrom t 0

/-! Byte memories.  An unlisted byte reads 0. -/

/-- The canonical form: addresses strictly rising and no byte listed that equals what an unlisted address reads as. -/
def Mem.wf (m : Mem) : Bool := Tbl.rising m && m.all fun c => c.2 != 0

/-- One byte. -/
def Mem.read (m : Mem) (a : Nat) : Byte := Tbl.get m a 0

/-- One byte written. -/
def Mem.write (m : Mem) (a : Nat) (b : Byte) : Mem := Tbl.put m a b 0

/-- `n` bytes from `a`. -/
def Mem.readN (m : Mem) (a n : Nat) : List Byte := (List.range n).map fun i => Mem.read m (a + i)

/-- Bytes written from `a`. -/
def Mem.writeN : Mem → Nat → List Byte → Mem
  | m, _, [] => m
  | m, a, b :: bs => Mem.writeN (Mem.write m a b) (a + 1) bs

/-- A little-endian number of `n` bytes. -/
def Mem.num (m : Mem) (a n : Nat) : Nat := leNat (Mem.readN m a n)

/-! Register fields. -/

/-- Key of a field in the register table. -/
def Fld.key (f : Fld) : Nat := 32 * f.addr + f.lo

/-- Current value of a field. -/
def State.rd (s : State) (f : Fld) : Nat := Tbl.get s.csr f.key f.reset

/-- A field set to a value, cut to its width. -/
def State.wr (s : State) (f : Fld) (v : Nat) : State :=
  { s with csr := Tbl.put s.csr f.key (v % 2 ^ f.w) f.reset }

/-- Pending value of an RWS field (00 R6). -/
def State.rdShadow (s : State) (f : Fld) : Nat := Tbl.get s.shadow f.key f.reset

/-- Pending value of an RWS field set. -/
def State.wrShadow (s : State) (f : Fld) (v : Nat) : State :=
  { s with shadow := Tbl.put s.shadow f.key (v % 2 ^ f.w) f.reset }

/-- The active value takes the pending value (00 R6). -/
def State.commit (s : State) (f : Fld) : State := s.wr f (s.rdShadow f)

/-- The active values of several fields take their pending values. -/
def State.commitAll (s : State) (fs : List Fld) : State := fs.foldl State.commit s

/-- A counter field advanced by `n`, holding at its largest value. -/
def State.bump (s : State) (f : Fld) (n : Nat) : State := s.wr f (min (2 ^ f.w - 1) (s.rd f + n))

/-- A counter field advanced by 1, wrapping. -/
def State.count (s : State) (f : Fld) : State := s.wr f (s.rd f + 1)

/-- Bits of a field set. -/
def State.orBits (s : State) (f : Fld) (m : Nat) : State := s.wr f (s.rd f ||| m)

/-- Bits of a field cleared. -/
def State.clearBits (s : State) (f : Fld) (m : Nat) : State := s.wr f (andNot (s.rd f) m)

/-- A field set and cleared as a flag. -/
def State.flag (s : State) (f : Fld) : Bool := s.rd f != 0

/-- A 64-bit quantity in two registers (00 R9). -/
def State.rdPair (s : State) (lo hi : Fld) : Nat := s.rd lo + 2 ^ 32 * s.rd hi

/-- A 64-bit quantity written to two registers. -/
def State.wrPair (s : State) (lo hi : Fld) (v : Nat) : State := (s.wr lo v).wr hi (v / 2 ^ 32)

/-- Every field of a register window at its reset value: addresses in [lo, hi). -/
def State.resetWindow (s : State) (lo hi : Nat) (keep : List Fld) : State :=
  let out (k : Nat) : Bool := k < 32 * lo || 32 * hi ≤ k || keep.any fun f => f.key == k
  { s with csr := s.csr.filter fun p => out p.1, shadow := s.shadow.filter fun p => out p.1,
           wl := s.wl.filter fun k => k < 32 * lo || 32 * hi ≤ k }

/-! Free values. -/

/-- A value the spec leaves open: the next opaque number, cut to `w` bits. -/
def State.freeVal (s : State) (w : Nat) : Nat := Config.freeValue s.fresh % 2 ^ w

/-- The counter behind the free values advanced. -/
def State.useFresh (s : State) : State := { s with fresh := s.fresh + 1 }

/-! Parts (00 R1-R3, 01 R33, R34). -/

/-- Fused or absent domains: IE3 and region 5 on the JX741, the converter chiplet on the JX720 (02 R62). -/
def Part.fused : Part → Nat
  | .jx740 => 0
  | .jx741 => 2 ^ 9 + 2 ^ 15
  | .jx720 => 2 ^ 18

/-- SYS_ID.PART (02 R116). -/
def Part.id : Part → Nat
  | .jx740 => 0x0740
  | .jx741 => 0x0741
  | .jx720 => 0x0720

/-- Bit of the part in the PARTS field of an image (04 R165). -/
def Part.bitOf : Part → Nat
  | .jx740 => 0
  | .jx741 => 1
  | .jx720 => 2

/-- Live fabric regions. -/
def Part.regions : Part → Nat
  | .jx741 => 5
  | _ => 6

/-- Live engines. -/
def Part.engines : Part → Nat
  | .jx741 => 3
  | _ => 4

/-- The island index is present on the part (03 R117, R121). -/
def Part.hasIsland (p : Part) (i : Nat) : Bool :=
  decide (i ≤ 237) && match p with
  | .jx740 => true
  | .jx741 => !(decide (80 ≤ i) && decide (i ≤ 95)) && !(decide (125 ≤ i) && decide (i ≤ 131))
  | .jx720 => !(decide (201 ≤ i) && decide (i ≤ 212))

/-! Device time. -/

/-- Ticks in one second of device time (00 "Time"). -/
def ticksPerSecond : Nat := 491520000

/-- Ticks in which `n` engine cycles pass, 2.5 to a tick (03 R117). -/
def engineTicks (n : Nat) : Nat := (2 * n + 4) / 5

/-- Device time as a number. -/
def State.now (s : State) : Nat := s.ck.time.toNat

/-! Modes, tiers and domains (02). -/

/-- SYS_PWR_MODE.MODE; 0 while OFF. -/
def State.mode (s : State) : Nat := if s.pw.off then 0 else s.rd Reg.SYS_PWR_MODE.MODE

/-- The tier reached (02 R53). -/
def State.tier (s : State) : Nat := s.rd Reg.SYS_PWR_MODE.TIER

/-- A transition is in progress (02 R74). -/
def State.busy (s : State) : Bool := s.flag Reg.SYS_PWR_MODE.BUSY

/-- The domain is on. -/
def State.domOn (s : State) (d : Nat) : Bool := bit (s.rd Reg.SYS_DOM_STATE.DOM) d

/-- The domain is on and not being fenced (02 R64). -/
def State.domUp (s : State) (d : Nat) : Bool := s.domOn d && !bit s.pw.fenceReq d

/-- Radio is released (02 R116). -/
def State.radioReleased (s : State) : Bool := s.flag Reg.SYS_PWR_STAT.RADIO_RELEASED

/-- The domain carries radio work: its bit in SYS_DOM_RADIO (02 R84). -/
def State.domRadio (s : State) (d : Nat) : Bool :=
  bit (s.rd Reg.SYS_DOM_RADIO.DOM) d ||
    (decide (6 ≤ d) && decide (d ≤ 9) &&
      s.rd (Reg.IE_BANK_MODEL_STAT.STATE (d - 6) 0) == 2)

/-! The trouble-log intake (06 R311). -/

/-- An event reaches the intake, or is dropped and counted when the intake is full. -/
def State.logAt (s : State) (ev : LogEv) : State :=
  if s.log.intake.length < 16 then { s with log := { s.log with intake := s.log.intake ++ [ev] } }
  else ({ s with log := { s.log with dropped := s.log.dropped + 1 } }).bump Reg.LOG_LOST_DROP.COUNT 1

/-- An event raised now by an island. -/
def State.logEvent (s : State) (island code a0 a1 a2 : Nat) : State :=
  s.logAt ⟨s.ck.time, island, BitVec.ofNat 16 code, BitVec.ofNat 32 a0, BitVec.ofNat 32 a1, BitVec.ofNat 32 a2⟩

/-- Less than a second of device time has passed since the last entry of this code and index. -/
def State.recent (s : State) (code ix : Nat) : Bool :=
  match Tbl.find s.log.limited (65536 * code + ix) with
  | none => false
  | some t => decide ((s.ck.time - t).toNat < ticksPerSecond)

/-- An event logged at most once per second for its code and index. -/
def State.logLimited (s : State) (ix island code a0 a1 a2 : Nat) : State :=
  if s.recent code ix then s
  else
    let s := { s with log := { s.log with limited := Tbl.set s.log.limited (65536 * code + ix) s.ck.time } }
    s.logEvent island code a0 a1 a2

/-! Answers. -/

/-- The access completes with a value. -/
def State.answer (s : State) (v : Nat) : State := { s with resp := { value := v } }

/-- The access is answered with a bus error. -/
def State.busErr (s : State) : State := { s with resp := { busError := true } }

/-- The access completes with poisoned data (STATUS 2). -/
def State.answerPoison (s : State) (v : Nat) : State := { s with resp := { poisoned := true, value := v } }

/-- A register-level error (0x0101 to 0x0105): bus error and its entry (00 "At the edges"). -/
def State.csrErr (s : State) (island code addr data : Nat) (rq : Requester) : State :=
  (s.logEvent island code addr data rq.ni).busErr

/-- An address error (0x0106, 0x0107): bus error and its entry (01 "At the edges"). -/
def State.addrErr (s : State) (code addr : Nat) (write local_ : Bool) (rq : Requester) : State :=
  (s.logEvent rq.island code addr
    (if local_ then 512 + 256 * b2n write else addr / 2 ^ 32 % 16 + 256 * b2n write) rq.ni).busErr

/-- A write from a requester not allowed: bus error and 0x0107 (02 R115 and the like). -/
def State.denied (s : State) (addr : Nat) (rq : Requester) : State := s.addrErr 0x0107 addr true false rq

/-- What a command does while the device is powered and its cellar out of reset; with VDD_CEL down or the cellar held in
reset nothing acts (02 R70, 17 R771). -/
def whilePowered (s : State) (k : State → State) : Host.Outcome State Fault Refusal :=
  .next (if s.pw.off || s.pw.held then s else k s)

end Sys2Proof.Machine
end

