-- ==== Sys2Proof/Machine/NumFormat.lean ====
section
/-! DEFINITION. The number formats of chapter 09 and their arithmetic: exact values, rounding to nearest ties to even, and
narrowing with saturation (R424-R428). -/

namespace Sys2Proof.Machine

/-- A floating-point value: NaN, an infinity, or a signed exact quotient (zero keeps its sign). -/
inductive FVal where
  | nan
  | inf (neg : Bool)
  | fin (neg : Bool) (n d : Nat)
  deriving DecidableEq, Repr

/-- Width in bits of a format code (09 R424). -/
def fmtBits : Nat → Nat
  | 1 => 4 | 2 => 8 | 3 => 16 | 4 => 8 | 5 => 8 | 6 => 16 | 7 => 16 | 8 => 32 | 9 => 32 | _ => 0

/-- The code names a floating-point format. -/
def fmtFloat (f : Nat) : Bool := decide (4 ≤ f) && decide (f ≤ 8)

/-- The code names a format. -/
def fmtOk (f : Nat) : Bool := decide (1 ≤ f) && decide (f ≤ 9)

/-- Fraction bits of a floating-point format. -/
def fmtMan : Nat → Nat
  | 4 => 3 | 5 => 2 | 6 => 10 | 7 => 7 | _ => 23

/-- Exponent bias of a floating-point format. -/
def fmtBias : Nat → Nat
  | 4 => 7 | 5 => 15 | 6 => 15 | _ => 127

/-- Code of the largest finite value, without sign (09 R424). -/
def fmtMax : Nat → Nat
  | 4 => 0x7E | 5 => 0x7B | 6 => 0x7BFF | 7 => 0x7F7F | _ => 0x7F7FFFFF

/-- Code of infinity, without sign, where the format has one (09 R424). -/
def fmtInf : Nat → Option Nat
  | 4 => none | 5 => some 0x7C | 6 => some 0x7C00 | 7 => some 0x7F80 | _ => some 0x7F800000

/-- Canonical NaN (09 R428). -/
def fmtNan : Nat → Nat
  | 4 => 0x7F | 5 => 0x7E | 6 => 0x7E00 | 7 => 0x7FC0 | _ => 0x7FC00000

/-- Value of a code in a floating-point format (09 R424, R425). -/
def decodeF (f c : Nat) : FVal :=
  let w := fmtBits f
  let neg := bit c (w - 1)
  let m := c % 2 ^ (w - 1)
  match fmtInf f with
  | some i => if m = i then .inf neg else if i < m then .nan else value neg m
  | none => if fmtMax f < m then .nan else value neg m
where
  /-- A finite code without sign. -/
  value (neg : Bool) (m : Nat) : FVal :=
    let man := fmtMan f
    let e := m / 2 ^ man
    let frac := m % 2 ^ man
    let sig := if e = 0 then frac else frac + 2 ^ man
    let ex : Int := (max e 1 : Nat) - (fmtBias f : Int) - man
    if 0 ≤ ex then .fin neg (sig * 2 ^ ex.toNat) 1 else .fin neg sig (2 ^ (-ex).toNat)

/-- The integer nearest to n / d, ties to even. -/
def nearestEven (n d : Nat) : Nat :=
  let q := n / d
  let r := n % d
  if d < 2 * r ∨ (2 * r = d ∧ q % 2 = 1) then q + 1 else q

/-- floor(log2 (n / d)) for n, d > 0. -/
def log2Q (n d : Nat) : Int :=
  let e : Int := (Nat.log2 n : Int) - Nat.log2 d
  let le (e : Int) : Bool := if 0 ≤ e then decide (d * 2 ^ e.toNat ≤ n) else decide (d ≤ n * 2 ^ (-e).toNat)
  if le e then e else e - 1

/-- Code, without sign and without bound on the exponent, of n / d rounded to nearest ties to even in a format (09 R425). -/
def roundCode (f n d : Nat) : Nat :=
  if n = 0 ∨ d = 0 then 0
  else
    let emin : Int := 1 - (fmtBias f : Int)
    let e := max (log2Q n d) emin
    let q : Int := (fmtMan f : Int) - e
    let m := if 0 ≤ q then nearestEven (n * 2 ^ q.toNat) d else nearestEven n (d * 2 ^ (-q).toNat)
    (e - emin).toNat * 2 ^ fmtMan f + m

/-- A signed code. -/
def signed (f : Nat) (neg : Bool) (c : Nat) : Nat := c + if neg then 2 ^ (fmtBits f - 1) else 0

/-- A value in FP32 by IEEE rounding: overflow gives infinity (09 R425, R459). -/
def toFP32 : FVal → Nat
  | .nan => fmtNan 8
  | .inf neg => signed 8 neg 0x7F800000
  | .fin neg n d =>
    let c := roundCode 8 n d
    signed 8 neg (if fmtMax 8 < c then 0x7F800000 else c)

/-- Range of an integer format. -/
def intRange (f : Nat) : Int × Int := (-(2 ^ (fmtBits f - 1) : Nat), (2 ^ (fmtBits f - 1) : Nat) - 1)

/-- An integer in an integer format with the saturations it takes (09 R426). -/
def narrowInt (f : Nat) (i : Int) : Nat × Nat :=
  let (lo, hi) := intRange f
  (ofInt (clampI lo hi i) (fmtBits f), b2n (decide (i < lo) || decide (hi < i)))

/-- The nearest integer, ties to even. -/
def toInt (neg : Bool) (n d : Nat) : Int :=
  let m : Int := if d = 0 then 0 else nearestEven n d
  if neg then -m else m

/-- A value written to a format, with the saturations it takes (09 R425-R428). -/
def narrow (f : Nat) (v : FVal) : Nat × Nat :=
  if fmtFloat f then
    match v with
    | .nan => (fmtNan f, 0)
    | .inf neg =>
      match fmtInf f with
      | some i => (signed f neg i, 0)
      | none => (signed f neg (fmtMax f), 1)
    | .fin neg n d =>
      let c := roundCode f n d
      if fmtMax f < c then (signed f neg (fmtMax f), 1) else (signed f neg c, 0)
  else
    let (lo, hi) := intRange f
    match v with
    | .nan => (0, 1)
    | .inf neg => (ofInt (if neg then lo else hi) (fmtBits f), 1)
    | .fin neg n d => narrowInt f (toInt neg n d)

/-- An integer as a value. -/
def ofI (i : Int) : FVal := .fin (decide (i < 0)) i.natAbs 1

/-- An FP32 code as a value. -/
def f32 (c : Nat) : FVal := decodeF 8 c

/-- Exact sum; an exact zero is +0 unless both are −0. -/
def FVal.add : FVal → FVal → FVal
  | .nan, _ => .nan
  | _, .nan => .nan
  | .inf a, .inf b => if a = b then .inf a else .nan
  | .inf a, _ => .inf a
  | _, .inf b => .inf b
  | .fin a n d, .fin b m e =>
    let x : Int := (if a then -((n * e : Nat) : Int) else ((n * e : Nat) : Int)) +
      (if b then -((m * d : Nat) : Int) else ((m * d : Nat) : Int))
    if x = 0 then .fin (a && b) 0 1 else .fin (decide (x < 0)) x.natAbs (d * e)

/-- The value with its sign changed. -/
def FVal.neg : FVal → FVal
  | .nan => .nan
  | .inf a => .inf !a
  | .fin a n d => .fin (!a) n d

/-- The value without its sign. -/
def FVal.abs : FVal → FVal
  | .nan => .nan
  | .inf _ => .inf false
  | .fin _ n d => .fin false n d

/-- Exact product. -/
def FVal.mul : FVal → FVal → FVal
  | .nan, _ => .nan
  | _, .nan => .nan
  | .inf a, .inf b => .inf (a != b)
  | .inf a, .fin b n _ => if n = 0 then .nan else .inf (a != b)
  | .fin a n _, .inf b => if n = 0 then .nan else .inf (a != b)
  | .fin a n d, .fin b m e => .fin (a != b) (n * m) (d * e)

/-- Exact reciprocal; ±0 gives ±infinity (09 R460). -/
def FVal.recip : FVal → FVal
  | .nan => .nan
  | .inf a => .fin a 0 1
  | .fin a n d => if n = 0 then .inf a else .fin a d n

/-- Less than, on values that are not NaN; −0 is below +0. -/
def FVal.lt : FVal → FVal → Bool
  | .inf a, .inf b => a && !b
  | .inf a, .fin .. => a
  | .fin .., .inf b => !b
  | .fin a n d, .fin b m e =>
    if a && !b then true
    else if !a && b then false
    else if a then decide (m * d < n * e) else decide (n * e < m * d)
  | _, _ => false

/-- The smaller; a NaN yields the other value (09 R460). -/
def FVal.min (x y : FVal) : FVal :=
  match x, y with
  | .nan, y => y
  | x, .nan => x
  | x, y => if y.lt x then y else x

/-- The larger; a NaN yields the other value (09 R460). -/
def FVal.max (x y : FVal) : FVal :=
  match x, y with
  | .nan, y => y
  | x, .nan => x
  | x, y => if x.lt y then y else x

/-- 1 / √x as a value with the same FP32 rounding as the exact one: the root to 2^−200 with a sticky half below it when it is
not exact; +0 gives +infinity, a value below 0 NaN (09 R460). -/
def FVal.rsqrt : FVal → FVal
  | .nan => .nan
  | .inf neg => if neg then .nan else .fin false 0 1
  | .fin neg n d =>
    if n = 0 then .inf neg
    else if neg then .nan
    else
      let r := Nat.sqrt (d * 2 ^ 400 / n)
      if r * r * n = d * 2 ^ 400 then .fin false r (2 ^ 200) else .fin false (2 * r + 1) (2 ^ 201)

/-- Fixed-point e^t for 0 ≤ t < 1 given as t × 2^400: the first 100 terms of the series. -/
def expSeries (t : Nat) : Nat :=
  ((List.range 100).foldl (fun (acc : Nat × Nat) k =>
    (acc.1 + acc.2, acc.2 * t / (2 ^ 400 * (k + 1)))) (0, 2 ^ 400)).1

/-- e^x; beyond 89 it is infinity in FP32 and below −104 it rounds to +0 (09 R460).  The argument is divided by 256, the
series is taken to 2^−400 and squared eight times, far closer than a rounding to FP32 can tell apart. -/
def FVal.exp : FVal → FVal
  | .nan => .nan
  | .inf neg => if neg then .fin false 0 1 else .inf false
  | .fin neg n d =>
    if n = 0 then .fin false 1 1
    else if 104 * d < n then (if neg then .fin false 0 1 else .inf false)
    else
      let e := (List.range 8).foldl (fun y _ => y * y / 2 ^ 400) (expSeries (n * 2 ^ 392 / d))
      if neg then .fin false (2 ^ 400) e else .fin false e (2 ^ 400)

/-- A value rounded to FP32 (09 R425). -/
def FVal.round (v : FVal) : FVal := f32 (toFP32 v)

end Sys2Proof.Machine
end

