-- ==== Sys2Proof/Machine/Access.lean ====
section
/-! DEFINITION. The device memory map and the checks that an access meets before it reaches a unit (01 R41-R46, 00 R14,
05 R262, 06 R271, the write rights of 02 R115 and the like), and byte access to DRAM and larder behind those checks. -/

namespace Sys2Proof.Machine

/-- What answers a device address (01 R41). -/
inductive Target where
  | dram | larder | pcie | hole
  | sys | clk | cfg | noc | mem | str | log | sec | gfb | rad | vis | cel | grp
  | ie (n : Nat)
  deriving DecidableEq, Repr

/-- The windows of the device memory map with their first and last address (01 R41); every other address is a hole. -/
def memoryMap : List (Nat × Nat × Target) :=
  [(0x000000000, 0x7BFFFFFFF, .dram), (0x800000000, 0x803FFFFFF, .larder), (0xA00000000, 0xBFFFFFFFF, .pcie),
   (0xF00000000, 0xF000FFFFF, .sys), (0xF00100000, 0xF001FFFFF, .clk), (0xF00200000, 0xF002FFFFF, .cfg),
   (0xF00300000, 0xF003FFFFF, .noc), (0xF00400000, 0xF004FFFFF, .mem), (0xF00500000, 0xF005FFFFF, .str),
   (0xF00600000, 0xF006FFFFF, .log), (0xF00700000, 0xF007FFFFF, .sec), (0xF01000000, 0xF01FFFFFF, .gfb),
   (0xF02000000, 0xF023FFFFF, .ie 0), (0xF02400000, 0xF027FFFFF, .ie 1), (0xF02800000, 0xF02BFFFFF, .ie 2),
   (0xF02C00000, 0xF02FFFFFF, .ie 3), (0xF03000000, 0xF037FFFFF, .rad), (0xF03800000, 0xF03FFFFFF, .vis),
   (0xF04000000, 0xF047FFFFF, .cel), (0xF04800000, 0xF04FFFFFF, .grp)]

/-- The window of an address: its target and its last address. -/
def windowOf (addr : Nat) : Target × Nat :=
  match memoryMap.find? fun w => decide (w.1 ≤ addr) && decide (addr ≤ w.2.1) with
  | some (_, hi, t) => (t, hi)
  | none => (.hole, addr)

/-- First address of a window. -/
def Target.base : Target → Nat
  | .dram => 0x000000000 | .larder => 0x800000000 | .pcie => 0xA00000000 | .hole => 0
  | .sys => 0xF00000000 | .clk => 0xF00100000 | .cfg => 0xF00200000 | .noc => 0xF00300000 | .mem => 0xF00400000
  | .str => 0xF00500000 | .log => 0xF00600000 | .sec => 0xF00700000 | .gfb => 0xF01000000 | .rad => 0xF03000000
  | .vis => 0xF03800000 | .cel => 0xF04000000 | .grp => 0xF04800000 | .ie n => 0xF02000000 + 0x400000 * n

/-- Island that raises a unit's register events (06 R308; DEDUCED where the unit has no island). -/
def Target.island : Target → Nat
  | .sys | .log => 234
  | .clk | .noc | .sec => 132
  | .cfg => 232
  | .mem => 168
  | .str => 147
  | .gfb => 148
  | .ie n => 109 + 7 * n
  | .rad => 141
  | .vis => 230
  | .cel => 236
  | .grp => 224
  | .dram => 168
  | .larder => 176
  | .pcie => 223
  | .hole => 132

/-- NI that answers a target (05 R219). -/
def Target.ni : Target → Nat
  | .sys | .log | .cel => 44
  | .clk | .noc | .mem | .sec => 46
  | .cfg => 43
  | .str => 47
  | .gfb => 48
  | .ie n => 24 + n
  | .rad => 37
  | .vis => 42
  | .grp => 40
  | .pcie => 39
  | _ => 0

/-- DRAM channel of an address (05 R249). -/
def dramChannel (addr : Nat) : Nat := addr / 64 % 16

/-- Channel line of a DRAM address (05 R249). -/
def dramChannelLine (addr : Nat) : Nat :=
  let cl := addr / 64 / 16
  32 * (cl / 31) + cl % 31

/-- Larder bank of an address (05 R260). -/
def larderBank (addr : Nat) : Nat := (off addr 0x800000000) / 64 % 16

/-- Target NI of an address: its controller, its bank or its window's NI (05 R219, R220). -/
def targetNi (addr : Nat) : Nat :=
  match (windowOf addr).1 with
  | .dram => dramChannel addr / 2
  | .larder => 8 + larderBank addr
  | t => t.ni

/-- The tier that a window answers from is reached (01 R41, R44). -/
def tierReached (s : State) (t : Target) : Bool :=
  match t with
  | .sys | .log | .cel => true
  | .clk | .cfg | .noc | .mem | .sec => decide (2 ≤ s.tier)
  | .dram => decide (2 ≤ s.tier) && s.flag Reg.MEM_STAT.TRAINED && !s.flag Reg.MEM_STAT.SELF_REFRESH
  | _ => decide (3 ≤ s.tier)

/-- Domain bit of the unit that answers an address, where the unit is in a domain (02 R60, 07 R365, 11). -/
def domainOf (addr : Nat) : Option Nat :=
  match (windowOf addr).1 with
  | .clk | .noc => some 2
  | .cfg | .sec => some 3
  | .mem | .dram => some 1
  | .str | .larder => some 5
  | .ie n => some (6 + n)
  | .gfb =>
    let o := off addr 0xF01000000
    if 0x1000 ≤ o ∧ o < 0x1600 then some (10 + (off o 0x1000) / 0x100)
    else if 0x800000 ≤ o ∧ o < 0x980000 then some (10 + (off o 0x800000) / 0x40000)
    else some 16
  | .rad =>
    let o := off addr 0xF03000000
    if 0x20 ≤ o ∧ o < 0x40 then some 18 else if 0x100 ≤ o ∧ o < 0x200 then some 19 else some 17
  | .vis => some 22
  | .grp => some 21
  | .pcie => some 20
  | _ => none

/-- The unit at an address answers: tier reached, domain on and not fenced, not fused (00 R14, 01 R44, 02 R64, R96).  The registers
and shelf window of a region isolated for a reload answer, since its domain is on (07 R365). -/
def unitUp (s : State) (rq : Requester) (addr : Nat) : Bool :=
  let t := (windowOf addr).1
  let dom := match domainOf addr with
    | none => true
    | some d => s.domUp d && !bit s.part.fused d
  if s.flag Reg.SYS_FLASH_SVC.ACTIVE ∧ t = .cfg then rq.ni == 44 else tierReached s t && dom

/-- Registers that only the service cluster, the cellar core and the debug port may write (02 R115, 04 R202, 06 R283,
16 R760). -/
def controlOnly : List Nat :=
  [0xF00000008, 0xF00000014, 0xF00000018, 0xF00000034, 0xF00000040, 0xF00000058, 0xF00000068,
   0xF00200054, 0xF0050004C, 0xF04800010, 0xF04800018, 0xF04800030, 0xF04800034]

/-- The requester may write the register at an address; the plant and service registers from CEL offset 0x0800 up take
writes from the cellar core and the debug port (14 R689). -/
def mayWrite (rq : Requester) (addr : Nat) : Bool :=
  if addr = 0xF00000074 then rq.ni == 44
  else if controlOnly.contains addr then rq.isControl
  else if (0xF04000800 ≤ addr ∧ addr < 0xF04040000) ∨ (0xF04060000 ≤ addr ∧ addr < 0xF04078000) then rq.ni == 44 || rq.ni == 45
  else true

/-- Pool geometry of the storeroom (06 R266, R318). -/
def crateSize (p : Nat) : Nat := 256 * 8 ^ p

/-- STR_POOLp_COUNT as it acts (06 R318). -/
def poolCount (s : State) (p : Nat) : Nat := min (s.rd (Reg.STR_POOL_COUNT.COUNT p)) 1048576

/-- STR_POOLp_BASE. -/
def poolBase (s : State) (p : Nat) : Nat := s.rdPair (Reg.STR_POOL_BASE_LO.ADDR p) (Reg.STR_POOL_BASE_HI.ADDR p)

/-- STR_STATE_BASE. -/
def stateBase (s : State) : Nat := s.rdPair Reg.STR_STATE_BASE_LO.ADDR Reg.STR_STATE_BASE_HI.ADDR

/-- Bytes of the crate state table (06 R271). -/
def stateBytes (s : State) : Nat := 4 * (poolCount s 0 + poolCount s 1 + poolCount s 2 + poolCount s 3)

/-- Two byte ranges, each first address and length, share a byte. -/
def overlap (a la b lb : Nat) : Bool := decide (0 < la) && decide (0 < lb) && decide (a < b + lb) && decide (b < a + la)

/-- A closed range refuses the requester: the frame range (01 R38), the attic (05 R262), and the crate state table, whether or not
the storeroom is enabled (06 R271). -/
def rangeDenied (s : State) (rq : Requester) (addr len : Nat) (write : Bool) : Bool :=
  let m := s.cfg.map
  (overlap addr len m.frameBase m.frameSize && !(rq.ni == 41 || rq.ni == 42)) ||
  (overlap addr len m.atticBase m.atticSize &&
    !(if write then rq.ni == 36 || rq.ni == 43
      else rq.ni == 36 || rq.ni == 43 || (decide (24 ≤ rq.ni) && decide (rq.ni ≤ 27)))) ||
  (overlap addr len (stateBase s) (stateBytes s) && rq.ni != 47)

/-- What the checks make of an access before it reaches its unit. -/
inductive Check where
  | ok (t : Target)
  | err (s : State)

/-- The address lies in no window that answers: in a hole, or in the PCIe outbound window while the port is in endpoint role
(01 R42).  The role stands in `State.pcieRoot`, since the spec names no selector (DESIGN CHOICE, log entry 79). -/
def noWindow (s : State) (t : Target) : Bool := t == .hole || (t == .pcie && !s.pcieRoot)

/-- The checks of a device access in the order of 01 and 00: hole and window end (R42, R43), unit down (R14), closed range
(R38, 05 R262, 06 R271), write right (02 R115).  The order is the model's reading (DEDUCED, log entry 16). -/
def checkAccess (s : State) (rq : Requester) (addr len : Nat) (write : Bool) (data : Nat) : Check :=
  let (t, hi) := windowOf addr
  if noWindow s t then .err (s.addrErr 0x0106 addr write false rq)
  else if hi < addr + len - 1 then .err (s.addrErr 0x0106 addr write false rq)
  else if !unitUp s rq addr then .err (s.csrErr rq.island 0x0105 addr (if write then data else 0) rq)
  else if (t = .dram ∨ t = .larder) ∧ rangeDenied s rq addr len write then .err (s.addrErr 0x0107 addr write false rq)
  else if write ∧ !mayWrite rq addr then .err (s.denied addr rq)
  else .ok t

/-! Requesters and routes (05 R227, R231, R234, R241). -/

/-- Domain of an NI; none for the cellar bridge (05 R218). -/
def niDomain (ni : Nat) : Option Nat :=
  if ni ≤ 7 then some 1 else if ni ≤ 23 then some 5 else if ni ≤ 27 then some (6 + (ni - 24)) else if ni ≤ 35 then some 16
  else match ni with
  | 36 => some 0
  | 37 => some 17
  | 38 => some 19
  | 39 => some 20
  | 40 => some 21
  | 41 => some 22
  | 42 => some 22
  | 43 => some 3
  | 44 => none
  | 45 => some 4
  | 47 => some 5
  | _ => some 2

/-- The unit that a requester belongs to is up: an NI that is off, fused off or being fenced requests no arbiter (00 R2,
05 R241). -/
def requesterUp (s : State) (rq : Requester) : Bool :=
  match niDomain rq.ni with
  | some d => s.domUp d && !bit s.part.fused d
  | none => true

/-- The NI has a valid route to a target; a unit reaches its own NI without one. -/
def hasRoute (s : State) (src dst : Nat) : Bool := src == dst || bit (s.rd (Reg.NOC_RT.ENTRY src dst)) 31

/-- The 64-byte lines of a byte range: address and length of each part. -/
def linesOf (addr len : Nat) : List (Nat × Nat) :=
  let n := (addr + len - 1) / 64 - addr / 64 + 1
  (List.range n).map fun i =>
    let a := max addr (64 * (addr / 64 + i))
    (a, min (addr + len) (64 * (addr / 64 + i) + 64) - a)

/-- The lowest TAG that the NI has free, of 64 (05 R234). -/
def freeTag (s : State) (ni : Nat) : Option Nat :=
  (List.range 64).find? fun t => !s.noc.out.any fun o => o.ni == ni && o.tag == t

/-- The device address has a target (01 R42, R43). -/
def hasTarget (s : State) (a len : Nat) : Bool :=
  let (t, hi) := windowOf a
  !noWindow s t && decide (a + len - 1 ≤ hi)

/-- The unit at an address is fused off or absent on the part. -/
def fusedTarget (s : State) (a : Nat) : Bool :=
  match domainOf a with
  | some d => bit s.part.fused d
  | none => false

/-- The first line of a byte range to whose target the NI has no valid route; 16 lines in a row reach every controller and
bank. -/
def routeGap (s : State) (src a len : Nat) : Option Nat :=
  (((linesOf a (min len 1024)).map (·.1)).find? fun x => !hasRoute s src (targetNi x))

/-- A request with no valid route to one of its targets is not injected: bus error and 0x0404 (05 R231).  Only a request that the
network would carry looks for its route: past the Cellar tier, with the NoC domain on.  A target that is off, fenced or below
its tier is found by its route first, and one that is fused off or absent by 0x0105 first, since 00 and 01 "At the edges" say so
of IE3 and the spec orders the two nowhere else (DESIGN CHOICE, log entry 80). -/
def unrouted (s : State) (rq : Requester) (a len : Nat) : Option State :=
  if hasTarget s a len && decide (2 ≤ s.tier) && s.domUp 2 && !fusedTarget s a then
    (routeGap s rq.ni a len).map fun x => (s.logEvent (niIsland rq.ni) 0x0404 rq.ni (targetNi x) x).busErr
  else none

/-- The route and then the checks of a device access. -/
def routedAccess (s : State) (rq : Requester) (addr len : Nat) (write : Bool) (data : Nat) : Check :=
  match unrouted s rq addr len with
  | some e => .err e
  | none => checkAccess s rq addr len write data

/-- The NI issues a request of its own: its unit is up, and a TAG is free (05 R234, R241). -/
def mayRequest (s : State) (rq : Requester) : Bool := requesterUp s rq && (freeTag s rq.ni).isSome

/-- The effect of a register command once its route and its access checks have passed; an NI that may issue no request makes
none. -/
def atRegister (s : State) (rq : Requester) (addr : Nat) (write : Bool) (data : Nat) (k : State → State) : State :=
  if !mayRequest s rq then s
  else match routedAccess s rq addr 4 write data with
    | .err s' => s'
    | .ok _ => k s

/-! Bytes of DRAM and larder. -/

/-- The byte at a DRAM or larder address. -/
def State.byteAt (s : State) (a : Nat) : Byte :=
  if a < 0x7C0000000 then Mem.read s.mem.dram a else Mem.read s.mem.larder (off a 0x800000000)

/-- `n` bytes from a DRAM or larder address. -/
def State.bytesAt (s : State) (a n : Nat) : List Byte := (List.range n).map fun i => s.byteAt (a + i)

/-- The DRAM line or a larder word under [a, a + n) is stored as uncorrectable. -/
def State.badAt (s : State) (a n : Nat) : Bool :=
  if a < 0x7C0000000 then s.mem.dramBad.any fun l => decide (64 * l < a + n) && decide (a < 64 * l + 64)
  else s.mem.larderBad.any fun w => decide (0x800000000 + 8 * w < a + n) && decide (a < 0x800000000 + 8 * w + 8)

/-- The lines of the service cluster's L2 without those under [a, a + n): a write by any other requester invalidates them, dirty
bytes included, before it completes (01 R46). -/
def invalidated (l2 : Tbl L2Line) (a n : Nat) : Tbl L2Line := l2.filter fun l => !overlap (64 * l.1) 64 a n

/-- Bytes stored from a DRAM or larder address. -/
def State.storeBytes (s : State) (a : Nat) (bs : List Byte) : State :=
  if a < 0x7C0000000 then
    { s with mem := { s.mem with dram := Mem.writeN s.mem.dram a bs, l2 := invalidated s.mem.l2 a bs.length } }
  else
    { s with mem := { s.mem with larder := Mem.writeN s.mem.larder (off a 0x800000000) bs,
                                 l2 := invalidated s.mem.l2 a bs.length } }

/-- DRAM lines wholly inside [a, a + n). -/
def wholeLines (a n : Nat) : List Nat := (List.range ((a + n) / 64 - (a + 63) / 64)).map fun i => (a + 63) / 64 + i

/-- Larder words wholly inside [a, a + n), counted from the larder's start. -/
def wholeWords (a n : Nat) : List Nat :=
  let o := off a 0x800000000
  (List.range ((o + n) / 8 - (o + 7) / 8)).map fun i => (o + 7) / 8 + i

/-- A write that clears the uncorrectable mark of every line or word it covers whole (05 R252, R261). -/
def State.clearBad (s : State) (a n : Nat) : State :=
  if a < 0x7C0000000 then
    { s with mem := { s.mem with dramBad := s.mem.dramBad.filter fun l => !(wholeLines a n).contains l } }
  else { s with mem := { s.mem with larderBad := s.mem.larderBad.filter fun w => !(wholeWords a n).contains w } }

/-- An uncorrectable line or word found by a read: STATUS 2, counted and logged (05 R252, R261). -/
def State.noteBad (s : State) (rq : Requester) (a : Nat) (kind : Nat) : State :=
  if a < 0x7C0000000 then
    ((((s.bump Reg.MEM_DRAM_UE.COUNT 1).wrPair Reg.MEM_UE_ADDR_LO.ADDR Reg.MEM_UE_ADDR_HI.ADDR a)).logEvent
      (168 + dramChannel a / 2) 0x0501 a (a / 2 ^ 32) kind)
  else
    (s.bump Reg.MEM_LAR_UE.COUNT 1).logEvent (176 + larderBank a) 0x0504 (off a 0x800000000) (larderBank a) rq.ni

end Sys2Proof.Machine
end

