-- ==== Sys2Proof/Machine/Flit.lean ====
section
/-! DEFINITION. Flits of the network on chip: header fields, check groups, source routes (05 R221-R229). -/

namespace Sys2Proof.Machine

/-! Flit header fields, by offset from flit bit 512 (05 R221). -/

/-- Bits [lo + w − 1 : lo] of the header. -/
def hdrField (f : Flit) (lo w : Nat) : Nat := bits f.hdr.toNat lo w

/-- The header with bits [lo + w − 1 : lo] replaced. -/
def setHdr (f : Flit) (lo w v : Nat) : Flit :=
  { f with hdr := BitVec.ofNat 108 (f.hdr.toNat - hdrField f lo w * 2 ^ lo + v % 2 ^ w * 2 ^ lo) }

/-- ROUTE. -/
def flitRoute (f : Flit) : Nat := hdrField f 0 24
/-- HEAD. -/
def flitHead (f : Flit) : Nat := hdrField f 24 2
/-- PORT. -/
def flitPort (f : Flit) : Nat := hdrField f 26 1
/-- VN. -/
def flitVn (f : Flit) : Nat := hdrField f 27 2
/-- KIND. -/
def flitKind (f : Flit) : Nat := hdrField f 29 4
/-- SRC. -/
def flitSrc (f : Flit) : Nat := hdrField f 33 6
/-- DST. -/
def flitDst (f : Flit) : Nat := hdrField f 39 6
/-- ADDR. -/
def flitAddr (f : Flit) : Nat := hdrField f 45 36
/-- Bytes in the flit: LEN + 1. -/
def flitBytes (f : Flit) : Nat := hdrField f 81 6 + 1
/-- TAG. -/
def flitTag (f : Flit) : Nat := hdrField f 87 6
/-- SEQ. -/
def flitSeq (f : Flit) : Nat := hdrField f 93 2
/-- LAST. -/
def flitLast (f : Flit) : Bool := hdrField f 95 1 == 1
/-- POISON. -/
def flitPoison (f : Flit) : Bool := hdrField f 96 1 == 1
/-- STATUS. -/
def flitStatus (f : Flit) : Nat := hdrField f 97 3
/-- QCLASS. -/
def flitClass (f : Flit) : Nat := hdrField f 100 2

/-- The virtual network of a KIND; none for a reserved KIND (05 R233). -/
def kindVn (kind : Nat) : Option Nat :=
  if kind = 1 ∨ kind = 2 then some 0 else if kind = 3 ∨ kind = 4 then some 1 else if kind = 5 ∨ kind = 6 then some 2
  else if kind = 7 then some 3 else none

/-- The flit of one line of a request or response, on the virtual network of its KIND, with ROUTE, HEAD and PORT of a route-table
entry; the first byte stands in data bits [7:0] (05 R221, R222, R227, R233). -/
def mkFlit (entry kind src dst addr tag seq : Nat) (last poison : Bool) (status qclass len : Nat) (bs : List Byte) : Flit :=
  { data := BitVec.ofNat 512 (leNat bs)
    hdr := BitVec.ofNat 108 (entry % 2 ^ 27 + 2 ^ 27 * ((kindVn kind).getD 0) + 2 ^ 29 * (kind % 16) + 2 ^ 33 * (src % 64) +
      2 ^ 39 * (dst % 64) + 2 ^ 45 * (addr % 2 ^ 36) + 2 ^ 81 * ((len - 1) % 64) + 2 ^ 87 * (tag % 64) + 2 ^ 93 * (seq % 4) +
      2 ^ 95 * b2n last + 2 ^ 96 * b2n poison + 2 ^ 97 * (status % 8) + 2 ^ 100 * (qclass % 4)) }

/-! The two SECDED codes of a flit (05 R223). -/

/-- The group that covers a bit of the 640. -/
def flitGroup (b : Nat) : Nat := if b < 310 ∨ (620 ≤ b ∧ b < 630) then 0 else 1

/-- What the decoder of a group finds where the link has flipped the bits `err`. -/
def flitEcc (err : List Nat) (g : Nat) : Ecc :=
  match (err.filter fun b => flitGroup b == g).length with
  | 0 => .clean
  | 1 => .single
  | _ => .double

/-- The flit with the flipped data bits of group 0 as they arrived. -/
def flipData (f : Flit) (err : List Nat) : Flit :=
  { f with data := (err.filter (· < 310)).foldl (fun d b => d ^^^ BitVec.ofNat 512 (2 ^ b)) f.data }

/-! Source routes (05 R227-R229). -/

/-- The heading after a turn code, headings 0 east, 1 north, 2 west, 3 south; none for eject (05 R228). -/
def turn (heading code : Nat) : Option Nat :=
  match code with
  | 0 => some heading
  | 1 => some ((heading + 1) % 4)
  | 2 => some ((heading + 3) % 4)
  | _ => none

/-- The router one hop on, none off the mesh. -/
def hop (r c heading : Nat) : Option (Nat × Nat) :=
  match heading with
  | 0 => if c < 5 then some (r, c + 1) else none
  | 1 => if 0 < r then some (r - 1, c) else none
  | 2 => if 0 < c then some (r, c - 1) else none
  | _ => if r < 5 then some (r + 1, c) else none

/-- The codes of a route from a router meet 05 R229: an eject code within them, only 0b00 after it, no hop off the mesh, every
east or west hop before every north or south hop.  `vert` is true once a north or south hop has been made. -/
def routeOk (r c heading : Nat) (vert : Bool) : List Nat → Bool
  | [] => false
  | k :: ks =>
    match turn heading k with
    | none => ks.all (· == 0)
    | some h =>
      match hop r c h with
      | none => false
      | some (r', c') => !(vert && h % 2 == 0) && routeOk r' c' h (vert || h % 2 == 1) ks

/-- The 12 turn codes of a route-table entry. -/
def routeCodes (entry : Nat) : List Nat := (List.range 12).map fun k => bits entry (2 * k) 2

/-- A route-table entry of an NI holds no reserved value: reserved bits 0 and, with VALID 1, a valid route (05 R227, R229). -/
def entryOk (ni entry : Nat) : Bool :=
  bits entry 27 4 == 0 &&
    (!bit entry 31 || match niRouter ni with
      | none => false
      | some (r, c) => routeOk r c (bits entry 24 2) false (routeCodes entry))

end Sys2Proof.Machine
end

