-- ==== Sys2Proof/Machine/MemLine.lean ====
section
/-! DEFINITION. Lines of DRAM and larder as their controllers and banks serve them (05 R222, R232, R237, R249-R252, R261), and
the accesses that the device's units make themselves. -/

namespace Sys2Proof.Machine

/-! Inline ECC (05 R249). -/

/-- The channel line that holds the check bytes of a DRAM address's line. -/
def dramCheckLine (addr : Nat) : Nat := 32 * (addr / 64 / 16 / 31) + 31

/-- The byte offset of its two check bytes in that line; bytes 62 and 63 are 0. -/
def dramCheckOffset (addr : Nat) : Nat := 2 * (addr / 64 / 16 % 31)

/-! Served accesses (05 R232, R237). -/

/-- The response flit of a line access, on the route of the responding NI's own entry for the source (05 R232): a read response
with its bytes or a write acknowledge, STATUS 2 with POISON where the data is uncorrectable. -/
def answerFlit (s : State) (r : LineReq) (got : List Byte) (poisoned : Bool) : Flit :=
  let dst := targetNi r.addr
  mkFlit (s.rd (Reg.NOC_RT.ENTRY dst r.ni)) (if r.write then 4 else 3) dst r.ni r.addr r.tag r.seq r.last poisoned
    (if poisoned then 2 else 0) r.qclass r.len got

/-- The line result of a served access joins its outstanding request, and its response flit is formed; a responding NI whose
entry for the source has VALID 0 sends none (05 R232, R237). -/
def finishLine (s : State) (r : LineReq) (got : List Byte) (poisoned : Bool) : State :=
  let dst := targetNi r.addr
  { s with noc := { s.noc with
      queue := s.noc.queue.erase r,
      inj := if r.posted || !hasRoute s dst r.ni then s.noc.inj else s.noc.inj ++ [(dst, answerFlit s r got poisoned)],
      out := s.noc.out.map fun o =>
        if o.ni = r.ni ∧ o.tag = r.tag ∧ r.posted = false then
          { o with got := Tbl.set o.got r.seq got, done := o.done + 1, poisoned := o.poisoned || poisoned }
        else o } }

/-! DRAM (05 R250-R253). -/

/-- What a controller makes of the error state of a line it reads: the state, and whether the data is uncorrectable. -/
def dramCheck (s : State) (rq : Requester) (addr : Nat) (ecc : LineErr) : State × Bool :=
  let ch := dramChannel addr
  if s.badAt addr 1 then (s.noteBad rq addr 2, true)
  else match ecc with
    | .clean => (s, false)
    | .single =>
      let s := s.bump Reg.MEM_DRAM_CE.COUNT 1
      (s.logLimited ch (168 + ch / 2) 0x0502 addr ch (s.rd Reg.MEM_DRAM_CE.COUNT), false)
    | .double => (s.noteBad rq addr 0, true)
    | .parity => (s.noteBad rq addr 1, true)

/-- A line marked uncorrectable by its inverted check bits (05 R252). -/
def markDram (s : State) (line : Nat) : State :=
  { s with mem := { s.mem with dramBad := line :: s.mem.dramBad.filter fun l => l != line } }

/-- A line read for a request. -/
def dramReadLine (s : State) (r : LineReq) (ecc : LineErr) : State :=
  let (s, bad) := dramCheck s ⟨r.ni, r.qclass⟩ r.addr ecc
  finishLine s r (s.bytesAt r.addr r.len) bad

/-- A line written for a request: whole, or read, merged and written (05 R251, R252). -/
def dramWriteLine (s : State) (r : LineReq) (ecc : LineErr) : State :=
  let put (s : State) : State :=
    let s := s.storeBytes r.addr r.data
    if r.poison then markDram s (r.addr / 64) else s
  if r.len = 64 then finishLine (put (s.clearBad r.addr 64)) r [] false
  else
    let (s, bad) := dramCheck s ⟨r.ni, r.qclass⟩ r.addr ecc
    if bad then finishLine s r [] true else finishLine (put s) r [] false

/-! The larder (05 R261). -/

/-- The condition of each 64-bit word that an access touches, as its bank finds it: recorded marks, then the given errors by
word number from the larder's start. -/
def larderCheck (s : State) (rq : Requester) (words : List Nat) (errs : List (Nat × Ecc)) : State × Bool :=
  words.foldl (fun (acc : State × Bool) w =>
    let (s, bad) := acc
    let a := 0x800000000 + 8 * w
    if s.badAt a 8 then (s.noteBad rq a 0, true)
    else match (((errs.find? fun e => e.1 == w).map (·.2)).getD .clean : Ecc) with
      | .single =>
        let s := s.bump Reg.MEM_LAR_CE.COUNT 1
        (s.logLimited (larderBank a) (176 + larderBank a) 0x0505 (8 * w) (larderBank a) (s.rd Reg.MEM_LAR_CE.COUNT), bad)
      | .double => (s.noteBad rq a 0, true)
      | .clean => (s, bad)) (s, false)

/-- Larder words touched by a byte range, counted from the larder's start. -/
def touchedWords (a n : Nat) : List Nat :=
  let o := off a 0x800000000
  (List.range ((o + n - 1) / 8 - o / 8 + 1)).map fun i => o / 8 + i

/-- Larder words that a byte range covers in part. -/
def partWords (a n : Nat) : List Nat := (touchedWords a n).filter fun w => !(wholeWords a n).contains w

/-- A larder line read for a request. -/
def larderReadLine (s : State) (r : LineReq) (errs : List (Nat × Ecc)) : State :=
  let (s, bad) := larderCheck s ⟨r.ni, r.qclass⟩ (touchedWords r.addr r.len) errs
  finishLine s r (s.bytesAt r.addr r.len) bad

/-- A larder line written for a request; a word written in part is read and merged first, and where that finds a word
uncorrectable the bank writes nothing of the line (DEDUCED from 05 R251 and R252, log entry 81). -/
def larderWriteLine (s : State) (r : LineReq) (errs : List (Nat × Ecc)) : State :=
  let (s, bad) := larderCheck s ⟨r.ni, r.qclass⟩ (partWords r.addr r.len) errs
  if bad then finishLine s r [] true
  else
    let s := (s.clearBad r.addr r.len).storeBytes r.addr r.data
    let s := if r.poison then
      { s with mem := { s.mem with larderBad := touchedWords r.addr r.len ++
          (s.mem.larderBad.filter fun w => !(touchedWords r.addr r.len).contains w) } } else s
    finishLine s r [] false

/-! Accesses of the device's own units.  Bit errors strike in the rows that name them; a unit's own access meets the lines and
words that a write has marked (log entry 74). -/

/-- A waiting access to a line under [a, a + n). -/
def onLines (a n : Nat) (r : LineReq) : Bool := overlap (64 * (r.addr / 64)) 64 (64 * (a / 64)) (64 * ((a + n + 63) / 64 - a / 64))

/-- A waiting access is served, error-free. -/
def serveLine (s : State) (r : LineReq) : State :=
  if r.addr < 0x7C0000000 then if r.write then dramWriteLine s r .clean else dramReadLine s r .clean
  else if r.write then larderWriteLine s r [] else larderReadLine s r []

/-- The accesses that reached the arbiters of the lines under [a, a + n) before this one are served before it (05 R237). -/
def settle (s : State) (a n : Nat) : State := (s.noc.queue.filter (onLines a n)).foldl serveLine s

/-- What one line's read by a unit finds: true where it is answered with STATUS 2. -/
def readPart (s : State) (rq : Requester) (a n : Nat) : State × Bool :=
  if a < 0x7C0000000 then if s.badAt a n then (s.noteBad rq a 2, true) else (s, false)
  else larderCheck s rq (touchedWords a n) []

/-- A unit's write within one line: true where it is answered with STATUS 2 and writes nothing (05 R251, R252, R261). -/
def writePart (s : State) (rq : Requester) (a : Nat) (bs : List Byte) : State × Bool :=
  let n := bs.length
  let r := if a < 0x7C0000000 then
      if n = 64 then (s, false) else if s.badAt a n then (s.noteBad rq a 2, true) else (s, false)
    else larderCheck s rq (partWords a n) []
  if r.2 then r else ((r.1.clearBad a n).storeBytes a bs, false)

/-- A unit's read line by line: true where a line is answered with STATUS 2. -/
def readRange (s : State) (rq : Requester) (a n : Nat) : State × Bool :=
  (linesOf a n).foldl (fun acc l => let r := readPart acc.1 rq l.1 l.2; (r.1, acc.2 || r.2)) (settle s a n, false)

/-- A unit's write line by line: true where a line is answered with STATUS 2. -/
def writeRange (s : State) (rq : Requester) (a : Nat) (bs : List Byte) : State × Bool :=
  (linesOf a bs.length).foldl
    (fun acc l => let r := writePart acc.1 rq l.1 (slice bs (l.1 - a) l.2); (r.1, acc.2 || r.2)) (settle s a bs.length, false)

/-- An access goes out on the PCIe link, in root role (01 R41, R52): a write is sent, and what a read is answered is the link
partner's, a free value. -/
def pcieOutbound (s : State) (write : Bool) (a : Nat) (bs : List Byte) : State :=
  { s with noc := { s.noc with pcieOut := s.noc.pcieOut ++ [(write, a, bs)] } }

end Sys2Proof.Machine
end

