-- ==== Sys2Proof/Machine/Storeroom.lean ====
section
/-! DEFINITION. The storeroom (chapter 06): pools and crates, stream queues, event routing. -/

namespace Sys2Proof.Machine

/-- A queue of the storeroom. -/
def State.q (s : State) (n : Nat) : StrQueue := Tbl.get s.str.queues n {}

/-- A queue replaced. -/
def State.setQ (s : State) (n : Nat) (q : StrQueue) : State :=
  { s with str := { s.str with queues := Tbl.put s.str.queues n q {} } }

/-- The state word of a crate. -/
def State.crate (s : State) (p i : Nat) : Crate := Tbl.get s.str.crates (1048576 * p + i) {}

/-- The state word of a crate replaced. -/
def State.setCrate (s : State) (p i : Nat) (c : Crate) : State :=
  { s with str := { s.str with crates := Tbl.put s.str.crates (1048576 * p + i) c {} } }

/-- Free stack of a pool, top first. -/
def State.freeStack (s : State) (p : Nat) : List Nat := Tbl.get s.str.free p []

/-- Free stack of a pool replaced. -/
def State.setFree (s : State) (p : Nat) (l : List Nat) : State :=
  { s with str := { s.str with free := Tbl.put s.str.free p l [] } }

/-- Depth of a queue in words (06 R286). -/
def qDepth (s : State) (n : Nat) : Nat := 2 ^ s.rd (Reg.STR_Q_CFG.DEPTH_LOG2 n)

/-- STR_Qn_BASE. -/
def qBase (s : State) (n : Nat) : Nat := s.rdPair (Reg.STR_Q_BASE_LO.ADDR n) (Reg.STR_Q_BASE_HI.ADDR n)

/-- Whole packets in a queue (06 R292). -/
def StrQueue.pkts (q : StrQueue) : Nat := q.marks.count true

/-- A byte range lies wholly in the DRAM or the larder window. -/
def inMemory (a n : Nat) : Bool :=
  decide (a + n ≤ 0x7C0000000) || (decide (0x800000000 ≤ a) && decide (a + n ≤ 0x804000000))

/-- A byte range lies wholly in the larder window. -/
def inLarder (a n : Nat) : Bool := decide (0x800000000 ≤ a) && decide (a + n ≤ 0x804000000)

/-- No two ranges of a list overlap. -/
def disjointRanges : List (Nat × Nat) → Bool
  | [] => true
  | (a, la) :: t => (t.all fun r => !overlap a la r.1 r.2) && disjointRanges t

/-- Pools, state table and the rings of enabled queues, without queue `but` (06 R272). -/
def storeRanges (s : State) (but : Option Nat) : List (Nat × Nat) :=
  ((List.range 4).map fun p => (poolBase s p, poolCount s p * crateSize p)) ++ [(stateBase s, stateBytes s)] ++
    (((List.range 128).filter fun n => s.flag (Reg.STR_Q_CFG.EN n) && but != some n).map fun n => (qBase s n, 8 * qDepth s n))

/-- The conditions under which the storeroom is enabled (06 R272). -/
def storeroomOk (s : State) : Bool :=
  ((List.range 4).all fun p => poolCount s p == 0 ||
    (poolBase s p % crateSize p == 0 && inMemory (poolBase s p) (poolCount s p * crateSize p))) &&
  disjointRanges (storeRanges s none)

/-- The conditions under which a queue is enabled with a depth (06 R286). -/
def queueOk (s : State) (n log2 : Nat) : Bool :=
  let bytes := 8 * 2 ^ log2
  let others := (List.range 128).filter fun m => s.flag (Reg.STR_Q_CFG.EN m) && m != n
  inLarder (qBase s n) bytes && qBase s n % 64 == 0 &&
    decide ((others.map (qDepth s)).sum + 2 ^ log2 ≤ 1048576) &&
    (storeRanges s (some n)).all fun r => !overlap (qBase s n) bytes r.1 r.2

/-- A refused storeroom configuration write: the entry, the write answered as done (06 R272, R274, R286, R287). -/
def strRefused (s : State) (addr data : Nat) (rq : Requester) : State :=
  (s.logEvent 147 0x0C07 addr data rq.ni).answer 0

/-! Crates. -/

/-- STR_CTRL.EN becomes 1: every crate free with generation 1, index 0 on top of each stack (06 R273). -/
def freeEverything (s : State) : State :=
  { s with str := { s.str with crates := [], lowLogged := [],
                               free := (List.range 4).foldl (fun t p => Tbl.put t p (List.range (poolCount s p)) []) [] } }

/-- A write to STR_CTRL (06 R272, R273, R318). -/
def writeStrCtrl (s : State) (rq : Requester) (data : Nat) : State :=
  let was := s.flag Reg.STR_CTRL.EN
  if bit data 0 ∧ !was then
    if storeroomOk s then ((freeEverything s).wr Reg.STR_CTRL.EN 1).answer 0
    else strRefused s 0xF00500000 data rq
  else (s.wr Reg.STR_CTRL.EN (data % 2)).answer 0

/-- A pool's free count has changed: POOL_LOW once when it has fallen to LOW, armed again above LOW (06 R278). -/
def notePoolLow (s : State) (p : Nat) (fell : Bool) : State :=
  let free := (s.freeStack p).length
  let low := s.rd (Reg.STR_POOL_LOW.LOW p)
  let set (s : State) (l : List Nat) : State := { s with str := { s.str with lowLogged := l } }
  if low < free then set s (s.str.lowLogged.filter fun x => x != p)
  else if fell ∧ free = low ∧ !s.str.lowLogged.contains p then
    (set s (s.str.lowLogged ++ [p])).logEvent 147 0x0C0D p free low
  else s

/-- The handle of a crate (06 R267). -/
def crateHandle (p gen i : Nat) : Nat := p * 2 ^ 30 + gen * 2 ^ 20 + i

/-- A read of STR_POOLp_ALLOC takes the top crate (06 R275, R277): the state and the handle. -/
def allocCrate (s : State) (p ctx : Nat) : State × Nat :=
  match s.freeStack p with
  | [] =>
    let s := s.bump (Reg.STR_POOL_STAT.EMPTY p) 1
    (s.logLimited p 147 0x0C04 p (s.rd (Reg.STR_POOL_STAT.EMPTY p)) ctx, 0)
  | i :: rest =>
    let c := s.crate p i
    let s := ((s.setFree p rest).setCrate p i { c with alloc := true, owner := ctx })
    (notePoolLow s p true, crateHandle p c.gen i)

/-- A crate goes back on top of its free stack with the next generation (06 R268, R276). -/
def releaseCrate (s : State) (p i : Nat) : State :=
  let c := s.crate p i
  let s := (s.setCrate p i { alloc := false, gen := if c.gen = 1023 then 1 else c.gen + 1, owner := 0 }).setFree p
    (i :: s.freeStack p)
  notePoolLow s p false

/-- A write to STR_CRATE_FREE with the checks of 06 R279. -/
def freeCrate (s : State) (rq : Requester) (h : Nat) : State :=
  let p := bits h 30 2
  let gen := bits h 20 10
  let i := bits h 0 20
  let c := s.crate p i
  if poolCount s p ≤ i then (s.logEvent 147 0x0C05 h (poolCount s p) rq.context).busErr
  else if !c.alloc ∨ c.gen ≠ gen then
    ((s.bump Reg.STR_DFREE_COUNT.COUNT 1).logEvent 147 0x0C01 h c.gen rq.context).answer 0
  else if c.owner ≠ rq.context then (s.logEvent 147 0x0C02 h c.owner rq.context).busErr
  else (releaseCrate s p i).answer 0

/-- A write to STR_CRATE_GIVE_LO latches the handle for the requester (06 "Free, give and reclaim"). -/
def latchGive (s : State) (rq : Requester) (h : Nat) : State :=
  ({ s with str := { s.str with latch := Tbl.put s.str.latch rq.ni (h % 2 ^ 32) 0 } }).answer 0

/-- A crate given to a context, with the checks of 06 R279. -/
def giveHandle (s : State) (rq : Requester) (h ctx : Nat) : State :=
  let p := bits h 30 2
  let i := bits h 0 20
  let c := s.crate p i
  if poolCount s p ≤ i ∨ !c.alloc ∨ c.gen ≠ bits h 20 10 then
    (s.logEvent 147 0x0C05 h (poolCount s p) rq.context).busErr
  else if c.owner ≠ rq.context then (s.logEvent 147 0x0C03 h c.owner rq.context).busErr
  else (s.setCrate p i { c with owner := ctx % 256 }).answer 0

/-- A write to STR_CRATE_GIVE_HI gives the latched crate. -/
def giveCrate (s : State) (rq : Requester) (ctx : Nat) : State := giveHandle s rq (Tbl.get s.str.latch rq.ni 0) ctx

/-- A unit frees a crate; the answer to the last command stands. -/
def unitFree (s : State) (rq : Requester) (h : Nat) : State := { freeCrate s rq h with resp := s.resp }

/-- A unit gives a crate; the answer to the last command stands. -/
def unitGive (s : State) (rq : Requester) (h ctx : Nat) : State := { giveHandle s rq h ctx with resp := s.resp }

/-- The crates owned by a context, as (pool, index) (06 R283). -/
def ownedBy (s : State) (ctx : Nat) : List (Nat × Nat) :=
  (s.str.crates.filter fun e => e.2.alloc && e.2.owner == ctx).map fun e => (e.1 / 1048576, e.1 % 1048576)

/-- A write to STR_CRATE_RECLAIM frees every crate of a context (06 R283). -/
def reclaimCrates (s : State) (rq : Requester) (ctx : Nat) : State :=
  let l := ownedBy s (ctx % 256)
  ((l.foldl (fun s e => releaseCrate s e.1 e.2) s).logEvent 147 0x0C06 (ctx % 256) l.length rq.ni).answer 0

/-! Stream queues. -/

/-- Words counted as lost (06 R300). -/
def lostWords (s : State) (n k : Nat) : State := s.bump (Reg.STR_Q_LOST_WORDS.COUNT n) k

/-- Packets counted as lost (06 R300). -/
def lostPkts (s : State) (n k : Nat) : State := s.bump (Reg.STR_Q_LOST_PKTS.COUNT n) k

/-- Stored words of the packet in progress: those after the last end mark. -/
def tailWords (marks : List Bool) : Nat := (marks.reverse.takeWhile (!·)).length

/-- `drop_tail` of 06 "When a queue is full": the stored words of the packet in progress are removed and counted; a consumer
that has pinned that packet finds CUT in its next pop. -/
def dropTail (s : State) (n : Nat) : State :=
  let q := s.q n
  let k := tailWords q.marks
  let own := q.pinned && !q.marks.contains true
  lostWords (s.setQ n { q with marks := q.marks.take (q.marks.length - k),
                               pinned := q.pinned && !own, cut := q.cut || own }) n k

/-- Words of the oldest packet, its end mark included. -/
def headWords (marks : List Bool) : Nat :=
  if marks.contains true then (marks.takeWhile (!·)).length + 1 else marks.length

/-- `drop_head`: the whole oldest packet is removed and counted (06 R296). -/
def dropHead (s : State) (n : Nat) : State :=
  let q := s.q n
  let k := headWords q.marks
  lostPkts (lostWords (s.setQ n { q with marks := q.marks.drop k, head := (q.head + k) % qDepth s n }) n k) n 1

/-- The packet in progress is dropped with the arriving word, its words counted (06 R297, R298). -/
def dropArriving (s : State) (n : Nat) (ending : Bool) : State :=
  let s := lostWords (dropTail s n) n 1
  s.setQ n { s.q n with dropping := !ending, total := 0 }

/-- The dropped packet counts once its end mark has come (06 R297). -/
def endDropped (s : State) (n : Nat) (ending : Bool) : State := if ending then lostPkts s n 1 else s

/-- Whole oldest packets make room until a word is free (06 R296); `fuel` bounds the packets. -/
def makeRoom (s : State) (n : Nat) : Nat → State
  | 0 => s
  | fuel + 1 =>
    let q := s.q n
    if q.marks.length < qDepth s n ∨ q.pinned ∨ q.marks = [] then s
    else
      let s := dropHead s n
      makeRoom (s.logLimited n 147 0x0C09 n (s.rd (Reg.STR_Q_LOST_WORDS.COUNT n)) (s.rd (Reg.STR_Q_LOST_PKTS.COUNT n)))
        n fuel

/-- PKTS has risen to the threshold: the queue's pending bit sets (06 R305). -/
def notifyQueue (s : State) (n before : Nat) : State :=
  let th := s.rd (Reg.STR_Q_NOTIFY.THRESH n)
  if th ≠ 0 ∧ before < th ∧ th ≤ (s.q n).pkts then s.orBits (Reg.STR_Q_PEND.PEND (n / 32)) (2 ^ (n % 32)) else s

/-- A word stored at the tail of the ring in the larder, with its end mark (06 R286, 05 R261). -/
def storeWord (s : State) (n : Nat) (w : List Byte) (ending : Bool) : State :=
  let q := s.q n
  let at_ := qBase s n + 8 * ((q.head + q.marks.length) % qDepth s n)
  let s := (s.clearBad at_ 8).storeBytes at_ w
  notifyQueue (s.setQ n { q with marks := q.marks ++ [ending], total := if ending then 0 else q.total + 1 }) n q.pkts

/-- One arriving word, by the procedure of 06 "When a queue is full" (R294, R296-R299). -/
def arriveWord (s : State) (n : Nat) (w : List Byte) (ending : Bool) (producer : Nat) : State :=
  let q := s.q n
  if q.skipping then
    s.setQ n { q with skipping := !ending, total := if ending then 0 else q.total }
  else if q.dropping then
    let s := lostWords s n 1
    if ending then (lostPkts s n 1).setQ n { q with dropping := false, total := 0 } else s
  else if qDepth s n < q.total + 1 then
    endDropped ((dropArriving s n ending).logEvent 147 0x0C0B n (qDepth s n) producer) n ending
  else
    let s := makeRoom s n 65536
    if (s.q n).marks.length = qDepth s n then
      let s := dropArriving s n ending
      endDropped (s.logLimited n 147 0x0C0A n (s.rd (Reg.STR_Q_LOST_WORDS.COUNT n)) (s.rd (Reg.STR_Q_LOST_PKTS.COUNT n))) n ending
    else storeWord s n w ending

/-- Words with their end marks pushed in order by a producer; a disabled queue discards and counts them (06 R288, R291). -/
def pushWords (s : State) (n : Nat) (ws : List (List Byte × Bool)) (producer : Nat) : State :=
  if s.flag (Reg.STR_Q_CFG.EN n) then ws.foldl (fun s w => arriveWord s n w.1 w.2 producer) s
  else
    let s := lostPkts (lostWords s n ws.length) n (ws.countP fun w => w.2)
    s.logLimited n 147 0x0C0C n ws.length producer

/-- Bytes cut into 8-byte words. -/
def words8 : Nat → List Byte → List (List Byte)
  | 0, _ => []
  | n + 1, bs => slice bs 0 8 :: words8 n (bs.drop 8)

/-- A packet: its words, with the end mark on the last. -/
def packet (bs : List Byte) : List (List Byte × Bool) :=
  let k := (bs.length + 7) / 8
  (words8 k bs).zipIdx.map fun w => (w.1, w.2 + 1 == k)

/-- A disallowed aperture access (06 R290). -/
def badQueueAccess (s : State) (rq : Requester) (n off : Nat) : State := (s.logEvent 147 0x0C08 n off rq.ni).busErr

/-- A write to a queue aperture (06 R288, R290). -/
def aperturePush (s : State) (rq : Requester) (n off : Nat) (bs : List Byte) : State :=
  let k := bs.length
  let ending := decide (0x40 ≤ off)
  if off % 8 = 0 ∧ k % 8 = 0 ∧ 8 ≤ k ∧ k ≤ 64 ∧ off + k ≤ (if ending then 0x80 else 0x40) then
    (pushWords s n ((words8 (k / 8) bs).zipIdx.map fun w => (w.1, ending && w.2 + 1 == k / 8)) rq.ni).answer 0
  else badQueueAccess s rq n off

/-- One pop slot: the state, the word and the status (06 R289, R293, R294, R298); true where the larder finds the word
uncorrectable (05 R261).  Words of a queue whose EN is 0 pop like any others: R291 bars pushes alone. -/
def popSlot (s : State) (n : Nat) : State × List Byte × Nat × Bool :=
  let q := s.q n
  let left (q : StrQueue) : Nat := 2 ^ 32 * q.marks.length
  if q.cut then (s.setQ n { q with cut := false }, List.replicate 8 0, 4 + left q, false)
  else match q.marks with
    | [] => (s, List.replicate 8 0, 0, false)
    | m :: rest =>
      let q' := { q with marks := rest, head := (q.head + 1) % qDepth s n, pinned := !m }
      let at_ := qBase s n + 8 * q.head
      let r := larderCheck s ⟨47, 0⟩ (touchedWords at_ 8) []
      (r.1.setQ n q', s.bytesAt at_ 8, b2n m + 2 + left q', r.2)

/-- `k` pop slots in order: the state, 16 bytes for each, and whether a word was uncorrectable. -/
def popSlots (s : State) (n : Nat) : Nat → State × List Byte × Bool
  | 0 => (s, [], false)
  | k + 1 =>
    let (s1, w, st, bad) := popSlot s n
    let (s2, bs, more) := popSlots s1 n k
    (s2, w ++ leBytes 8 st ++ bs, bad || more)

/-- A read of a queue aperture (06 R289, R290): the state and the bytes with true where they are poisoned, none on a bus error. -/
def aperturePop (s : State) (rq : Requester) (n off len : Nat) : State × Option (List Byte × Bool) :=
  if off = 0x80 ∧ len % 16 = 0 ∧ 16 ≤ len ∧ len ≤ 64 then
    let r := popSlots s n (len / 16)
    (r.1, some r.2)
  else (badQueueAccess s rq n off, none)

/-- The answer to a read of an aperture. -/
def popAnswer (r : State × Option (List Byte × Bool)) : State :=
  match r with
  | (s, none) => s
  | (s, some (bs, true)) => s.answerPoison (leNat bs)
  | (s, some (bs, false)) => s.answer (leNat bs)

/-- A write of SKIP: the rest of the head packet goes, uncounted, and the head is unpinned (06 R294). -/
def skipQueue (s : State) (n : Nat) : State :=
  let q := s.q n
  if q.marks = [] ∧ !q.pinned then s
  else
    let k := headWords q.marks
    s.setQ n { q with marks := q.marks.drop k, head := (q.head + k) % qDepth s n, pinned := false,
                      skipping := !q.marks.contains true }

/-- A write of FLUSH empties the queue, unpins its head and ends any dropping (06 R301). -/
def flushQueue (s : State) (n : Nat) : State := s.setQ n { head := (s.q n).head }

/-- A write of CLEAR (06 R300). -/
def clearQueue (s : State) (n : Nat) : State :=
  (s.wr (Reg.STR_Q_LOST_WORDS.COUNT n) 0).wr (Reg.STR_Q_LOST_PKTS.COUNT n) 0

/-- A write to STR_Qn_CTRL: SKIP, FLUSH and CLEAR in bit order. -/
def writeQCtrl (s : State) (n data : Nat) : State :=
  let s := if bit data 0 then skipQueue s n else s
  let s := if bit data 1 then flushQueue s n else s
  (if bit data 2 then clearQueue s n else s).answer 0

/-- A write to STR_Qn_CFG (06 R286, R287): the depth is refused while the queue is enabled, and a reserved depth by 00 R17. -/
def writeQCfg (s : State) (rq : Requester) (n data : Nat) : State :=
  let addr := 0xF00501000 + 0x40 * n
  let was := s.flag (Reg.STR_Q_CFG.EN n)
  let d := bits data 8 5
  let bad := decide (d < 4) || decide (16 < d)
  let s := if bad then s.logEvent 147 0x0102 addr data rq.ni else s
  let change := !bad && d != s.rd (Reg.STR_Q_CFG.DEPTH_LOG2 n)
  let s1 := if change && !was then s.wr (Reg.STR_Q_CFG.DEPTH_LOG2 n) d else s
  if change ∧ was then (strRefused s addr data rq).wr (Reg.STR_Q_CFG.EN n) (data % 2)
  else if bit data 0 ∧ !was then
    if queueOk s1 n (s1.rd (Reg.STR_Q_CFG.DEPTH_LOG2 n)) then (s1.wr (Reg.STR_Q_CFG.EN n) 1).answer 0
    else strRefused s1 addr data rq
  else (s1.wr (Reg.STR_Q_CFG.EN n) (data % 2)).answer 0

/-- Everything of the storeroom is lost (06 R285). -/
def storeroomLost (s : State) : State := { s.resetWindow 0xF00500000 0xF00600000 [] with str := {} }

/-! Event routing. -/

/-- Rank of an event class (06 R302). -/
def classRank (code : Nat) : Option Nat :=
  [0x01, 0x02, 0x03, 0x04, 0x05, 0x0C, 0x10, 0x14, 0x18, 0x1C, 0x20, 0x24].idxOf? (code / 256)

/-- The 32 bytes of a log entry (06 R307). -/
def LogEntry.bytes (e : LogEntry) : List Byte :=
  leBytes 8 e.ev.time.toNat ++ leBytes 4 e.seq ++ leBytes 2 e.ev.island ++ leBytes 2 e.ev.code.toNat ++
    leBytes 4 e.ev.a0.toNat ++ leBytes 4 e.ev.a1.toNat ++ leBytes 4 e.ev.a2.toNat ++ leBytes 4 0

/-- The entry was raised by an overflow of this queue (06 R304). -/
def LogEntry.overflowOf (e : LogEntry) (n : Nat) : Bool :=
  [0x0C09, 0x0C0A, 0x0C0B].contains e.ev.code.toNat && e.ev.a0.toNat == n

/-- A copied entry is routed by its class (06 R302, R304). -/
def routeEntry (s : State) (e : LogEntry) : State :=
  match classRank e.ev.code.toNat with
  | none => s
  | some k =>
    let ts := s.rd (Reg.STR_EVT_ROUTE.TARGETS k)
    let s := (ones ts 13).foldl (fun s t => s.orBits (Reg.STR_EVT_PEND.CLASSES t) (2 ^ k)) s
    let n := s.rd (Reg.STR_EVT_ROUTE.QUEUE k)
    if s.flag (Reg.STR_EVT_ROUTE.QEN k) && !e.overflowOf n then pushWords s n (packet e.bytes) 44 else s

/-- The storeroom event line of a target is high (06 R303). -/
def eventLine (s : State) (t : Nat) : Bool :=
  s.rd (Reg.STR_EVT_PEND.CLASSES t) != 0 ||
    (List.range 128).any fun n => bit (s.rd (Reg.STR_Q_PEND.PEND (n / 32))) (n % 32) && bit (s.rd (Reg.STR_Q_NOTIFY.TARGETS n)) t

/-! Bytes moved by the units of the device. -/

/-- Bytes read by a unit of the device at an address, behind its routes and the checks of the memory map: the state after the
checks' entries, and the bytes with true where the data is poisoned, or none on a bus error.  A queue aperture answers by 06 R289;
registers do not answer an access that is not one aligned word (00 R8). -/
def deviceRead (s : State) (rq : Requester) (a n : Nat) : State × Option (List Byte × Bool) :=
  match routedAccess s rq a n false 0 with
  | .err s' => (s', none)
  | .ok t =>
    if t = .dram ∨ t = .larder then
      let r := readRange s rq a n
      (r.1, some (r.1.bytesAt a n, r.2))
    else if t = .pcie then ((pcieOutbound s false a []).useFresh, some (leBytes n (Config.freeValue s.fresh), false))
    else if t = .str ∧ 0xF00510000 ≤ a ∧ a < 0xF00518000 then aperturePop s rq ((off a 0xF00510000) / 256) (a % 256) n
    else (s.csrErr t.island 0x0104 a 0 rq, none)

/-- Bytes written by a unit of the device at an address, behind its routes and the checks of the memory map; with 0 when the
write was answered without error, 1 on a bus error, and 2 with STATUS 2 (05 R251, R252: a write of part of an uncorrectable
line; the other lines of the write are written). -/
def deviceWrite (s : State) (rq : Requester) (a : Nat) (bs : List Byte) : State × Nat :=
  match routedAccess s rq a bs.length true (leNat (bs.take 4)) with
  | .err s' => (s', 1)
  | .ok t =>
    if t = .dram ∨ t = .larder then
      let r := writeRange s rq a bs
      (r.1, if r.2 then 2 else 0)
    else if t = .pcie then (pcieOutbound s true a bs, 0)
    else if t = .str ∧ 0xF00510000 ≤ a ∧ a < 0xF00518000 then
      let s := aperturePush s rq ((off a 0xF00510000) / 256) (a % 256) bs
      (s, b2n s.resp.busError)
    else (s.csrErr t.island 0x0104 a (leNat (bs.take 4)) rq, 1)

/-- The same access of a unit, which takes its answer itself: the answer to the last command stands. -/
def State.busRead (s : State) (rq : Requester) (a n : Nat) : State × Option (List Byte × Bool) :=
  let r := deviceRead s rq a n
  ({ r.1 with resp := s.resp }, r.2)

/-- The same write of a unit, which takes its answer itself; true when it was answered without error. -/
def State.busWrite (s : State) (rq : Requester) (a : Nat) (bs : List Byte) : State × Bool :=
  let r := deviceWrite s rq a bs
  ({ r.1 with resp := s.resp }, r.2 == 0)

/-- A unit pushes a packet: writes of up to 64 bytes to the queue's aperture, the end mark with the last, each on the unit's route and
under the access checks (06 R288, R306, 05 R231). -/
def pushPacket (s : State) (n : Nat) (bs : List Byte) (producer : Nat) : State :=
  let k := (bs.length + 63) / 64
  (List.range k).foldl (fun s i =>
    (s.busWrite ⟨producer, 0⟩ (0xF00510000 + 0x100 * n + if i + 1 = k then 0x40 else 0) ((bs.drop (64 * i)).take 64)).1) s

/-! The commands. -/

/-- STR_ENABLE (06 R272). -/
def execStrEnable (rq : Requester) (data : Nat) (s : State) : Host.Outcome State Fault Refusal :=
  whilePowered s fun s => atRegister s rq 0xF00500000 true data fun s => writeStrCtrl s rq data

/-- POOL_ALLOC (06 R275, R277, R278). -/
def execPoolAlloc (rq : Requester) (pool : Nat) (s : State) : Host.Outcome State Fault Refusal :=
  whilePowered s fun s => atRegister s rq (0xF00500114 + 0x20 * (pool % 4)) false 0 fun s =>
    let (s, h) := allocCrate s (pool % 4) rq.context
    s.answer h

/-- CRATE_FREE (06 R276, R279-R282). -/
def execCrateFree (rq : Requester) (handle : Word) (s : State) : Host.Outcome State Fault Refusal :=
  whilePowered s fun s => atRegister s rq 0xF00500040 true handle.toNat fun s => freeCrate s rq handle.toNat

/-- CRATE_GIVE_LATCH (06 R279). -/
def execCrateGiveLatch (rq : Requester) (handle : Word) (s : State) : Host.Outcome State Fault Refusal :=
  whilePowered s fun s => atRegister s rq 0xF00500044 true handle.toNat fun s => latchGive s rq handle.toNat

/-- CRATE_GIVE (06 R279). -/
def execCrateGive (rq : Requester) (data : Nat) (s : State) : Host.Outcome State Fault Refusal :=
  whilePowered s fun s => atRegister s rq 0xF00500048 true data fun s => giveCrate s rq data

/-- CRATE_RECLAIM (06 R283). -/
def execCrateReclaim (rq : Requester) (data : Nat) (s : State) : Host.Outcome State Fault Refusal :=
  whilePowered s fun s => atRegister s rq 0xF0050004C true data fun s => reclaimCrates s rq data

/-- QUEUE_ENABLE (06 R286). -/
def execQueueEnable (rq : Requester) (q data : Nat) (s : State) : Host.Outcome State Fault Refusal :=
  whilePowered s fun s => atRegister s rq (0xF00501000 + 0x40 * (q % 128)) true data fun s => writeQCfg s rq (q % 128) data

/-- QUEUE_PUSH (06 R288, R290, R291, R296-R299). -/
def execQueuePush (rq : Requester) (q offset : Nat) (data : List Byte) (s : State) : Host.Outcome State Fault Refusal :=
  whilePowered s fun s =>
    if !mayRequest s rq then s
    else match routedAccess s rq (0xF00510000 + 0x100 * (q % 128) + offset % 256) data.length true (leNat (data.take 4)) with
      | .err s' => s'
      | .ok _ => aperturePush s rq (q % 128) (offset % 256) data

/-- QUEUE_POP (06 R289, R290, R293, R294). -/
def execQueuePop (rq : Requester) (q offset len : Nat) (s : State) : Host.Outcome State Fault Refusal :=
  whilePowered s fun s =>
    if !mayRequest s rq then s
    else match routedAccess s rq (0xF00510000 + 0x100 * (q % 128) + offset % 256) len false 0 with
      | .err s' => s'
      | .ok _ => popAnswer (aperturePop s rq (q % 128) (offset % 256) len)

/-- QUEUE_SKIP (06 R294). -/
def execQueueSkip (rq : Requester) (q : Nat) (s : State) : Host.Outcome State Fault Refusal :=
  whilePowered s fun s => atRegister s rq (0xF0050101C + 0x40 * (q % 128)) true 1 fun s => writeQCtrl s (q % 128) 1

/-- QUEUE_FLUSH (06 R301). -/
def execQueueFlush (rq : Requester) (q : Nat) (s : State) : Host.Outcome State Fault Refusal :=
  whilePowered s fun s => atRegister s rq (0xF0050101C + 0x40 * (q % 128)) true 2 fun s => writeQCtrl s (q % 128) 2

/-- QUEUE_CLEAR (06 R300). -/
def execQueueClear (rq : Requester) (q : Nat) (s : State) : Host.Outcome State Fault Refusal :=
  whilePowered s fun s => atRegister s rq (0xF0050101C + 0x40 * (q % 128)) true 4 fun s => writeQCtrl s (q % 128) 4

end Sys2Proof.Machine
end

