-- ==== Sys2Proof/Machine/EngineOps.lean ====
section
/-! DEFINITION. The state of an engine as its operations see it (chapter 08): banks and registers, the staging window, the
layout of a bundle and its illegal forms, exceptions, completion words and the popping of job packets. -/

namespace Sys2Proof.Machine

/-- An engine. -/
def State.eng (s : State) (e : Nat) : Engine := Tbl.get s.ie e {}

/-- An engine replaced. -/
def State.setEng (s : State) (e : Nat) (g : Engine) : State := { s with ie := Tbl.put s.ie e g {} }

/-- A bank. -/
def State.bank (s : State) (e b : Nat) : Bank := Tbl.get (s.eng e).banks b {}

/-- A bank replaced. -/
def State.setBank (s : State) (e b : Nat) (k : Bank) : State :=
  s.setEng e { s.eng e with banks := Tbl.put (s.eng e).banks b k {} }

/-- A bank changed. -/
def State.onBank (s : State) (e b : Nat) (f : Bank → Bank) : State := s.setBank e b (f (s.bank e b))

/-- Island of an engine's control core (03 R117; 08 "The engine at a glance"). -/
def engIsland (e : Nat) : Nat := 109 + 7 * e

/-- The engine answers: present, its domain on and not fenced, Full tier (08 "IE registers"). -/
def engUp (s : State) (e : Nat) : Bool :=
  decide (e < s.part.engines) && decide (3 ≤ s.tier) && s.domUp (6 + e)

/-- The requester of a bank's network accesses (08 R371). -/
def bankRq (e b : Nat) : Requester := ⟨24 + e, b⟩

/-! Registers of a bank (R368, R369). -/

/-- A scalar register; S0 reads 0. -/
def Bank.sc (k : Bank) (i : Nat) : Nat := if i = 0 then 0 else (Tbl.get k.s i 0).toNat

/-- A scalar register written; S0 discards. -/
def Bank.setS (k : Bank) (i v : Nat) : Bank := if i = 0 then k else { k with s := Tbl.put k.s i (BitVec.ofNat 64 v) 0 }

/-- A vector register. -/
def Bank.vec (k : Bank) (i : Nat) : Nat := (Tbl.get k.v i 0).toNat

/-- A vector register written. -/
def Bank.setV (k : Bank) (i v : Nat) : Bank := { k with v := Tbl.put k.v i (BitVec.ofNat 2048 v) 0 }

/-- A predicate register; P0 reads as all ones. -/
def Bank.pr (k : Bank) (i : Nat) : Nat := if i = 0 then 2 ^ 256 - 1 else (Tbl.get k.p i 0).toNat

/-- A predicate register written; P0 discards. -/
def Bank.setP (k : Bank) (i v : Nat) : Bank := if i = 0 then k else { k with p := Tbl.put k.p i (BitVec.ofNat 256 v) 0 }

/-! The staging window (R371, R386, 10 R489, R490). -/

/-- Bytes of the window. -/
def winBytes (s : State) (e b : Nat) : Nat := 4096 * s.rd (Reg.IE_BANK_SS.SIZE e b)

/-- Physical start of the window. -/
def winBase (s : State) (e b : Nat) : Nat := 4096 * s.rd (Reg.IE_BANK_SS.BASE e b)

/-- The bank's model is spilled. -/
def spilled (s : State) (e b : Nat) : Bool := s.rd (Reg.IE_BANK_MODEL_STAT.STATE e b) == 3

/-- First window offset of the spilled blocks (10 R489). -/
def BankModel.ring0 (m : BankModel) : Nat := m.work + m.res

/-- A read range lies in the window, which a spilled model extends to WORK_BYTES + W (R386, 10 R489). -/
def readOk (s : State) (e b off n : Nat) : Bool :=
  let m := (s.bank e b).model
  decide (off + n ≤ winBytes s e b) || (spilled s e b && decide (off + n ≤ max (winBytes s e b) (m.work + m.w)))

/-- A written range lies in the window and, with a spilled model, outside the spilled blocks (R386, 10 R490). -/
def writeOk (s : State) (e b off n : Nat) : Bool :=
  let m := (s.bank e b).model
  decide (off + n ≤ winBytes s e b) && !(spilled s e b && overlap off n m.ring0 (m.work + m.w - m.ring0))

/-- Spilled blocks that a read range touches (10 R489). -/
def blocksOf (s : State) (e b off n : Nat) : List Nat :=
  let m := (s.bank e b).model
  if spilled s e b then
    (List.range ((m.w - m.res) / 65536)).filter fun j => overlap off n (m.ring0 + 65536 * j) 65536
  else []

/-- Ring slot that holds a spilled block. -/
def slotOf (r : Ring) (j : Nat) : Option Nat := (r.slots.find? fun p => p.2.1 == j).map (·.1)

/-- Physical staging offset that a read of a window offset reaches (10 R489). -/
def physRead (s : State) (e b off : Nat) : Nat :=
  let m := (s.bank e b).model
  if spilled s e b && decide (m.ring0 ≤ off) && decide (off < m.work + m.w) then
    let j := (off - m.ring0) / 65536
    winBase s e b + m.ring0 + 65536 * ((slotOf (s.bank e b).ring j).getD 0) + (off - m.ring0) % 65536
  else winBase s e b + off

/-- Bytes that a bank reads at a window offset, from a copy of the staging store. -/
def stageIn (s : State) (e b : Nat) (st : Mem) (off n : Nat) : List Byte :=
  (List.range n).map fun i => Mem.read st (physRead s e b (off + i))

/-- Bytes that a bank reads at a window offset. -/
def stageRead (s : State) (e b off n : Nat) : List Byte := stageIn s e b (s.eng e).staging off n

/-- Bytes that a bank writes at a window offset. -/
def stageWrite (s : State) (e b off : Nat) (bs : List Byte) : State :=
  s.setEng e { s.eng e with staging := Mem.writeN (s.eng e).staging (winBase s e b + off) bs }

/-! Bundles (R375-R378). -/

/-- First bit of a slot. -/
def slotLo : Nat → Nat
  | 0 => 0 | 1 => 64 | 2 => 128 | 3 => 192 | 4 => 288 | _ => 416

/-- Width of a slot. -/
def slotW : Nat → Nat
  | 0 => 64 | 1 => 64 | 2 => 64 | 3 => 96 | 4 => 128 | _ => 96

/-- A slot of a bundle: 0 C, 1 S0, 2 S1, 3 M, 4 V, 5 L. -/
def slotOfBundle (w i : Nat) : Nat := bits w (slotLo i) (slotW i)

/-- Opcode of a slot. -/
def opc (x : Nat) : Nat := bits x 0 8

/-- Guard predicate of a slot. -/
def pg (x : Nat) : Nat := bits x 8 3

/-- Value of the guard's predicate at which the slot takes effect. -/
def guardBit (x : Nat) : Bool := !bit x 11

/-- The slot takes effect; the M slot is guarded whole by bit 0 as the others are (R376; DEDUCED for M). -/
def guardOn (k : Bank) (x : Nat) : Bool := bit (k.pr (pg x)) 0 == guardBit x

/-- Highest defined opcode of a slot (R379, R380, R383, R384). -/
def lastOp : Nat → Nat
  | 0 => 0x0A | 1 => 0x16 | 2 => 0x16 | 3 => 0x06 | 4 => 0x03 | _ => 0x12

/-- C slot: SA, SB and the signed immediate. -/
def cSA (x : Nat) : Nat := bits x 12 6
def cImm (x : Nat) : Int := sInt (bits x 24 40) 40

/-- S slot: SD, SA, SB, IMMF and the signed immediate. -/
def sSD (x : Nat) : Nat := bits x 12 6
def sSA (x : Nat) : Nat := bits x 18 6
def sSB (x : Nat) : Nat := bits x 24 6
def sImmF (x : Nat) : Bool := bit x 30
def sImm (x : Nat) : Int := sInt (bits x 32 32) 32

/-- M slot: FMT, SA, SB, SC, COUNT. -/
def mFmt (x : Nat) : Nat := bits x 12 4
def mSA (x : Nat) : Nat := bits x 16 6
def mSB (x : Nat) : Nat := bits x 22 6
def mSC (x : Nat) : Nat := bits x 28 6
def mCount (x : Nat) : Nat := bits x 34 12

/-- V slot: VD, VA, VB, VC, FMT, STAGES and a stage. -/
def vVD (x : Nat) : Nat := bits x 12 5
def vVA (x : Nat) : Nat := bits x 17 5
def vVB (x : Nat) : Nat := bits x 22 5
def vVC (x : Nat) : Nat := bits x 27 5
def vFmt (x : Nat) : Nat := bits x 32 4
def vStages (x : Nat) : Nat := bits x 36 4
def vStage (x i : Nat) : Nat := bits x (40 + 11 * i) 11

/-- L slot: SA, SB, RX and the signed immediate. -/
def lSA (x : Nat) : Nat := bits x 12 6
def lSB (x : Nat) : Nat := bits x 18 6
def lRX (x : Nat) : Nat := bits x 24 6
def lImm (x : Nat) : Int := sInt (bits x 32 32) 32

/-- P and F of the formats of R429. -/
def fmtP (f : Nat) : Nat := if f ≤ 2 then 1 else 4
def fmtFill (f : Nat) : Nat := if f ≤ 2 then 144 else 160

/-- K elements of an activation row (R429). -/
def fmtK (f : Nat) : Nat := if f = 1 then 256 else 128

/-- Bytes of an activation row. -/
def actRow (f : Nat) : Nat := fmtK f * fmtBits f / 8

/-- Bytes of 128 elements of a format. -/
def row128 (f : Nat) : Nat := 16 * fmtBits f

/-- Rows that an operation streams, drains or loads (R430). -/
def mRows (x : Nat) : Nat :=
  if opc x ≤ 2 then mCount x
  else if opc x = 6 then mCount x - 16
  else (mCount x - fmtFill (mFmt x)) / fmtP (mFmt x)

/-- A load's combination of storage format, EXP and SCALED is one that R436 allows. -/
def loadFmtOk (f ex sc : Nat) : Bool :=
  if ex = 0 then ([1, 2].contains f) || ([3, 6, 7].contains f && sc == 0)
  else if ex ≤ 2 then [1, 2, 4, 5].contains f
  else false

/-- The M slot holds a reserved value (R378, R430, R435-R438). -/
def mReserved (x : Nat) : Bool :=
  let op := opc x
  let f := mFmt x
  let c := mCount x
  c == 0 || decide (2048 < c) ||
    if op ≤ 2 then
      let ex := bits x 56 2
      let row0 := if op = 1 then bits x 61 7 else 0
      (if op = 1 then bits x 68 28 else bits x 61 35) != 0 || !loadFmtOk f ex (bits x 60 1) ||
        bits x 58 2 == 3 || decide (128 < row0 + c) || decide (64 * bits x 46 10 < row128 f) || bits x 46 10 == 0
    else if op ≤ 4 then
      bits x 67 29 != 0 || mSB x != 0 || !(decide (1 ≤ f) && decide (f ≤ 7)) || (bit x 66 && decide (2 < f)) ||
        decide (c < fmtFill f + fmtP f) || decide (64 * bits x 46 10 < actRow f) || decide (bits x 56 10 < 8)
    else if op = 5 then
      bits x 64 32 != 0 || !(decide (1 ≤ f) && decide (f ≤ 7)) || (bit x 63 && decide (2 < f)) ||
        decide (c < fmtFill f + fmtP f) || decide (bits x 53 10 < 8)
    else
      bits x 68 28 != 0 || !fmtOk f || decide (c < 17) || decide (bits x 46 10 < 8) ||
        decide (64 * bits x 56 10 < row128 f)

/-- The class of an operand format after R463: FMT itself, or its counterpart in the other class; 0 for none. -/
def operandFmt (f : Nat) (flt : Bool) : Nat :=
  if fmtFloat f = flt then f
  else match f with
    | 9 => 8 | 8 => 9 | 3 => 6 | 6 => 3 | 7 => 3 | 2 => 4 | 4 => 2 | 5 => 2 | _ => 0

/-- The stages from one class on: none when a stage is reserved, else the class in which the chain ends (R458-R465). -/
def stageWalk (f : Nat) : List Nat → Bool → Option Bool
  | [], flt => some flt
  | st :: rest, flt =>
    let op := bits st 0 5
    let src := bits st 5 2
    let k := bits st 7 4
    let operand := [1, 2, 3, 4, 5, 6, 12].contains op
    let none_ := [7, 8, 9, 13, 14, 15, 16, 17, 18, 19, 20, 21].contains op
    let amount := [10, 11, 22].contains op
    if !(operand || none_ || amount) then none
    else if none_ && (src != 0 || k != 0) then none
    else if amount && src != 0 then none
    else if operand && (src == 1 || src == 2) && operandFmt f flt == 0 then none
    else if (op = 13 || (decide (15 ≤ op) && decide (op ≤ 21))) && !flt then none
    else if op = 14 && flt then none
    else if op = 22 then
      if rest = [] && fmtOk k && fmtFloat k == flt && decide (fmtBits k ≤ fmtBits f) then some (fmtFloat f) else none
    else stageWalk f rest (if op = 13 then false else if op = 14 then true else flt)

/-- The V slot holds a reserved value (R378, R455, R458, R465). -/
def vReserved (x : Nat) : Bool :=
  if opc x = 1 then
    let f := vFmt x
    let n := vStages x
    !fmtOk f || n == 0 || decide (8 < n) || (bits x (40 + 11 * n) 88) != 0 ||
      stageWalk f ((List.range n).map (vStage x)) (fmtFloat f) != some (fmtFloat f)
  else vVB x != 0 || vVC x != 0 || vFmt x != 0 || vStages x != 0 || bits x 40 88 != 0

/-- Subcode of an illegal slot, none for a legal one (R377, R381, R385, R416); of a NOP, the bits that R377 names for no slot are
reserved. -/
def slotIllegal (i x : Nat) : Option Nat :=
  let op := opc x
  if op = 0 then
    if (i = 1 ∨ i = 2) ∧ bit x 31 then some 2
    else if i = 5 ∧ (bits x 30 2 ≠ 0 ∨ bits x 64 32 ≠ 0) then some 2
    else none
  else if lastOp i < op then some 1
  else if i = 0 then none
  else if i ≤ 2 then
    if bit x 31 then some 2
    else if 0x10 ≤ op ∧ op ≤ 0x15 ∧ 8 ≤ sSD x then some 4
    else if 0x13 ≤ op ∧ op ≤ 0x15 ∧ (8 ≤ sSA x ∨ 8 ≤ sSB x) then some 4
    else none
  else if i = 3 then (if mReserved x then some 2 else none)
  else if i = 4 then (if vReserved x then some 2 else none)
  else if bits x 30 2 ≠ 0 ∨ bits x 64 32 ≠ 0 then some 2
  else if op ≤ 2 ∧ 32 ≤ lRX x then some 4
  else none

/-! Register sets of a bundle (R387-R391): scalars, vectors and predicates as masks. -/

/-- Masks of scalar, vector and predicate registers. -/
structure RegSet where
  s : Nat := 0
  v : Nat := 0
  p : Nat := 0
  deriving DecidableEq, Repr

/-- Both sets. -/
def RegSet.or (a b : RegSet) : RegSet := ⟨a.s ||| b.s, a.v ||| b.v, a.p ||| b.p⟩

/-- A scalar; S0 counts for none (R391). -/
def rS (i : Nat) : RegSet := if i = 0 then {} else { s := 2 ^ i }

/-- A vector. -/
def rV (i : Nat) : RegSet := { v := 2 ^ i }

/-- A predicate; P0 counts for none. -/
def rP (i : Nat) : RegSet := if i = 0 then {} else { p := 2 ^ i }

/-- The registers of a half (08 "Save areas and eviction"). -/
def halfRegs (hi : Bool) : RegSet :=
  if hi then ⟨(2 ^ 32 - 1) * 2 ^ 32, (2 ^ 16 - 1) * 2 ^ 16, 0xF0⟩ else ⟨2 ^ 32 - 2, 2 ^ 16 - 1, 0x0E⟩

/-- Registers that a slot writes by its fields; those that the mask of an LDM names join them once its operand is resident (R391). -/
def slotWrites (i x : Nat) : RegSet :=
  let op := opc x
  if op = 0 then {}
  else if i = 0 then (if op = 3 then rS 63 else {})
  else if i ≤ 2 then (if 0x10 ≤ op ∧ op ≤ 0x15 then rP (sSD x % 8) else rS (sSD x))
  else if i = 3 then {}
  else if i = 4 then rV (vVD x)
  else if op = 1 then rV (lRX x % 32)
  else if op = 3 ∨ op = 0x11 then rS (lRX x)
  else if op = 0x0F then halfRegs false
  else if op = 0x10 then halfRegs true
  else {}

/-- Stage operands of a CHAIN: scalars, and whether VB and VC are read (R462). -/
def chainReads (x : Nat) : RegSet :=
  (List.range (min 8 (vStages x))).foldl (fun r i =>
    let st := vStage x i
    if [1, 2, 3, 4, 5, 6, 12].contains (bits st 0 5) then
      match bits st 5 2 with
      | 1 => r.or (rV (vVB x))
      | 2 => r.or (rV (vVC x))
      | 3 => r.or (rS (bits st 7 4))
      | _ => r
    else r) {}

/-- Registers that a slot reads by its fields; VD counts as read where lanes keep their value. -/
def slotReads (i x : Nat) : RegSet :=
  let op := opc x
  if op = 0 then {}
  else
    (rP (pg x)).or <|
    if i = 0 then (if op = 2 ∨ op = 5 then rS (cSA x) else if op = 4 then rS 63 else {})
    else if i ≤ 2 then
      if op = 0x13 ∨ op = 0x14 then (rP (sSA x % 8)).or (rP (sSB x % 8))
      else if op = 0x15 then rP (sSA x % 8)
      else if op = 0x16 then {}
      else if op = 0x0F then rS (sSD x)
      else (rS (sSA x)).or (if sImmF x then {} else rS (sSB x))
    else if i = 3 then (rS (mSA x)).or ((rS (mSB x)).or (if op ≤ 2 then {} else rS (mSC x)))
    else if i = 4 then
      (rV (vVD x)).or (if op = 1 then (rV (vVA x)).or (chainReads x) else if op = 2 then rV (vVA x) else {})
    else
      let src := if op = 2 then rV (lRX x % 32) else if [4, 5, 6, 0x12].contains op then rS (lRX x) else {}
      let sb := if 5 ≤ op ∧ op ≤ 0x0E then rS (lSB x) else {}
      let half := if op = 0x0D then halfRegs false else if op = 0x0E then halfRegs true else {}
      (rS (lSA x)).or (src.or (sb.or half))

/-- Registers that a blocking store or load of a mask touches (R384). -/
def maskRegs (op mask : Nat) : RegSet :=
  if op ≤ 8 then { s := mask - mask % 2 } else if op ≤ 0x0A then { v := mask } else { p := mask - mask % 2 }

/-- Number of registers and bytes of each in a multiple transfer. -/
def multiN (op : Nat) : Nat := if op ≤ 8 then 64 else if op ≤ 0x0A then 32 else 8
def multiB (op : Nat) : Nat := if op ≤ 8 then 8 else if op ≤ 0x0A then 256 else 32

/-- The L slot is a multiple transfer. -/
def isMulti (op : Nat) : Bool := decide (7 ≤ op) && decide (op ≤ 0x0C)

/-- The L slot is blocking (R384). -/
def isBlocking (op : Nat) : Bool := decide (7 ≤ op) && decide (op ≤ 0x11)

/-- Mask of a multiple transfer, from SB. -/
def multiMask (k : Bank) (x : Nat) : Nat := k.sc (lSB x) % 2 ^ multiN (opc x)

/-- Registers that the slots before the L slot write. -/
def otherWrites (w : Nat) : RegSet := (List.range 5).foldl (fun (r : RegSet) j => r.or (slotWrites j (slotOfBundle w j))) {}

/-- An LDM's mask names a register that another slot of the bundle writes (R391). -/
def loadClash (k : Bank) (w : Nat) : Bool :=
  let l := slotOfBundle w 5
  let a := maskRegs (opc l) (multiMask k l)
  let o := otherWrites w
  isMulti (opc l) && opc l % 2 == 0 && (a.s &&& o.s != 0 || a.v &&& o.v != 0 || a.p &&& o.p != 0)

/-- First illegality of a bundle: slot and subcode (R391, R415, R416). -/
def bundleIllegal (w : Nat) : Option (Nat × Nat) :=
  match (List.range 6).findSome? fun i => (slotIllegal i (slotOfBundle w i)).map fun c => (i, c) with
  | some r => some r
  | none =>
    (List.range 6).findSome? fun i =>
      let a := slotWrites i (slotOfBundle w i)
      let before : RegSet := (List.range i).foldl (fun (r : RegSet) j => r.or (slotWrites j (slotOfBundle w j))) {}
      if a.s &&& before.s ≠ 0 ∨ a.v &&& before.v ≠ 0 ∨ a.p &&& before.p ≠ 0 then some (i, 3) else none

/-! Governor level 1 (02 R110). -/

/-- A bank of class P2 or P3 may not issue now: level 1 or above is in force, and THROTTLE_DUTY percent of the 100 µs window have
passed.  The windows follow each other from device time 0, and the work issues at their start (DESIGN CHOICE, log entry 91). -/
def throttled (s : State) (b : Nat) : Bool :=
  decide (2 ≤ b) && s.flag Reg.SYS_GOV_STAT.LEVEL &&
    decide (49152 * min 100 (s.rd Reg.SYS_THERM_CFG.THROTTLE_DUTY) ≤ 100 * (s.now % 49152))

/-! Entries. -/

/-- Entries of a bank that still belong to its job. -/
def bankEntries (s : State) (e b : Nat) : List Entry := (s.eng e).entries.filter fun n => n.bank == b

/-- A store not yet acknowledged: STD and DMAOUT (R379, R399). -/
def Entry.isStore (n : Entry) : Bool := n.slot == 5 && (n.op == 6 || n.op == 0x12)

/-- A suspended or running DMA (R402). -/
def Entry.isDma (n : Entry) : Bool := n.slot == 5 && (n.op == 5 || n.op == 6)

/-- Free entries that a bank can take: 16 are B0's, 48 are shared by the others (R388; DEDUCED, log
entry 113). -/
def freeEntries (s : State) (e b : Nat) : Nat :=
  let mine := (s.eng e).entries.countP fun n => n.bank == 0
  if b = 0 then 16 - mine else 48 - ((s.eng e).entries.length - mine)

/-- The lowest entry number not in use. -/
def freeId (s : State) (e : Nat) : Nat :=
  ((List.range 64).find? fun i => !((s.eng e).entries.any fun n => n.id == i)).getD 64

/-- An entry taken. -/
def addEntry (s : State) (e : Nat) (n : Entry) : State :=
  s.setEng e { s.eng e with entries := (s.eng e).entries ++ [{ n with id := freeId s e }] }

/-- An entry released. -/
def dropEntry (s : State) (e id : Nat) : State :=
  s.setEng e { s.eng e with entries := (s.eng e).entries.filter fun n => n.id != id }

/-! Jobs (R394-R400). -/

/-- A completion word pushed to a queue (R399). -/
def completion (s : State) (e cq tag status cause cycles : Nat) : State :=
  pushPacket s cq (leBytes 8 (tag + 65536 * status + 2 ^ 24 * cause + 2 ^ 32 * min (cycles / 64) 0xFFFFFFFF)) (24 + e)

/-- The bank's job ends: completion word, the bank idle, its entries discarded as they complete, its transfer forgotten. -/
def endJob (s : State) (e b status cause : Nat) : State :=
  let k := s.bank e b
  let s := match k.job with
    | some j => completion s e j.cq j.tag status cause k.cycles
    | none => s
  let s := s.onBank e b fun k => { k with
    state := 0, job := none, transfer := none, again := false, waitAll := false, waitSt := false, halting := false,
    evict := false, dmaFault := false }
  s.setEng e { s.eng e with entries := (s.eng e).entries.map fun n => if n.bank = b then { n with drop := true } else n }

/-- A job packet read from its words (R395, R396): none when it is refused. -/
def parseJob (ws : List (List Byte)) : Option Job :=
  match ws with
  | [a, b, c, d] =>
    let w0 := leNat a
    let kind := bits w0 0 2
    let entry := bits w0 32 32
    if 2 ≤ kind ∨ bits w0 2 6 ≠ 0 ∨ bit w0 15 ∨ bits (leNat d) 32 32 ≠ 0 then none
    else if kind = 0 ∧ (entry % 64 ≠ 0 ∨ 524288 ≤ entry) then none
    else if kind = 1 ∧ leNat c % 64 ≠ 0 then none
    else some ⟨kind == 1, bits w0 8 7, bits w0 16 16, entry, BitVec.ofNat 64 (leNat b), BitVec.ofNat 64 (leNat c),
      leNat d % 2 ^ 32⟩
  | _ => none

/-- The words of the oldest packet popped one by one (R394, 06 R289). -/
def popWords (s : State) (n : Nat) : Nat → State × List (List Byte)
  | 0 => (s, [])
  | k + 1 =>
    let (s, w, _) := popSlot s n
    let (s, ws) := popWords s n k
    (s, w :: ws)

/-- The oldest packet popped by a unit of the device; a CUT slot before it is passed over (06 R289, R298). -/
def popPacket (s : State) (n : Nat) : State × List (List Byte) :=
  let q := s.q n
  popWords (if q.cut then s.setQ n { q with cut := false } else s) n (headWords q.marks)

/-- The scheduler pops a job packet for one bank (R394, R396, 10 R479 step 3). -/
def popJob (s : State) (e b : Nat) : State :=
  let k := s.bank e b
  let n := s.rd (Reg.IE_BANK_JOBQ.QUEUE e b)
  let q := s.q n
  if s.flag (Reg.IE_BANK_JOBQ.EN e b) && k.state == 0 && k.ready.isNone && k.job.isNone && k.loading.isNone &&
      q.marks.contains true then
    let (s, ws) := popPacket s n
    match parseJob ws with
    | some j => s.onBank e b fun k => { k with ready := some j }
    | none =>
      let w0 := leNat (ws.headD [])
      (completion s e (bits w0 8 7) (bits w0 16 16) 5 0 0).logEvent (engIsland e) 0x1003 (4 * e + b) (w0 % 2 ^ 32) n
  else s

/-- The scheduler looks at the job queues: their pending bits clear, and each idle bank takes a packet (R394). -/
def schedulerLook (s : State) (e : Nat) : State :=
  if s.flag (Reg.IE_CTRL.EN e) then
    let bs := (List.range 4).filter fun b => s.flag (Reg.IE_BANK_JOBQ.EN e b)
    let s := bs.foldl (fun s b =>
      let n := s.rd (Reg.IE_BANK_JOBQ.QUEUE e b)
      s.clearBits (Reg.STR_Q_PEND.PEND (n / 32)) (2 ^ (n % 32))) s
    bs.foldl (fun s b => popJob s e b) s
  else s

/-- A bank's job ends and the scheduler looks at its queue again (R394). -/
def endAndLook (s : State) (e b status cause : Nat) : State := schedulerLook (endJob s e b status cause) e

/-- A job aborted: 0x1002 and the end (R419). -/
def abortJob (s : State) (e b : Nat) : State :=
  let k := s.bank e b
  let cause := s.rd (Reg.IE_BANK_EXC.CAUSE e b)
  let st := if cause = 9 then 3 else 1
  schedulerLook ((endJob s e b st cause).logEvent (engIsland e) 0x1002 (4 * e + b) ((k.job.map (·.tag)).getD 0) st) e

/-- IE_BANKb_EXC as a word. -/
def excWord (s : State) (e b : Nat) : Nat :=
  s.rd (Reg.IE_BANK_EXC.CAUSE e b) + 2 ^ 8 * s.rd (Reg.IE_BANK_EXC.SLOT e b) + 2 ^ 16 * s.rd (Reg.IE_BANK_EXC.SUBCODE e b) +
    2 ^ 24 * s.rd (Reg.IE_BANK_EXC.RESUMABLE e b) + 2 ^ 25 * s.rd (Reg.IE_BANK_EXC.IMPRECISE e b)

/-- The RESUMABLE column of R416. -/
def causeResumable (c : Nat) : Bool := [2, 5, 6, 9, 10].contains c

/-- The bank stops on an exception (R414, R416, R420). -/
def raiseExc (s : State) (e b cause slot sub : Nat) (imprecise : Bool) (pc : Nat) : State :=
  let s := s.wr (Reg.IE_BANK_EXC.CAUSE e b) cause
  let s := s.wr (Reg.IE_BANK_EXC.SLOT e b) slot
  let s := s.wr (Reg.IE_BANK_EXC.SUBCODE e b) sub
  let s := s.wr (Reg.IE_BANK_EXC.RESUMABLE e b) (b2n (causeResumable cause))
  let s := s.wr (Reg.IE_BANK_EXC.IMPRECISE e b) (b2n imprecise)
  let s := s.wr (Reg.IE_BANK_EXC_PC.PC e b) pc
  let s := s.onBank e b fun k => { k with state := 3 }
  let s := s.logEvent (engIsland e) 0x1001 (4 * e + b) (excWord s e b) pc
  if b = 0 ∧ s.flag (Reg.IE_CTRL.B0_AUTO_ABORT e) then abortJob s e 0 else s

/-- A bank has a job, running, pre-empted or stopped, or popped and not yet started. -/
def hasJob (k : Bank) : Bool := k.job.isSome || k.ready.isSome

/-- A shed: the job of a bank, or the one popped for it, ends with status 4 (R400). -/
def shedBank (s : State) (e b : Nat) : State :=
  let s := match (s.bank e b).ready with
    | some j => (completion s e j.cq j.tag 4 0 0).onBank e b fun k => { k with ready := none }
    | none => s
  if (s.bank e b).job.isSome then endJob s e b 4 0 else s

end Sys2Proof.Machine
end

