-- ==== Sys2Proof/Machine/EngineMatrix.lean ====
section
/-! DEFINITION. The matrix array (chapter 09): weight loads, multiplication, convolution by address generation, draining. -/

namespace Sys2Proof.Machine

/-- Element `i` of a row held as a number: INT4 takes the low nibble first (R424). -/
def elemCode (f n i : Nat) : Nat := bits n (i * fmtBits f) (fmtBits f)

/-- A code of any format as a value; the formats without a sign of float are integers. -/
def codeVal (f c : Nat) : FVal := if fmtFloat f then decodeF f c else ofI (sInt c (fmtBits f))

/-- `n` codes packed from the lowest bit. -/
def packCodes (f : Nat) (cs : List Nat) : List Byte :=
  leBytes (cs.length * fmtBits f / 8) (cs.foldr (fun c acc => c + 2 ^ fmtBits f * acc) 0)

/-- Format held by the array after a load (R436, R439). -/
def heldFmt (f ex : Nat) : Nat := if ex = 1 then 6 else if ex = 2 then 7 else f

/-- K rows of a group: 32, 64 or 128 (R435). -/
def groupRows (gs : Nat) : Nat := 32 * 2 ^ gs

/-- Weight rows that a load reads from staging: two per array row in INT4 without expansion. -/
def loadRows (x : Nat) : Nat := if mFmt x = 1 ∧ bits x 56 2 = 0 then 2 * mCount x else mCount x

/-- Groups of scales that a load reads. -/
def loadGroups (x : Nat) : Nat :=
  (if mFmt x = 1 ∧ bits x 56 2 = 0 then 256 else 128) / groupRows (bits x 58 2)

/-- A strided block of rows as one range. -/
def rowSpan (a n stride row : Nat) : Nat × Nat := (a, (n - 1) * stride + row)

/-- The descriptor of an MCONV with the clamps of R448, in the order of its fields. -/
structure ConvDesc where
  inW : Nat
  inH : Nat
  outW : Nat
  x0 : Nat
  y0 : Nat
  sx : Nat
  sy : Nat
  dx : Nat
  dy : Nat
  padL : Nat
  padT : Nat
  pix : Nat
  line : Nat

/-- 0 acts as 1, above 8 as 8. -/
def clamp18 (v : Nat) : Nat := min 8 (max 1 v)

/-- A descriptor read from its 64 bytes (R448). -/
def convDesc (bs : List Byte) : ConvDesc :=
  let p (v : Nat) : Nat := v - v % 64
  ⟨max 1 (field bs 0 2), max 1 (field bs 2 2), max 1 (field bs 4 2), field bs 6 2, field bs 8 2,
   clamp18 (field bs 10 1), clamp18 (field bs 11 1), clamp18 (field bs 12 1), clamp18 (field bs 13 1),
   min 14 (field bs 14 1), min 14 (field bs 15 1), p (field bs 16 4), p (field bs 20 4)⟩

/-- Offset of the activation row of output pixel `n`, none for padding (R449). -/
def convRow (d : ConvDesc) (a kx ky n : Nat) : Option Nat :=
  let q := d.y0 * d.outW + d.x0 + n
  let iy : Int := (q / d.outW * d.sy + ky * d.dy : Nat) - (d.padT : Int)
  let ix : Int := (q % d.outW * d.sx + kx * d.dx : Nat) - (d.padL : Int)
  if 0 ≤ ix ∧ ix < d.inW ∧ 0 ≤ iy ∧ iy < d.inH then some (a + iy.toNat * d.line + ix.toNat * d.pix) else none

/-- Offsets of the activation rows of an operation, none for a padding row. -/
def actRows (x a : Nat) (d : ConvDesc) : List (Option Nat) :=
  (List.range (mRows x)).map fun j =>
    if opc x = 5 then convRow d a (bits x 46 3) (bits x 49 3) j else some (a + j * (64 * bits x 46 10))

/-- Span of the rows that an MCONV reads (R451), none when all are padding. -/
def convSpan (x a : Nat) (d : ConvDesc) : Option (Nat × Nat) :=
  match (actRows x a d).filterMap id with
  | [] => none
  | r :: rs =>
    let lo := rs.foldl min r
    let hi := rs.foldl max r
    some (lo, hi - lo + actRow (mFmt x))

/-- Accumulator-row stride in bytes. -/
def accStride (x : Nat) : Nat := 64 * (if opc x = 5 then bits x 53 10 else bits x 56 10)

/-- The operation adds to its accumulators (R443, R450). -/
def accAdds (x : Nat) : Bool := opc x == 4 || (opc x == 5 && !bit x 52)

/-- Ranges that an M operation reads, the rows of an MCONV left out, and writes: window offset and length (R385-R387). -/
def mRanges (k : Bank) (x : Nat) : List (Nat × Nat) × List (Nat × Nat) :=
  let a := k.sc (mSA x)
  let b := k.sc (mSB x)
  let c := k.sc (mSC x)
  let op := opc x
  if op ≤ 2 then
    (rowSpan a (loadRows x) (64 * bits x 46 10) (row128 (mFmt x)) ::
      (if bit x 60 then [(b, 512 * loadGroups x)] else []), [])
  else if op = 6 then
    (rowSpan a (mRows x) (64 * bits x 46 10) 512 :: (if bit x 67 then [(b, 1024)] else []),
     [rowSpan c (mRows x) (64 * bits x 56 10) (row128 (mFmt x))])
  else
    let acc := rowSpan c (mRows x) (accStride x) 512
    ((if op = 5 then [(b, 64)] else [rowSpan a (mRows x) (64 * bits x 46 10) (actRow (mFmt x))]) ++
      (if accAdds x then [acc] else []), [acc])

/-- Offsets that shall be multiples of 64. -/
def mAligned (k : Bank) (x : Nat) : Bool :=
  let op := opc x
  k.sc (mSA x) % 64 == 0 &&
    (if op ≤ 2 then !bit x 60 || k.sc (mSB x) % 64 == 0
     else (k.sc (mSC x) % 64 == 0) && (if op = 5 ∨ (op = 6 ∧ bit x 67) then k.sc (mSB x) % 64 == 0 else true))

/-! Loads (R439-R442). -/

/-- Scale of a group and column as the set holds it; 1.0 where none was loaded. -/
def WeightSet.scale (w : WeightSet) (g c : Nat) : Nat := ((Tbl.get w.scales g []).getD c 0x3F800000)

/-- A weight set after an MLOADB or MLOADF. -/
def loadWeights (s : State) (e b x : Nat) (k : Bank) : WeightSet :=
  let f := mFmt x
  let ex := bits x 56 2
  let gs := bits x 58 2
  let held := heldFmt f ex
  let old := k.weights
  let scales := if bit x 60 then
      (List.range (loadGroups x)).foldl (fun t g =>
        let row := leNat (stageRead s e b (k.sc (mSB x) + 512 * g) 512)
        Tbl.set t g ((List.range 128).map fun c => elemCode 8 row c)) old.scales
    else old.scales
  let set : WeightSet := { loaded := true, fmt := held, exp := ex, scaled := bit x 60, gsize := gs, scales := scales }
  let row0 := if opc x = 1 then (if f = 1 ∧ ex = 0 then 2 * bits x 61 7 else bits x 61 7) else 0
  let kept := if opc x = 1 ∧ old.loaded ∧ old.fmt = held ∧ old.exp = ex then old.rows else []
  let rows := (List.range (loadRows x)).foldl (fun t r =>
    let raw := leNat (stageRead s e b (k.sc (mSA x) + r * (64 * bits x 46 10)) (row128 f))
    let codes := (List.range 128).map fun c =>
      let w := elemCode f raw c
      if ex = 0 then w
      else
        let sc := if bit x 60 then set.scale ((row0 + r) / groupRows gs) c else 0x3F800000
        (narrow held ((codeVal f w).mul (f32 sc))).1
    Tbl.set t (row0 + r) codes) kept
  { set with rows := rows }

/-! Products and sums (R443-R447). -/

/-- Weight format that an operation's FMT pairs with (R429). -/
def pairFmt (f : Nat) : Nat := if f = 4 ∨ f = 5 then 6 else f

/-- The set serves an operation of this FMT (R434). -/
def WeightSet.serves (w : WeightSet) (f : Nat) : Bool := w.loaded && w.fmt == pairFmt f

/-- Weight code of K row `k` and column `c`; rows not loaded are zeros. -/
def WeightSet.at (w : WeightSet) (k c : Nat) : Nat := (Tbl.get w.rows k []).getD c 0

/-- Exact integer sum of K rows [lo, lo + n) of a column. -/
def intSum (w : WeightSet) (f : Nat) (act : Nat) (c lo n : Nat) : Int :=
  (List.range n).foldl (fun acc i =>
    acc + sInt (elemCode f act (lo + i)) (fmtBits f) * sInt (w.at (lo + i) c) (fmtBits f)) 0

/-- FP32 sum of a column in ascending K order, each addition rounded (R444); a row beyond the loaded count contributes 0 whatever the
activation (R445). -/
def floatSum (w : WeightSet) (f : Nat) (act : Nat) (c : Nat) : FVal :=
  (List.range 128).foldl (fun acc i =>
    if (Tbl.find w.rows i).isNone then acc
    else (acc.add ((codeVal f (elemCode f act i)).mul (codeVal (pairFmt f) (w.at i c)))).round) (.fin false 0 1)

/-- Column result of per-group rescaling (R446, R447). -/
def groupSum (w : WeightSet) (f : Nat) (act : Nat) (c : Nat) : FVal :=
  let g := groupRows w.gsize
  (List.range (fmtK f / g)).foldl (fun acc i =>
    let sc := f32 (if w.scaled then w.scale i c else 0x3F800000)
    (acc.add (((ofI (intSum w f act c (g * i) g)).round.mul sc).round)).round) (.fin false 0 1)

/-- DQ of the operation. -/
def mDq (x : Nat) : Bool := if opc x = 5 then bit x 63 else bit x 66

/-- Code of one accumulator element and its saturations: the column's sum, added to the stored code where the operation
adds.  A set that does not serve the operation forms every product as 0 (R434). -/
def accElem (w : WeightSet) (x act c old : Nat) : Nat × Nat :=
  let f := mFmt x
  let w : WeightSet := if w.serves f then w else { gsize := w.gsize }
  let live := w.loaded
  if fmtFloat f ∨ mDq x then
    let v := if !live then FVal.fin false 0 1 else if mDq x then groupSum w f act c else floatSum w f act c
    (toFP32 (if accAdds x then v.add (f32 old) else v), 0)
  else
    let v := if live then intSum w f act c 0 (fmtK f) else 0
    narrowInt 9 (if accAdds x then v + sInt old 32 else v)

/-- The staging store with rows written, the writes, and saturations per element. -/
structure RowAcc where
  st : Mem
  out : List (Nat × List Byte) := []
  sats : List Nat := []

/-- One row written at a window offset. -/
def RowAcc.put (r : RowAcc) (base off : Nat) (bs : List Byte) (sats : List Nat) : RowAcc :=
  { st := Mem.writeN r.st (base + off) bs, out := r.out ++ [(off, bs)], sats := r.sats ++ sats }

/-- MMUL, MMULA and MCONV row by row on a working copy (R443-R450). -/
def streamRows (s : State) (e b x : Nat) (k : Bank) (d : ConvDesc) : RowAcc :=
  (actRows x (k.sc (mSA x)) d).zipIdx.foldl (fun (r : RowAcc) p =>
    let act := match p.1 with
      | some o => leNat (stageIn s e b r.st o (actRow (mFmt x)))
      | none => 0
    let c := k.sc (mSC x) + p.2 * accStride x
    let old := if accAdds x then leNat (stageIn s e b r.st c 512) else 0
    let es := (List.range 128).map fun i => accElem k.weights x act i (elemCode 8 old i)
    r.put (winBase s e b) c (packCodes 8 (es.map (·.1))) (es.map (·.2))) { st := (s.eng e).staging }

/-- One drained element (R452-R454). -/
def drainElem (x code scale bias : Nat) : Nat × Nat :=
  let f := mFmt x
  if !bit x 66 && !bit x 67 && !fmtFloat f then narrowInt f (sInt code 32)
  else
    let v := if bit x 66 then f32 code else (ofI (sInt code 32)).round
    narrow f (((v.mul (f32 scale)).round.add (f32 bias)).round)

/-- MDRAIN row by row: each row is read before it is written. -/
def drainRows (s : State) (e b x : Nat) (k : Bank) : RowAcc :=
  let param := bit x 67
  let sc := leNat (stageRead s e b (k.sc (mSB x)) 512)
  let bi := leNat (stageRead s e b (k.sc (mSB x) + 512) 512)
  (List.range (mRows x)).foldl (fun (r : RowAcc) j =>
    let row := leNat (stageIn s e b r.st (k.sc (mSA x) + j * (64 * bits x 46 10)) 512)
    let es := (List.range 128).map fun i =>
      drainElem x (elemCode 8 row i) (if param then elemCode 8 sc i else 0x3F800000) (if param then elemCode 8 bi i else 0)
    r.put (winBase s e b) (k.sc (mSC x) + j * (64 * bits x 56 10)) (packCodes (mFmt x) (es.map (·.1))) (es.map (·.2)))
    { st := (s.eng e).staging }

/-- The weight set is not loaded or does not pair with FMT: STATE_ERR, and 0x1012 once per job (R434). -/
def noteWeights (s : State) (e b x pc : Nat) : State :=
  let k := s.bank e b
  if k.weights.serves (mFmt x) then s
  else
    let s := s.wr (Reg.IE_BANK_MSTAT.STATE_ERR e b) 1
    if k.stateErrLogged then s
    else (s.onBank e b fun k => { k with stateErrLogged := true }).logEvent (engIsland e) 0x1012 (4 * e + b)
      (b2n k.weights.loaded) pc

/-- Cycles for which an M operation holds its port: a multiplication all but its last F, any other all (R430, R431). -/
def portCycles (x : Nat) : Nat := if 3 ≤ opc x ∧ opc x ≤ 5 then mCount x - fmtFill (mFmt x) else mCount x

/-- An M operation issues: the weight set changes at once (R442), results are formed now and written at completion. -/
def issueM (s : State) (e b x pc : Nat) (k : Bank) (span : List (Nat × Nat)) (blocks : List Nat) : State :=
  let rg := mRanges k x
  let n : Entry := { id := 0, bank := b, slot := 3, op := opc x, reads := rg.1 ++ span, writes := rg.2, blocks := blocks,
                     at_ := s.now, cycles := mCount x, hold := portCycles x }
  if opc x ≤ 2 then (addEntry s e n).onBank e b fun q => { q with weights := loadWeights s e b x k }
  else if opc x = 6 then
    let r := drainRows s e b x k
    addEntry s e { n with stage := r.out, sats := r.sats }
  else
    let r := streamRows s e b x k (convDesc (stageRead s e b (k.sc (mSB x)) 64))
    addEntry (noteWeights s e b x pc) e { n with stage := r.out, sats := r.sats }

end Sys2Proof.Machine
end

