-- ==== Sys2Proof/Machine/EngineVector.lean ====
section
/-! DEFINITION. The vector element engine (chapter 09): chains, VMOV and VZERO, and the saturation counters. -/

namespace Sys2Proof.Machine

/-- A value inside a chain: integer class of 48 bits or float class of FP32 (R459). -/
inductive ChainVal where
  | int (i : Int)
  | flt (v : FVal)
  deriving DecidableEq, Repr

/-- An integer held to 48 bits, with the saturations it takes (R459). -/
def sat48 (i : Int) : ChainVal × Nat :=
  let lo : Int := -(2 ^ 47 : Nat)
  let hi : Int := (2 ^ 47 : Nat) - 1
  (.int (clampI lo hi i), b2n (decide (i < lo) || decide (hi < i)))

/-- A float-class result rounded to FP32. -/
def fltRes (v : FVal) : ChainVal × Nat := (.flt v.round, 0)

/-- 1 / (1 + e^−x), each step rounded (R460, R461). -/
def sigmoid (x : FVal) : FVal := ((ofI 1).add (x.neg.exp.round)).round.recip.round

/-- x multiplied by 2^k. -/
def scale2 (x : FVal) (k : Int) : FVal :=
  if 0 ≤ k then x.mul (.fin false (2 ^ k.toNat) 1) else x.mul (.fin false 1 (2 ^ (-k).toNat))

/-- An FP32 value to a 48-bit integer (R460 CVTI, R426-R428). -/
def cvtI : FVal → ChainVal × Nat
  | .nan => (.int 0, 1)
  | .inf neg => (.int (if neg then -(2 ^ 47 : Nat) else (2 ^ 47 : Nat) - 1), 1)
  | .fin neg n d => sat48 (toInt neg n d)

/-- A stage in the integer class. -/
def stageInt (op k : Nat) (x o : Int) : ChainVal × Nat :=
  match op with
  | 1 => sat48 (x + o)
  | 2 => sat48 (x - o)
  | 3 => sat48 (o - x)
  | 4 => sat48 (x * o)
  | 5 => sat48 (min x o)
  | 6 => sat48 (max x o)
  | 7 => sat48 x.natAbs
  | 8 => sat48 (-x)
  | 9 => sat48 (max x 0)
  | 10 => sat48 (x * 2 ^ k)
  | 11 => sat48 (if k = 0 then x else (x + 2 ^ (k - 1)) / 2 ^ k)
  | 12 => sat48 (clampI (-(o.natAbs : Int)) o.natAbs x)
  | 14 => fltRes (ofI x)
  | _ => (.int x, 0)

/-- A stage in the float class; `open_` is the free value of a CLIP with a NaN, for which the spec states no result. -/
def stageFlt (op k : Nat) (x o : FVal) (open_ : Nat) : ChainVal × Nat :=
  match op with
  | 1 => fltRes (x.add o)
  | 2 => fltRes (x.add o.neg)
  | 3 => fltRes (o.add x.neg)
  | 4 => fltRes (x.mul o)
  | 5 => fltRes (x.min o)
  | 6 => fltRes (x.max o)
  | 7 => fltRes x.abs
  | 8 => fltRes x.neg
  | 9 => fltRes (x.max (.fin false 0 1))
  | 10 => fltRes (scale2 x k)
  | 11 => fltRes (scale2 x (-(k : Int)))
  | 12 => if x = .nan ∨ o = .nan then (.flt (f32 open_), 0) else fltRes ((o.abs.neg).max (o.abs.min x))
  | 13 => cvtI x
  | 15 => fltRes x.recip
  | 16 => fltRes x.rsqrt
  | 17 => fltRes x.exp
  | 18 => (.flt (sigmoid x), 0)
  | 19 => fltRes ((((sigmoid ((x.mul (ofI 2)).round)).mul (ofI 2)).round).add (ofI (-1)))
  | 20 => fltRes (x.mul (sigmoid x))
  | 21 => fltRes (x.mul (sigmoid ((x.mul (f32 0x3FD9DB23)).round)))
  | _ => (.flt x, 0)

/-- One stage on a value. -/
def stageStep (op k : Nat) (x o : ChainVal) (open_ : Nat) : ChainVal × Nat :=
  match x, o with
  | .int i, .int j => stageInt op k i j
  | .flt u, .flt v => stageFlt op k u v open_
  | .int i, .flt _ => stageInt op k i 0
  | .flt u, .int _ => stageFlt op k u (.fin false 0 1) open_

/-- A vector operand element read in a class (R463). -/
def vecOperand (f : Nat) (flt : Bool) (v j : Nat) : ChainVal :=
  let c := elemCode f v j
  if flt then .flt (decodeF (operandFmt f true) c) else .int (sInt c (fmtBits f))

/-- A scalar or immediate operand in a class (R462, R464). -/
def scalarOperand (flt : Bool) (n : Nat) : ChainVal := if flt then .flt (f32 (n % 2 ^ 32)) else (sat48 (sInt n 64)).1

/-- The operand of a stage. -/
def stageOperand (k : Bank) (x f : Nat) (flt : Bool) (st j : Nat) : ChainVal :=
  if [1, 2, 3, 4, 5, 6, 12].contains (bits st 0 5) then
    match bits st 5 2 with
    | 0 => if flt then .flt (ofI (sInt (bits st 7 4) 4)) else .int (sInt (bits st 7 4) 4)
    | 1 => vecOperand f flt (k.vec (vVB x)) j
    | 2 => vecOperand f flt (k.vec (vVC x)) j
    | _ => scalarOperand flt (k.sc (bits st 7 4))
  else if flt then .flt (.fin false 0 1) else .int 0

/-- A result written in a format: its code and saturations (R466). -/
def chainOut (f : Nat) : ChainVal → Nat × Nat
  | .int i => narrowInt f i
  | .flt v => narrow f v

/-- Element `j` of a chain: its code in the output format and its saturations. -/
def chainElem (k : Bank) (x j free : Nat) : Nat × Nat :=
  let f := vFmt x
  let start : ChainVal := if fmtFloat f then .flt (decodeF f (elemCode f (k.vec (vVA x)) j))
    else .int (sInt (elemCode f (k.vec (vVA x)) j) (fmtBits f))
  let r := (List.range (vStages x)).foldl (fun (acc : ChainVal × Nat) i =>
    let st := vStage x i
    let flt := match acc.1 with | .flt _ => true | .int _ => false
    let y := stageStep (bits st 0 5) (bits st 7 4) acc.1 (stageOperand k x f flt st j) (bits free (32 * (8 * j + i)) 32)
    (y.1, acc.2 + y.2)) (start, 0)
  let out := chainOut (chainFmt x) r.1
  (out.1, r.2 + out.2)
where
  /-- Output format: that of a closing QOUT, else FMT (R465). -/
  chainFmt (x : Nat) : Nat :=
    let st := vStage x (vStages x - 1)
    if bits st 0 5 = 22 then bits st 7 4 else vFmt x

/-- Byte lane `i` of the slot's guard takes effect (R368, R376). -/
def laneOn (k : Bank) (x i : Nat) : Bool := bit (k.pr (pg x)) i == guardBit x

/-- New value of VD and the saturations of the written elements (R456, R457, R465). -/
def chainResult (k : Bank) (x free : Nat) : Nat × List Nat :=
  let f := vFmt x
  let g := chainElem.chainFmt x
  (List.range (2048 / fmtBits f)).foldl (fun (acc : Nat × List Nat) j =>
    if laneOn k x (j * fmtBits f / 8) then
      let (c, n) := chainElem k x j free
      let old := bits acc.1 (j * fmtBits g) (fmtBits g)
      (acc.1 - old * 2 ^ (j * fmtBits g) + c * 2 ^ (j * fmtBits g), acc.2 ++ [n])
    else acc) (k.vec (vVD x), [])

/-- VD with the byte lanes of the guard taken from `v` (R455). -/
def laneMerge (k : Bank) (x v : Nat) : Nat :=
  (List.range 256).foldl (fun acc i =>
    if laneOn k x i then acc - bits acc (8 * i) 8 * 2 ^ (8 * i) + bits v (8 * i) 8 * 2 ^ (8 * i) else acc) (k.vec (vVD x))

/-- Some stage is a CLIP of the float class, whose result with a NaN is left open. -/
def hasClip (x : Nat) : Bool := (List.range (vStages x)).any fun i => bits (vStage x i) 0 5 == 12

/-- A V operation issues: its result is formed now and written at completion. -/
def issueV (s : State) (e b x : Nat) (k : Bank) : State :=
  let held := if opc x = 1 then (2048 / fmtBits (vFmt x) + 63) / 64 else 0
  let n : Entry := { id := 0, bank := b, slot := 4, op := opc x, dstV := 2 ^ vVD x, at_ := s.now, hold := held,
                     cycles := if opc x = 1 then held + 4 + 3 * vStages x else 0 }
  match opc x with
  | 1 =>
    let r := chainResult k x (Config.freeValue s.fresh)
    addEntry (if hasClip x then s.useFresh else s) e { n with vOut := [(vVD x, BitVec.ofNat 2048 r.1)], sats := r.2 }
  | 2 => addEntry s e { n with vOut := [(vVD x, BitVec.ofNat 2048 (laneMerge k x (k.vec (vVA x))))] }
  | _ => addEntry s e { n with vOut := [(vVD x, BitVec.ofNat 2048 (laneMerge k x 0))] }

/-! Saturations and drift (R468-R470). -/

/-- log2 of the drift window as it acts (R471). -/
def driftLog (s : State) (e b : Nat) : Nat := min 30 (max 10 (s.rd (Reg.IE_BANK_DRIFT_CFG.WLOG2 e b)))

/-- One written element counted in the window (R469). -/
def windowElem (e b : Nat) (s : State) (n : Nat) : State :=
  if s.flag (Reg.IE_BANK_DRIFT_CFG.DRIFT_EN e b) then
    let s := (s.bump (Reg.IE_BANK_WIN_OUT.COUNT e b) 1).bump (Reg.IE_BANK_WIN_SAT.COUNT e b) n
    let size := 2 ^ driftLog s e b
    if size ≤ s.rd (Reg.IE_BANK_WIN_OUT.COUNT e b) then
      let sat := s.rd (Reg.IE_BANK_WIN_SAT.COUNT e b)
      let s := if s.rd (Reg.IE_BANK_DRIFT_CFG.RATIO e b) * size < sat * 65536 then
          (s.wr (Reg.IE_BANK_MSTAT.DRIFT e b) 1).logEvent (engIsland e) 0x1011 (4 * e + b) sat
            (((s.bank e b).job.map (·.tag)).getD 0)
        else s
      (s.wr (Reg.IE_BANK_WIN_OUT.COUNT e b) 0).wr (Reg.IE_BANK_WIN_SAT.COUNT e b) 0
    else s
  else s

/-- The saturations of an entry's elements counted as they are written (R468, R469). -/
def countSats (s : State) (e : Nat) (n : Entry) : State :=
  let total := n.sats.sum
  if n.slot = 4 then n.sats.foldl (windowElem e n.bank) (s.bump (Reg.IE_BANK_SAT_V.COUNT e n.bank) total)
  else if n.slot = 3 ∧ n.op = 6 then n.sats.foldl (windowElem e n.bank) (s.bump (Reg.IE_BANK_SAT_M.COUNT e n.bank) total)
  else if n.slot = 3 then s.bump (Reg.IE_BANK_SAT_M.COUNT e n.bank) total
  else s

end Sys2Proof.Machine
end

