-- ==== Sys2Proof/Machine/EngineLoad.lean ====
section
/-! DEFINITION. The L slot (chapter 08): staging accesses, DMA, blocking transfers with restart, save areas, and the spill
pager of chapter 10. -/

namespace Sys2Proof.Machine

/-! Device accesses of an engine. -/

/-- Bytes read at a device address: the outcome is 0 for data, 1 for a bus error, 2 for STATUS 2. -/
def devRead (s : State) (rq : Requester) (a n : Nat) : State × List Byte × Nat :=
  match s.busRead rq a n with
  | (s, none) => (s, [], 1)
  | (s, some (bs, bad)) => (s, bs, if bad then 2 else 0)

/-- Bytes written at a device address, with the same outcomes. -/
def devWrite (s : State) (rq : Requester) (a : Nat) (bs : List Byte) : State × Nat :=
  let r := deviceWrite s rq a bs
  ({ r.1 with resp := s.resp }, r.2)

/-- Lines of 64 bytes read in order until one fails (R417). -/
def devReadLines (s : State) (rq : Requester) (a : Nat) : Nat → State × List Byte × Nat
  | 0 => (s, [], 0)
  | n + 1 =>
    match devRead s rq a 64 with
    | (s, bs, 0) =>
      let (s, rest, r) := devReadLines s rq (a + 64) n
      (s, bs ++ rest, r)
    | (s, _, r) => (s, [], r)

/-- Lines of 64 bytes written in order until one fails (R417). -/
def devWriteLines (s : State) (rq : Requester) (a : Nat) (bs : List Byte) : Nat → State × Nat
  | 0 => (s, 0)
  | n + 1 =>
    match devWrite s rq a (slice bs 0 64) with
    | (s, 0) => devWriteLines s rq (a + 64) (bs.drop 64) n
    | (s, r) => (s, r)

/-- A line that may have been written, where `put` says so and the access rules allow it; true from the first line on that they
refuse. -/
def freeLine (acc : State × Bool) (rq : Requester) (a : Nat) (bs : List Byte) (put : Bool) : State × Bool :=
  if acc.2 then acc
  else match routedAccess acc.1 rq a bs.length true (leNat (bs.take 4)) with
    | .err t => ({ t with resp := acc.1.resp }, true)
    | .ok t => (if put ∧ (t = .dram ∨ t = .larder) then (writeRange acc.1 rq a bs).1 else acc.1, false)

/-- Lines that may or may not have been written: line `i` is stored where bit `i` of a free value is set (R417). -/
def freeLines (s : State) (rq : Requester) (a : Nat) (bs : List Byte) (step : Nat) : State :=
  let f := Config.freeValue s.fresh
  ((List.range (bs.length / step)).foldl (fun acc i =>
    freeLine acc rq (a + step * i) (slice bs (step * i) step) (bit f i)) (s, false)).1.useFresh

/-! Save areas (R409-R412). -/

/-- Bytes of a save area. -/
def areaBytes : Nat := 4544

/-- A loop-stack entry of a save area: count, held at 0xFFFFFFFF, end of the body, and the body's length less 1 in bits [63:51]
(R409; the last two DESIGN CHOICE, log entry 98). -/
def LoopFrame.bytes (l : LoopFrame) : List Byte :=
  leBytes 8 (min l.count 0xFFFFFFFF + 2 ^ 32 * (l.last % 2 ^ 19) + 2 ^ 51 * ((l.last + 524288 - l.start) / 64 % 8192))

/-- A loop-stack entry read back, none where it is empty. -/
def loopOf (n : Nat) : Option LoopFrame :=
  if bits n 0 32 = 0 then none
  else
    let last := bits n 32 19
    some ⟨bits n 0 32, (last + 524288 - 64 * bits n 51 13 % 524288) % 524288, last⟩

/-- A save area of a bank (R409, R410). -/
def saveArea (k : Bank) (b : Nat) (hi : Bool) (flags pc link prog : Nat) : List Byte :=
  let loops := if hi then [] else k.loops.reverse.flatMap LoopFrame.bytes
  leBytes 4 (if hi then 0x5553584A else 0x4C53584A) ++ leBytes 1 b ++ leBytes 1 1 ++ leBytes 2 flags ++
    leBytes 8 (if hi then 0 else pc) ++ leBytes 8 link ++ leBytes 8 (if hi then 0 else prog) ++ slice loops 0 32 ++
    ((List.range 32).flatMap fun i => leBytes 8 (k.sc (i + 32 * b2n hi))) ++
    ((List.range 16).flatMap fun i => leBytes 256 (k.vec (i + 16 * b2n hi))) ++
    ((List.range 4).flatMap fun i => leBytes 32 (k.pr (i + 4 * b2n hi)))

/-- Half that an area holds: false low, true high; none when MAGIC or VERSION is wrong (R411). -/
def areaHalf (bs : List Byte) : Option Bool :=
  if field bs 5 1 ≠ 1 then none
  else if field bs 0 4 = 0x4C53584A then some false
  else if field bs 0 4 = 0x5553584A then some true
  else none

/-- The registers of an area restored (R411). -/
def restoreArea (k : Bank) (bs : List Byte) (hi : Bool) : Bank :=
  let k := (List.range 32).foldl (fun (k : Bank) i => k.setS (i + 32 * b2n hi) (field bs (64 + 8 * i) 8)) k
  let k := (List.range 16).foldl (fun (k : Bank) i => k.setV (i + 16 * b2n hi) (field bs (320 + 256 * i) 256)) k
  (List.range 4).foldl (fun (k : Bank) i => k.setP (i + 4 * b2n hi) (field bs (4416 + 32 * i) 32)) k

/-- The loop stack of an area, newest first. -/
def areaLoops (bs : List Byte) : List LoopFrame :=
  (((List.range 4).map fun i => loopOf (field bs (32 + 8 * i) 8)).takeWhile Option.isSome).filterMap id |>.reverse

/-! Blocking transfers (R403, R406-R408). -/

/-- Bytes of a register in a multiple transfer. -/
def regBytes (k : Bank) (op i : Nat) : List Byte :=
  if op ≤ 8 then leBytes 8 (k.sc i) else if op ≤ 0x0A then leBytes 256 (k.vec i) else leBytes 32 (k.pr i)

/-- A register loaded by a multiple transfer. -/
def loadReg (k : Bank) (op i : Nat) (bs : List Byte) : Bank :=
  if op ≤ 8 then k.setS i (leNat bs) else if op ≤ 0x0A then k.setV i (leNat bs) else k.setP i (leNat bs)

/-- The opcode is a store of registers. -/
def multiStores (op : Nat) : Bool := op % 2 == 1

/-- Registers transferred in ascending order: at most `n` of them, until one faults.  Answers the mask left and the
outcome of the last access. -/
def transferRegs (e b : Nat) (t : Transfer) : Nat → State → State × Nat × Nat
  | 0, s => (s, t.mask, 0)
  | n + 1, s =>
    go (((ones t.mask 64).take (n + 1))) s t.mask
where
  /-- The registers of a list in order. -/
  go : List Nat → State → Nat → State × Nat × Nat
    | [], s, m => (s, m, 0)
    | i :: rest, s, m =>
      let a := t.addr + multiB t.op * i
      if multiStores t.op then
        let bs := ((t.data.find? fun p => p.1 == i).map (·.2)).getD (regBytes (s.bank e b) t.op i)
        match devWrite s (bankRq e b) a bs with
        | (s, 0) => go rest s (clrBit m i)
        | (s, r) => (s, m, r)
      else
        match devRead s (bankRq e b) a (multiB t.op) with
        | (s, bs, 0) => go rest (s.onBank e b fun k => loadReg k t.op i bs) (clrBit m i)
        | (s, _, r) => (s, m, r)

/-- The blocking operation of the bank is done: its entry goes and the bank may issue. -/
def blockingDone (s : State) (e b : Nat) : State :=
  let s := s.setEng e { s.eng e with
    entries := (s.eng e).entries.filter fun n => !(n.bank == b && n.slot == 5 && isBlocking n.op) }
  s.onBank e b fun k => { k with transfer := none, again := false, progress := 0 }

/-- The blocking operation has faulted: its entry goes, PROGRESS holds what is left, the bank stops (R407, R414). -/
def blockingFault (s : State) (e b : Nat) (t : Transfer) (left cause : Nat) : State :=
  let s := blockingDone s e b
  let s := s.onBank e b fun k => { k with transfer := some { t with mask := left }, again := true,
                                          progress := if isMulti t.op then left else 0 }
  raiseExc s e b cause 5 0 false t.pc

/-- Exception cause of an access outcome. -/
def outcomeCause (r : Nat) : Nat := if r = 2 then 6 else 5

/-- The blocking operation of a bank carried to its end, or to its first fault (R406-R411). -/
def runBlocking (s : State) (e b : Nat) (t : Transfer) : State :=
  let rq := bankRq e b
  if isMulti t.op then
    let (s, left, r) := transferRegs e b t 64 s
    if r = 0 then blockingDone s e b else blockingFault s e b t left (outcomeCause r)
  else if t.op = 0x0D ∨ t.op = 0x0E then
    let (s, r) := devWriteLines s rq t.addr t.area 71
    if r = 0 then blockingDone s e b else blockingFault s e b t 0 (outcomeCause r)
  else if t.op = 0x0F ∨ t.op = 0x10 then
    match devReadLines s rq t.addr 71 with
    | (s, bs, 0) =>
      let hi := t.op == 0x10
      if areaHalf bs = some hi then (blockingDone s e b).onBank e b fun k => restoreArea k bs hi
      else blockingFault s e b t 0 7
    | (s, _, r) => blockingFault s e b t 0 (outcomeCause r)
  else
    match devRead s rq t.addr 8 with
    | (s, bs, 0) => (blockingDone s e b).onBank e b fun k => k.setS t.rx (leNat bs)
    | (s, _, r) => blockingFault s e b t 0 (outcomeCause r)

/-- The bank's transfer at a pre-emption or eviction: a multiple transfer finishes `n` registers and suspends, or completes
when none is left; any other operation runs to its end (R403). -/
def suspendBlocking (s : State) (e b n : Nat) : State :=
  match (s.bank e b).transfer, (s.bank e b).again with
  | some t, false =>
    if isMulti t.op then
      let (s, left, r) := transferRegs e b t n s
      if r ≠ 0 then blockingFault s e b t left (outcomeCause r)
      else if left = 0 then blockingDone s e b
      else (blockingDone s e b).onBank e b fun k =>
        { k with transfer := some { t with mask := left }, again := true, progress := left }
    else runBlocking s e b t
  | _, _ => s

/-! The spill ring (10 R488-R493). -/

/-- Attic slice of a bank: its first address (10 R488). -/
def sliceBase (s : State) (e b : Nat) : Nat :=
  s.cfg.map.atticBase + (4 * e + b) * (s.cfg.map.atticSize / 1048576 * 65536)

/-- Spilled blocks of the bank's model. -/
def spillBlocks (m : BankModel) : Nat := (m.w - m.res) / 65536

/-- Fetches that waited for a slot start once no entry reads that slot (10 R492, R493). -/
def ringService (s : State) (e b : Nat) : State :=
  let r := (s.bank e b).ring
  match r.wait with
  | [] => s
  | (j, slot) :: rest =>
    let held := (Tbl.find r.slots slot).map (·.1)
    let read := (bankEntries s e b).any fun n => match held with | some h => n.blocks.contains h | none => false
    if read then s
    else s.onBank e b fun k => { k with ring := { r with slots := Tbl.set r.slots slot (j, false), wait := rest } }

/-- The ring at a job start or resume: the first two spilled blocks are fetched (10 R492). -/
def ringStart (s : State) (e b : Nat) : State :=
  if spilled s e b then
    let n := spillBlocks (s.bank e b).model
    s.onBank e b fun k => { k with ring := { slots := (List.range (min 2 n)).map fun j => (j, (j, false)) } }
  else s.onBank e b fun k => { k with ring := {} }

/-- A block is in the ring, being fetched, or waits for its slot. -/
def ringHas (r : Ring) (j : Nat) : Bool := (r.slots.any fun p => p.2.1 == j) || r.wait.any fun p => p.1 == j

/-- A block is complete in the ring. -/
def ringReady (r : Ring) (j : Nat) : Bool := r.slots.any fun p => p.2 == (j, true)

/-- A miss: the block goes to the slot of the lower-numbered block (10 R493). -/
def ringMiss (s : State) (e b j : Nat) : State :=
  let r := (s.bank e b).ring
  let slot := match Tbl.find r.slots 0, Tbl.find r.slots 1 with
    | some x, some y => if y.1 < x.1 then 1 else 0
    | none, _ => 0
    | some _, none => 1
  let s := s.onBank e b fun k => { k with ring := { r with wait := r.wait ++ [(j, slot)], missLogged := true } }
  let s := s.bump (Reg.IE_BANK_SPILL_MISS.COUNT e b) 1
  let s := if r.missLogged then s
    else s.logEvent (engIsland e) 0x1023 (4 * e + b) j (s.rd (Reg.IE_BANK_SPILL_MISS.COUNT e b))
  ringService s e b

/-- The engine cycles since the wait on the pager was last counted, 2.5 to a tick, are counted; `on` where the bundle goes on waiting
(10 R491). -/
def countWait (s : State) (e b : Nat) (on : Bool) : State :=
  let s := match (s.bank e b).ring.waitAt with
    | some t => s.bump (Reg.IE_BANK_SPILL_WAIT.CYCLES e b) (5 * (s.now - t) / 2)
    | none => s
  s.onBank e b fun k => { k with ring := { k.ring with waitAt := if on then some s.now else none } }

/-- A bundle waits on spilled blocks: the wait is counted and misses start (10 R491, R493). -/
def ringWait (s : State) (e b : Nat) (js : List Nat) : State :=
  js.foldl (fun s j => if ringHas (s.bank e b).ring j then s else ringMiss s e b j) (countWait s e b true)

/-- Blocks read by an issuing bundle: the first read of block j ≥ 1 asks for block j + 1 (10 R492). -/
def ringRead (s : State) (e b : Nat) (js : List Nat) : State :=
  js.foldl (fun s j =>
    let k := s.bank e b
    if k.ring.seen.contains j then s
    else
      let s := s.onBank e b fun k => { k with ring := { k.ring with seen := k.ring.seen ++ [j] } }
      match slotOf k.ring (j - 1) with
      | some slot =>
        if 1 ≤ j ∧ j + 1 < spillBlocks k.model ∧ !ringHas k.ring (j + 1) then
          ringService (s.onBank e b fun k => { k with ring := { k.ring with wait := k.ring.wait ++ [(j + 1, slot)] } }) e b
        else s
      | none => s) s

/-- A fetched block completes in the ring: its bytes come from the attic slice (10 R488, R492).  A read that fails completes nothing (log
entry 102). -/
def ringFetched (s : State) (e b j : Nat) : State :=
  let k := s.bank e b
  match slotOf k.ring j with
  | some slot =>
    if ringReady k.ring j ∨ k.state = 2 then s
    else
      match devReadLines s (bankRq e b) (sliceBase s e b + 65536 * j) 1024 with
      | (s, bs, 0) =>
        let s := stageWrite s e b (k.model.ring0 + 65536 * slot) bs
        s.onBank e b fun k => { k with ring := { k.ring with slots := Tbl.set k.ring.slots slot (j, true) } }
      | (s, _, _) => s
  | none => s

/-! Issue of the L slot. -/

/-- Staging or device address SA + IMM. -/
def lAddr (k : Bank) (x : Nat) : Nat := ofInt ((k.sc (lSA x) : Int) + lImm x) 64

/-- A device address: bits [35:0] (R384). -/
def dev36 (a : Nat) : Nat := a % 2 ^ 36

/-- Bytes that a mask places, from the lowest to the highest register: first offset and length (R386). -/
def maskSpan (op mask : Nat) : Nat × Nat :=
  match ones mask 64 with
  | [] => (0, 0)
  | i :: rest => (multiB op * i, multiB op * (rest.foldl max i - i + 1))

/-- Staging ranges that an L operation reads and writes. -/
def lRanges (k : Bank) (x : Nat) : List (Nat × Nat) × List (Nat × Nat) :=
  match opc x with
  | 1 => ([(lAddr k x, 256)], [])
  | 2 => ([], [(lAddr k x, 256)])
  | 3 => ([(lAddr k x, 8)], [])
  | 4 => ([], [(lAddr k x, 8)])
  | 5 => ([], [(k.sc (lRX x), k.sc (lSB x))])
  | 6 => ([(k.sc (lRX x), k.sc (lSB x))], [])
  | _ => ([], [])

/-- Exception cause of an L operation at issue, none when it may issue (R385, R386). -/
def lFault (s : State) (e b : Nat) (k : Bank) (x : Nat) : Option Nat :=
  let op := opc x
  let n := k.sc (lSB x)
  let misaligned :=
    if op ≤ 2 then lAddr k x % 256 != 0
    else if op ≤ 4 ∨ 0x11 ≤ op then lAddr k x % 8 != 0
    else if op ≤ 6 then
      k.sc (lSA x) % 64 != 0 || k.sc (lRX x) % 64 != 0 || n % 64 != 0 || decide (n < 64) || decide (4194304 < n)
    else k.sc (lSA x) % 64 != 0
  let rg := lRanges k x
  if misaligned then some 3
  else if !((rg.1.all fun r => readOk s e b r.1 r.2) && rg.2.all fun r => writeOk s e b r.1 r.2) then some 4
  else if isMulti op then
    let sp := maskSpan op (multiMask k x)
    if inMemory (dev36 (k.sc (lSA x)) + sp.1) sp.2 then none else some 5
  else if 0x0D ≤ op ∧ op ≤ 0x10 then
    if inMemory (dev36 (k.sc (lSA x))) areaBytes then none else some 5
  else none

/-- Registers that an L operation will write at completion. -/
def lDst (x : Nat) (mask : Nat) : RegSet :=
  if isMulti (opc x) ∧ !multiStores (opc x) then maskRegs (opc x) mask else slotWrites 5 x

/-- The blocking operation that a bundle captures at issue; the PC and loops saved are those after the bundle (R406, R410). -/
def captureTransfer (k : Bank) (b x pc next : Nat) (loops : List LoopFrame) : Transfer :=
  let op := opc x
  let mask := if isMulti op then multiMask k x else 0
  { op := op, addr := if op = 0x11 then dev36 (lAddr k x) else dev36 (k.sc (lSA x)), mask := mask,
    link := k.sc (lSB x), rx := lRX x, pc := pc,
    data := if isMulti op && multiStores op then (ones mask 64).map fun i => (i, regBytes k op i) else [],
    area := if op = 0x0D then saveArea { k with loops := loops } b false 2 next (k.sc (lSB x)) k.progress
            else if op = 0x0E then saveArea k b true 0 0 (k.sc (lSB x)) 0 else [] }

/-- An L operation issues. -/
def issueL (s : State) (e b x pc next : Nat) (loops : List LoopFrame) (k : Bank) (blocks : List Nat) : State :=
  let op := opc x
  let rg := lRanges k x
  let d := lDst x (multiMask k x)
  let n : Entry := { id := 0, bank := b, slot := 5, op := op, dstS := d.s, dstV := d.v, dstP := d.p,
                     reads := rg.1, writes := rg.2, blocks := blocks }
  match op with
  | 1 => addEntry s e { n with vOut := [(lRX x, BitVec.ofNat 2048 (leNat (stageRead s e b (lAddr k x) 256)))] }
  | 2 => addEntry s e { n with stage := [(lAddr k x, leBytes 256 (k.vec (lRX x)))] }
  | 3 => addEntry s e { n with sOut := [(lRX x, BitVec.ofNat 64 (leNat (stageRead s e b (lAddr k x) 8)))] }
  | 4 => addEntry s e { n with stage := [(lAddr k x, leBytes 8 (k.sc (lRX x)))] }
  | 5 => addEntry s e { n with dev := dev36 (k.sc (lSA x)), off := k.sc (lRX x), len := k.sc (lSB x) }
  | 6 => addEntry s e { n with dev := dev36 (k.sc (lSA x)), off := k.sc (lRX x), len := k.sc (lSB x) }
  | 0x12 => addEntry s e { n with dev := dev36 (lAddr k x), len := 8, out := leBytes 8 (k.sc (lRX x)) }
  | _ => (addEntry s e n).onBank e b fun q => { q with transfer := some (captureTransfer k b x pc next loops), again := false }

end Sys2Proof.Machine
end

