-- ==== Sys2Proof/Machine/EngineIssue.lean ====
section
/-! DEFINITION. Issue of a bundle (chapter 08): the C and S slots, residency and the scoreboard, exceptions at issue, and
the completion of operations. -/

namespace Sys2Proof.Machine

/-! The S slots (R380, R382). -/

/-- The engine reads device time exactly; in Adaptive Clocking Mode, unpinned, it reads up to 2 ticks behind, by a free
value (03 R142). -/
def engExact (s : State) (e : Nat) : Bool := s.rd Reg.CLK_MODE.MODE == 2 || s.ck.pinned.contains (engIsland e)

/-- Device time that a TIME reads. -/
def engTime (s : State) (e : Nat) : Nat := if engExact s e then s.now else s.now - s.freeVal 64 % 3

/-- Signed quotient, rounded toward zero, with the results of R382. -/
def divS (a b : Int) : Int := if b = 0 then -1 else if a = -(2 ^ 63 : Nat) ∧ b = -1 then a else Int.tdiv a b

/-- Signed remainder with the results of R382. -/
def remS (a b : Int) : Int := if b = 0 then a else if a = -(2 ^ 63 : Nat) ∧ b = -1 then 0 else Int.tmod a b

/-- Every bit of a predicate. -/
def allBits (b : Bool) : Nat := if b then 2 ^ 256 - 1 else 0

/-- Second operand of an S operation. -/
def sOperand (k : Bank) (x : Nat) : Nat := if sImmF x then ofInt (sImm x) 64 else k.sc (sSB x)

/-- Result of an S operation in 64 bits, or in 256 bits for opcodes 0x10 to 0x15. -/
def sResult (k : Bank) (x time : Nat) : Nat :=
  let a := k.sc (sSA x)
  let b := sOperand k x
  let ia := sInt a 64
  let ib := sInt b 64
  match opc x with
  | 0x01 => (a + b) % 2 ^ 64
  | 0x02 => (a + 2 ^ 64 - b) % 2 ^ 64
  | 0x03 => a &&& b
  | 0x04 => a ||| b
  | 0x05 => a ^^^ b
  | 0x06 => a * 2 ^ (b % 64) % 2 ^ 64
  | 0x07 => a / 2 ^ (b % 64)
  | 0x08 => ofInt (ia / (2 ^ (b % 64) : Nat)) 64
  | 0x09 => a * b % 2 ^ 64
  | 0x0A => ofInt (ia * ib / (2 ^ 64 : Nat)) 64
  | 0x0B => ofInt (divS ia ib) 64
  | 0x0C => ofInt (remS ia ib) 64
  | 0x0D => ofInt (min ia ib) 64
  | 0x0E => ofInt (max ia ib) 64
  | 0x0F => k.sc (sSD x) % 2 ^ 32 + 2 ^ 32 * ofInt (sImm x) 32
  | 0x10 => allBits (a == b)
  | 0x11 => allBits (decide (ia < ib))
  | 0x12 => allBits (decide (a < b))
  | 0x13 => k.pr (sSA x % 8) &&& k.pr (sSB x % 8)
  | 0x14 => k.pr (sSA x % 8) ||| k.pr (sSB x % 8)
  | 0x15 => 2 ^ 256 - 1 - k.pr (sSA x % 8)
  | _ => time

/-- An S slot's write, from the registers before the bundle, into the bank after it. -/
def applyS (k q : Bank) (x time : Nat) : Bank :=
  if opc x = 0 ∨ !guardOn k x then q
  else if 0x10 ≤ opc x ∧ opc x ≤ 0x15 then q.setP (sSD x % 8) (sResult k x time)
  else q.setS (sSD x) (sResult k x time)

/-! The C slot (R379, R392, R393). -/

/-- A byte offset into the code store. -/
def codeAddr (i : Int) : Nat := (i % 524288).toNat

/-- What a C slot makes of the flow: the next PC and loop stack, or an exception cause. -/
structure Flow where
  next : Nat
  loops : List LoopFrame
  exc : Option Nat := none

/-- The bundle ends the bodies of the innermost loops (R393). -/
def loopEnd (pc : Nat) : List LoopFrame → Nat → Nat × List LoopFrame
  | [], next => (next, [])
  | l :: rest, next =>
    if l.last = pc then
      if 1 < l.count then (l.start, { l with count := l.count - 1 } :: rest) else loopEnd pc rest next
    else (next, l :: rest)

/-- The flow after a bundle.  A LOOP that ends an enclosing body ends that pass too: it goes back to the body's start, or leaves the
loop, before its own body is pushed or skipped (R393; the order DESIGN CHOICE, log entry 98). -/
def cFlow (k : Bank) (x pc : Nat) : Flow :=
  let seq := codeAddr (pc + 64)
  let through : Flow :=
    let r := loopEnd pc k.loops seq
    { next := r.1, loops := r.2 }
  if opc x = 0 ∨ !guardOn k x then through
  else
    let rel := codeAddr (pc + 64 * cImm x)
    match opc x with
    | 1 => { next := rel, loops := k.loops }
    | 2 => { next := codeAddr (k.sc (cSA x)), loops := k.loops,
             exc := if k.sc (cSA x) % 64 = 0 then none else some 3 }
    | 3 => { next := rel, loops := k.loops }
    | 4 => { next := codeAddr (k.sc 63), loops := k.loops,
             exc := if k.sc 63 % 64 = 0 then none else some 3 }
    | 5 =>
      let n := ofInt (cImm x) 16
      let c := k.sc (cSA x)
      if c = 0 ∨ n = 0 then { through with next := if through.next = seq then codeAddr (pc + 64 * (n + 1)) else through.next }
      else if 4 ≤ through.loops.length then { next := seq, loops := k.loops, exc := some 8 }
      else { through with loops := ⟨c, seq, codeAddr (seq + 64 * (n - 1))⟩ :: through.loops }
    | 10 => { through with exc := some 10 }
    | _ => through

/-- Effects of a C slot beyond the flow. -/
def applyC (e b x pc : Nat) (k : Bank) (s : State) : State :=
  if opc x = 0 ∨ !guardOn k x then s
  else match opc x with
    | 3 => s.onBank e b fun q => q.setS 63 (pc + 64)
    | 6 => s.onBank e b fun q => { q with waitAll := true }
    | 7 => s.onBank e b fun q => { q with waitSt := true }
    | 8 => s.onBank e b fun q => { q with halting := true }
    | 9 => s.logEvent (engIsland e) 0x1010 (4 * e + b) (ofInt (cImm x) 32) pc
    | _ => s

/-! Residency (R389). -/

/-- Registers that entries of the bank will write. -/
def pendingRegs (s : State) (e b : Nat) : RegSet :=
  ((bankEntries s e b).filter fun n => !n.drop).foldl (fun (r : RegSet) n => r.or ⟨n.dstS, n.dstV, n.dstP⟩) {}

/-- Registers that a bundle reads or writes, the mask registers of an LDM among them. -/
def bundleRegs (w : Nat) (k : Bank) : RegSet :=
  let l := slotOfBundle w 5
  let m : RegSet := if isMulti (opc l) then maskRegs (opc l) (multiMask k l) else {}
  (List.range 6).foldl (fun (r : RegSet) i =>
    (r.or (slotReads i (slotOfBundle w i))).or (slotWrites i (slotOfBundle w i))) m

/-- The two sets share no register. -/
def RegSet.disjoint (a b : RegSet) : Bool := a.s &&& b.s == 0 && a.v &&& b.v == 0 && a.p &&& b.p == 0

/-- Some range of one list shares a byte with some range of the other. -/
def rangesMeet (a b : List (Nat × Nat)) : Bool := a.any fun p => b.any fun q => overlap p.1 p.2 q.1 q.2

/-- Staging ranges read and written meet no entry of the bank that forbids it (R389). -/
def stagingFree (s : State) (e b : Nat) (rd wr : List (Nat × Nat)) : Bool :=
  ((bankEntries s e b).filter fun n => !n.drop).all fun n =>
    !rangesMeet wr (n.reads ++ n.writes) && !rangesMeet rd n.writes

/-- A slot of a bundle that does something. -/
def slotLive (k : Bank) (x : Nat) : Bool := opc x != 0 && guardOn k x

/-- An entry no longer holds its port of the array, or the vector engine's input. -/
def portLeft (s : State) (n : Entry) : Bool := decide (n.at_ + engineTicks n.hold ≤ s.now)

/-- The array has room for an M operation (R431): an MLOADB finds no M operation of the engine in progress, an MLOADF the weight port
free, the others no operation that streams through the activation port. -/
def arrayFree (s : State) (e op : Nat) : Bool :=
  let ms := (s.eng e).entries.filter fun n => n.slot == 3
  if op = 1 then ms.isEmpty
  else if op = 2 then ms.all fun n => decide (2 < n.op) || portLeft s n
  else ms.all fun n => decide (n.op ≤ 2) || portLeft s n

/-- The vector engine's input is free (R467). -/
def vectorFree (s : State) (e : Nat) : Bool := ((s.eng e).entries.filter fun n => n.slot == 4).all (portLeft s)

/-- An M or V operation has had the cycles that it takes (R430, R467). -/
def entryDue (s : State) (n : Entry) : Bool := decide (n.at_ + engineTicks n.cycles ≤ s.now)

/-- Exception cause of an M operation at issue (R385, R386, R451). -/
def mFault (s : State) (e b : Nat) (k : Bank) (x : Nat) : Option Nat :=
  let rg := mRanges k x
  if !mAligned k x then some 3
  else if !((rg.1.all fun r => readOk s e b r.1 r.2) && rg.2.all fun r => writeOk s e b r.1 r.2) then some 4
  else none

/-- Span of an MCONV's rows, from its descriptor as staging holds it. -/
def mSpan (s : State) (e b : Nat) (k : Bank) (x : Nat) : List (Nat × Nat) :=
  if opc x = 5 then (convSpan x (k.sc (mSA x)) (convDesc (stageRead s e b (k.sc (mSB x)) 64))).toList else []

/-! Halting and completion. -/

/-- HALT completes once the bank holds no entry (R399). -/
def tryHalt (s : State) (e b : Nat) : State :=
  let k := s.bank e b
  if k.halting ∧ !k.dmaFault ∧ k.state ≠ 3 ∧ (bankEntries s e b).isEmpty then endAndLook s e b 0 0 else s

/-- The budget of the bank's job is exceeded (R416, R418). -/
def overBudget (k : Bank) : Bool :=
  match k.job with
  | some j => j.budget != 0 && !k.noBudget && decide (64 * j.budget < k.cycles)
  | none => false

/-- The bank issues: running, no switch in progress, nothing that holds it, not throttled (02 R110). -/
def mayIssue (s : State) (e b : Nat) : Bool :=
  let k := s.bank e b
  engUp s e && (s.eng e).active == b && (s.eng e).switching.isNone && k.state == 1 && !k.halting && !k.dmaFault &&
    !overBudget k && (k.transfer.isNone || k.again) && !throttled s b

/-- The bundle at a code-store offset as a 512-bit number. -/
def bundleAt (s : State) (e pc : Nat) : Nat := Mem.num (s.eng e).code pc 64

/-- The PC at which the bank issues next. -/
def issuePc (k : Bank) : Nat := if k.again then (k.transfer.map (·.pc)).getD k.pc else k.pc

/-- A bundle issues again with only its L slot (R408). -/
def issueAgain (s : State) (e b w : Nat) : State :=
  let k := s.bank e b
  let l := slotOfBundle w 5
  match k.transfer with
  | none => s
  | some t =>
    let d := lDst l t.mask
    if freeEntries s e b = 0 ∨ !(pendingRegs s e b).disjoint ((slotReads 5 l).or d) then s
    else
      let cap := captureTransfer k b l t.pc k.pc k.loops
      let op := opc l
      let addr := if t.op = 0 then cap.addr else t.addr
      let data := if isMulti op && multiStores op then (ones t.mask 64).map fun i => (i, regBytes k op i) else []
      let t' := { cap with addr := addr, mask := t.mask, data := data }
      let s := addEntry s e { id := 0, bank := b, slot := 5, op := op, dstS := d.s, dstV := d.v, dstP := d.p }
      s.onBank e b fun q => { q with transfer := some t', again := false, cycles := q.cycles + 1, lastPc := t.pc }

/-- The first exception of a bundle at issue, in slot order: cause and slot (R414, R416). -/
def issueFault (s : State) (e b w : Nat) (k : Bank) (fl : Flow) (ecc : Ecc) : Option (Nat × Nat) :=
  let m := slotOfBundle w 3
  let l := slotOfBundle w 5
  match fl.exc with
  | some c => some (c, 0)
  | none =>
    match if slotLive k m then mFault s e b k m else none with
    | some c => some (c, 3)
    | none =>
      match if slotLive k l then lFault s e b k l else none with
      | some c => some (c, 5)
      | none => if slotLive k l && (opc l == 1 || opc l == 3) && ecc == .double then some (6, 5) else none

/-- A bundle that is resident issues: every slot reads the registers of before, then all take effect (R390, R392). -/
def issueNow (s : State) (e b w pc : Nat) (k : Bank) (fl : Flow) (span : List (Nat × Nat)) : State :=
  let m := slotOfBundle w 3
  let v := slotOfBundle w 4
  let l := slotOfBundle w 5
  let blocks (r : List (Nat × Nat)) : List Nat := (r.flatMap fun p => blocksOf s e b p.1 p.2).eraseDups
  let mb := if slotLive k m then blocks ((mRanges k m).1 ++ span) else []
  let lb := if slotLive k l then blocks (lRanges k l).1 else []
  let idle (x slot : Nat) (s : State) : State := addEntry s e { id := 0, bank := b, slot := slot, op := opc x }
  let time := engTime s e
  let s := if (opc (slotOfBundle w 1) = 0x16 ∨ opc (slotOfBundle w 2) = 0x16) ∧ !engExact s e
    then s.useFresh else s
  let s := ringRead (if k.ring.waitAt.isSome then countWait s e b false else s) e b (mb ++ lb)
  let s := if opc m = 0 then s else if slotLive k m then issueM s e b m pc k span mb else idle m 3 s
  let s := if opc v = 0 then s else issueV s e b v k
  let s := if opc l = 0 then s else if slotLive k l then issueL s e b l pc fl.next fl.loops k lb else idle l 5 s
  let s := s.onBank e b fun q => applyS k (applyS k q (slotOfBundle w 1) time) (slotOfBundle w 2) time
  let s := s.onBank e b fun q =>
    { q with pc := fl.next, loops := fl.loops, lastPc := pc, cycles := q.cycles + 1, waitAll := false, waitSt := false }
  tryHalt (applyC e b (slotOfBundle w 0) pc k s) e b

/-- The bank attempts to issue the bundle at its PC: illegal forms first (R415), then what it waits for (R389), then the
exceptions at issue (R414), then its effects.  A bundle that waits leaves the state as it is, but for the pager. -/
def issueBundle (s : State) (e b w pc : Nat) (ecc : Ecc) : State :=
  let k := s.bank e b
  let m := slotOfBundle w 3
  let l := slotOfBundle w 5
  match bundleIllegal w with
  | some (slot, sub) => raiseExc s e b 1 slot sub false pc
  | none =>
    if (k.waitAll && !(bankEntries s e b).isEmpty) || (k.waitSt && (bankEntries s e b).any Entry.isStore) then s
    else if !(pendingRegs s e b).disjoint (bundleRegs w k) then s
    else if isMulti (opc l) && multiMask k l == 0 then raiseExc s e b 1 5 2 false pc
    else if loadClash k w then raiseExc s e b 1 5 3 false pc
    else
      let fl := cFlow k (slotOfBundle w 0) pc
      match issueFault s e b w k fl ecc with
      | some (cause, slot) =>
        let s := if cause = 10 then s.onBank e b fun q => { q with pc := fl.next, loops := fl.loops } else s
        raiseExc s e b cause slot 0 false pc
      | none =>
        let mr := if slotLive k m then mRanges k m else ([], [])
        let lr := if slotLive k l then lRanges k l else ([], [])
        let need := b2n (opc m != 0) + b2n (opc (slotOfBundle w 4) != 0) + b2n (opc l != 0)
        if freeEntries s e b < need ∨ (opc m ≠ 0 ∧ !arrayFree s e (opc m)) ∨ (opc (slotOfBundle w 4) ≠ 0 ∧ !vectorFree s e) then s
        else if !stagingFree s e b (mr.1 ++ lr.1) (mr.2 ++ lr.2) then s
        else
          let span := if slotLive k m then mSpan s e b k m else []
          if !(span.all fun r => readOk s e b r.1 r.2) then raiseExc s e b 4 3 0 false pc
          else if !stagingFree s e b span [] then s
          else
            let js := ((mr.1 ++ lr.1 ++ span).flatMap fun r => blocksOf s e b r.1 r.2).eraseDups
            let missing := js.filter fun j => !ringReady k.ring j
            if missing = [] then issueNow s e b w pc k fl span else ringWait s e b missing

/-- What a command for a slot's opcode does: when the issuing bank's next bundle holds that opcode in that slot, the bundle
is fetched and attempts to issue, all six slots together (08 "Issue and the scoreboard").  `fetch` is what the fetch finds
(R372) and `ecc` what a staging read into a register finds (R416). -/
def issueOp (e : Nat) (holds : Nat → Bool) (fetch ecc : Ecc) (s : State) : State :=
  let b := (s.eng e).active
  let k := s.bank e b
  if mayIssue s e b then
    let pc := issuePc k
    let w := bundleAt s e pc
    if !holds w then s
    else if fetch = .double then raiseExc s e b 2 0 0 false pc
    else if k.again then issueAgain s e b w
    else issueBundle s e b w pc ecc
  else s

/-- The bundle holds an opcode in a slot. -/
def holdsOp (slot op w : Nat) : Bool := opc (slotOfBundle w slot) == op

/-! Completion (R387, R417). -/

/-- A DMA or STD carried out; `err` is an error that the network reports: 0 none, 1 bus error, 2 STATUS 2. -/
def finishDma (s : State) (e : Nat) (n : Entry) (err : Nat) : State :=
  let rq := bankRq e n.bank
  let fault (s : State) : State := s.onBank e n.bank fun k => { k with dmaFault := true }
  if n.op = 5 then
    if err ≠ 0 then fault s
    else match devReadLines s rq n.dev (n.len / 64) with
      | (s, bs, 0) => stageWrite s e n.bank n.off bs
      | (s, _, _) => fault s
  else
    let bs := if n.op = 6 then stageRead s e n.bank n.off n.len else n.out
    if err ≠ 0 then fault (freeLines s rq n.dev bs (min 64 n.len))
    else
      let (s, r) := if n.op = 6 then devWriteLines s rq n.dev bs (n.len / 64) else devWrite s rq n.dev bs
      if r = 0 then s else fault s

/-- Results of a completing entry written. -/
def writeBack (s : State) (e : Nat) (n : Entry) : State :=
  let s := n.stage.foldl (fun s p => stageWrite s e n.bank p.1 p.2) s
  let s := s.onBank e n.bank fun k => n.sOut.foldl (fun (k : Bank) p => k.setS p.1 p.2.toNat) k
  let s := s.onBank e n.bank fun k => n.vOut.foldl (fun (k : Bank) p => k.setV p.1 p.2.toNat) k
  countSats s e n

/-- An operation completes and releases its entry (R387).  A DMA of a bank that does not issue is suspended (R402). -/
def completeOp (s : State) (e id err : Nat) : State :=
  match (s.eng e).entries.find? fun n => n.id == id with
  | none => s
  | some n =>
    let k := s.bank e n.bank
    if !entryDue s n then s
    else if n.drop then
      let s := dropEntry s e id
      if n.slot = 5 ∧ n.op = 6 then freeLines s (bankRq e n.bank) n.dev (stageRead s e n.bank n.off n.len) 64
      else if n.slot = 5 ∧ n.op = 0x12 then freeLines s (bankRq e n.bank) n.dev n.out 8
      else s
    else if n.isDma && (k.state == 2 || k.state == 4) then s
    else if n.slot = 5 ∧ isBlocking n.op then
      match k.transfer with
      | some t => tryHalt (runBlocking s e n.bank t) e n.bank
      | none => dropEntry s e id
    else
      let s := if n.slot = 5 ∧ (n.op = 5 ∨ n.op = 6 ∨ n.op = 0x12) then finishDma s e n err else writeBack s e n
      let s := dropEntry s e id
      tryHalt (ringService s e n.bank) e n.bank

end Sys2Proof.Machine
end

