-- ==== Sys2Proof/Machine/EngineJobs.lean ====
section
/-! DEFINITION. Jobs, banks and pre-emption of an engine (chapter 08), its code store and bank views, and its control
registers. -/

namespace Sys2Proof.Machine

/-- Address of a register in an engine's window. -/
def ieAddr (e o : Nat) : Nat := 0xF02000000 + 0x400000 * (e % 4) + o

/-- Address of a register of a bank's block. -/
def bankAddr (e b o : Nat) : Nat := ieAddr e (0x100 + 0x80 * (b % 4) + o)

/-- A refused control or configuration write: 0x1004, the write answered as done (08 R418, R422). -/
def ieRefused (s : State) (e addr data : Nat) (rq : Requester) : State :=
  (s.logEvent (engIsland e) 0x1004 addr data rq.ni).answer 0

/-! Scheduling (R394, R402-R405). -/

/-- A bank above `b` runs, is pre-empted or has a job ready (R404). -/
def higherWork (s : State) (e b : Nat) : Bool :=
  (List.range b).any fun a => let k := s.bank e a; k.state == 1 || k.state == 2 || k.ready.isSome

/-- The engine turns to a bank that can run: at once when it is the issuing bank, else by a switch that drains the bank
issuing now, whose blocking transfer first finishes `done` registers (R402, R403). -/
def turnTo (s : State) (e b done : Nat) : State :=
  let a := (s.eng e).active
  let s := s.onBank e b fun k => { k with state := 1 }
  if a = b then s
  else
    let s := if (s.bank e a).state = 1 then
        let s := suspendBlocking s e a done
        if (s.bank e a).state = 1 then s.onBank e a fun k => { k with state := 2 } else s
      else s
    s.setEng e { s.eng e with switching := some b }

/-- A popped job can start: no switch in progress and no higher bank with work (R404, R405). -/
def mayStart (s : State) (e b : Nat) : Bool := engUp s e && (s.eng e).switching.isNone && !higherWork s e b

/-- What every start and resume makes of a bank: weight set and window counts cleared, the ring restarted (09 R433, R470,
10 R492). -/
def freshJob (s : State) (e b : Nat) (j : Job) : State :=
  let s := s.onBank e b fun k => { k with
    ready := none, job := some j, cycles := 0, noBudget := false, weights := {},
    stateErrLogged := false, transfer := none, again := false, waitAll := false, waitSt := false, halting := false,
    evict := false, dmaFault := false }
  ringStart ((s.wr (Reg.IE_BANK_WIN_OUT.COUNT e b) 0).wr (Reg.IE_BANK_WIN_SAT.COUNT e b) 0) e b

/-- A start job: registers 0 but S1 and S2, the loop stack empty, running from ENTRY (R397). -/
def startJob (s : State) (e b done : Nat) (j : Job) : State :=
  let s := freshJob s e b j
  let s := s.onBank e b fun k =>
    { k with s := ((({} : Bank).setS 1 j.arg0.toNat).setS 2 j.arg1.toNat).s, v := [], p := [], loops := [], pc := j.entry,
             progress := 0 }
  turnTo s e b done

/-- What stands after an area of a chain: the link to the next, the bank as restored so far, the halves seen, and the low area. -/
structure ChainLink where
  next : Nat
  bank : Bank
  seen : List Bool
  low : Option (List Byte)

/-- One area of a chain, from its 71 lines and how their read ended (R398, R411, R412). -/
def chainArea (bs : List Byte) (r : Nat) (c : ChainLink) : Nat ⊕ ChainLink :=
  if r ≠ 0 then .inl (outcomeCause r)
  else match areaHalf bs with
    | none => .inl 7
    | some hi =>
      if c.seen.contains hi ∨ c.next % 64 ≠ 0 then .inl 7
      else .inr { next := field bs 16 8, bank := restoreArea c.bank bs hi, seen := c.seen ++ [hi],
                  low := if hi then c.low else some bs }

/-- One area read and restored. -/
def restoreLink (s : State) (rq : Requester) (c : ChainLink) : State × (Nat ⊕ ChainLink) :=
  let r := devReadLines s rq (dev36 c.next) 71
  (r.1, chainArea r.2.1 r.2.2 c)

/-- The areas of a chain restored, at most two and of different halves: the bank and the low area, or the cause of failure
(R398, R411, R412). -/
def restoreChain (s : State) (rq : Requester) (a : Nat) (k : Bank) : State × (Nat ⊕ ChainLink) :=
  match restoreLink s rq { next := a, bank := k, seen := [], low := none } with
  | (s, .inl cause) => (s, .inl cause)
  | (s, .inr c) =>
    if c.next = 0 then (s, .inr c)
    else match restoreLink s rq c with
      | (s, .inl cause) => (s, .inl cause)
      | (s, .inr c) => if c.next = 0 then (s, .inr c) else (s, .inl 7)

/-- A resume job: the chain restored, the control state of its low half taken, or the job ended with status 1 (R398,
R403, R412). -/
def resumeJob (s : State) (e b done : Nat) (j : Job) : State :=
  let s := freshJob s e b j
  let fail (s : State) (cause : Nat) : State :=
    schedulerLook ((endJob s e b 1 cause).logEvent (engIsland e) 0x1002 (4 * e + b) j.tag 1) e
  match restoreChain s (bankRq e b) j.arg1.toNat (s.bank e b) with
  | (s, .inl cause) => fail s cause
  | (s, .inr { bank := k, low := some low, .. }) =>
    let pc := field low 8 8
    if pc % 64 ≠ 0 then fail s 7
    else
      let pc := codeAddr pc
      let prog := field low 24 8
      let k := { k with loops := areaLoops low, progress := prog, pc := pc }
      let k := if bit (field low 6 2) 0 then
          { k with pc := codeAddr (pc + 64), again := true,
                   transfer := some { op := 0, addr := 0, mask := prog, link := 0, rx := 0, pc := pc, data := [], area := [] } }
        else k
      turnTo (s.setBank e b k) e b done
  | (s, .inr { low := none, .. }) => fail s 7

/-- A bank that can issue again after a pre-emption or a stop: it takes the engine unless a higher bank issues, has work or
a switch is in progress (R402, R404, R405). -/
def wake (s : State) (e b done : Nat) : State :=
  let a := (s.eng e).active
  if (s.eng e).switching.isNone ∧ !((s.bank e a).state = 1 ∧ a < b) ∧ !higherWork s e b then turnTo s e b done
  else s.onBank e b fun k => { k with state := 2 }

/-- The bank issues at this instant. -/
def issuing (s : State) (e b : Nat) : Bool :=
  (s.eng e).active == b && (s.eng e).switching.isNone && (s.bank e b).state == 1

/-! Bank control (R413, R418, R419). -/

/-- RESUME (R418). -/
def ctrlResume (s : State) (rq : Requester) (e b done data : Nat) : State :=
  if (s.bank e b).state = 3 ∧ s.flag (Reg.IE_BANK_EXC.RESUMABLE e b) then
    let budget := s.rd (Reg.IE_BANK_EXC.CAUSE e b) == 9
    let s := s.onBank e b fun k => { k with noBudget := k.noBudget || budget }
    (wake s e b done).answer 0
  else ieRefused s e (bankAddr e b 0) data rq

/-- ABORT (R419). -/
def ctrlAbort (s : State) (rq : Requester) (e b data : Nat) : State :=
  if (s.bank e b).state = 3 then (abortJob s e b).answer 0 else ieRefused s e (bankAddr e b 0) data rq

/-- The bank stops for its eviction at the instant it would issue (R413). -/
def startEvict (s : State) (e b done : Nat) : State :=
  let s := suspendBlocking s e b done
  if (s.bank e b).state = 1 then s.onBank e b fun k => { k with state := 4, evict := true } else s

/-- EVICT (R413). -/
def ctrlEvict (s : State) (rq : Requester) (e b done data : Nat) : State :=
  let k := s.bank e b
  if k.state = 1 ∨ k.state = 2 then
    (if issuing s e b then startEvict s e b done else s.onBank e b fun k => { k with evict := true }).answer 0
  else ieRefused s e (bankAddr e b 0) data rq

/-- A write to IE_BANKb_CTRL: RESUME, ABORT and EVICT in bit order. -/
def writeBankCtrl (s : State) (rq : Requester) (e b done data : Nat) : State :=
  let s := s.answer 0
  let s := if bit data 0 then ctrlResume s rq e b done data else s
  let s := if bit data 1 then ctrlAbort s rq e b data else s
  if bit data 2 then ctrlEvict s rq e b done data else s

/-- Eviction area of a bank. -/
def evictAddr (s : State) (e b : Nat) : Nat :=
  let a := dev36 (s.rdPair (Reg.IE_BANK_EVICT_LO.ADDR e b) (Reg.IE_BANK_EVICT_HI.ADDR e b))
  a - a % 64

/-- The linked areas are written and the job ends with status 2 (R403, R413). -/
def evictNow (s : State) (e b : Nat) : State :=
  let k := s.bank e b
  let a := evictAddr s e b
  let rq := bankRq e b
  let low := saveArea k b false (2 + b2n k.again) (issuePc k) (a + areaBytes) k.progress
  let (s, _) := devWriteLines s rq a low 71
  let (s, _) := devWriteLines s rq (a + areaBytes) (saveArea k b true 0 0 0 0) 71
  let tag := (k.job.map (·.tag)).getD 0
  schedulerLook ((endJob s e b 2 0).logEvent (engIsland e) 0x1006 (4 * e + b) tag a) e

/-! Code store and bank views (R374, R423). -/

/-- A write through the code-store window: words collect, and the word at +0x3C replaces the bundle (R374). -/
def writeCode (s : State) (e off data : Nat) : State :=
  let g := s.eng e
  let o := off % 524288 / 4 * 4
  let c := Tbl.set g.collect o (data % 2 ^ 32)
  let g := if o % 64 = 0x3C then
      let mine := c.filter fun p => p.1 / 64 == o / 64
      { g with code := mine.foldl (fun m p => Mem.writeN m p.1 (leBytes 4 p.2)) g.code,
               collect := c.filter fun p => p.1 / 64 != o / 64 }
    else { g with collect := c }
  (s.setEng e g).answer 0

/-- The register that a bank-view offset names: file 0 scalars, 1 vectors, 2 predicates, its index, and its 32-bit word. -/
def viewReg (o : Nat) : Option (Nat × Nat × Nat) :=
  if o < 0x200 then some (0, o / 8, o / 4 % 2)
  else if 0x1000 ≤ o ∧ o < 0x3000 then some (1, (off o 0x1000) / 256, o / 4 % 64)
  else if 0x3000 ≤ o ∧ o < 0x3100 then some (2, (off o 0x3000) / 32, o / 4 % 8)
  else none

/-- A register of a bank by its view. -/
def viewGet (k : Bank) (f i : Nat) : Nat := if f = 0 then k.sc i else if f = 1 then k.vec i else k.pr i

/-- An access to the view of a bank (R423). -/
def viewAccess (s : State) (rq : Requester) (e b : Nat) (write : Bool) (off data : Nat) : State :=
  let k := s.bank e b
  let addr := ieAddr e (0x100000 + 0x10000 * (b % 4) + off)
  match viewReg off with
  | none => s.csrErr (engIsland e) 0x0101 addr (if write then data else 0) rq
  | some (f, i, w) =>
    if !([0, 2, 3].contains k.state) || (write && rq.ni != 45) then
      (s.logEvent (engIsland e) 0x1005 addr k.state rq.ni).busErr
    else if write then
      let old := viewGet k f i
      let v := old - bits old (32 * w) 32 * 2 ^ (32 * w) + data % 2 ^ 32 * 2 ^ (32 * w)
      (s.setBank e b (if f = 0 then k.setS i v else if f = 1 then k.setV i v else k.setP i v)).answer 0
    else s.answer (bits (viewGet k f i) (32 * w) 32)

/-- The engine's contents are lost with its domain (10 R487, 08). -/
def engineLost (s : State) (e : Nat) : State :=
  let keep := (List.range 4).flatMap fun b => [Reg.IE_BANK_SAT_M.COUNT e b, Reg.IE_BANK_SAT_V.COUNT e b]
  (s.resetWindow (ieAddr e 0) (ieAddr e 0x400000) keep).setEng e {}

/-- A write of CLR_SAT (09 R468). -/
def clearSat (s : State) (e b : Nat) : State :=
  (s.wr (Reg.IE_BANK_SAT_M.COUNT e b) 0).wr (Reg.IE_BANK_SAT_V.COUNT e b) 0

/-! The commands. -/

/-- OPERATION_COMPLETE (08 R387, R399, R417); `err` is an error the network reports on a DMA or STD: 1 bus error, 2 STATUS 2. -/
def execOperationComplete (e entry err : Nat) (s : State) : Host.Outcome State Fault Refusal :=
  whilePowered s fun s => if engUp s e then completeOp s e entry err else s

/-- BLOCKING_TRANSFER_FAULT (08 R407, R414): the blocking operation in progress moved `done` registers and then got a bus
error, or STATUS 2 where `ue` is set. -/
def execBlockingTransferFault (e bank done : Nat) (ue : Bool) (s : State) : Host.Outcome State Fault Refusal :=
  whilePowered s fun s =>
    let k := s.bank e bank
    match k.transfer, k.again with
    | some t, false =>
      if isMulti t.op then
        let (s, left, r) := transferRegs e bank t done s
        if left = 0 ∧ r = 0 then s
        else blockingFault s e bank t left (if r = 0 then (if ue then 6 else 5) else outcomeCause r)
      else
        let s := if t.op = 0x0D ∨ t.op = 0x0E then freeLines s (bankRq e bank) t.addr t.area 64 else s
        blockingFault s e bank t 0 (if ue then 6 else 5)
    | _, _ => s

/-- DMA_FAULT (08 R417): at the next bundle boundary of the bank. -/
def execDmaFault (e bank : Nat) (s : State) : Host.Outcome State Fault Refusal :=
  whilePowered s fun s =>
    let k := s.bank e bank
    if issuing s e bank && k.dmaFault && (k.transfer.isNone || k.again) then
      raiseExc (s.onBank e bank fun k => { k with dmaFault := false }) e bank 11 5 0 true (issuePc k)
    else s

/-- SPILL_BLOCK_FETCHED (10 R488, R492). -/
def execSpillBlockFetched (e bank block : Nat) (s : State) : Host.Outcome State Fault Refusal :=
  whilePowered s fun s => if engUp s e then ringFetched s e bank block else s

/-- BUDGET_EXCEEDED (08 R416). -/
def execBudgetExceeded (e bank : Nat) (s : State) : Host.Outcome State Fault Refusal :=
  whilePowered s fun s =>
    let k := s.bank e bank
    if issuing s e bank && overBudget k && !k.halting && (k.transfer.isNone || k.again) then
      raiseExc s e bank 9 0 0 false k.lastPc
    else s

/-- DOORBELL (08 R394, R401): a rising edge of the engine's event line. -/
def execDoorbell (e : Nat) (s : State) : Host.Outcome State Fault Refusal :=
  whilePowered s fun s =>
    let line := engUp s e && eventLine s (9 + e)
    let s := if line && !(s.eng e).doorbell then schedulerLook s e else s
    s.setEng e { s.eng e with doorbell := engUp s e && eventLine s (9 + e) }

/-- JOB_START (08 R397, R402): the job popped for a bank starts; the bank issuing now finishes `done` registers of a blocking
transfer. -/
def execJobStart (e bank done : Nat) (s : State) : Host.Outcome State Fault Refusal :=
  whilePowered s fun s =>
    match (s.bank e (bank % 4)).ready with
    | some j => if !j.resume && mayStart s e (bank % 4) then startJob s e (bank % 4) done j else s
    | none => s

/-- JOB_RESUME (08 R398, R412). -/
def execJobResume (e bank done : Nat) (s : State) : Host.Outcome State Fault Refusal :=
  whilePowered s fun s =>
    match (s.bank e (bank % 4)).ready with
    | some j => if j.resume && mayStart s e (bank % 4) then resumeJob s e (bank % 4) done j else s
    | none => s

/-- BANK_SWITCH_COMPLETE (08 R402, R405): only DMA operations of the old bank may remain, suspended. -/
def execBankSwitchComplete (e : Nat) (s : State) : Host.Outcome State Fault Refusal :=
  whilePowered s fun s =>
    let g := s.eng e
    match g.switching with
    | none => s
    | some b =>
      if (bankEntries s e g.active).any fun n => !n.drop && !n.isDma then s
      else
        let s := s.setEng e { g with active := b, switching := none }
        if (s.bank e b).evict && (s.bank e b).state == 1 then startEvict s e b 0 else s

/-- BANK_RESUME (08 R404): the highest pre-empted bank takes the engine. -/
def execBankResume (e done : Nat) (s : State) : Host.Outcome State Fault Refusal :=
  whilePowered s fun s =>
    match (List.range 4).find? fun b => (s.bank e b).state == 2 with
    | some b =>
      let a := (s.eng e).active
      if engUp s e ∧ (s.eng e).switching.isNone ∧ !((s.bank e a).state = 1 ∧ a < b) ∧ !higherWork s e b
      then turnTo s e b done else s
    | none => s

/-- BANK_RESUME_CMD (08 R418, R408). -/
def execBankResumeCmd (rq : Requester) (e bank done : Nat) (s : State) : Host.Outcome State Fault Refusal :=
  whilePowered s fun s => atRegister s rq (bankAddr e bank 0) true 1 fun s => writeBankCtrl s rq (e % 4) (bank % 4) done 1

/-- BANK_ABORT (08 R419). -/
def execBankAbort (rq : Requester) (e bank : Nat) (s : State) : Host.Outcome State Fault Refusal :=
  whilePowered s fun s => atRegister s rq (bankAddr e bank 0) true 2 fun s => writeBankCtrl s rq (e % 4) (bank % 4) 0 2

/-- BANK_EVICT (08 R413). -/
def execBankEvict (rq : Requester) (e bank done : Nat) (s : State) : Host.Outcome State Fault Refusal :=
  whilePowered s fun s => atRegister s rq (bankAddr e bank 0) true 4 fun s => writeBankCtrl s rq (e % 4) (bank % 4) done 4

/-- EVICTION_COMPLETE (08 R403, R413). -/
def execEvictionComplete (e bank : Nat) (s : State) : Host.Outcome State Fault Refusal :=
  whilePowered s fun s =>
    if engUp s e && (s.bank e bank).state == 4 && !((bankEntries s e bank).any fun n => !n.isDma) then evictNow s e bank
    else s

/-- CODE_STORE_WRITE (08 R374). -/
def execCodeStoreWrite (rq : Requester) (e offset data : Nat) (s : State) : Host.Outcome State Fault Refusal :=
  whilePowered s fun s =>
    atRegister s rq (ieAddr e (0x200000 + offset % 524288 / 4 * 4)) true data fun s => writeCode s (e % 4) offset data

/-- BANK_VIEW_ACCESS (08 R423). -/
def execBankViewAccess (rq : Requester) (e bank : Nat) (write : Bool) (offset data : Nat) (s : State) :
    Host.Outcome State Fault Refusal :=
  whilePowered s fun s =>
    atRegister s rq (ieAddr e (0x100000 + 0x10000 * (bank % 4) + offset % 0x10000 / 4 * 4)) write data fun s =>
      viewAccess s rq (e % 4) (bank % 4) write (offset % 0x10000 / 4 * 4) data

/-- CLR_SAT (09 R468). -/
def execClrSat (rq : Requester) (e bank : Nat) (s : State) : Host.Outcome State Fault Refusal :=
  whilePowered s fun s =>
    atRegister s rq (bankAddr e bank 0x40) true 0x10000 fun s => (clearSat s (e % 4) (bank % 4)).answer 0

end Sys2Proof.Machine
end

