-- ==== Sys2Proof/Machine/Crypto.lean ====
section
/-! DEFINITION. The cryptography that configuration uses (chapter 04 "Authentication and encryption"): SHA-384 of FIPS 180-4,
ECDSA verification over P-384 of FIPS 186-5, and AES-256 of FIPS 197 in GCM of NIST SP 800-38D.  The manual names these
standards and does not restate them: PRESUMED. -/

namespace Sys2Proof.Machine.Crypto

/-! SHA-384. -/

/-- Round constants: the fractional parts of the cube roots of the first 80 primes. -/
def shaK : List DWord :=
  [0x428A2F98D728AE22, 0x7137449123EF65CD, 0xB5C0FBCFEC4D3B2F, 0xE9B5DBA58189DBBC,
   0x3956C25BF348B538, 0x59F111F1B605D019, 0x923F82A4AF194F9B, 0xAB1C5ED5DA6D8118,
   0xD807AA98A3030242, 0x12835B0145706FBE, 0x243185BE4EE4B28C, 0x550C7DC3D5FFB4E2,
   0x72BE5D74F27B896F, 0x80DEB1FE3B1696B1, 0x9BDC06A725C71235, 0xC19BF174CF692694] ++
  [0xE49B69C19EF14AD2, 0xEFBE4786384F25E3, 0x0FC19DC68B8CD5B5, 0x240CA1CC77AC9C65,
   0x2DE92C6F592B0275, 0x4A7484AA6EA6E483, 0x5CB0A9DCBD41FBD4, 0x76F988DA831153B5,
   0x983E5152EE66DFAB, 0xA831C66D2DB43210, 0xB00327C898FB213F, 0xBF597FC7BEEF0EE4,
   0xC6E00BF33DA88FC2, 0xD5A79147930AA725, 0x06CA6351E003826F, 0x142929670A0E6E70] ++
  [0x27B70A8546D22FFC, 0x2E1B21385C26C926, 0x4D2C6DFC5AC42AED, 0x53380D139D95B3DF,
   0x650A73548BAF63DE, 0x766A0ABB3C77B2A8, 0x81C2C92E47EDAEE6, 0x92722C851482353B,
   0xA2BFE8A14CF10364, 0xA81A664BBC423001, 0xC24B8B70D0F89791, 0xC76C51A30654BE30,
   0xD192E819D6EF5218, 0xD69906245565A910, 0xF40E35855771202A, 0x106AA07032BBD1B8] ++
  [0x19A4C116B8D2D0C8, 0x1E376C085141AB53, 0x2748774CDF8EEB99, 0x34B0BCB5E19B48A8,
   0x391C0CB3C5C95A63, 0x4ED8AA4AE3418ACB, 0x5B9CCA4F7763E373, 0x682E6FF3D6B2B8A3,
   0x748F82EE5DEFB2FC, 0x78A5636F43172F60, 0x84C87814A1F0AB72, 0x8CC702081A6439EC,
   0x90BEFFFA23631E28, 0xA4506CEBDE82BDE9, 0xBEF9A3F7B2C67915, 0xC67178F2E372532B] ++
  [0xCA273ECEEA26619C, 0xD186B8C721C0C207, 0xEADA7DD6CDE0EB1E, 0xF57D4F7FEE6ED178,
   0x06F067AA72176FBA, 0x0A637DC5A2C898A6, 0x113F9804BEF90DAE, 0x1B710B35131C471B,
   0x28DB77F523047D84, 0x32CAAB7B40C72493, 0x3C9EBE0A15C9BEBC, 0x431D67C49C100D4C,
   0x4CC5D4BECB3E42B6, 0x597F299CFC657E2A, 0x5FCB6FAB3AD6FAEC, 0x6C44198C4A475817]

/-- Initial hash value: the fractional parts of the square roots of the ninth to sixteenth primes. -/
def shaH : List DWord :=
  [0xCBBB9D5DC1059ED8, 0x629A292A367CD507, 0x9159015A3070DD17, 0x152FECD8F70E5939,
   0x67332667FFC00B31, 0x8EB44A8768581511, 0xDB0C2E0D64F98FA7, 0x47B5481DBEFA4FA4]

/-- Right rotation. -/
def ror (x : DWord) (n : Nat) : DWord := x.rotateRight n

/-- The next word of the message schedule, from the last sixteen, newest first. -/
def nextW (w : List DWord) : DWord :=
  let a := w.getD 1 0
  let b := w.getD 6 0
  let c := w.getD 14 0
  let d := w.getD 15 0
  (ror a 19 ^^^ ror a 61 ^^^ (a >>> 6)) + b + (ror c 1 ^^^ ror c 8 ^^^ (c >>> 7)) + d

/-- `n` words added to the schedule, newest first. -/
def extend : Nat → List DWord → List DWord
  | 0, w => w
  | n + 1, w => extend n (nextW w :: w)

/-- The eight working variables. -/
structure Vars where
  a : DWord
  b : DWord
  c : DWord
  d : DWord
  e : DWord
  f : DWord
  g : DWord
  h : DWord
  deriving DecidableEq, Repr

/-- One round with its constant and schedule word. -/
def round (v : Vars) (kw : DWord × DWord) : Vars :=
  let t1 := v.h + (ror v.e 14 ^^^ ror v.e 18 ^^^ ror v.e 41) + ((v.e &&& v.f) ^^^ (~~~v.e &&& v.g)) + kw.1 + kw.2
  let t2 := (ror v.a 28 ^^^ ror v.a 34 ^^^ ror v.a 39) + ((v.a &&& v.b) ^^^ (v.a &&& v.c) ^^^ (v.b &&& v.c))
  ⟨t1 + t2, v.a, v.b, v.c, v.d + t1, v.e, v.f, v.g⟩

/-- The hash value after one block of 128 bytes. -/
def block (h : List DWord) (bs : List Byte) : List DWord :=
  let m := (List.range 16).map fun i => BitVec.ofNat 64 (beNat (slice bs (8 * i) 8))
  let w := (extend 64 m.reverse).reverse
  let g (i : Nat) := h.getD i 0
  let v := (shaK.zip w).foldl round ⟨g 0, g 1, g 2, g 3, g 4, g 5, g 6, g 7⟩
  [g 0 + v.a, g 1 + v.b, g 2 + v.c, g 3 + v.d, g 4 + v.e, g 5 + v.f, g 6 + v.g, g 7 + v.h]

/-- The message padded: a 1 bit, zeros, and its length in bits in 16 bytes. -/
def padded (bs : List Byte) : List Byte :=
  bs ++ (0x80 :: List.replicate ((239 - bs.length % 128) % 128) 0) ++ beBytes 16 (8 * bs.length)

/-- SHA-384: the first 48 bytes of the final hash value. -/
def blocks : Nat → List DWord → List Byte → List DWord
  | 0, h, _ => h
  | n + 1, h, bs => blocks n (block h (bs.take 128)) (bs.drop 128)

/-- SHA-384 of a message. -/
def sha384 (bs : List Byte) : List Byte :=
  let p := padded bs
  ((blocks (p.length / 128) shaH p).take 6).flatMap fun w => beBytes 8 w.toNat

/-! P-384 and ECDSA. -/

/-- The prime of the field, the order of the base point, the coefficient b, and the base point. -/
def p384 : Nat := 2 ^ 384 - 2 ^ 128 - 2 ^ 96 + 2 ^ 32 - 1
def n384 : Nat := 0xFFFFFFFFFFFFFFFFFFFFFFFFFFFFFFFFFFFFFFFFFFFFFFFFC7634D81F4372DDF581A0DB248B0A77AECEC196ACCC52973
def b384 : Nat := 0xB3312FA7E23EE7E4988E056BE3F82D19181D9C6EFE8141120314088F5013875AC656398D8A2ED19D2A85C8EDD3EC2AEF
def gx384 : Nat := 0xAA87CA22BE8B05378EB1C71EF320AD746E1D3B628BA79B9859F741E082542A385502F25DBF55296C3A545E3872760AB7
def gy384 : Nat := 0x3617DE4A96262C6F5D9E98BF9292DC29F8F41DBD289A147CE9DA3113B5F0B8C00A60B1CE1D7E819D7A431D7C90EA0E5F

/-- b ^ e mod m, for e below 2 ^ fuel. -/
def powMod (m : Nat) : Nat → Nat → Nat → Nat
  | 0, _, _ => 1
  | n + 1, b, e =>
    let r := powMod m n (b * b % m) (e / 2)
    if e % 2 = 1 then b * r % m else r

/-- Inverse modulo a prime. -/
def invMod (m a : Nat) : Nat := powMod m 384 (a % m) (m - 2)

/-- a − b modulo the field prime, for b below it. -/
def subP (a b : Nat) : Nat := (a + (p384 - b)) % p384

/-- A point; none is the point at infinity. -/
abbrev Point := Option (Nat × Nat)

/-- The third point on a line of slope l. -/
def chord (l x1 y1 x2 : Nat) : Point :=
  let x := subP (subP (l * l % p384) x1) x2
  some (x, subP (l * subP x1 x % p384) y1)

/-- Sum of two points. -/
def addPt : Point → Point → Point
  | none, q => q
  | p, none => p
  | some (x1, y1), some (x2, y2) =>
    if x1 = x2 then
      if (y1 + y2) % p384 = 0 then none
      else chord (subP (3 * x1 * x1 % p384) 3 * invMod p384 (2 * y1) % p384) x1 y1 x2
    else chord (subP y2 y1 * invMod p384 (subP x2 x1) % p384) x1 y1 x2

/-- k times a point, for k below 2 ^ fuel. -/
def mulPt : Nat → Nat → Point → Point
  | 0, _, _ => none
  | n + 1, k, p =>
    let r := mulPt n (k / 2) (addPt p p)
    if k % 2 = 1 then addPt p r else r

/-- The coordinates are a point of the curve. -/
def onCurve (x y : Nat) : Bool :=
  decide (x < p384) && decide (y < p384) && y * y % p384 == (x * x % p384 * x + (p384 - 3) * x + b384) % p384

/-- ECDSA verification of a signature (r, s) over a SHA-384 digest under the public key (x, y). -/
def verify (digest x y r s : Nat) : Bool :=
  onCurve x y && decide (1 ≤ r) && decide (r < n384) && decide (1 ≤ s) && decide (s < n384) &&
    (let w := invMod n384 s
     match addPt (mulPt 384 (digest * w % n384) (some (gx384, gy384))) (mulPt 384 (r * w % n384) (some (x, y))) with
     | some (vx, _) => vx % n384 == r
     | none => false)

/-! AES-256 in GCM. -/

/-- Product in GF(2^8) modulo x^8 + x^4 + x^3 + x + 1, over the low `n` bits of the second factor. -/
def gmul : Nat → Nat → Nat → Nat
  | 0, _, _ => 0
  | n + 1, a, b =>
    let r := gmul n (if a < 128 then 2 * a else (2 * a - 256) ^^^ 0x1B) (b / 2)
    if b % 2 = 1 then a ^^^ r else r

/-- a ^ (2 ^ k − 2) by k − 1 squarings and products. -/
def ginvStep : Nat → Nat → Nat
  | 0, _ => 1
  | n + 1, a =>
    let sq := gmul 8 a a
    gmul 8 sq (ginvStep n sq)

/-- S-box: the inverse, then the affine map. -/
def sbox (a : Nat) : Nat :=
  let i := ginvStep 7 a
  let rot (k : Nat) := (i * 2 ^ k) % 256 + i / 2 ^ (8 - k)
  i ^^^ rot 1 ^^^ rot 2 ^^^ rot 3 ^^^ rot 4 ^^^ 0x63

/-- The S-box as a table. -/
def sboxTable : List Nat := (List.range 256).map sbox

/-- A byte through the S-box. -/
def sub (t : List Nat) (b : Nat) : Nat := t.getD b 0

/-- The key schedule of AES-256: `n` further words of four bytes, newest first. -/
def expand (t : List Nat) : Nat → Nat → Nat → List (List Nat) → List (List Nat)
  | 0, _, _, ws => ws
  | n + 1, i, rc, ws =>
    let w := ws.getD 0 []
    let v := if i % 8 = 0 then
        let r := (w.drop 1 ++ w.take 1).map (sub t)
        (r.getD 0 0 ^^^ rc) :: r.drop 1
      else if i % 8 = 4 then w.map (sub t) else w
    expand t n (i + 1) (if i % 8 = 0 then gmul 8 rc 2 else rc) (((ws.getD 7 []).zipWith (· ^^^ ·) v) :: ws)

/-- The fifteen round keys of a 32-byte key. -/
def roundKeys (t : List Nat) (key : List Byte) : List (List Nat) :=
  let w := (List.range 8).map fun i => (slice key (4 * i) 4).map BitVec.toNat
  let ws := (expand t 52 8 1 w.reverse).reverse
  (List.range 15).map fun r => ((ws.drop (4 * r)).take 4).flatten

/-- SubBytes and ShiftRows, the state in column order. -/
def shifted (t : List Nat) (st : List Nat) : List Nat :=
  (List.range 16).map fun i => sub t (st.getD ((i + 4 * (i % 4)) % 16) 0)

/-- MixColumns. -/
def mixed (st : List Nat) : List Nat :=
  (List.range 16).map fun i =>
    let g (k : Nat) := st.getD (4 * (i / 4) + (i + k) % 4) 0
    gmul 8 (g 0) 2 ^^^ gmul 8 (g 1) 3 ^^^ g 2 ^^^ g 3

/-- One AES-256 block. -/
def aesBlock (t : List Nat) (rks : List (List Nat)) (bs : List Nat) : List Nat :=
  let st := bs.zipWith (· ^^^ ·) (rks.getD 0 [])
  let st := (List.range 13).foldl (fun st r => (mixed (shifted t st)).zipWith (· ^^^ ·) (rks.getD (r + 1) [])) st
  (shifted t st).zipWith (· ^^^ ·) (rks.getD 14 [])

/-- Product in GF(2^128) with bit 0 the most significant, over the low `n` positions still to take of `x`. -/
def ghMul : Nat → Nat → Nat → Nat → Nat
  | 0, _, _, z => z
  | n + 1, x, v, z =>
    let z := if x / 2 ^ n % 2 = 1 then z ^^^ v else z
    ghMul n x (if v % 2 = 1 then (v / 2) ^^^ (0xE1 * 2 ^ 120) else v / 2) z

/-- GHASH over `n` blocks of 16 bytes. -/
def ghash (h : Nat) : Nat → List Byte → Nat → Nat
  | 0, _, y => y
  | n + 1, bs, y => ghash h n (bs.drop 16) (ghMul 128 (y ^^^ beNat (bs.take 16)) h 0)

/-- Bytes padded with zeros to whole blocks of 16. -/
def pad16 (bs : List Byte) : List Byte := bs ++ List.replicate ((16 - bs.length % 16) % 16) 0

/-- A counter block of an IV, encrypted. -/
def counterBlock (t : List Nat) (rks : List (List Nat)) (iv : List Byte) (c : Nat) : List Byte :=
  (aesBlock t rks ((iv ++ beBytes 4 c).map BitVec.toNat)).map (BitVec.ofNat 8)

/-- Counter mode over `n` blocks from counter `c`. -/
def ctr (t : List Nat) (rks : List (List Nat)) (iv : List Byte) : Nat → Nat → List Byte → List Byte
  | 0, _, _ => []
  | n + 1, c, bs => (bs.take 16).zipWith (· ^^^ ·) (counterBlock t rks iv c) ++ ctr t rks iv n (c + 1) (bs.drop 16)

/-- GCM decryption with a 12-byte IV and a 16-byte tag: the plaintext, or none where the tag fails. -/
def gcmOpen (key iv aad ct tag : List Byte) : Option (List Byte) :=
  let t := sboxTable
  let rks := roundKeys t key
  let h := beNat ((aesBlock t rks (List.replicate 16 0)).map (BitVec.ofNat 8))
  let msg := pad16 aad ++ pad16 ct ++ beBytes 8 (8 * aad.length) ++ beBytes 8 (8 * ct.length)
  let y := beBytes 16 (ghash h (msg.length / 16) msg 0)
  if y.zipWith (· ^^^ ·) (counterBlock t rks iv 1) = tag then some (ctr t rks iv ((ct.length + 15) / 16) 2 ct) else none

/-- The plaintext of a ciphertext, whatever its tag (04 R180, R208). -/
def gcmPlain (key iv ct : List Byte) : List Byte :=
  let t := sboxTable
  ctr t (roundKeys t key) iv ((ct.length + 15) / 16) 2 ct

end Sys2Proof.Machine.Crypto
end

