-- ==== Sys2Proof/Machine/Noc.lean ====
section
/-! DEFINITION. The network on chip, its arbiters, the memory controllers and the larder banks (chapter 05). -/

namespace Sys2Proof.Machine

/-! The credit-share arbiter (05 R240). -/

/-- The requester that wins: highest priority, then fullest counter, then lowest index. -/
def arbPick (req : List Bool) (prio : List Nat) (credit : List Int) : Option Nat :=
  (List.range req.length).foldl (fun best i =>
    if req.getD i false then
      match best with
      | none => some i
      | some b =>
        if prio.getD b 0 < prio.getD i 0 then some i
        else if prio.getD i 0 = prio.getD b 0 ∧ credit.getD b 0 < credit.getD i 0 then some i
        else some b
    else best) none

/-- The winner's counter after a grant, saturating at −32,768. -/
def spend (credit : List Int) (i : Nat) (cost : Int) : List Int :=
  credit.set i (max (-32768) (credit.getD i 0 - cost))

/-- Key of an arbiter's counters. -/
def arbKey : ArbId → Nat
  | .dram c => c % 8
  | .larder b => 16 + b % 16
  | .router r o => 64 + 8 * r + o % 8
  | .register u => 1024 + u

/-- Counters of an arbiter. -/
def State.credit (s : State) (a : ArbId) : List Int := Tbl.get s.noc.credits (arbKey a) []

/-- Counters of an arbiter replaced. -/
def State.setCredit (s : State) (a : ArbId) (l : List Int) : State :=
  { s with noc := { s.noc with credits := Tbl.put s.noc.credits (arbKey a) l [] } }

/-- Weights of an arbiter's requesters, in the order of their indices (05 "Arbiters", R242, R264, R265). -/
def arbWeights (s : State) : ArbId → List Int
  | .dram _ => (List.range 8).map fun i => min 32767 (s.rd (Reg.MEM_ARB_DRAM.WEIGHT i) : Int)
  | .larder _ => (List.range 7).map fun i => min 32767 (s.rd (Reg.MEM_ARB_LAR.WEIGHT i) : Int)
  | .router _ _ => (List.range 24).map fun i => min 32767 (s.rd (Reg.NOC_ARB_WEIGHT.WEIGHT (i % 4)) : Int)
  | .register u => (List.range 49).map fun i => Config.registerWeight (64 * u + i)

/-- Requester index at DRAM and larder (05 R242). -/
def requesterIndex (ni qclass : Nat) : Nat :=
  if ni = 37 then 0
  else if ni = 44 then 1
  else if (24 ≤ ni ∧ ni ≤ 35) ∨ (38 ≤ ni ∧ ni ≤ 40) then [0, 1, 4, 5].getD (qclass % 4) 5
  else if ni = 41 ∨ ni = 42 then 3
  else if ni = 43 then 6
  else if ni = 45 then 7
  else 2

/-- Least length of an arbiter's window in device ticks: a router's window in NoC cycles, three to a tick, a controller's in its
own, two to a tick, a bank's three to a tick, each at least 64 cycles (05 R264, R265).  No register arbiter is given one. -/
def windowTicks (s : State) : ArbId → Nat
  | .dram _ => (max 64 (s.rd Reg.MEM_ARB_WINDOW.DRAM) + 1) / 2
  | .larder _ => (max 64 (s.rd Reg.MEM_ARB_WINDOW.LARDER) + 2) / 3
  | .router _ _ => (max 64 (s.rd Reg.NOC_ARB_WINDOW.CYCLES) + 2) / 3
  | .register _ => 0

/-- The running window of an arbiter is over, or none has begun. -/
def windowOver (s : State) (a : ArbId) : Bool :=
  match Tbl.find s.noc.windows (arbKey a) with
  | none => true
  | some t => decide (t + windowTicks s a ≤ s.now)

/-- A window starts: every counter takes its weight (05 R240, R243). -/
def startWindow (s : State) (a : ArbId) : State :=
  let s := s.setCredit a (arbWeights s a)
  { s with noc := { s.noc with windows := Tbl.set s.noc.windows (arbKey a) s.now } }

/-! Requests to memory (05 R222, R234). -/

/-- The request flit of one line, on the route-table entry of the source for the target (05 R221, R222). -/
def requestFlit (s : State) (rq : Requester) (write : Bool) (a n : Nat) (bs : List Byte) (poison : Bool) (tag seq : Nat)
    (last : Bool) : Flit :=
  mkFlit (s.rd (Reg.NOC_RT.ENTRY rq.ni (targetNi a))) (if write then 2 else 1) rq.ni (targetNi a) a tag seq last poison 0 rq.qclass
    n (if write then bs else [])

/-- A checked memory request is injected under a TAG: an outstanding entry, which reserves the space of its response, and one
flit and one access per line at the target.  The mesh is taken to carry the flits to their target; the rows of flits show a
flit's way, and what strikes it there strikes its access (log entry 82). -/
def injectWithTag (s : State) (rq : Requester) (write : Bool) (addr len : Nat) (data : List Byte) (poison : Bool) (tag : Nat) :
    State :=
  let ls := linesOf addr len
  let o : Outstanding := { ni := rq.ni, tag, dst := targetNi addr, addr, len, write, lines := ls.length, at_ := s.now }
  let q := ls.zipIdx.map fun (l, i) =>
    let bs := slice data (l.1 - addr) l.2
    let last := i + 1 == ls.length
    ({ ni := rq.ni, tag, qclass := rq.qclass, seq := i, last, addr := l.1, len := l.2, write, data := bs, poison,
       flit := requestFlit s rq write l.1 l.2 bs poison tag i last } : LineReq)
  { s with noc := { s.noc with out := s.noc.out ++ [o], queue := s.noc.queue ++ q,
                               inj := s.noc.inj ++ q.map fun r => (rq.ni, r.flit) } }

/-- A checked memory request is injected under the lowest free TAG (05 R234). -/
def injectRequest (s : State) (rq : Requester) (write : Bool) (addr len : Nat) (data : List Byte) (poison : Bool) : State :=
  match freeTag s rq.ni with
  | none => s
  | some tag => injectWithTag s rq write addr len data poison tag

/-- A request waits at its NI for a TAG (05 R234). -/
def holdRequest (s : State) (rq : Requester) (write : Bool) (addr len : Nat) (data : List Byte) (poison : Bool) : State :=
  { s with noc := { s.noc with wait := s.noc.wait ++ [⟨rq, write, addr, len, data, poison⟩] } }

/-! The L2 of the service cluster (01 R46): NI 36 is its NI, and a request of NI 36 is an access of a service core.  The L2 keeps
the whole lines that it has read and takes writes to them; the spec gives only its coherence (DESIGN CHOICE, log entry 85). -/

/-- The L2 holds every line under [a, a + n). -/
def l2Holds (s : State) (a n : Nat) : Bool := (linesOf a n).all fun l => (Tbl.find s.mem.l2 (l.1 / 64)).isSome

/-- The bytes of a held line. -/
def l2Line (s : State) (l : Nat) : List Byte := (Tbl.get s.mem.l2 l ⟨[], false⟩).data

/-- What the L2 holds of a byte range. -/
def l2Bytes (s : State) (a n : Nat) : List Byte :=
  ((linesOf a n).map fun l => slice (l2Line s (l.1 / 64)) (l.1 % 64) l.2).flatten

/-- A service core's write to lines that the L2 holds: they are dirty. -/
def l2Write (s : State) (a : Nat) (bs : List Byte) : State :=
  { s with mem := { s.mem with l2 := (linesOf a bs.length).foldl (fun t l =>
      let old := l2Line s (l.1 / 64)
      Tbl.set t (l.1 / 64) ⟨old.take (l.1 % 64) ++ slice bs (l.1 - a) l.2 ++ old.drop (l.1 % 64 + l.2), true⟩) s.mem.l2 } }

/-- The L2 gives up the lines under [a, a + n): a dirty one is written back by a request of its own. -/
def l2Evict (s : State) (a n : Nat) : State :=
  let out := s.mem.l2.filter fun l => overlap (64 * l.1) 64 a n
  let s := { s with mem := { s.mem with l2 := invalidated s.mem.l2 a n } }
  out.foldl (fun s l => if l.2.dirty then injectRequest s ⟨36, 0⟩ true (64 * l.1) 64 l.2.data false else s) s

/-- A checked request to memory: a service core's is answered by the L2 where that holds every line of it. -/
def memoryRequest (s : State) (rq : Requester) (write : Bool) (addr len : Nat) (data : List Byte) (poison : Bool) : State :=
  if rq.ni = 36 then
    if l2Holds s addr len && !poison then
      if write then (l2Write s addr (slice data 0 len)).answer 0 else s.answer (leNat (l2Bytes s addr len))
    else injectRequest (l2Evict s addr len) rq write addr len data poison
  else injectRequest s rq write addr len data poison

/-- A refresh holds a channel (05 R245, R254). -/
def refreshing (s : State) (ch : Nat) : Bool := decide (s.now < Tbl.get s.noc.refUntil ch 0)

/-- The access may be granted: no access to its line reached the arbiter before it, and no refresh holds its channel
(05 R237, R245). -/
def grantable (s : State) (r : LineReq) : Bool :=
  (s.noc.queue.find? fun x => x.addr / 64 == r.addr / 64) == some r &&
    !(decide (r.addr < 0x7C0000000) && refreshing s (dramChannel r.addr))

/-- The oldest access of a requester index at a target NI that may be granted. -/
def headFor (s : State) (dst ix : Nat) : Option LineReq :=
  s.noc.queue.find? fun r => targetNi r.addr == dst && requesterIndex r.ni r.qclass == ix && grantable s r

/-- The access that the arbiter of a controller or bank grants next; debug is the larder's emergency requester (05 R240,
R245). -/
def nextGrant (s : State) (a : ArbId) (dst n : Nat) (prio : Nat → Nat) : Option (LineReq × Nat) :=
  let pick := arbPick ((List.range n).map fun i => (headFor s dst i).isSome) ((List.range n).map prio) (s.credit a)
  match (if n = 7 then headFor s dst 7 else none), pick with
  | some r, _ => some (r, 7)
  | none, some i => (headFor s dst i).map fun r => (r, i)
  | none, none => none

/-- A grant charged to the winner's counter (05 R240). -/
def charge (s : State) (a : ArbId) (i : Nat) : State := if i = 7 ∧ arbKey a ≥ 16 then s else s.setCredit a (spend (s.credit a) i 1)

/-! DRAM bursts, refresh and scrub (05 R244, R245, R253-R255). -/

/-- TENURE as it acts (05 R265). -/
def tenure (s : State) : Nat := max 1 (min 16 (s.rd Reg.MEM_ARB_TENURE.TENURE))

/-- The access that goes on with a controller's burst: the next line of the burst's row and channel from the same requester.  An
open row holds 32 channel lines, 2 KiB, as in JESD209-5B for 16-bit channels (PRESUMED, log entry 83). -/
def burstNext (s : State) (ctl : Nat) : Option (LineReq × Nat) :=
  match Tbl.find s.noc.bursts ctl with
  | none => none
  | some b =>
    if b.left = 0 then none
    else
      (s.noc.queue.find? fun r => decide (r.addr < 0x7C0000000) && dramChannel r.addr == b.channel &&
        requesterIndex r.ni r.qclass == b.ix && dramChannelLine r.addr == b.line + 1 && b.line / 32 == (b.line + 1) / 32 &&
        ((s.noc.queue.find? fun x => x.addr / 64 == r.addr / 64) == some r)).map fun r => (r, b.ix)

/-- The access that a controller serves next: the rest of its burst, which a refresh of its channel holds up and nothing else
does, or what its arbiter grants (05 R244, R245). -/
def nextDram (s : State) (ctl : Nat) : Option (LineReq × Nat) :=
  match burstNext s ctl with
  | some (r, i) => if refreshing s (dramChannel r.addr) then none else some (r, i)
  | none => nextGrant s (.dram ctl) ctl 8 fun i => s.rd (Reg.MEM_ARB_DRAM.PRIO i)

/-- The burst of a controller after an access: its own rest, or a new one of up to TENURE accesses (05 R244). -/
def countBurst (s : State) (ctl : Nat) (r : LineReq) (i : Nat) : State :=
  let left := match burstNext s ctl, Tbl.find s.noc.bursts ctl with
    | some _, some b => b.left - 1
    | _, _ => tenure s - 1
  { s with noc := { s.noc with bursts := Tbl.set s.noc.bursts ctl ⟨i, dramChannel r.addr, dramChannelLine r.addr, left⟩ } }

/-- A controller's next access, if it is of the kind asked for, is served. -/
def dramGrant (s : State) (ctl : Nat) (write : Bool) (k : State → LineReq → State) : State :=
  match nextDram s ctl with
  | some (r, i) => if r.write = write then k (charge (countBurst s ctl r i) (.dram ctl) i) r else s
  | none => s

/-- Data lines of a controller's two channels. -/
def scrubLines : Nat := 65011712

/-- The address of the `k`-th line of a controller in its patrol. -/
def scrubAddr (ctl k : Nat) : Nat := 64 * (16 * (k % 32505856) + 2 * ctl + k / 32505856 % 2)

/-- The line whose patrol read is due at a controller: line `k` of a pass falls due `k` shares of SCRUB_HOURS after the pass began
(05 R253, R265). -/
def scrubDue (s : State) (ctl : Nat) : Option Nat :=
  let (t0, k) := Tbl.get s.noc.scrub ctl (0, 0)
  let pass := 3600 * ticksPerSecond * max 1 (min 168 (s.rd Reg.MEM_SCRUB_CFG.HOURS))
  if s.flag Reg.MEM_SCRUB_CFG.EN ∧ k * pass ≤ (s.now - t0) * scrubLines ∧ !refreshing s (dramChannel (scrubAddr ctl k)) then some k
  else none

/-- The patrol scrub wins the controller: at priority 0 and index 6, with no burst to go on (05 R240, R253). -/
def scrubWins (s : State) (ctl : Nat) : Bool :=
  (scrubDue s ctl).isSome && (burstNext s ctl).isNone &&
    match nextDram s ctl with
    | none => true
    | some (_, i) =>
      s.rd (Reg.MEM_ARB_DRAM.PRIO i) == 0 && i != 6 &&
        (decide ((s.credit (.dram ctl)).getD i 0 < (s.credit (.dram ctl)).getD 6 0) ||
          (decide ((s.credit (.dram ctl)).getD i 0 = (s.credit (.dram ctl)).getD 6 0) && decide (6 < i)))

/-- The patrol scrub reads a line of a controller and corrects what it finds (05 R253). -/
def scrubRead (s : State) (ctl : Nat) (ecc : LineErr) : State :=
  match scrubDue s ctl with
  | none => s
  | some k =>
    let t0 := (Tbl.get s.noc.scrub ctl (0, 0)).1
    let pass := 3600 * ticksPerSecond * max 1 (min 168 (s.rd Reg.MEM_SCRUB_CFG.HOURS))
    let s := (dramCheck (charge s (.dram ctl) 6) ⟨ctl, 0⟩ (scrubAddr ctl k) ecc).1
    { s with noc := { s.noc with
        scrub := Tbl.set s.noc.scrub ctl (if k + 1 = scrubLines then (t0 + pass, 0) else (t0, k + 1)) } }

/-- tREFI in ticks at a refresh rate: 3.906, 1.953 and 0.977 µs (05 R255). -/
def tRefi (rate : Nat) : Nat := if rate = 0 then 1920 else if rate = 1 then 960 else 480

/-- Refresh begins on every channel, channel c at an offset of c × tREFI / 16 from channel 0 (05 R254). -/
def startRefresh (s : State) : State :=
  let t := tRefi (s.rd Reg.MEM_STAT.REF_RATE)
  { s with noc := { s.noc with refDue := (List.range 16).map (fun c => (c, s.now + t + c * t / 16)), refUntil := [], mr4At := [] } }

/-- The patrol scrub of every controller begins a pass (05 R253). -/
def startScrub (s : State) : State := { s with noc := { s.noc with scrub := (List.range 8).map fun c => (c, (s.now, 0)) } }

/-- A refresh of a channel is due. -/
def refreshDue (s : State) (ch : Nat) : Bool := decide (Tbl.get s.noc.refDue ch 0 ≤ s.now)

/-- All-bank refresh of a channel: it takes the channel at once, since commands stand at access boundaries, for tRFCab of 380 ns
and up to 410 ns in all, a free value of 187 to 201 ticks; the next falls due tREFI later (05 R245, R254, R255). -/
def refreshChannel (s : State) (ch : Nat) : State :=
  let due := Tbl.get s.noc.refDue ch 0 + tRefi (s.rd Reg.MEM_STAT.REF_RATE)
  let until_ := s.now + 187 + Config.freeValue s.fresh % 15
  let s := { s.useFresh with noc := { s.noc with refDue := Tbl.set s.noc.refDue ch due,
                                                 refUntil := Tbl.set s.noc.refUntil ch until_ } }
  s.count (Reg.MEM_REF_COUNT.COUNT ch)

/-- REF_RATE at a temperature that MR4 reports, in °C (05 R255). -/
def refRate (temp : Int) : Nat := if temp ≤ 85 then 0 else if temp ≤ 105 then 1 else 2

/-- 16 ms have passed since a channel's MR4 was read (05 R255). -/
def mr4Due (s : State) (ch : Nat) : Bool :=
  match Tbl.find s.noc.mr4At ch with
  | none => true
  | some t => decide (t + 7864320 ≤ s.now)

/-- MR4 of a channel is read: a change of rate governs from the next refresh (05 R255). -/
def readMr4 (s : State) (ch : Nat) (temp : Int) : State :=
  let old := s.rd Reg.MEM_STAT.REF_RATE
  let s := { s with noc := { s.noc with mr4At := Tbl.set s.noc.mr4At ch s.now } }
  if refRate temp = old then s
  else (s.wr Reg.MEM_STAT.REF_RATE (refRate temp)).logEvent (168 + ch / 2) 0x0506 (refRate temp) old ch

/-- The next grant of a larder bank, if it is of the kind asked for, is served. -/
def larderGrant (s : State) (bank : Nat) (write : Bool) (k : State → LineReq → State) : State :=
  match nextGrant s (.larder bank) (8 + bank % 16) 7 (fun i => s.rd (Reg.MEM_ARB_LAR.PRIO i)) with
  | some (r, i) => if r.write = write then k (charge s (.larder bank) i) r else s
  | none => s

/-! Responses (05 R232, R239, 02 R66). -/

/-- The bytes of an answered request, its lines in order. -/
def Outstanding.bytes (o : Outstanding) : List Byte := (o.got.map (·.2)).flatten

/-- Every responding NI of a request has a valid entry for its source, and no flit of it was lost (05 R225, R232). -/
def answerable (s : State) (o : Outstanding) : Bool :=
  !o.lost && (linesOf o.addr o.len).all fun l => hasRoute s (targetNi l.1) o.ni

/-- An outstanding request leaves the NI's table: its TAG is free (05 R234, R239). -/
def dropOut (s : State) (o : Outstanding) : State := { s with noc := { s.noc with out := s.noc.out.erase o } }

/-- The outstanding request of an NI under a tag. -/
def outOf (s : State) (ni tag : Nat) : Option Outstanding := s.noc.out.find? fun o => o.ni == ni && o.tag == tag

/-- The L2 of the service cluster takes the whole lines of an answered read, where memory still holds them (01 R46). -/
def fillL2 (s : State) (o : Outstanding) : State :=
  if o.ni = 36 ∧ o.write = false ∧ o.poisoned = false then
    { s with mem := { s.mem with l2 := (linesOf o.addr o.len).zipIdx.foldl (fun t l =>
        let bs := Tbl.get o.got l.2 []
        if l.1.2 = 64 ∧ bs = s.bytesAt l.1.1 64 then Tbl.set t (l.1.1 / 64) ⟨bs, false⟩ else t) s.mem.l2 } }
  else s

/-- A response reaches its source NI, once every line is served: it completes its request; the response of a request that has
timed out is discarded, and so is one to a unit that is off (05 R232, R239, 02 R66). -/
def responseArrives (s : State) (ni tag : Nat) : State :=
  match outOf s ni tag with
  | none => s
  | some o =>
    if o.done < o.lines ∨ !answerable s o then s
    else if !requesterUp s ⟨ni, 0⟩ then dropOut s o
    else if o.late then (dropOut s o).logEvent (niIsland ni) 0x0405 ni o.dst tag
    else { dropOut (fillL2 s o) o with resp := { poisoned := o.poisoned, value := leNat o.bytes } }

/-- NOC_TIMEOUT as it acts, in NoC cycles (05 R264). -/
def nocTimeout (s : State) : Nat := max 4096 (s.rd Reg.NOC_TIMEOUT.CYCLES)

/-- NOC_TIMEOUT cycles, three to a tick, have passed since a request was injected, or since it timed out. -/
def timedOut (s : State) (o : Outstanding) : Bool := decide (nocTimeout s ≤ 3 * (s.now - o.at_))

/-- NOC_TIMEOUT cycles have passed: the request completes with a bus error, on the PCIe link with Completer Abort, and after as
many again its TAG is free (05 R239, 01 R52).  An NI that is off counts nothing and its requests end unanswered (02 R66). -/
def requestTimeout (s : State) (ni tag : Nat) : State :=
  match outOf s ni tag with
  | none => s
  | some o =>
    if !timedOut s o then s
    else if o.late ∨ !requesterUp s ⟨ni, 0⟩ then dropOut s o
    else
      let s := { s with noc := { s.noc with
        out := s.noc.out.map fun x => if x = o then { o with late := true, at_ := s.now } else x } }
      { (s.bump Reg.NOC_ERR_TIMEOUT.COUNT 1).logEvent (niIsland ni) 0x0403 ni o.dst tag with
        resp := { busError := true, abort := ni == 39 } }

/-! Flits (05 R223-R228, R233, R235, R236, R240, R245). -/

/-- A router's turn for a flit: its output port, 0 east, 1 north, 2 west, 3 south, 4 and 5 local, and the flit sent on
(05 R228).  Input port p in 0-3 is the side the flit comes from; 4 and 5 are local. -/
def routeFlit (inPort : Nat) (f : Flit) : Nat × Flit :=
  let heading := if inPort < 4 then (inPort + 2) % 4 else flitHead f
  let out := match turn heading (flitRoute f % 4) with
    | some h => h
    | none => 4 + flitPort f
  (out, setHdr f 0 24 (flitRoute f / 4))

/-- The router next to a router on a side. -/
def neighbour (router side : Nat) : Option Nat :=
  if side < 4 then (hop (router / 6) (router % 6) side).map fun (r, c) => 6 * r + c else none

/-- Flits of a VN on the link into a router's input port, oldest first: from the neighbour on that side, or from the NI at the local
port. -/
def onLink (s : State) (router inPort vn : Nat) : List Flit :=
  (if inPort < 4 then
    (s.noc.wires.filter fun w => neighbour router inPort == some w.1 && w.2.1 == (inPort + 2) % 4).map (·.2.2)
  else (s.noc.inj.filter fun x => niRouter x.1 == some (router / 6, router % 6) && niPort x.1 + 4 == inPort).map (·.2)).filter
    fun f => flitVn f == vn

/-- The link loses a flit that has left it. -/
def offLink (s : State) (router inPort : Nat) (f : Flit) : State :=
  if inPort < 4 then
    match neighbour router inPort with
    | some r => { s with noc := { s.noc with wires := s.noc.wires.erase (r, (inPort + 2) % 4, f) } }
    | none => s
  else
    match s.noc.inj.find? (fun x => niRouter x.1 == some (router / 6, router % 6) && niPort x.1 + 4 == inPort && x.2 == f) with
    | some x => { s with noc := { s.noc with inj := s.noc.inj.erase x } }
    | none => s

/-- Flits of a VN in a router's input buffer, oldest first: at most 4 (05 R233). -/
def buffered (s : State) (router inPort vn : Nat) : List Flit :=
  (s.noc.bufs.filter fun b => b.1 == router && b.2.1 == inPort && flitVn b.2.2 == vn).map (·.2.2)

/-- The next input has a buffer for one more flit of the VN; an NI takes what reaches it (05 R233, R235). -/
def roomAfter (s : State) (router out vn : Nat) : Bool :=
  match neighbour router out with
  | none => true
  | some r => decide ((buffered s r ((out + 2) % 4) vn).length + (onLink s r ((out + 2) % 4) vn).length < 4)

/-- The flit that the pair of input port and VN with index `i` offers to an output of a router (05 "Arbiters"). -/
def offered (s : State) (router out i : Nat) : Option Flit :=
  match buffered s router (i / 4) (i % 4) with
  | f :: _ => if (routeFlit (i / 4) f).1 = out ∧ roomAfter s router out (i % 4) = true then some f else none
  | [] => none

/-- An output of a router grants one flit: a debug flit first, else by credit share among the 24 pairs of input port and VN, at
the priority 3 − QCLASS of their head flits (05 R240, R245). -/
def grantOutput (s : State) (router out : Nat) : State :=
  let heads := (List.range 24).map (offered s router out)
  let pick := match heads.findIdx? (fun h => h.any fun f => flitSrc f == 45) with
    | some i => some (i, false)
    | none => (arbPick (heads.map Option.isSome) (heads.map fun (h : Option Flit) => 3 - (h.map flitClass).getD 3) (s.credit (.router router out))).map
        fun i => (i, true)
  match pick with
  | none => s
  | some (i, share) =>
    match heads.getD i none with
    | none => s
    | some f =>
      let s := if share then s.setCredit (.router router out) (spend (s.credit (.router router out)) i 1) else s
      { s with noc := { s.noc with bufs := s.noc.bufs.erase (router, i / 4, f),
                                   wires := s.noc.wires ++ [(router, out, (routeFlit (i / 4) f).2)] } }

/-- A NoC cycle: every output with a buffered flit grants one (05 R240). -/
def nocCycle (s : State) : State :=
  (s.noc.bufs.map fun (b : Nat × Nat × Flit) => (b.1, (routeFlit b.2.1 b.2.2).1)).eraseDups.foldl (fun s o => grantOutput s o.1 o.2) s

/-- A dropped flit takes its part of the request with it: a request line that has not been served is served no more, and a
response never completes (05 R225, "At the edges"). -/
def loseFlit (s : State) (f : Flit) : State :=
  let k := flitKind f
  if k = 1 ∨ k = 2 then
    { s with noc := { s.noc with queue := s.noc.queue.filter fun r =>
        !(r.ni == flitSrc f && r.tag == flitTag f && r.seq == flitSeq f && !r.posted) } }
  else if k = 3 ∨ k = 4 then
    { s with noc := { s.noc with out := s.noc.out.map fun o =>
        if (o.ni == flitDst f && o.tag == flitTag f) then { o with lost := true } else o } }
  else s

/-- A router takes a flit (05 R224, R225, R228, R233, R236, R240): the oldest of its VN on the link into the port; with four of
them in the port's buffer it stays on the link.  An uncorrectable header drops it. -/
def routerTakes (s : State) (router inPort : Nat) (f : Flit) (err : List Nat) : State :=
  let vn := flitVn f
  let g1 := flitEcc err 1
  if (onLink s router inPort vn).head?.any (· != f) || decide (4 ≤ (buffered s router inPort vn).length) then s
  else
    let s := offLink s router inPort f
    if g1 = .double then
      ((loseFlit s f).bump Reg.NOC_ERR_DROP.COUNT 1).logEvent (132 + router) 0x0401 (132 + router) vn (flitKind f)
    else
      let s := if g1 = .single then s.bump Reg.NOC_ERR_CE.COUNT 1 else s
      grantOutput { s with noc := { s.noc with bufs := s.noc.bufs ++ [(router, inPort, f)] } } router (routeFlit inPort f).1

/-- A flit that reaches its NI with its data uncorrectable poisons the write or the response that it belongs to (05 R226). -/
def poisonFlit (s : State) (f : Flit) : State :=
  let k := flitKind f
  if k = 2 then
    { s with noc := { s.noc with queue := s.noc.queue.map fun r =>
        if (r.ni == flitSrc f && r.tag == flitTag f && r.seq == flitSeq f && !r.posted) then { r with poison := true } else r } }
  else if k = 3 then
    { s with noc := { s.noc with out := s.noc.out.map fun o =>
        if (o.ni == flitDst f && o.tag == flitTag f) then { o with poisoned := true } else o } }
  else s

/-- A posted stream write is consumed: a line of memory at its controller or bank, words at a queue aperture of the storeroom; any
other target drops it (05 R233, R235, 06 R288). -/
def consumePosted (s : State) (ni : Nat) (f : Flit) : State :=
  let a := flitAddr f
  let n := flitBytes f
  let bs := leBytes n f.data.toNat
  if flitKind f ≠ 5 ∨ targetNi a ≠ ni then s
  else if ni < 24 ∧ inMemory a n then
    { s with noc := { s.noc with queue := s.noc.queue ++
        [{ ni := flitSrc f, tag := flitTag f, qclass := flitClass f, seq := flitSeq f, last := flitLast f, addr := a, len := n,
           write := true, data := bs, poison := flitPoison f, flit := f, posted := true }] } }
  else if ni = 47 ∧ 0xF00510000 ≤ a ∧ a < 0xF00518000 then
    { aperturePush s ⟨flitSrc f, flitClass f⟩ ((off a 0xF00510000) / 256) (a % 256) bs with resp := s.resp }
  else s

/-- A target NI takes a flit (05 R224, R226, R235): the oldest of its VN on the link to it.  With its header uncorrectable the
flit is lost there; R225 counts and logs only what a router drops (DEDUCED, log entry 82). -/
def niTakes (s : State) (ni : Nat) (f : Flit) (err : List Nat) : State :=
  let here (w : Nat × Nat × Flit) : Bool := niRouter ni == some (w.1 / 6, w.1 % 6) && w.2.1 == 4 + niPort ni
  let g0 := flitEcc err 0
  let g1 := flitEcc err 1
  if (s.noc.wires.find? fun w => here w && flitVn w.2.2 == flitVn f).any (fun w => w.2.2 != f) then s
  else
    let s := match s.noc.wires.find? (fun w => here w && w.2.2 == f) with
      | some w => { s with noc := { s.noc with wires := s.noc.wires.erase w } }
      | none => s
    if g1 = .double then loseFlit s f
    else
      let s := s.bump Reg.NOC_ERR_CE.COUNT (b2n (g0 = .single) + b2n (g1 = .single))
      let s := if g0 = .double then (poisonFlit s f).logEvent (niIsland ni) 0x0402 ni (flitSrc f) (flitAddr f) else s
      let f := if g0 = .double then setHdr (flipData f err) 96 1 1 else f
      consumePosted { s with noc := { s.noc with delivered := s.noc.delivered ++ [(ni, f)] } } ni f

/-- The MEM arbiter fields that a commit copies (05 R243). -/
def memArbFields : List Fld :=
  ((List.range 8).map fun i => [Reg.MEM_ARB_DRAM.WEIGHT i, Reg.MEM_ARB_DRAM.PRIO i]).flatten ++
  ((List.range 7).map fun i => [Reg.MEM_ARB_LAR.WEIGHT i, Reg.MEM_ARB_LAR.PRIO i]).flatten ++
  [Reg.MEM_ARB_WINDOW.DRAM, Reg.MEM_ARB_WINDOW.LARDER, Reg.MEM_ARB_TENURE.TENURE]

/-- The NOC arbiter fields that a commit copies (05 R243). -/
def nocArbFields : List Fld := ((List.range 4).map Reg.NOC_ARB_WEIGHT.WEIGHT) ++ [Reg.NOC_ARB_WINDOW.CYCLES]

/-- A write to MEM_ARB_COMMIT. -/
def memArbCommit (s : State) (data : Nat) : State := (if bit data 0 then s.commitAll memArbFields else s).answer 0

/-- A write to NOC_ARB_COMMIT. -/
def nocArbCommit (s : State) (data : Nat) : State := (if bit data 0 then s.commitAll nocArbFields else s).answer 0

/-- The DRAM answers: trained and out of self-refresh. -/
def dramLive (s : State) : Bool := s.flag Reg.MEM_STAT.TRAINED && !s.flag Reg.MEM_STAT.SELF_REFRESH

/-! The commands. -/

/-- NOC_FLIT_ROUTE (05 R223-R225, R228, R233, R236, R240): `err` names the bits of the flit that its link has flipped. -/
def execNocFlitRoute (router inPort : Nat) (flit : Flit) (err : List Nat) (s : State) : Host.Outcome State Fault Refusal :=
  whilePowered s fun s => if s.domOn 2 then routerTakes s (router % 36) (inPort % 6) flit err else s

/-- NOC_FLIT_EJECT (05 R223, R224, R226, R235). -/
def execNocFlitEject (ni : Nat) (flit : Flit) (err : List Nat) (s : State) : Host.Outcome State Fault Refusal :=
  whilePowered s fun s => if s.domOn 2 then niTakes s (ni % 64) flit err else s

/-- ARB_WINDOW_START (05 R240, R264, R265). -/
def execArbWindowStart (arb : ArbId) (s : State) : Host.Outcome State Fault Refusal :=
  whilePowered s fun s => if windowOver s arb then startWindow s arb else s

/-- MEM_ARB_COMMIT (05 R243). -/
def execMemArbCommit (rq : Requester) (data : Nat) (s : State) : Host.Outcome State Fault Refusal :=
  whilePowered s fun s => atRegister s rq 0xF00400048 true data fun s => memArbCommit s data

/-- NOC_ARB_COMMIT (05 R243). -/
def execNocArbCommit (rq : Requester) (data : Nat) (s : State) : Host.Outcome State Fault Refusal :=
  whilePowered s fun s => atRegister s rq 0xF00300014 true data fun s => nocArbCommit s data

/-- DRAM_READ (05 R244, R250, R252, R253): the controller's next access where it is a read, the patrol scrub's among them. -/
def execDramRead (ctl : Nat) (ecc : LineErr) (s : State) : Host.Outcome State Fault Refusal :=
  whilePowered s fun s =>
    if !dramLive s then s
    else if scrubWins s (ctl % 8) then scrubRead s (ctl % 8) ecc
    else dramGrant s (ctl % 8) false fun s r => dramReadLine s r ecc

/-- DRAM_WRITE (05 R244, R251, R252). -/
def execDramWrite (ctl : Nat) (ecc : LineErr) (s : State) : Host.Outcome State Fault Refusal :=
  whilePowered s fun s =>
    if dramLive s && !scrubWins s (ctl % 8) then dramGrant s (ctl % 8) true fun s r => dramWriteLine s r ecc else s

/-- DRAM_REFRESH (05 R245, R254, R265). -/
def execDramRefresh (ch : Nat) (s : State) : Host.Outcome State Fault Refusal :=
  whilePowered s fun s => if dramLive s && refreshDue s (ch % 16) then refreshChannel s (ch % 16) else s

/-- MR4_POLL (05 R255): `temp` is what MR4 of the channel reports, in °C. -/
def execMr4Poll (ch : Nat) (temp : Int) (s : State) : Host.Outcome State Fault Refusal :=
  whilePowered s fun s => if dramLive s && mr4Due s (ch % 16) then readMr4 s (ch % 16) temp else s

/-- LARDER_READ (05 R261). -/
def execLarderRead (bank : Nat) (errs : List (Nat × Ecc)) (s : State) : Host.Outcome State Fault Refusal :=
  whilePowered s fun s => if s.domOn 5 then larderGrant s (bank % 16) false fun s r => larderReadLine s r errs else s

/-- LARDER_WRITE (05 R261). -/
def execLarderWrite (bank : Nat) (errs : List (Nat × Ecc)) (s : State) : Host.Outcome State Fault Refusal :=
  whilePowered s fun s => if s.domOn 5 then larderGrant s (bank % 16) true fun s r => larderWriteLine s r errs else s

end Sys2Proof.Machine
end

