-- ==== Sys2Proof/Machine/RegWrite.lean ====
section
/-! DEFINITION. Writes to register fields by their access codes (00 R6, R15-R21), which every unit's registers share. -/

namespace Sys2Proof.Machine

/-- The indices at which a row of the register table holds an address. -/
def RegRow.index (r : RegRow) (a : Nat) : Option (Nat × Nat) :=
  if a < r.base then none
  else
    let o := a - r.base
    match r.dims with
    | [] => if o = 0 then some (0, 0) else none
    | [(n, st)] => if o % st = 0 ∧ o / st < n then some (o / st, 0) else none
    | (n, st) :: (m, st') :: _ =>
      if o / st < n ∧ o % st % st' = 0 ∧ o % st / st' < m then some (o / st, o % st / st') else none

/-- The row and indices of the register at an address. -/
def findReg : List RegRow → Nat → Option (RegRow × Nat × Nat)
  | [], _ => none
  | r :: t, a => match r.index a with
    | some (i, j) => some (r, i, j)
    | none => findReg t a

/-- The fields of the register at an address, none where no register stands there. -/
def fieldsAt (a : Nat) : Option (List Fld) := (findReg Reg.table a).map fun r => r.1.flds r.2.1 r.2.2

/-- The part of a written word that falls to a field. -/
def Fld.of (f : Fld) (data : Nat) : Nat := bits data f.lo f.w

/-- The written encoding is reserved (R17, R20). -/
def Fld.reserved (f : Fld) (data : Nat) : Bool := f.rsv.any fun r => decide (r.1 ≤ f.of data) && decide (f.of data ≤ r.2)

/-- The field is WL and has been written since cold reset (R21). -/
def State.locked (s : State) (f : Fld) : Bool := f.acc == .wl && s.wl.contains f.key

/-- The stored value of a register's fields as one word. -/
def regValue (s : State) (fs : List Fld) : Nat := (fs.map fun f => s.rd f * 2 ^ f.lo).sum

/-- The effect of a write on one field by its access code (R6, R17, R20, R21). -/
def writeField (s : State) (f : Fld) (data : Nat) : State :=
  if f.reserved data then s
  else match f.acc with
    | .rw => s.wr f (f.of data)
    | .ro | .wo => s
    | .w1c => s.clearBits f (f.of data)
    | .wl => if s.locked f then s else { s.wr f (f.of data) with wl := f.key :: s.wl }
    | .rws => s.wrShadow f (f.of data)

/-- The entry of a refused write: one for each write, whatever the number of its refused fields (R18, R21). -/
def noteRefused (s : State) (rq : Requester) (addr data : Nat) (fs : List Fld) : State :=
  let island := (windowOf addr).1.island
  if fs.any fun f => f.reserved data && f.acc != .ro then s.logEvent island 0x0102 addr data rq.ni
  else if fs.any s.locked then s.logEvent island 0x0103 addr data rq.ni
  else s

/-- Fields of a register take their written values. -/
def takeFields (s : State) (data : Nat) (fs : List Fld) : State := fs.foldl (fun s f => writeField s f data) s

/-- A write to some fields of a register. -/
def writeFields (s : State) (rq : Requester) (addr data : Nat) (fs : List Fld) : State :=
  takeFields (noteRefused s rq addr data fs) data fs

/-- A write to a register whose fields have no behaviour of their own. -/
def stdWrite (s : State) (rq : Requester) (addr data : Nat) : State :=
  (writeFields s rq addr data ((fieldsAt addr).getD [])).answer 0

end Sys2Proof.Machine
end

