-- ==== Sys2Proof/Machine/Plant.lean ====
section
/-! DEFINITION. Pins and plant I/O (chapter 14): pins and ownership, output data, matchers, the plant ADC, comparators and the
protection trip, PWM, and the Plant Loop Engine.  A cellar cycle is ten device ticks. -/

namespace Sys2Proof.Machine

/-- A refused plant configuration or command write (0x200A). -/
def celRefused (s : State) (addr data : Nat) (rq : Requester) : State := (s.logEvent 236 0x200A addr data rq.ni).answer 0

/-- Ticks of a cellar cycle. -/
def cellarTicks : Nat := 10

/-! Pins (R626-R643). -/

/-- VDD_IO18, sequencer channel 2, is up (R626). -/
def rail18 (s : State) : Bool := bit s.pw.chPg 2

/-- The configuration of a pin may be written by this requester (R628). -/
def pinWriter (s : State) (rq : Requester) (i : Nat) : Bool :=
  let o := s.rd (Reg.CEL_PIN_CFG.OWNER i)
  rq.ni == 44 || (rq.ni == 36 && decide (2 ≤ o))

/-- The output data of a pin may be written by this requester; `none` is the pin command queue (R628). -/
def dataWriter (s : State) (rq : Option Requester) (i : Nat) : Bool :=
  let o := s.rd (Reg.CEL_PIN_CFG.OWNER i)
  match rq with
  | none => o == 3
  | some rq =>
    (rq.ni == 44 && decide (o ≤ 1)) || (rq.ni == 36 && o == 2) ||
      (decide (24 ≤ rq.ni) && decide (rq.ni ≤ 27) && o == 4)

/-- SIG is listed for FUNC, and FUNC is available on the pin's bank (R634, R635). -/
def pinFuncOk (i func sig : Nat) : Bool :=
  match func with
  | 0 => sig == 0
  | 1 => decide (i < 64)
  | 2 => decide (i < 64) && decide (sig < 4)
  | 3 => decide (i < 64) && decide (sig < 8)
  | 4 => decide (i < 64) && decide (sig < 4)
  | 5 => sig % 8 != 7
  | 6 => decide (i < 64) && decide (sig < 8)
  | _ => false

/-- A PWM channel. -/
def State.pwm (s : State) (c : Nat) : Pwm := Tbl.get s.cel.pwm c {}

/-- A PWM channel replaced. -/
def State.setPwm (s : State) (c : Nat) (p : Pwm) : State := { s with cel := { s.cel with pwm := Tbl.put s.cel.pwm c p {} } }

/-- The channel is latched by a trip (R660). -/
def pwmLatched (s : State) (c : Nat) : Bool := bit (s.rd Reg.CEL_TRIP_STAT.LATCHED) c

/-- Ticks of one count of a channel, and its counts (R664). -/
def pwmTick (s : State) (c : Nat) : Nat := cellarTicks * (s.rd (Reg.CEL_PWM_CFG.PRESCALE c) + 1)
def pwmPeriod (s : State) (c : Nat) : Nat := max 1 (s.rd (Reg.CEL_PWM_PERIOD.COUNT c))

/-- Count of a channel now (R664). -/
def pwmCount (s : State) (c : Nat) : Nat := (s.now - (s.pwm c).start) / pwmTick s c % pwmPeriod s c

/-- Off level of output H (side 0) or L (side 1). -/
def pwmOff (s : State) (c side : Nat) : Bool :=
  if side = 0 then s.flag (Reg.CEL_PWM_CFG.OFF_H c) else s.flag (Reg.CEL_PWM_CFG.OFF_L c)

/-- Level of an output (R661, R662, R664, R665). -/
def pwmLevel (s : State) (c side : Nat) : Bool :=
  let off := pwmOff s c side
  let n := pwmCount s c
  let duty := s.rd (Reg.CEL_PWM_DUTY.COUNT c)
  let dead := s.rd (Reg.CEL_PWM_DEAD.COUNT c)
  let active := if side = 0 then decide (dead ≤ n) && decide (n < duty) else decide (duty + dead ≤ n) && decide (n < pwmPeriod s c)
  if s.flag (Reg.CEL_PWM_CFG.EN c) && !pwmLatched s c && !(s.pwm c).wait && active then !off else off

/-- What stands at a pad: nothing or a keeper, a level, an analogue input, or a level that a peripheral drives. -/
inductive Pad where
  | open_ | low | high | analog | periph
  deriving DecidableEq, Repr

/-- A driven level. -/
def Pad.of (b : Bool) : Pad := if b then .high else .low

/-- The signal of a function is an input only (R634). -/
def inputOnly (func sig : Nat) : Bool := (func == 2 && sig % 2 == 1) || (func == 3 && sig % 4 == 1) || (func == 5 && sig % 8 == 2) || func == 6

/-- The output data at the pads of a bank: a write reaches them in the next cellar cycle (R647). -/
def outPads (s : State) (b : Nat) : Nat :=
  match Tbl.find s.cel.outWas b with
  | some (v, t) => if s.now < t + cellarTicks then v else s.rd (Reg.CEL_GPIO_OUT.DATA b)
  | none => s.rd (Reg.CEL_GPIO_OUT.DATA b)

/-- A pad while no switch is in progress. -/
def padSteady (s : State) (i : Nat) : Pad :=
  let func := s.rd (Reg.CEL_PIN_CFG.FUNC i)
  let sig := s.rd (Reg.CEL_PIN_CFG.SIG i)
  if 64 ≤ i ∧ !rail18 s then .open_
  else if s.flag (Reg.CEL_PIN_CFG.ANALOG i) then .analog
  else if func = 0 then
    if s.flag (Reg.CEL_PIN_CFG.OE i) then Pad.of (bit (outPads s (i / 16)) (i % 16)) else .open_
  else if func = 1 then Pad.of (pwmLevel s (sig / 2) (sig % 2))
  else if inputOnly func sig then .open_ else .periph

/-- The pin is parked: the four cellar cycles after t0 (R640, R642). -/
def parked (s : State) (i : Nat) : Option PinPark :=
  match Tbl.find s.cel.parks i with
  | some p => if s.now < p.t0 + 4 * cellarTicks then some p else none
  | none => none

/-- The pad of a pin; a trip overrides a park (R641, R643). -/
def padOf (s : State) (i : Nat) : Pad :=
  match parked s i with
  | none => padSteady s i
  | some p =>
    let towards := if s.rd (Reg.CEL_PIN_CFG.FUNC i) = 1 then some (s.rd (Reg.CEL_PIN_CFG.SIG i)) else none
    match [p.pwm, towards].filterMap (fun o => o.bind fun k => if pwmLatched s (k / 2) then some k else none) with
    | k :: _ => Pad.of (pwmOff s (k / 2) (k % 2))
    | [] =>
      match s.rd (Reg.CEL_PIN_CFG.PARK i) with
      | 0 => (match p.hold with | 1 => .low | 2 => .high | 3 => .periph | _ => .open_)
      | 1 => .open_
      | 2 => .low
      | _ => .high

/-- The code of a pad for PARK 0. -/
def Pad.hold : Pad → Nat
  | .low => 1
  | .high => 2
  | .periph => 3
  | _ => 0

/-- A write to CEL_PIN_CFGi (R629, R630, R633, R635, R639, R640). -/
def writePin (s : State) (rq : Requester) (i data : Nat) : State :=
  let addr := 0xF04000000 + 4 * i
  if !pinWriter s rq i then (s.logEvent 236 0x2001 addr data rq.ni).busErr
  else
    let func := Reg.CEL_PIN_CFG.FUNC i
    let sig := Reg.CEL_PIN_CFG.SIG i
    let analog := Reg.CEL_PIN_CFG.ANALOG i
    let park : PinPark :=
      { t0 := s.now, hold := (padOf s i).hold,
        pwm := if s.rd func = 1 ∧ !s.flag analog then some (s.rd sig) else none }
    let before := (s.rd func, s.rd sig, s.rd analog)
    let fs := [Reg.CEL_PIN_CFG.DRIVE i, Reg.CEL_PIN_CFG.HYST i, Reg.CEL_PIN_CFG.TTL i, analog, Reg.CEL_PIN_CFG.OE i,
      Reg.CEL_PIN_CFG.PARK i, Reg.CEL_PIN_CFG.PULL i] ++ if rq.ni = 44 then [Reg.CEL_PIN_CFG.OWNER i] else []
    let ok := pinFuncOk i (func.of data) (sig.of data)
    let s := if !ok || fs.any fun f => f.reserved data then s.logEvent 236 0x0102 addr data rq.ni else s
    let s := fs.foldl (fun s f => writeField s f data) s
    let s := if ok then (s.wr func (func.of data)).wr sig (sig.of data) else s
    let s := if (s.rd func, s.rd sig, s.rd analog) = before then s
      else { s with cel := { s.cel with parks := Tbl.set s.cel.parks i park } }
    s.answer 0

/-- Some pin carries this input signal to its peripheral: analogue mode off, the synchroniser passed after a switch, its rail
up (R634, R637, R640). -/
def inputOn (s : State) (func sig : Nat) : Bool :=
  (List.range 160).any fun i =>
    s.rd (Reg.CEL_PIN_CFG.FUNC i) == func && s.rd (Reg.CEL_PIN_CFG.SIG i) == sig && !s.flag (Reg.CEL_PIN_CFG.ANALOG i) &&
      (decide (i < 64) || rail18 s) &&
      match Tbl.find s.cel.parks i with
      | some p => decide (p.t0 + 6 * cellarTicks ≤ s.now)
      | none => true

/-- A write to CEL_GPIO_OUTb changes the bits that the writer owns in GPIO function (R645, R647). -/
def gpioWrite (s : State) (rq : Option Requester) (b data : Nat) : State :=
  let f := Reg.CEL_GPIO_OUT.DATA b
  let s := { s with cel := { s.cel with outWas := Tbl.set s.cel.outWas b (outPads s b, s.now) } }
  s.wr f ((List.range 16).foldl (fun v j =>
    if s.rd (Reg.CEL_PIN_CFG.FUNC (16 * b + j)) = 0 ∧ dataWriter s rq (16 * b + j) then
      (if bit data j then setBit v j else clrBit v j)
    else v) (s.rd f))

/-- CEL_GPIO_INb to a requester (R626, R631, R637): driven pads give their level; the level of a pad that the device does not
drive comes from outside and is a free value. -/
def gpioIn (s : State) (rq : Requester) (b : Nat) : Nat :=
  let free := s.freeVal 16
  (List.range 16).foldl (fun v j =>
    let i := 16 * b + j
    if (64 ≤ i ∧ !rail18 s) ∨ (s.rd (Reg.CEL_PIN_CFG.OWNER i) = 1 ∧ rq.ni ≠ 44) then v
    else match padOf s i with
      | .high => setBit v j
      | .low | .analog => v
      | _ => if bit free j then setBit v j else v) 0

/-- SEC_PIN_OWNk (R632). -/
def pinOwners (s : State) (k : Nat) : Nat :=
  ((List.range 8).map fun j => s.rd (Reg.CEL_PIN_CFG.OWNER (8 * k + j)) * 2 ^ (4 * j)).sum

/-- A pin command word applied, or ignored and counted (R648). -/
def applyPinWord (s : State) (q w : Nat) : State :=
  if 9 < bits w 0 4 ∨ bits w 4 12 ≠ 0 ∨ bits w 32 32 ≠ 0 then
    (s.bump Reg.CEL_PINQ_BAD.COUNT 1).logLimited 0 236 0x2009 q w (w / 2 ^ 32)
  else gpioWrite s none (bits w 0 4) (bits w 16 16)

/-- The cellar bridge pops one pin command word (R648). -/
def popPinWord (s : State) : State :=
  let q := s.rd Reg.CEL_PINQ_CFG.QUEUE
  let early := match s.cel.pinqAt with
    | some t => decide (s.now < t + 4 * cellarTicks)
    | none => false
  if s.flag Reg.CEL_PINQ_CFG.EN ∧ 3 ≤ s.tier ∧ s.flag Reg.STR_CTRL.EN ∧ (s.q q).marks ≠ [] ∧
      early = false then
    let (s, w, _) := popSlot s q
    applyPinWord { s with cel := { s.cel with pinqAt := some s.now } } q (leNat w)
  else s

/-! Mains loss (R653, R663, 15 R723). -/

/-- ON_BATTERY changes (15 R723, R726). -/
def setBattery (s : State) (on : Bool) : State :=
  if s.flag Reg.CEL_HOLD_STAT.ON_BATTERY = on then s
  else
    let s := s.wr Reg.CEL_HOLD_STAT.ON_BATTERY (b2n on)
    let s := if on then s else s.wr Reg.CEL_HOLD_STAT.CUT 0
    s.logEvent 236 0x2013 (b2n on) (s.rd Reg.SYS_HOLD_CFG.SRC) s.mode

/-- The mains-loss source reports: lost is latched for the transition of 02 R72 and puts the device on battery. -/
def reportMains (s : State) (lost : Bool) : State :=
  if lost then
    let trig := s.pw.mainsTrig || !s.pw.mainsLost
    setBattery { s with pw := { s.pw with mainsLost := true, mainsTrig := trig } } true
  else if s.pw.mainsLost then { s with pw := { s.pw with mainsLost := false, mainsTrig := false, mainsBack := s.now } }
  else s

/-- Comparator `k` is the mains-loss source. -/
def compIsMains (s : State) (k : Nat) : Bool := s.rd Reg.SYS_HOLD_CFG.SRC == 1 && s.rd Reg.SYS_HOLD_CFG.COMPARATOR == k

/-- Matcher `m` is the mains-loss source. -/
def matcherIsMains (s : State) (m : Nat) : Bool := s.rd Reg.SYS_HOLD_CFG.SRC == 2 && s.rd Reg.SYS_HOLD_CFG.MATCHER == m

/-- A new choice of source reports what it shows: comparators and matchers in MODE 1 by their OUT; with SRC 0, ON_BATTERY
follows FW_BATT. -/
def mainsSourceChosen (s : State) : State :=
  let m := s.rd Reg.SYS_HOLD_CFG.MATCHER
  match s.rd Reg.SYS_HOLD_CFG.SRC with
  | 0 => setBattery { s with pw := { s.pw with mainsLost := false, mainsTrig := false } } (s.flag Reg.CEL_HOLD_CFG.FW_BATT)
  | 1 => reportMains s (s.flag (Reg.CEL_CMP_STAT.OUT (s.rd Reg.SYS_HOLD_CFG.COMPARATOR)))
  | _ => if s.rd (Reg.CEL_PM_CFG.MODE m) = 1 then reportMains s (s.flag (Reg.CEL_PM_STAT.OUT m)) else s

/-! Pattern matchers (R649-R653). -/

/-- The pattern holds on a vector. -/
def patternHolds (vec care val : Nat) : Bool := (vec &&& care) == (val &&& care)

/-- Pattern A or B of a matcher. -/
def patA (s : State) (m vec : Nat) : Bool := patternHolds vec (s.rd (Reg.CEL_PM_CARE.CARE_A m)) (s.rd (Reg.CEL_PM_PAT.VAL_A m))
def patB (s : State) (m vec : Nat) : Bool := patternHolds vec (s.rd (Reg.CEL_PM_CARE.CARE_B m)) (s.rd (Reg.CEL_PM_PAT.VAL_B m))

/-- Selector `j` of a matcher (R649). -/
def matchPin (s : State) (m j : Nat) : Nat :=
  match j % 4 with
  | 0 => s.rd (Reg.CEL_PM_SEL.PIN0 m (j / 4))
  | 1 => s.rd (Reg.CEL_PM_SEL.PIN1 m (j / 4))
  | 2 => s.rd (Reg.CEL_PM_SEL.PIN2 m (j / 4))
  | _ => s.rd (Reg.CEL_PM_SEL.PIN3 m (j / 4))

/-- The vector that a matcher takes from the levels that stand outside: a selector that names no pin, a pad without its rail
and an analogue pad give 0, a parked pin its last sampled value, and a pad that the device drives its level (R640, R649). -/
def matchVector (s : State) (m levels : Nat) : Nat :=
  (List.range 16).foldl (fun v j =>
    let i := matchPin s m j
    let level :=
      if 160 ≤ i ∨ (64 ≤ i ∧ !rail18 s) then false
      else if (parked s i).isSome then bit (s.rd (Reg.CEL_PM_STAT.VEC m)) j
      else match padSteady s i with
        | .high => true
        | .low | .analog => false
        | _ => bit levels j
    if level then setBit v j else v) 0

/-- Pattern A begins to hold with this vector, or pattern B. -/
def aBegins (s : State) (m vec : Nat) : Bool := patA s m vec && !patA s m (s.rd (Reg.CEL_PM_STAT.VEC m))
def bBegins (s : State) (m vec : Nat) : Bool := patB s m vec && !patB s m (s.rd (Reg.CEL_PM_STAT.VEC m))

/-- Pattern A has begun to hold, now or WIN × 64 cellar cycles ago at most (R651). -/
def inSequence (s : State) (m vec : Nat) : Bool :=
  aBegins s m vec ||
    match Tbl.find s.cel.matchA m with
    | some t => decide (s.now ≤ t + 64 * max 1 (s.rd (Reg.CEL_PM_TIME.WIN m)) * cellarTicks)
    | none => false

/-- The matcher's mode sets HIT with this accepted vector (R651). -/
def hitAllowed (s : State) (m vec : Nat) : Bool :=
  match s.rd (Reg.CEL_PM_CFG.MODE m) with
  | 0 => false
  | 1 => patA s m vec
  | 2 => aBegins s m vec
  | _ => bBegins s m vec && inSequence s m vec

/-- HIT has set from 0: the interrupt, the wake source and the queue word (R652). -/
def hitRaised (s : State) (m vec : Nat) : State :=
  let wake := s.flag (Reg.CEL_PM_CFG.WAKE m)
  let s := { s with cel := { s.cel with plantIrq := true, wake := if wake then setBit s.cel.wake 1 else s.cel.wake } }
  if s.flag (Reg.CEL_PM_CFG.QEN m) ∧ 3 ≤ s.tier ∧ s.flag Reg.STR_CTRL.EN then
    pushPacket s (s.rd (Reg.CEL_PM_CFG.QUEUE m)) (leBytes 8 (m + 2 ^ 16 * vec + 2 ^ 32 * (s.now % 2 ^ 32))) 44
  else s

/-- A matcher accepts a vector (R650): its VEC, the instant at which A begins to hold, and HIT where the mode sets it
(R651-R653). -/
def matcherHit (s : State) (m vec : Nat) : State :=
  let was := s.flag (Reg.CEL_PM_STAT.HIT m)
  let hit := hitAllowed s m vec
  let s := if aBegins s m vec then { s with cel := { s.cel with matchA := Tbl.set s.cel.matchA m s.now } } else s
  let s := s.wr (Reg.CEL_PM_STAT.VEC m) vec
  if hit then
    let s := s.wr (Reg.CEL_PM_STAT.HIT m) 1
    let s := if s.rd (Reg.CEL_PM_CFG.MODE m) = 1 then s.wr (Reg.CEL_PM_STAT.OUT m) 1 else s
    let s := if was then s else hitRaised s m vec
    if matcherIsMains s m then reportMains s true else s
  else s

/-- Pattern A of a MODE 1 matcher stops holding (R651, R653). -/
def matcherClear (s : State) (m vec : Nat) : State :=
  if s.rd (Reg.CEL_PM_CFG.MODE m) = 1 ∧ patA s m vec = false then
    let s := (s.wr (Reg.CEL_PM_STAT.VEC m) vec).wr (Reg.CEL_PM_STAT.OUT m) 0
    if matcherIsMains s m then reportMains s false else s
  else s

/-- A write to CEL_PMm_CFG: a matcher out of MODE 1 has OUT 0. -/
def writeMatcherCfg (s : State) (rq : Requester) (m data : Nat) : State :=
  let s := stdWrite s rq (0xF04000800 + 0x40 * m) data
  if s.rd (Reg.CEL_PM_CFG.MODE m) = 1 then s else s.wr (Reg.CEL_PM_STAT.OUT m) 0

/-! Plant ADC and tachometers (R654-R657). -/

/-- CODE of a voltage in microvolts; VFS is 2.500 V (R654, 17 R778). -/
def adcCode (uv : Int) : Nat := (clampI 0 65535 (uv * 65536 / 2500000)).toNat

/-- Below CODE of CEL_HOLD_CUT at the battery's channel (15 R725). -/
def noteBattery (s : State) (c code : Nat) : State :=
  if c = s.rd Reg.CEL_HOLD_CUT.BATT_CH then
    let t := if code < s.rd Reg.CEL_HOLD_CUT.CODE then some (s.cel.battLow.getD s.now) else none
    { s with cel := { s.cel with battLow := t } }
  else s

/-- Floor's charge hold by the battery temperature, ADC 2 of the plant plan (15 R722). -/
def noteTemperature (s : State) (c code : Nat) : State :=
  if c = 2 ∧ s.flag Reg.CEL_PLANT_DEF.APPLIED then
    let inBand := decide (16800 ≤ code) && decide (code ≤ 33200)
    let since := if inBand then some (s.svc.bandAt.getD s.now) else none
    let s := { s with svc := { s.svc with bandAt := since } }
    if code < 16000 ∨ 34000 < code then
      { s.wr (Reg.CEL_PLE_SP.SP 1) 32768 with svc := { s.svc with chargeHeld := true } }
    else match since with
      | some t =>
        if s.svc.chargeHeld ∧ t + 60 * ticksPerSecond ≤ s.now then
          { s.wr (Reg.CEL_PLE_SP.SP 1) 33768 with svc := { s.svc with chargeHeld := false } }
        else s
      | none => s
  else s

/-- Ticks of a conversion slot (R654). -/
def adcSlot : Nat := 49 * cellarTicks

/-- Start of the scan of the next conversion, and that conversion's end: `n` channels are enabled and `done` of them are
converted in the present scan (R655). -/
def adcScanStart (s : State) (n done : Nat) : Nat :=
  if n = done then s.cel.adcAt + max n (s.rd Reg.CEL_ADC_PERIOD.SLOTS) * adcSlot else s.cel.adcAt
def adcDue (s : State) (n done : Nat) : Nat := adcScanStart s n done + ((if n = done then 0 else done) + 1) * adcSlot

/-- A conversion ends: channels are converted in ascending order within a scan (R655, R656). -/
def adcConverts (s : State) (c : Nat) (uv : Int) : State :=
  let en := ones (s.rd Reg.CEL_ADC_CFG.CH_EN) 16
  let left := en.filter fun x => !bit s.cel.adcDone x
  let next := if left = [] then en.head? else left.head?
  let done := en.length - left.length
  if next = some c ∧ adcDue s en.length done ≤ s.now then
    let fresh := left = [] ∨ s.cel.adcScans = 0
    let s := { s with cel := { s.cel with
      adcDone := if left = [] then 2 ^ c else setBit s.cel.adcDone c,
      adcScans := if fresh then s.cel.adcScans + 1 else s.cel.adcScans,
      adcAt := adcScanStart s en.length done } }
    let s := (s.wr (Reg.CEL_ADC_RES.CODE c) (adcCode uv)).wr (Reg.CEL_ADC_RES.SCAN c) s.cel.adcScans
    noteTemperature (noteBattery s c (adcCode uv)) c (adcCode uv)
  else s

/-- A rising tachometer edge (R657). -/
def tachEdge (s : State) (t : Nat) : State :=
  if inputOn s 6 t then
    let s' := { s with cel := { s.cel with tachEdge := Tbl.set s.cel.tachEdge t s.now } }
    match Tbl.find s.cel.tachEdge t with
    | none => s'
    | some last => s'.wr (Reg.CEL_TACH.FREQ t) (min 65535 (16 * 49152000 / max 1 ((s.now - last) / cellarTicks)))
  else s

/-- No edge for a second (R657). -/
def tachTimeout (s : State) (t : Nat) : State :=
  match Tbl.find s.cel.tachEdge t with
  | some last => if last + ticksPerSecond ≤ s.now then s.wr (Reg.CEL_TACH.FREQ t) 0 else s
  | none => s

/-! Window comparators and the protection trip (R658-R663). -/

/-- A voltage against LO + `m` and HI − `m` in units of VFS / 1024. -/
def insideWindow (s : State) (k : Nat) (uv : Int) (m : Nat) : Bool :=
  decide (((s.rd (Reg.CEL_CMP_THR.LO k) + m : Nat) : Int) * 2500000 ≤ uv * 1024) &&
    decide (uv * 1024 ≤ ((s.rd (Reg.CEL_CMP_THR.HI k) : Int) - m) * 2500000)

/-- The input leaves its window (R658, R660, R661, R663). -/
def windowExit (s : State) (k : Nat) (uv : Int) : State :=
  if insideWindow s k uv 0 ∨ s.flag (Reg.CEL_CMP_STAT.OUT k) then s
  else
    let s := s.wr (Reg.CEL_CMP_STAT.OUT k) 1
    let mask := if s.flag (Reg.CEL_CMP_CFG.EN k) && s.flag (Reg.CEL_CMP_CFG.TRIP_EN k) then s.rd (Reg.CEL_CMP_CFG.TRIP_MASK k) else 0
    let new := andNot mask (s.rd Reg.CEL_TRIP_STAT.LATCHED)
    let s := if new = 0 then s else (s.orBits Reg.CEL_TRIP_STAT.LATCHED new).logEvent 236 0x2002 k new s.mode
    if compIsMains s k then reportMains s true else s

/-- The input is back inside by the hysteresis (R658, R663). -/
def windowReturn (s : State) (k : Nat) (uv : Int) : State :=
  if s.flag (Reg.CEL_CMP_STAT.OUT k) ∧ insideWindow s k uv (s.rd (Reg.CEL_CMP_CFG.HYS k)) then
    let s := s.wr (Reg.CEL_CMP_STAT.OUT k) 0
    if compIsMains s k then reportMains s false else s
  else s

/-- Comparators that are out and would trip channel `c` (R662). -/
def tripsHeld (s : State) (c : Nat) : List Nat :=
  (List.range 8).filter fun k =>
    s.flag (Reg.CEL_CMP_CFG.EN k) && s.flag (Reg.CEL_CMP_CFG.TRIP_EN k) && bit (s.rd (Reg.CEL_CMP_CFG.TRIP_MASK k)) c &&
      s.flag (Reg.CEL_CMP_STAT.OUT k)

/-- A write to CEL_TRIP_STAT (R662). -/
def writeTripStat (s : State) (rq : Requester) (data : Nat) : State :=
  let cs := (ones data 8).filter (pwmLatched s)
  let out := (cs.flatMap (tripsHeld s)).foldl setBit 0
  let ok := cs.filter fun c => (tripsHeld s c).isEmpty
  let s := ok.foldl (fun s c =>
    (s.clearBits Reg.CEL_TRIP_STAT.LATCHED (2 ^ c)).setPwm c { s.pwm c with wait := s.flag (Reg.CEL_PWM_CFG.EN c) }) s
  (if out = 0 then s else s.logEvent 236 0x2003 (data % 256) out rq.ni).answer 0

/-- A write to CEL_CMPk_THR (R659). -/
def writeThreshold (s : State) (rq : Requester) (k data : Nat) : State :=
  if bits data 16 10 < bits data 0 10 then celRefused s (0xF04001104 + 0x10 * k) data rq
  else stdWrite s rq (0xF04001104 + 0x10 * k) data

/-! PWM (R664-R667). -/

/-- A channel takes committed values. -/
def pwmTake (s : State) (c : Nat) : State :=
  match (s.pwm c).take with
  | none => s
  | some (p, d, z) =>
    (((s.wr (Reg.CEL_PWM_PERIOD.COUNT c) p).wr (Reg.CEL_PWM_DUTY.COUNT c) d).wr (Reg.CEL_PWM_DEAD.COUNT c) z).setPwm c
      { s.pwm c with take := none }

/-- A commit of a channel: its shadows at its next period start, or at once while EN is 0 (R666). -/
def pwmCommit (s : State) (c : Nat) : State :=
  let v := (s.rdShadow (Reg.CEL_PWM_PERIOD.COUNT c), s.rdShadow (Reg.CEL_PWM_DUTY.COUNT c), s.rdShadow (Reg.CEL_PWM_DEAD.COUNT c))
  let s := s.setPwm c { s.pwm c with take := some v }
  if s.flag (Reg.CEL_PWM_CFG.EN c) then s else pwmTake s c

/-- A write to CEL_PWM_COMMIT. -/
def writePwmCommit (s : State) (data : Nat) : State := ((ones data 8).foldl pwmCommit s).answer 0

/-- A period starts now. -/
def atPeriod (s : State) (c : Nat) : Bool :=
  let n := pwmTick s c * pwmPeriod s c
  s.flag (Reg.CEL_PWM_CFG.EN c) && decide ((s.pwm c).start < s.now) && (s.now - (s.pwm c).start) % n == 0

/-- A period starts: committed values and a cleared latch take effect (R662, R666). -/
def pwmPeriodStart (s : State) (c : Nat) : State :=
  if atPeriod s c then
    let s := pwmTake s c
    s.setPwm c { s.pwm c with start := s.now, wait := false }
  else s

/-- A write to CEL_PWMc_CFG: the count starts at 0 when EN becomes 1, keeps its value when PRESCALE changes, and a commit
that waits is taken when EN becomes 0 (R664-R666). -/
def writePwmCfg (s : State) (rq : Requester) (c data : Nat) : State :=
  let was := s.flag (Reg.CEL_PWM_CFG.EN c)
  let n := pwmCount s c
  let s := stdWrite s rq (0xF04001200 + 0x10 * c) data
  if s.flag (Reg.CEL_PWM_CFG.EN c) then
    if was then s.setPwm c { s.pwm c with start := s.now - n * pwmTick s c }
    else s.setPwm c { s.pwm c with start := s.now, wait := false }
  else pwmTake (s.setPwm c { s.pwm c with wait := false }) c

/-- An enabled loop that drives a channel, other than loop `but` (R688). -/
def drivenBy (s : State) (c but : Nat) : Bool :=
  (List.range 8).any fun l =>
    l != but && s.flag (Reg.CEL_PLE_CFG.EN l) && s.flag (Reg.CEL_PLE_CFG.OUT_EN l) && s.rd (Reg.CEL_PLE_CFG.PWM l) == c

/-- A write to CEL_PWMc_DUTY (R688). -/
def writeDuty (s : State) (rq : Requester) (c data : Nat) : State :=
  let addr := 0xF04001208 + 0x10 * c
  if drivenBy s c 8 then celRefused s addr data rq else stdWrite s rq addr data

/-! Plant Loop Engine (R684-R688). -/

/-- A loop. -/
def State.ple (s : State) (l : Nat) : Ple := Tbl.get s.cel.ple l {}

/-- A loop replaced. -/
def State.setPle (s : State) (l : Nat) (p : Ple) : State := { s with cel := { s.cel with ple := Tbl.put s.cel.ple l p {} } }

/-- A loop is enabled: prev is the target's active DUTY within the limits, and samples count from here (R684, R685). -/
def pleEnabled (s : State) (l : Nat) : State :=
  let d := if s.flag (Reg.CEL_PLE_CFG.OUT_EN l) then s.rd (Reg.CEL_PWM_DUTY.COUNT (s.rd (Reg.CEL_PLE_CFG.PWM l))) else 0
  s.setPle l ⟨s.now, clampI (s.rd (Reg.CEL_PLE_LIM.OUT_MIN l)) (s.rd (Reg.CEL_PLE_LIM.OUT_MAX l)) d⟩

/-- A write to CEL_PLEl_CFG (R684, R688). -/
def writePleCfg (s : State) (rq : Requester) (l data : Nat) : State :=
  let addr := 0xF04001400 + 0x20 * l
  let en := Reg.CEL_PLE_CFG.EN l
  let fixed := [Reg.CEL_PLE_CFG.SRC_KIND l, Reg.CEL_PLE_CFG.SRC l, Reg.CEL_PLE_CFG.PWM l, Reg.CEL_PLE_CFG.OUT_EN l]
  let free := [en, Reg.CEL_PLE_CFG.INV l, Reg.CEL_PLE_CFG.PERIOD_MS l]
  if s.flag en then
    let refused := fixed.any fun f => f.of data != s.rd f
    let s := noteRefused s rq addr data (free ++ fixed)
    (takeFields (if refused then celRefused s addr data rq else s) data free).answer 0
  else if bit data 0 ∧ bit data 15 ∧ drivenBy s (bits data 12 3) l then celRefused s addr data rq
  else
    let s := writeFields s rq addr data (free ++ fixed)
    (if s.flag en then pleEnabled s l else s).answer 0

/-- A write to CEL_PLEl_LIM (R688). -/
def writePleLim (s : State) (rq : Requester) (l data : Nat) : State :=
  let addr := 0xF0400140C + 0x20 * l
  if bits data 16 16 < bits data 0 16 then celRefused s addr data rq else stdWrite s rq addr data

/-- Ticks between samples of a loop (R684). -/
def plePeriod (s : State) (l : Nat) : Nat := 491520 * min 10000 (max 1 (s.rd (Reg.CEL_PLE_CFG.PERIOD_MS l)))

/-- Upper limit of a loop's output, lowered on battery (15 R724). -/
def pleMax (s : State) (l : Nat) : Nat :=
  let m := s.rd (Reg.CEL_PLE_LIM.OUT_MAX l)
  if s.flag Reg.CEL_HOLD_STAT.ON_BATTERY ∧ s.flag (Reg.CEL_HOLD_LIM.EN l) then min m (s.rd (Reg.CEL_HOLD_LIM.OUT_MAX_BAT l)) else m

/-- The procedure of R685 on its inputs: the output, the new INTEG and lim. -/
def pleCompute (sp pv kp ki integ prev outMin outMax slew : Int) (inv held : Bool) : Int × Int × Int :=
  let e := if inv then pv - sp else sp - pv
  let iTry := clampI (-2147483648) 2147483647 (integ + ki * e)
  let u := (kp * e + iTry) / 256
  let (u, lim) := if outMax < u then (outMax, (1 : Int)) else (u, 0)
  let (u, lim) := if u < outMin then (outMin, (-1 : Int)) else (u, lim)
  let (u, lim) := if slew ≠ 0 ∧ prev + slew < u then (prev + slew, (1 : Int)) else (u, lim)
  let (u, lim) := if slew ≠ 0 ∧ u < prev - slew then (prev - slew, (-1 : Int)) else (u, lim)
  (u, if held || (decide (0 < lim) && decide (0 < e)) || (decide (lim < 0) && decide (e < 0)) then integ else iTry, lim)

/-- PV of a loop (R684). -/
def plePv (s : State) (l : Nat) : Nat :=
  let src := s.rd (Reg.CEL_PLE_CFG.SRC l)
  match s.rd (Reg.CEL_PLE_CFG.SRC_KIND l) with
  | 0 => s.rd (Reg.CEL_ADC_RES.CODE src)
  | 1 => s.rd (Reg.CEL_TACH.FREQ (src % 8))
  | _ => s.rd (Reg.CEL_PLE_SP.PV_REG l)

/-- The source is an ADC channel that is not converted (R687). -/
def pleNoSource (s : State) (l : Nat) : Bool :=
  s.rd (Reg.CEL_PLE_CFG.SRC_KIND l) == 0 && !bit (s.rd Reg.CEL_ADC_CFG.CH_EN) (s.rd (Reg.CEL_PLE_CFG.SRC l))

/-- The output of a loop written to its channel and committed alone (R686). -/
def pleDrive (s : State) (l out : Nat) : State :=
  let c := s.rd (Reg.CEL_PLE_CFG.PWM l)
  if s.flag (Reg.CEL_PLE_CFG.OUT_EN l) then pwmCommit (s.wrShadow (Reg.CEL_PWM_DUTY.COUNT c) out) c else s

/-- One sample of a loop (R684-R687, 15 R724). -/
def pleSample (s : State) (l : Nat) : State :=
  if pleNoSource s l then
    if s.flag (Reg.CEL_PLE_STAT.NOSRC l) then s
    else (s.wr (Reg.CEL_PLE_STAT.NOSRC l) 1).logEvent 236 0x2008 l (s.rd (Reg.CEL_PLE_CFG.SRC_KIND l)) (s.rd (Reg.CEL_PLE_CFG.SRC l))
  else
    let c := s.rd (Reg.CEL_PLE_CFG.PWM l)
    let held := s.flag (Reg.CEL_PLE_CFG.OUT_EN l) && (pwmLatched s c || !s.flag (Reg.CEL_PWM_CFG.EN c))
    let pv := plePv s l
    let (u, integ, lim) := pleCompute (s.rd (Reg.CEL_PLE_SP.SP l)) pv (s.rd (Reg.CEL_PLE_GAIN.KP l)) (s.rd (Reg.CEL_PLE_GAIN.KI l))
      (sInt (s.rd (Reg.CEL_PLE_INTEG.INTEG l)) 32) (s.ple l).prev (s.rd (Reg.CEL_PLE_LIM.OUT_MIN l)) (pleMax s l)
      (s.rd (Reg.CEL_PLE_SLEW.SLEW l)) (s.flag (Reg.CEL_PLE_CFG.INV l)) held
    let out := ofInt u 16
    let s := ((s.wr (Reg.CEL_PLE_INTEG.INTEG l) (ofInt integ 32)).wr (Reg.CEL_PLE_OUT.OUT l) out).wr (Reg.CEL_PLE_OUT.PV l) pv
    let s := (s.wr (Reg.CEL_PLE_STAT.LIMITED l) (b2n (lim != 0))).setPle l { s.ple l with prev := u }
    pleDrive s l out

/-- A sample instant of an enabled loop. -/
def atPleSample (s : State) (l : Nat) : Bool :=
  let t := s.now - (s.ple l).enAt
  s.flag (Reg.CEL_PLE_CFG.EN l) && decide (0 < t) && t % plePeriod s l == 0

/-- The warming heater on PWM channel 6 at a duty in percent, as Floor sets it (R667). -/
def heaterOn (s : State) (duty : Nat) : State :=
  let d := 6144 * min 100 duty / 10
  let s := (((s.wrShadow (Reg.CEL_PWM_PERIOD.COUNT 6) 61440).wrShadow (Reg.CEL_PWM_DUTY.COUNT 6) d).wrShadow
    (Reg.CEL_PWM_DEAD.COUNT 6) 0)
  let s := pwmCommit (s.wr (Reg.CEL_PWM_CFG.PRESCALE 6) 7) 6
  if s.flag (Reg.CEL_PWM_CFG.EN 6) then s
  else (s.wr (Reg.CEL_PWM_CFG.EN 6) 1).setPwm 6 { s.pwm 6 with start := s.now, wait := false }

/-- The warming heater is switched off. -/
def heaterOff (s : State) : State := pwmTake (s.wr (Reg.CEL_PWM_CFG.EN 6) 0) 6

/-! The commands. -/

/-- PIN_CFG_WRITE (R628-R643). -/
def execPinCfgWrite (rq : Requester) (pin data : Nat) (s : State) : Host.Outcome State Fault Refusal :=
  whilePowered s fun s => atRegister s rq (0xF04000000 + 4 * (pin % 160)) true data fun s => writePin s rq (pin % 160) data

/-- GPIO_OUT_WRITE (R645). -/
def execGpioOutWrite (rq : Requester) (bank data : Nat) (s : State) : Host.Outcome State Fault Refusal :=
  whilePowered s fun s => atRegister s rq (0xF04000400 + 4 * (bank % 10)) true data fun s =>
    (gpioWrite s (some rq) (bank % 10) data).answer 0

/-- PINQ_WORD (R648). -/
def execPinqWord (s : State) : Host.Outcome State Fault Refusal := whilePowered s popPinWord

/-- MATCHER_HIT (R649-R653): the levels outside that a matcher has accepted; HIT sets where its mode says so. -/
def execMatcherHit (m : Nat) (levels : BitVec 16) (s : State) : Host.Outcome State Fault Refusal :=
  whilePowered s fun s => matcherHit s (m % 16) (matchVector s (m % 16) levels.toNat)

/-- MATCHER_OUT_CLEAR (R649-R651, R653). -/
def execMatcherOutClear (m : Nat) (levels : BitVec 16) (s : State) : Host.Outcome State Fault Refusal :=
  whilePowered s fun s => matcherClear s (m % 16) (matchVector s (m % 16) levels.toNat)

/-- ADC_CONVERSION (R654-R656, 15 R722, R725). -/
def execAdcConversion (ch : Nat) (uv : Int) (s : State) : Host.Outcome State Fault Refusal :=
  whilePowered s fun s => adcConverts s ch uv

/-- TACH_EDGE (R657). -/
def execTachEdge (t : Nat) (s : State) : Host.Outcome State Fault Refusal := whilePowered s fun s => tachEdge s (t % 8)

/-- TACH_TIMEOUT (R657). -/
def execTachTimeout (t : Nat) (s : State) : Host.Outcome State Fault Refusal := whilePowered s fun s => tachTimeout s (t % 8)

/-- WINDOW_EXIT (R658, R660, R661, R663). -/
def execWindowExit (k : Nat) (uv : Int) (s : State) : Host.Outcome State Fault Refusal :=
  whilePowered s fun s => windowExit s (k % 8) uv

/-- WINDOW_RETURN (R658, R663). -/
def execWindowReturn (k : Nat) (uv : Int) (s : State) : Host.Outcome State Fault Refusal :=
  whilePowered s fun s => windowReturn s (k % 8) uv

/-- TRIP_LATCH_CLEAR (R662). -/
def execTripLatchClear (rq : Requester) (data : Nat) (s : State) : Host.Outcome State Fault Refusal :=
  whilePowered s fun s => atRegister s rq 0xF040011C0 true data fun s => writeTripStat s rq data

/-- PWM_COMMIT (R666). -/
def execPwmCommit (rq : Requester) (data : Nat) (s : State) : Host.Outcome State Fault Refusal :=
  whilePowered s fun s => atRegister s rq 0xF04001280 true data fun s => writePwmCommit s data

/-- PWM_PERIOD_START (R662, R664, R666): nothing happens where no period of the channel starts. -/
def execPwmPeriodStart (ch : Nat) (s : State) : Host.Outcome State Fault Refusal :=
  whilePowered s fun s => pwmPeriodStart s (ch % 8)

/-- PLE_SAMPLE (R684-R687): nothing happens outside a sample instant of the loop. -/
def execPleSample (l : Nat) (s : State) : Host.Outcome State Fault Refusal :=
  whilePowered s fun s => if atPleSample s (l % 8) then pleSample s (l % 8) else s

end Sys2Proof.Machine
end

