-- ==== Sys2Proof/Machine/Fabric.lean ====
section
/-! DEFINITION. The Gensil fabric (chapter 07): cells, switch boxes and crossings, shelf switching, stream ports and the
cut-through path. -/

namespace Sys2Proof.Machine

/-! Regions. -/

/-- A region. -/
def State.region (s : State) (r : Nat) : Region := Tbl.get s.fab.regions r {}

/-- A region replaced. -/
def State.setRegion (s : State) (r : Nat) (x : Region) : State :=
  { s with fab := { s.fab with regions := Tbl.put s.fab.regions r x {} } }

/-- The region runs: its domain is on and it is not isolated; at FENCE_REQ it runs on until FENCE_ACK (07 R360). -/
def regionRuns (s : State) (r : Nat) : Bool := s.domOn (10 + r) && !(s.region r).isolated

/-- The region takes words from the lanes that enter it: it runs and is not being fenced (07 R361). -/
def takesIn (s : State) (r : Nat) : Bool := regionRuns s r && s.domUp (10 + r)

/-- A region after its domain switches on (07 R345). -/
def regionFresh : Region := {}

/-! Records (07 R326, R334, R335). -/

/-- Fabric cycles by which island `m` of a region takes a switch later than its first island, in Adaptive Clocking Mode: up to 4, a
free value (07 R341). -/
def switchLag (seed m : Nat) : Nat := Config.freeValue seed / 5 ^ m % 5

/-- The shelf that island `m` of a region runs in a fabric cycle: until it takes the last switch, the one before (07 R340, R341). -/
def shelfIn (x : Region) (cycle m : Nat) : Nat :=
  match x.old with
  | some (k, c, seed) => if cycle < c + switchLag seed m then k else x.active
  | none => x.active

/-- A cell record as a number, first 128 bits. -/
def cellRecord (x : Region) (cycle n : Nat) : Nat := Mem.num x.img (0x4000 * shelfIn x cycle (n / 8) + 64 * n) 16

/-- A switch-box record as a number, first 240 bits. -/
def boxRecord (x : Region) (cycle m : Nat) : Nat := Mem.num x.img (0x4000 * shelfIn x cycle m + 8192 + 64 * m) 30

/-- A selector of a switch-box record. -/
def selector (box i : Nat) : Nat := bits box (6 * i) 6

/-- Cell record number `rec` holds no reserved value (07 R326). -/
def cellRecordOk (rec : Nat) : Bool :=
  let op := bits rec 0 5
  decide (op ≤ 13) && (decide (op < 12) || bit rec 5) && bits rec 14 3 != 7 && bits rec 17 2 != 3 &&
    decide (bits rec 19 4 ≤ 8) && decide (bits rec 23 4 ≤ 8) && decide (bits rec 29 3 ≤ 5) && bits rec 38 26 == 0 &&
    rec / 2 ^ 128 == 0

/-- A switch-box record holds no reserved value (07 R334, R335). -/
def boxRecordOk (box : Nat) : Bool :=
  ((List.range 40).all fun i => decide (selector box i < 32) || selector box i == 63) && box / 2 ^ 240 == 0

/-- A shelf image of 9,216 bytes holds no reserved value (04 R168, 07 R326, R334). -/
def shelfImageOk (bs : List Byte) : Bool :=
  bs.length == 9216 && ((List.range 128).all fun n => cellRecordOk (field bs (64 * n) 64)) &&
    (List.range 16).all fun m => boxRecordOk (field bs (8192 + 64 * m) 64)

/-- An idle entry holds no reserved value (04 R211). -/
def idleEntryOk (e : Nat) : Bool := bits e 0 2 != 3 && bits e 2 30 == 0

/-- A REGION_IMAGE body of 140,032 bytes holds no reserved value (04 R211). -/
def regionImageOk (bs : List Byte) : Bool :=
  bs.length == 140032 && ((List.range 8).all fun k => shelfImageOk (slice bs (9216 * k) 9216)) &&
    (List.range 96).all fun e => idleEntryOk (field bs (73728 + 65536 + 8 * e) 8)

/-- A shelf image written to its place (07 R367). -/
def writeShelf (x : Region) (k : Nat) (bs : List Byte) : Region := { x with img := Mem.writeN x.img (0x4000 * k) bs }

/-- A REGION_IMAGE body written: eight shelves, function tables, idle entries (04 R211, 07 R367). -/
def writeRegionImage (x : Region) (bs : List Byte) : Region :=
  let x := (List.range 8).foldl (fun x k => writeShelf x k (slice bs (9216 * k) 9216)) x
  { x with img := Mem.writeN (Mem.writeN x.img 0x20000 (slice bs 73728 65536)) 0x30000 (slice bs 139264 768) }

/-- The word that the read-only shelf window of a region shows at an offset (07 R367). -/
def shelfWindowWord (x : Region) (o : Nat) : Nat :=
  if o < 0x20000 then
    if bit x.valid (o / 0x4000) ∧ o % 0x4000 < 9216 then Mem.num x.img o 4 else 0
  else if o < 0x30300 then Mem.num x.img o 4
  else 0

/-! The cell (07 R326-R333). -/

/-- The low 16 bits of an integer, or its nearest 16-bit value when saturating. -/
def to16 (sat : Bool) (i : Int) : Nat := if sat then ofInt (clampI (-32768) 32767 i) 16 else ofInt i 16

/-- One ALU operation on two 16-bit numbers (07 R326). -/
def aluPart (op : Nat) (sat : Bool) (a b : Nat) : Nat :=
  let x := sInt a 16
  let y := sInt b 16
  match op with
  | 1 => a
  | 2 => to16 sat (x + y)
  | 3 => to16 sat (x - y)
  | 4 => to16 sat (y - x)
  | 5 => a &&& b
  | 6 => a ||| b
  | 7 => a ^^^ b
  | 8 => if x ≤ y then a else b
  | 9 => if x ≤ y then b else a
  | 10 => to16 sat (if x < 0 then -x else x)
  | 11 => to16 sat (-x)
  | _ => 0

/-- The ALU on two operands in real or complex mode (07 R326, R327). -/
def aluOp (op : Nat) (cplx sat : Bool) (a b : Nat) : Nat :=
  let re (v : Nat) := v % 65536
  let im (v : Nat) := v / 65536 % 65536
  if cplx then
    match op with
    | 12 => re a + 65536 * to16 sat (-sInt (im a) 16)
    | 13 => to16 sat (-sInt (im a) 16) + 65536 * re a
    | _ => aluPart op sat (re a) (re b) + 65536 * aluPart op sat (im a) (im b)
  else aluPart op sat a b

/-- The compare/shift unit (07 R326, R328). -/
def csOp (op : Nat) (cplx : Bool) (a b : Nat) : Nat :=
  let w := if cplx then 32 else 16
  let truth (p : Prop) [Decidable p] := if p then 0xFFFF else 0
  match op with
  | 1 => truth (sInt a w < sInt b w)
  | 2 => truth (a = b)
  | 3 => truth (sInt b w < sInt a w)
  | 4 => a * 2 ^ (b % 16) % 2 ^ w
  | 5 => ofInt (sInt a w / 2 ^ (b % 16)) w
  | 6 => a / 2 ^ (b % 16)
  | _ => 0

/-- Entry `e` of a cell's function table (07 R333). -/
def tableEntry (x : Region) (n e : Nat) : Nat := Mem.num x.img (0x20000 + 512 * n + 2 * e) 2

/-- The function table (07 R326, R331). -/
def tableOp (x : Region) (n mode a : Nat) : Nat :=
  match mode with
  | 1 => tableEntry x n (a % 256)
  | 2 =>
    let i := a / 256 % 256
    let t0 := sInt (tableEntry x n i) 16
    let t1 := sInt (tableEntry x n (min 255 (i + 1))) 16
    ofInt (t0 + (t1 - t0) * (a % 256 : Nat) / 256) 16
  | _ => 0

/-- An accumulator at output: shifted right with rounding half up and saturated to 16 bits (07 R330). -/
def macOut (acc : BitVec 40) (shift : Nat) : Nat :=
  let r := if shift = 0 then 0 else (2 : Int) ^ (shift - 1)
  ofInt (clampI (-32768) 32767 ((acc.toInt + r) / 2 ^ shift)) 16

/-- An operand: its source word, its valid bit where it is a lane input, and the half that real mode takes (07 R326, R327,
R332). -/
def operand (c : Cell) (rec : Nat) (X Y : Lane) (lo hiBit : Nat) : Nat × Bool :=
  let (w, v) : Word × Bool := match bits rec lo 4 with
    | 0 => (X.d, X.v)
    | 1 => (Y.d, Y.v)
    | 2 => (c.h0, true)
    | 3 => (c.h1, true)
    | 4 => (c.h2, true)
    | 5 => (c.h3, true)
    | 6 => (BitVec.ofNat 32 (bits rec 64 32), true)
    | 7 => (BitVec.ofNat 32 (bits rec 96 32), true)
    | _ => (c.alu, true)
  if bit rec 5 then (w.toNat, v) else (if bit rec hiBit then w.toNat / 65536 else w.toNat % 65536, v)

/-- The products that a MAC adds to its two accumulators (07 R329). -/
def macProducts (cplx : Bool) (a b : Nat) : Int × Int :=
  if cplx then
    let ar := sInt (a % 65536) 16
    let ai := sInt (a / 65536) 16
    let br := sInt (b % 65536) 16
    let bi := sInt (b / 65536) 16
    (ar * br - ai * bi, ar * bi + ai * br)
  else (sInt a 16 * sInt b 16, 0)

/-- One MAC cycle: the accumulators, and the result on its way to O (07 R326, R329, R330).  In complex mode a pair is taken
in every fourth fabric cycle. -/
def macStep (c : Cell) (rec cycle a b : Nat) (v : Bool) : Cell :=
  let cplx := bit rec 5
  let op := bits rec 7 2
  let shift := bits rec 9 5
  if op = 0 ∨ (cplx ∧ cycle % 4 ≠ 0) then c
  else
    let (p0, p1) := macProducts cplx a b
    let due := cycle + if cplx then 6 else 3
    let word (x y : BitVec 40) : Word := BitVec.ofNat 32 (macOut x shift + if cplx then 65536 * macOut y shift else 0)
    match op with
    | 1 => { c with mac := c.mac ++ [(due, ⟨word (BitVec.ofInt 40 p0) (BitVec.ofInt 40 p1), v⟩)] }
    | _ =>
      let add := v || !bit rec 37
      let s0 := if add then c.acc0 + BitVec.ofInt 40 p0 else c.acc0
      let s1 := if add then c.acc1 + BitVec.ofInt 40 p1 else c.acc1
      if op = 2 then { c with acc0 := s0, acc1 := s1 }
      else { c with acc0 := 0, acc1 := 0, mac := c.mac ++ [(due, ⟨word s0 s1, v⟩)] }

/-- One fabric cycle of a cell from its inputs (07 R326-R332). -/
def cellStep (x : Region) (n cycle : Nat) (c : Cell) (X Y : Lane) : Cell :=
  let rec_ := cellRecord x cycle n
  let (a, va) := operand c rec_ X Y 19 27
  let (b, vb) := operand c rec_ X Y 23 28
  let op := bits rec_ 0 5
  let cplx := bit rec_ 5
  let unary := op = 1 ∨ 10 ≤ op
  let r := aluOp op cplx (bit rec_ 6) a b
  let c1 := macStep c rec_ cycle a b (va && vb)
  let macNow : Lane := match c1.mac.find? fun m => m.1 == cycle + 1 with
    | some m => m.2
    | none => {}
  let o : Lane := match bits rec_ 29 3 with
    | 0 => ⟨BitVec.ofNat 32 r, if unary then va else va && vb⟩
    | 1 => macNow
    | 2 => ⟨BitVec.ofNat 32 (csOp (bits rec_ 14 3) cplx a b), va && vb⟩
    | 3 => ⟨BitVec.ofNat 32 (tableOp x n (bits rec_ 17 2) a), va⟩
    | 4 => X
    | _ => Y
  let we (k : Nat) (h : Word) : Word := if bit rec_ (32 + k) && (o.v || !bit rec_ 37) then o.d else h
  { c1 with h0 := we 0 c.h0, h1 := we 1 c.h1, h2 := we 2 c.h2, h3 := we 3 c.h3, alu := BitVec.ofNat 32 r, o,
            mac := c1.mac.filter fun m => decide (cycle + 1 < m.1) }

/-! Islands, lanes and crossings (07 R321-R325, R336). -/

/-- Island row and column in the whole fabric, 12 rows of 8. -/
def islandPos (i : Nat) : Nat × Nat :=
  let r := i / 16
  (4 * (r / 2) + i % 16 / 4, 4 * (r % 2) + i % 4)

/-- Island at a row and column of the whole fabric. -/
def islandAt (row col : Nat) : Nat := 16 * (2 * (row / 4) + col / 4) + 4 * (row % 4) + col % 4

/-- Where an outgoing island lane leads. -/
inductive LaneEnd where
  | island (i lane : Nat)
  | port (p lane : Nat)
  | open_
  deriving DecidableEq, Repr

/-- The far end of an outgoing island lane: the facing lane of the next island, a stream-port lane, or nothing (07 R323-R325). -/
def laneEnd (i lane : Nat) : LaneEnd :=
  let (row, col) := islandPos i
  let p := lane / 2
  let k := lane % 2
  if p < 4 then
    if 0 < row then .island (islandAt (row - 1) col) (2 * (6 + p) + k)
    else if col < 4 then .port (6 + k) (4 * col + p) else .open_
  else if p < 6 then
    if col < 7 then .island (islandAt row (col + 1)) (2 * (10 + (p - 4)) + k)
    else .port (2 * (row / 4) + 1) (2 * (2 * (row % 4) + (p - 4)) + k)
  else if p < 10 then
    if row < 11 then .island (islandAt (row + 1) col) (2 * (p - 6) + k) else .open_
  else
    if 0 < col then .island (islandAt row (col - 1)) (2 * (4 + (p - 10)) + k)
    else .port (2 * (row / 4)) (2 * (2 * (row % 4) + (p - 10)) + k)

/-- The island and its incoming lane that a stream-port lane drives (07 R325). -/
def portLane (p l : Nat) : Nat × Nat :=
  if 6 ≤ p then (islandAt 0 (l / 4 % 4), 2 * (l % 4) + (p - 6) % 2)
  else if p % 2 = 0 then (islandAt (4 * (p / 2) + l / 4) 0, 2 * (10 + l / 2 % 2) + l % 2)
  else (islandAt (4 * (p / 2) + l / 4) 7, 2 * (4 + l / 2 % 2) + l % 2)

/-- Region that a stream port is attached to (07 R320). -/
def portRegion (p : Nat) : Nat := if p < 6 then p else 0

/-- Border lane number of an outgoing island lane on its region's outline (07 R323). -/
def borderLane (i lane : Nat) : Option Nat :=
  let a := i % 16 / 4
  let b := i % 4
  let p := lane / 2
  let k := lane % 2
  if p < 4 ∧ a = 0 then some (2 * (4 * b + p) + k)
  else if 4 ≤ p ∧ p < 6 ∧ b = 3 then some (2 * (16 + 2 * a + (p - 4)) + k)
  else if 6 ≤ p ∧ p < 10 ∧ a = 3 then some (2 * (24 + 4 * b + (p - 6)) + k)
  else if 10 ≤ p ∧ b = 0 then some (2 * (40 + 2 * a + (p - 10)) + k)
  else none

/-- The idle value of a border lane leaving a region (04 R211, R214). -/
def idleValue (x : Region) (e : Nat) : Lane :=
  let v := Mem.num x.img (0x30000 + 8 * e) 8
  match bits v 0 2 with
  | 1 => Tbl.get x.last e {}
  | 2 => ⟨BitVec.ofNat 32 (bits v 32 32), Config.idleValid 2⟩
  | c => ⟨0, Config.idleValid c⟩

/-- The crossing follows the Deterministic rule: the mode, or both islands pinned (03 R132, R133). -/
def crossingFixed (s : State) (i j : Nat) : Bool :=
  s.rd Reg.CLK_MODE.MODE == 2 || (s.ck.pinned.contains i && s.ck.pinned.contains j)

/-- Fabric cycle in which a word sent now towards an island lane is taken (03 R131, R132, 07 R336).  A lane carries one word in a
cycle, so that of several words due in one cycle the later ones follow in the next (DEDUCED, log entry 96). -/
def takenAt (s : State) (src island lane : Nat) : Nat :=
  let c := s.fab.cycle
  let t := if crossingFixed s src island then 4 * (c / 4) + 9
    else c + 3 + b2n (Config.crossingLate c (24 * island + lane))
  match Tbl.find s.fab.lastTaken (24 * island + lane) with
  | none => t
  | some p => max t (p + 1)

/-- The crossing towards an island lane holds 8 words, or has words held before it (03 R134).  An entry is free again in the cycle
before its word is taken, the beat on which the word crosses, so that a word a cycle never fills a crossing (DEDUCED, log
entry 97). -/
def crossingFull (s : State) (island lane : Nat) : Bool :=
  (s.fab.held.any fun h => h.2.1 == island && h.2.2.1 == lane) ||
    decide (8 ≤ (s.fab.flights.filter fun f => f.island == island && f.lane == lane && decide (s.fab.cycle + 1 < f.at_)).length)

/-- A word sent into a crossing towards an island lane; a full one holds it at its sender (03 R134). -/
def sendTo (s : State) (src island lane : Nat) (w : Lane) : State :=
  if w.v then
    if crossingFull s island lane then
      { s with fab := { s.fab with held := s.fab.held ++ [(src, island, lane, w)] } }
    else
      let t := takenAt s src island lane
      { s with fab := { s.fab with flights := s.fab.flights ++ [⟨t, island, lane, w⟩],
                                   lastTaken := Tbl.set s.fab.lastTaken (24 * island + lane) t } }
  else s

/-- The held words try their crossings again, in order. -/
def releaseHeld (s : State) : State :=
  s.fab.held.foldl (fun s h => sendTo s h.1 h.2.1 h.2.2.1 h.2.2.2) { s with fab := { s.fab with held := [] } }

/-- The word that an island takes from an incoming lane in this cycle: an isolated neighbour's idle value, or the word whose
crossing ends now; nothing from beyond the border of a region that is being fenced (04 R214, 07 R361). -/
def incoming (s : State) (i lane : Nat) : Lane :=
  let fromFlight : Lane := match s.fab.flights.find? fun f => f.at_ == s.fab.cycle && f.island == i && f.lane == lane with
    | some f => f.w
    | none => {}
  match laneEnd i lane with
  | .island j jl =>
    if j / 16 = i / 16 then fromFlight
    else if !s.domUp (10 + i / 16) then {}
    else if (s.region (j / 16)).isolated then
      match borderLane j jl with
      | some e => idleValue (s.region (j / 16)) e
      | none => {}
    else fromFlight
  | _ => if s.domUp (10 + i / 16) then fromFlight else {}

/-- What a switch-box selector selects (07 R335). -/
def selected (s : State) (x : Region) (i sel : Nat) : Lane :=
  if sel < 24 then incoming s i sel
  else if sel < 32 then (Tbl.get x.cells (8 * (i % 16) + (sel - 24)) {}).o
  else {}

/-- Cells of islands `ms` whose new record has CLR = 1 clear their holds and accumulators (07 R326, R340). -/
def clearCells (x : Region) (cycle : Nat) (ms : List Nat) : Region :=
  { x with cells := (ms.flatMap fun m => (List.range 8).map (8 * m + ·)).foldl (fun t n =>
      if bit (cellRecord x cycle n) 36 then
        Tbl.put t n { Tbl.get t n {} with h0 := 0, h1 := 0, h2 := 0, h3 := 0, acc0 := 0, acc1 := 0 } {}
      else t) x.cells }

/-- The islands of a region that take its last switch in this cycle, later than its first. -/
def switchingNow (x : Region) (cycle : Nat) : List Nat :=
  match x.old with
  | some (_, c, seed) => (List.range 16).filter fun m => c + switchLag seed m == cycle && decide (0 < switchLag seed m)
  | none => []

/-- The cells of a running region after one fabric cycle. -/
def cellsAfter (s : State) (r : Nat) : Tbl Cell :=
  let x := clearCells (s.region r) s.fab.cycle (switchingNow (s.region r) s.fab.cycle)
  (List.range 16).foldl (fun t m =>
    let i := 16 * r + m
    let box := boxRecord x s.fab.cycle m
    (List.range 8).foldl (fun t k =>
      let n := 8 * m + k
      let X := selected s x i (selector box (24 + 2 * k))
      let Y := selected s x i (selector box (25 + 2 * k))
      Tbl.put t n (cellStep x n s.fab.cycle (Tbl.get x.cells n {}) X Y) {}) t) x.cells

/-- The words that a running region's islands send in one fabric cycle: island, outgoing lane, word. -/
def regionSends (s : State) (r : Nat) : List (Nat × Nat × Lane) :=
  let x := s.region r
  ((List.range 16).map fun m =>
    let box := boxRecord x s.fab.cycle m
    (List.range 24).map fun l => (16 * r + m, l, selected s x (16 * r + m) (selector box l))).flatten

/-- A word leaves an island on a lane: into the crossing to the next island if its region runs, to a stream port, or nowhere. -/
def leave (s : State) (e : Nat × Nat × Lane) : State :=
  let (i, l, w) := e
  let r := i / 16
  let s := match borderLane i l with
    | some b => s.setRegion r { s.region r with last := Tbl.put (s.region r).last b w {} }
    | none => s
  match laneEnd i l with
  | .island j jl => if r = j / 16 ∨ takesIn s (j / 16) = true then sendTo s i j jl w else s
  | .port p pl => sendTo s i (96 + p) pl w
  | .open_ => s

/-- One fabric cycle of every running region: cells take their inputs, lanes leave (07 R326-R336). -/
def fabricCycle (s : State) : State :=
  let rs := (List.range 6).filter (regionRuns s)
  let s1 := rs.foldl (fun t r => (regionSends s r).foldl leave t) s
  let s2 := rs.foldl (fun t r => t.setRegion r { t.region r with cells := cellsAfter s r }) s1
  { s2 with fab := { s2.fab with cycle := s2.fab.cycle + 1 } }

/-! Shelf switching (07 R337-R345). -/

/-- A request replaced or discarded is counted and logged at most once per second per region (07 R339). -/
def noteCollide (s : State) (r : Nat) : State :=
  let s := s.bump (Reg.GFB_REG_SW_COLLIDE.COUNT r) 1
  let kept := match (s.region r).pend with
    | some p => p.target
    | none => (s.region r).active
  s.logLimited r 148 0x1404 r kept (s.rd (Reg.GFB_REG_SW_COLLIDE.COUNT r))

/-- A switch request reaches a region: of two, the one of lower rank, or of equal rank the earlier, is replaced or discarded
(07 R339). -/
def requestSwitch (s : State) (r : Nat) (p : Pend) : State :=
  if !regionRuns s r ∨ !s.domUp (10 + r) then s
  else match (s.region r).pend with
    | none => s.setRegion r { s.region r with pend := some p }
    | some old =>
      if old.rank ≤ p.rank then noteCollide (s.setRegion r { s.region r with pend := some p }) r
      else noteCollide s r

/-- Every island of a region switches in the same cycle: in Deterministic Clocking Mode, or with all of them pinned (07 R341). -/
def switchTogether (s : State) (r : Nat) : Bool :=
  s.rd Reg.CLK_MODE.MODE == 2 || (List.range 16).all fun m => s.ck.pinned.contains (16 * r + m)

/-- The region takes a shelf: its islands together, or each with a lag of its own (07 R340, R341).  The islands read the device
time of the CLK unit with no other lag (DESIGN CHOICE, log entry 93). -/
def takeShelf (s : State) (r target : Nat) : State :=
  let x := s.region r
  if switchTogether s r then
    s.setRegion r (clearCells { x with pend := none, active := target, old := none } s.fab.cycle (List.range 16))
  else
    let y := { x with pend := none, active := target, old := some (shelfIn x s.fab.cycle 0, s.fab.cycle, s.fresh) }
    s.useFresh.setRegion r
      (clearCells y s.fab.cycle ((List.range 16).filter fun m => switchLag s.fresh m == 0))

/-- At T the pending switch takes place, or is refused because its shelf is not valid (07 R340, R344, 04 R207). -/
def doSwitch (s : State) (r : Nat) : State :=
  let x := s.region r
  match x.pend with
  | none => s
  | some p =>
    if s.now < p.at_ ∨ !regionRuns s r then s
    else if !bit x.valid p.target then
      (s.setRegion r { x with pend := none }).logEvent 148 0x0313 r p.target x.active
    else (takeShelf s r p.target).count (Reg.GFB_REG_SW_COUNT.COUNT r)

/-- A region is fenced, reloaded or switched off: its pending switch goes without an entry and its lanes turn idle (07 R343,
R360). -/
def isolateRegion (s : State) (r : Nat) : State := s.setRegion r { s.region r with pend := none, isolated := true }

/-- The timer's request at the arming instant (07 R338). -/
def armTimer (s : State) (r : Nat) : State :=
  let at_ := s.rdPair (Reg.GFB_REG_SW_AT_LO.AT r) (Reg.GFB_REG_SW_AT_HI.AT r)
  requestSwitch s r ⟨2, s.rd (Reg.GFB_REG_SW_CFG.AT_SHELF r), max at_ (s.now + 64)⟩

/-- The trigger cell's request: the cell that TRIG_CELL names carries V = 1 and bit 31 (07 R338). -/
def triggerSwitch (s : State) (r : Nat) : State :=
  let o := (Tbl.get (s.region r).cells (s.rd (Reg.GFB_REG_SW_CFG.TRIG_CELL r)) {}).o
  if s.flag (Reg.GFB_REG_SW_CFG.CELL_EN r) ∧ o.v ∧ bit o.d.toNat 31 then
    requestSwitch s r ⟨1, o.d.toNat % 8, s.now + 16⟩ else s

/-- The firmware's request (07 R338). -/
def firmwareSwitch (s : State) (r shelf : Nat) : State := (requestSwitch s r ⟨0, shelf % 8, s.now + 64⟩).answer 0

/-! Stream ports (07 R346-R354). -/

/-- A channel beyond its registers; channels 0-3 of a port are outbound and 4-7 inbound. -/
def State.chan (s : State) (p c : Nat) : Channel := Tbl.get s.fab.channels (8 * p + c) {}

/-- A channel replaced. -/
def State.setChan (s : State) (p c : Nat) (x : Channel) : State :=
  { s with fab := { s.fab with channels := Tbl.put s.fab.channels (8 * p + c) x {} } }

/-- Ring base of a channel. -/
def chBase (s : State) (p c : Nat) : Nat := s.rdPair (Reg.GFB_CH_BASE_LO.ADDR p c) (Reg.GFB_CH_BASE_HI.ADDR p c)

/-- The requester of a channel (07 R348). -/
def chRequester (s : State) (p c : Nat) : Requester := ⟨28 + p, s.rd (Reg.GFB_CH_CFG.CLASS p c)⟩

/-- A refused stream-port configuration write (07 R351, R353). -/
def spRefused (s : State) (p addr data : Nat) (rq : Requester) : State :=
  (s.logEvent (96 + p) 0x1406 addr data rq.ni).answer 0

/-- The ring and lanes of a channel are valid (07 R351). -/
def channelOk (s : State) (p c : Nat) : Bool :=
  let base := chBase s p c
  let size := s.rd (Reg.GFB_CH_SIZE.BYTES p c)
  let lanes := s.rd (Reg.GFB_CH_LANES.LANES p c)
  let same := (List.range 8).filter fun d => d / 4 == c / 4 && d != c
  base % 64 == 0 && size % 64 == 0 && decide (4096 ≤ size) && inMemory base size &&
    (same.all fun d => s.rd (Reg.GFB_CH_LANES.LANES p d) &&& lanes == 0) &&
    s.rd (Reg.GFB_SP_CFG.CONV p) &&& lanes == 0 &&
    !(c < 4 && s.flag (Reg.GFB_SP_CFG.HATCH p) && bit lanes 15)

/-- A write to BASE, SIZE or LANES of a channel, refused while MODE is above 0 (07 R351). -/
def writeChField (s : State) (rq : Requester) (p c : Nat) (f : Fld) (data : Nat) : State :=
  if s.rd (Reg.GFB_CH_CFG.MODE p c) ≠ 0 then spRefused s p f.addr data rq else (s.wr f data).answer 0

/-- A write to GFB_SPp_CFG (07 R352, R353, 11 R506). -/
def writeSpCfg (s : State) (rq : Requester) (p data : Nat) : State :=
  let conv := bits data 0 16
  if conv ≠ 0 ∧ (p < 6 ∨ s.part = .jx720 ∨ 256 ≤ conv) then spRefused s p (0xF01002000 + 0x400 * p) data rq
  else ((s.wr (Reg.GFB_SP_CFG.CONV p) conv).wr (Reg.GFB_SP_CFG.HATCH p) (bits data 16 1)).answer 0

/-- A bus error on a channel's request stops the channel (07 R350). -/
def channelError (s : State) (p c addr : Nat) : State :=
  (s.wr (Reg.GFB_CH_CFG.ERR p c) 1).logEvent (96 + p) 0x1402 p c addr

/-- A word dropped for want of room (07 R349). -/
def channelDrop (s : State) (p c : Nat) : State :=
  let s := s.bump (Reg.GFB_CH_DROP.COUNT p c) 1
  s.logLimited p (96 + p) 0x1401 p c (s.rd (Reg.GFB_CH_DROP.COUNT p c))

/-- Lines of an outbound ring channel written while the ring has room (07 R347, R349); `fuel` bounds the lines. -/
def drainFifo (s : State) (p c : Nat) : Nat → State
  | 0 => s
  | fuel + 1 =>
    let ptr := s.rd (Reg.GFB_CH_PTR.OFFSET p c)
    let size := s.rd (Reg.GFB_CH_SIZE.BYTES p c)
    match (s.chan p c).fifo with
    | [] => s
    | l :: rest =>
      if s.flag (Reg.GFB_CH_CFG.ERR p c) ∨ (ptr + 64) % size = s.rd (Reg.GFB_CH_FPTR.OFFSET p c) % size then s
      else
        let (s, ok) := s.busWrite (chRequester s p c) (chBase s p c + ptr) l
        if ok then
          drainFifo ((s.setChan p c { s.chan p c with fifo := rest }).wr (Reg.GFB_CH_PTR.OFFSET p c) ((ptr + 64) % size)) p c fuel
        else channelError s p c (chBase s p c + ptr)

/-- A channel restarts: ERR clears, and the lines that wait in an outbound ring's FIFO are written (07 R350). -/
def restartChannel (s : State) (p c : Nat) : State :=
  let s := s.wr (Reg.GFB_CH_CFG.ERR p c) 0
  if c < 4 ∧ s.rd (Reg.GFB_CH_CFG.MODE p c) = 1 then drainFifo s p c 64 else s

/-- A write to a channel's CFG register (07 R350, R351, 00 R17-R19). -/
def writeChCfg (s : State) (rq : Requester) (p c data : Nat) : State :=
  let addr := 0xF01002100 + 0x400 * p + 0x40 * c
  let mode := bits data 0 2
  if mode ≠ 3 ∧ mode ≠ 0 ∧ !channelOk s p c then spRefused s p addr data rq
  else
    let s := if mode = 3 then s.logEvent (96 + p) 0x0102 addr data rq.ni else s.wr (Reg.GFB_CH_CFG.MODE p c) mode
    let s := (s.wr (Reg.GFB_CH_CFG.CLASS p c) (bits data 2 2)).wr (Reg.GFB_CH_CFG.QUEUE p c) (bits data 16 7)
    (if bit data 31 then restartChannel s p c else s).answer 0

/-- A word joins the line being packed; a full line joins the FIFO and is written as the ring has room (07 R347, R349). -/
def ringWord (s : State) (p c : Nat) (w : Word) : State :=
  let x := s.chan p c
  if 64 ≤ x.fifo.length then channelDrop s p c
  else
    let line := x.line ++ leBytes 4 w.toNat
    if line.length < 64 then s.setChan p c { x with line }
    else drainFifo (s.setChan p c { x with line := [], fifo := x.fifo ++ [line] }) p c 64

/-- A word joins a 64-bit word; a whole one is pushed to the channel's queue, every PKT_WORDS-th with the end mark (07 R347). -/
def queueWord (s : State) (p c : Nat) (w : Word) : State :=
  let x := s.chan p c
  match x.half with
  | none => s.setChan p c { x with half := some w }
  | some lo =>
    let n := max 1 (s.rd (Reg.GFB_CH_PKT_WORDS.WORDS p c))
    let ending := decide (n ≤ x.words + 1)
    let a := 0xF00510000 + 0x100 * s.rd (Reg.GFB_CH_CFG.QUEUE p c) + if ending then 0x40 else 0
    let s := s.setChan p c { x with half := none, words := if ending then 0 else x.words + 1 }
    let (s, ok) := s.busWrite (chRequester s p c) a (leBytes 4 lo.toNat ++ leBytes 4 w.toNat)
    if ok then s else channelError s p c a

/-- An outbound channel takes a valid word from one of its lanes (07 R346, R347, R349, R350). -/
def outboundWord (s : State) (p c : Nat) (w : Word) : State :=
  match s.rd (Reg.GFB_CH_CFG.MODE p c) with
  | 0 => s
  | m =>
    if s.flag (Reg.GFB_CH_CFG.ERR p c) then channelDrop s p c
    else if m = 1 then ringWord s p c w
    else queueWord s p c w

/-- Words that an inbound channel has read wait for its lanes (07 R346). -/
def deliver (s : State) (p c : Nat) (ws : List Word) : State :=
  s.setChan p c { s.chan p c with inq := (s.chan p c).inq ++ ws }

/-- One word for each lane, in order, as far as the words reach (07 R346); a lane whose crossing is full holds the channel (03
R134), and a region that takes nothing discards the words (07 R354, R361). -/
def sendLanes (s : State) (p c : Nat) : List Nat → State
  | [] => s
  | l :: rest =>
    let x := s.chan p c
    let (i, k) := portLane p l
    match x.inq with
    | [] => s
    | w :: ws =>
      if !takesIn s (portRegion p) then sendLanes (s.setChan p c { x with inq := ws }) p c rest
      else if crossingFull s i k then s
      else sendLanes (sendTo (s.setChan p c { x with inq := ws }) (96 + p) i k ⟨w, true⟩) p c rest

/-- What the inbound channels deliver in one fabric cycle: at most one word per bound lane, in ascending lane order; a lane in the
CONV mask is the converter link's (07 R346, R353). -/
def inboundCycle (s : State) : State :=
  (s.fab.channels.filter fun x => decide (4 ≤ x.1 % 8) && !x.2.inq.isEmpty).foldl (fun s x =>
    let p := x.1 / 8
    sendLanes s p (x.1 % 8) (ones (andNot (s.rd (Reg.GFB_CH_LANES.LANES p (x.1 % 8))) (s.rd (Reg.GFB_SP_CFG.CONV p))) 16)) s

/-- Bytes as 32-bit words. -/
def words4 : Nat → List Byte → List Word
  | 0, _ => []
  | n + 1, bs => BitVec.ofNat 32 (field bs 0 4) :: words4 n (bs.drop 4)

/-- An inbound channel reads a ring line while PTR differs from FPTR, or pops its queue, and unpacks the words for its lanes (07
R347, R350). -/
def inboundWord (s : State) (p c : Nat) : State :=
  if s.flag (Reg.GFB_CH_CFG.ERR p c) then s
  else match s.rd (Reg.GFB_CH_CFG.MODE p c) with
    | 0 => s
    | 1 =>
      let ptr := s.rd (Reg.GFB_CH_PTR.OFFSET p c)
      let size := s.rd (Reg.GFB_CH_SIZE.BYTES p c)
      if ptr = s.rd (Reg.GFB_CH_FPTR.OFFSET p c) then s
      else match s.busRead (chRequester s p c) (chBase s p c + ptr) 64 with
        | (s, none) => channelError s p c (chBase s p c + ptr)
        | (s, some (bs, _)) => (deliver s p c (words4 16 bs)).wr (Reg.GFB_CH_PTR.OFFSET p c) ((ptr + 64) % size)
    | _ =>
      let a := 0xF00510080 + 0x100 * s.rd (Reg.GFB_CH_CFG.QUEUE p c)
      match s.busRead (chRequester s p c) a 16 with
      | (s, none) => channelError s p c a
      | (s, some (bs, _)) => if bit (field bs 8 8) 1 then deliver s p c (words4 2 bs) else s

/-! The cut-through path (07 R355-R358). -/

/-- A cut pair. -/
def State.cut (s : State) (l : Nat) : CutLane := Tbl.get s.fab.cuts l {}

/-- A cut pair replaced. -/
def State.setCut (s : State) (l : Nat) (x : CutLane) : State :=
  { s with fab := { s.fab with cuts := Tbl.put s.fab.cuts l x {} } }

/-- A cut word late or unpaired, counted and logged at most once per second (07 R357). -/
def cutLate (s : State) (l why : Nat) : State :=
  let s := s.bump Reg.GFB_CUT_LATE.COUNT 1
  s.logLimited 0 103 0x1405 l (s.rd Reg.GFB_CUT_LATE.COUNT) why

/-- The fabric cycle in which port 7 releases the `k`-th word of a pair: 31 cycles after its presentation, t0 + 87 (07 R355). -/
def releaseAt (x : CutLane) (k : Nat) : Nat := Tbl.get x.times k 0 + 31

/-- A word with V = 1 arrives at port 7 on a cut lane: paired by order, discarded when late or without a partner (07 R356,
R357). -/
def cutArrives (s : State) (l : Nat) (w : Word) : State :=
  let x := s.cut l
  let k := x.arrived
  if x.presented ≤ k then cutLate (s.setCut l { x with arrived := k + 1 }) l 1
  else
    let x := { x with arrived := k + 1 }
    if k < x.released ∨ releaseAt x k < s.fab.cycle then s.setCut l x else s.setCut l { x with waiting := Tbl.set x.waiting k w }

/-- The release instant of a cut lane's next word: the word, or data 0 if it is late, towards its DAC output 70 cycles later, at t0 +
157 (07 R355, R357). -/
def cutRelease (s : State) (l : Nat) : State :=
  let x := s.cut l
  let k := x.released
  let out (s : State) (w : Word) : State :=
    { s with fab := { s.fab with cutOut := s.fab.cutOut ++ [(l, w, releaseAt x k + 70)] } }
  let y := { x with released := k + 1, times := Tbl.erase x.times k, waiting := Tbl.erase x.waiting k }
  if x.presented ≤ k ∨ s.fab.cycle < releaseAt x k then s
  else match Tbl.find x.waiting k with
    | some w => out (s.setCut l y) w
    | none => out (cutLate (s.setCut l y) l 0) 0

/-- Port 6 presents a word on a cut lane and sends it into the fabric, at t0 + 56 (07 R355). -/
def cutPresent (s : State) (l : Nat) : State :=
  let x := s.cut l
  s.setCut l { x with presented := x.presented + 1, times := Tbl.set x.times x.presented s.fab.cycle }

/-- A write to GFB_CUT_CFG (07 R356, R358). -/
def writeCutPairs (s : State) (rq : Requester) (data : Nat) : State :=
  let pairs := bits data 0 16
  let refuse (why : Nat) : State := (s.logEvent 103 0x1403 pairs why rq.ni).answer 0
  if pairs ≠ 0 ∧ !s.ck.cut then refuse 0
  else if pairs ≠ 0 ∧ s.radioReleased then refuse 1
  else if andNot pairs (s.rd (Reg.GFB_SP_CFG.CONV 6) &&& s.rd (Reg.GFB_SP_CFG.CONV 7)) ≠ 0 then refuse 2
  else (({ s with fab := { s.fab with cuts := [] } }).wr Reg.GFB_CUT_CFG.PAIRS pairs).answer 0

/-! The commands. -/

/-- SLOT_STROBE (07 R338, R339, 11 R532). -/
def execSlotStrobe (region shelf tick : Nat) (s : State) : Host.Outcome State Fault Refusal :=
  whilePowered s fun s =>
    if s.flag (Reg.GFB_REG_SW_CFG.STROBE_EN (region % 6)) then requestSwitch s (region % 6) ⟨3, shelf % 8, tick⟩ else s

/-- REGION_TIMER_ARM (07 R338): a write to GFB_REGr_SW_AT_HI. -/
def execRegionTimerArm (rq : Requester) (region data : Nat) (s : State) : Host.Outcome State Fault Refusal :=
  whilePowered s fun s => atRegister s rq (0xF01001014 + 0x100 * (region % 6)) true data fun s =>
    (armTimer (s.wr (Reg.GFB_REG_SW_AT_HI.AT (region % 6)) data) (region % 6)).answer 0

/-- TRIGGER_CELL (07 R338). -/
def execTriggerCell (region : Nat) (s : State) : Host.Outcome State Fault Refusal :=
  whilePowered s fun s => triggerSwitch s (region % 6)

/-- SW_REQ (07 R338). -/
def execSwReq (rq : Requester) (region data : Nat) (s : State) : Host.Outcome State Fault Refusal :=
  whilePowered s fun s => atRegister s rq (0xF01001004 + 0x100 * (region % 6)) true data fun s =>
    firmwareSwitch s (region % 6) data

/-- SHELF_SWITCH (07 R340, R344, 04 R207). -/
def execShelfSwitch (region : Nat) (s : State) : Host.Outcome State Fault Refusal :=
  whilePowered s fun s => doSwitch s (region % 6)

/-- SP_CHANNEL_CONFIG (07 R351). -/
def execSpChannelConfig (rq : Requester) (port ch data : Nat) (s : State) : Host.Outcome State Fault Refusal :=
  whilePowered s fun s => atRegister s rq (0xF01002100 + 0x400 * (port % 8) + 0x40 * (ch % 8)) true data fun s =>
    writeChCfg s rq (port % 8) (ch % 8) data

/-- SP_CHANNEL_RESTART (07 R350): 1 written to ERR, the other fields as they read. -/
def execSpChannelRestart (rq : Requester) (port ch : Nat) (s : State) : Host.Outcome State Fault Refusal :=
  whilePowered s fun s => atRegister s rq (0xF01002100 + 0x400 * (port % 8) + 0x40 * (ch % 8)) true (2 ^ 31) fun s =>
    (restartChannel s (port % 8) (ch % 8)).answer 0

/-- SP_OUTBOUND_WORD (07 R346, R347, R349, R350). -/
def execSpOutboundWord (port ch : Nat) (word : Word) (s : State) : Host.Outcome State Fault Refusal :=
  whilePowered s fun s =>
    if s.domUp 16 ∧ regionRuns s (portRegion (port % 8)) then outboundWord s (port % 8) (ch % 4) word else s

/-- SP_INBOUND_WORD (07 R346, R347, R350): inbound channel `ch` of a port. -/
def execSpInboundWord (port ch : Nat) (s : State) : Host.Outcome State Fault Refusal :=
  whilePowered s fun s => if s.domUp 16 then inboundWord s (port % 8) (4 + ch % 4) else s

/-- CUT_PAIRS_WRITE (07 R356, R358). -/
def execCutPairsWrite (rq : Requester) (data : Nat) (s : State) : Host.Outcome State Fault Refusal :=
  whilePowered s fun s => atRegister s rq 0xF01000010 true data fun s => writeCutPairs s rq data

/-- CUT_RELEASE (07 R355-R357, 11 R504): `sat` when the DAC chain's sum with this word is saturated. -/
def execCutRelease (lane : Nat) (sat : Bool) (s : State) : Host.Outcome State Fault Refusal :=
  whilePowered s fun s =>
    let x := s.cut (lane % 16)
    if s.domUp 16 ∧ bit (s.rd Reg.GFB_CUT_CFG.PAIRS) (lane % 16) ∧ x.released < x.presented ∧
        releaseAt x x.released ≤ s.fab.cycle then
      (cutRelease s (lane % 16)).bump (Reg.RAD_DAC_SAT.COUNT (lane % 16 / 2)) (b2n sat)
    else s

end Sys2Proof.Machine
end

