-- ==== Sys2Proof/Machine/Radio.lean ====
section
/-! DEFINITION. The radio datapath (chapter 11): the RADIO_CONFIG section, release and withdrawal, the slot timeline, the
FAPI messages and the fronthaul. -/

namespace Sys2Proof.Machine

/-! The RADIO_CONFIG section (R550, R551). -/

/-- The RADIO_CONFIG body in force, empty where the image holds none. -/
def radioBody (s : State) : List Byte := s.cfg.radioBody.getD []

/-- ROLE (R517). -/
def radioRole (b : List Byte) : Nat := field b 0 1

/-- CARRIERS. -/
def radioCarriers (b : List Byte) : Nat := field b 1 1

/-- FRAME_OFS. -/
def frameOfs (b : List Byte) : Int := sInt (field b 4 4) 32

/-- REGION_CARRIER of a region. -/
def regionCarrier (b : List Byte) (r : Nat) : Nat := field b (8 + r) 1

/-- STROBE_LEAD of a region. -/
def strobeLead (b : List Byte) (r : Nat) : Nat := field b (16 + 4 * r) 4

/-- The block of a carrier. -/
def carrierBlock (b : List Byte) (c : Nat) : List Byte := slice b (64 + 384 * c) 384

/-- MU of a carrier. -/
def carrierMu (b : List Byte) (c : Nat) : Nat := field (carrierBlock b c) 0 1

/-- Ticks of a slot (R531). -/
def slotTicks (b : List Byte) (c : Nat) : Nat := 491520 / 2 ^ carrierMu b c

/-- ANT_MASK of a carrier. -/
def antMask (b : List Byte) (c : Nat) : Nat := field (carrierBlock b c) 5 1

/-- Layers configured: the larger of LAYERS_DL and LAYERS_UL over the carriers. -/
def configLayers (b : List Byte) : Nat :=
  ((List.range (radioCarriers b)).map fun c => max (field (carrierBlock b c) 3 1) (field (carrierBlock b c) 4 1)).foldl max 0

/-- Entry of a slot in a carrier's pattern: TYPE, DL_SYMS, UL_SYMS, SWITCH. -/
def slotEntryOf (b : List Byte) (c j : Nat) : Nat × Nat × Nat × Nat :=
  let k := carrierBlock b c
  (field k (64 + 8 * j) 1, field k (65 + 8 * j) 1, field k (66 + 8 * j) 1, field k (67 + 8 * j) 1)

/-- A chain block: ADC 0–3, then DAC 0–3. -/
def chainBlock (b : List Byte) (i : Nat) : List Byte := slice b (832 + 16 * i) 16

/-- Use of a stream of a chain. -/
def streamUse (b : List Byte) (i st : Nat) : Nat := field (chainBlock b i) st 1

/-- Rate code of a stream in use (R550). -/
def streamRate (b : List Byte) (i st : Nat) : Nat :=
  if streamUse b i st = 2 then field (chainBlock b i) (2 + st) 1
  else if field (carrierBlock b st) 2 1 ≤ 50 then 4 else 3

/-- Centre of a stream in kHz: an ADC chain takes a carrier's uplink frequency, a DAC chain its downlink frequency. -/
def streamKhz (b : List Byte) (i st : Nat) : Nat :=
  if streamUse b i st = 2 then field (chainBlock b i) (4 + 4 * st) 4
  else field (carrierBlock b st) (if i < 4 then 16 else 12) 4

/-- Half the passband of a rate code in kHz (R503). -/
def halfBand (rate : Nat) : Nat := 393216 / 2 ^ rate

/-- DDC decimation and DUC interpolation of a rate code: the stages of the fixed filters that it uses (R502, R503). -/
def ddcDecimation (rate : Nat) : Nat := 5 * 2 ^ rate
def ducInterpolation (rate : Nat) : Nat := 10 * 2 ^ rate

/-- Latency of a DDC and of a DUC stream in fabric cycles, by rate code (R503). -/
def ddcLatency (rate : Nat) : Nat := 16 * 2 ^ rate
def ducLatency (rate : Nat) : Nat := 24 * 2 ^ rate - 1

/-- Frequency word of a stream's NCO, which steps once per ADC sample period (4915.2 MHz): the nearest to its centre, so that its
error is at most half of 17.463 µHz (R502; the step rate DESIGN CHOICE, log entry 99). -/
def ncoWord (khz : Nat) : Nat := (khz * 1000 * 2 ^ 48 + 2457600000) / 4915200000 % 2 ^ 48

/-- A device tick of the NCOs: ten sample periods for every stream in use (R502). -/
def ncoTick (s : State) : State :=
  if !s.domOn 18 then s
  else
    let b := s.cfg.radioBody.getD []
    { s with rad := { s.rad with nco := (List.range 16).foldl (fun (t : Tbl Nat) k =>
        if streamUse b (k / 2) (k % 2) = 0 then t
        else Tbl.put t k ((Tbl.get t k 0 + 10 * ncoWord (streamKhz b (k / 2) (k % 2))) % 2 ^ 48) 0) s.rad.nco } }

/-- Zone of `width` kHz in which a passband lies, guarded by G at each edge; 0 for none (R507). -/
def zoneOf (f half width zones : Nat) : Nat :=
  ((List.range zones).find? fun z =>
    decide (z * width + 24576 + half ≤ f) && decide (f + half + 24576 ≤ (z + 1) * width)).elim 0 (· + 1)

/-- Output mode of a DAC chain. -/
inductive DacMode where
  | nrz | rf
  deriving DecidableEq, Repr

/-- Output mode of DAC chain `i - 4` from the zone of its streams (R509); none for a chain without one. -/
def dacMode (b : List Byte) (i : Nat) : Option DacMode :=
  match ((List.range 2).filter fun st => streamUse b i st != 0).map fun st =>
      zoneOf (streamKhz b i st) (halfBand (streamRate b i st)) 4915200 2 with
  | 1 :: _ => some .nrz
  | 2 :: _ => some .rf
  | _ => none

/-- A stream in use meets the conditions of R507 of its own: the RF range and its zone. -/
def streamOk (b : List Byte) (i st : Nat) : Bool :=
  let f := streamKhz b i st
  let h := halfBand (streamRate b i st)
  streamUse b i st == 0 ||
    (decide (600000 + h ≤ f) && decide (f + h ≤ 7125000) &&
      (if i < 4 then zoneOf f h 2457600 3 != 0 else zoneOf f h 4915200 2 != 0))

/-- A frequency folded into zone 1 of an ADC (R507). -/
def foldKhz (f z : Nat) : Nat := if z % 2 = 1 then f - (z - 1) * 2457600 else z * 2457600 - f

/-- The two streams of a chain agree: one zone for a DAC, no overlap after folding for an ADC (R507). -/
def chainOk (b : List Byte) (i : Nat) : Bool :=
  if streamUse b i 0 = 0 ∨ streamUse b i 1 = 0 then true
  else
    let h0 := halfBand (streamRate b i 0)
    let h1 := halfBand (streamRate b i 1)
    if i < 4 then
      let a := foldKhz (streamKhz b i 0) (zoneOf (streamKhz b i 0) h0 2457600 3)
      let c := foldKhz (streamKhz b i 1) (zoneOf (streamKhz b i 1) h1 2457600 3)
      decide (a + h0 ≤ c - h1) || decide (c + h1 ≤ a - h0)
    else zoneOf (streamKhz b i 0) h0 4915200 2 == zoneOf (streamKhz b i 1) h1 4915200 2

/-- A check of a body: whether it holds, and the byte offset of what it looks at. -/
abbrev FieldCheck := Bool × Nat

/-- Bytes [lo, hi) are 0; else the first that is not. -/
def zeroBytes (b : List Byte) (lo hi : Nat) : FieldCheck :=
  match (List.range (hi - lo)).find? fun i => field b (lo + i) 1 != 0 with
  | some i => (false, lo + i)
  | none => (true, lo)

/-- Slot `j` of a carrier's pattern holds only values of R550; its entry starts at `o`. -/
def slotChecks (b : List Byte) (c j o : Nat) : List FieldCheck :=
  let (ty, dl, ul, sw) := slotEntryOf b c j
  let symbols := if ty = 2 then decide (dl + ul ≤ 14) else dl == 0 && ul == 0
  [(if field (carrierBlock b c) 1 1 = 1 then decide (ty ≤ 2) else ty == 0, o), (symbols, o + 1), (decide (sw < 64), o + 3),
   (bits (field (carrierBlock b c) (68 + 8 * j) 3) 18 6 == 0, o + 6), (field (carrierBlock b c) (71 + 8 * j) 1 == 0, o + 7)]

/-- A carrier block holds only values of R550; it starts at `o`. -/
def carrierChecks (b : List Byte) (c o : Nat) : List FieldCheck :=
  let k := carrierBlock b c
  let mu := field k 0 1
  let dup := field k 1 1
  let bw := field k 2 1
  let per := field k 6 1
  [(decide (mu ≤ 2), o), (dup == 1 || dup == 2, o + 1),
   ([5, 10, 15, 20, 25, 30, 40, 50, 60, 70, 80, 90, 100].contains bw && decide ((if mu = 2 then 10 else 5) ≤ bw) &&
     decide (bw ≤ if mu = 0 then 50 else 100), o + 2),
   (decide (1 ≤ field k 3 1) && decide (field k 3 1 ≤ 4), o + 3), (decide (1 ≤ field k 4 1) && decide (field k 4 1 ≤ 4), o + 4),
   (decide (1 ≤ field k 5 1) && decide (field k 5 1 ≤ 15), o + 5), (decide (1 ≤ per) && decide (per ≤ min 40 (10 * 2 ^ mu)), o + 6),
   (decide (field k 7 1 ≤ 127), o + 7), (decide (field k 8 1 ≤ 127) && field k 7 1 != field k 8 1, o + 8),
   (decide (field k 10 2 ≤ 1007), o + 10), (dup == 2 || field k 12 4 == field k 16 4, o + 16), zeroBytes b (o + 20) (o + 64)] ++
    (List.range 40).flatMap fun j => slotChecks b c j (o + 64 + 8 * j)

/-- A chain block agrees with the ANT_MASKs and holds only values of R507, R550 and R551; it starts at `o`. -/
def chainChecks (b : List Byte) (i o : Nat) : List FieldCheck :=
  let k := chainBlock b i
  let used (st : Nat) : Bool := decide (st < radioCarriers b) && bit (antMask b st) (i % 4) && radioRole b != 2
  let stream (st : Nat) : List FieldCheck :=
    let u := streamUse b i st
    let r := field k (2 + st) 1
    [(decide (u ≤ 2) && ((u == 1) == used st), o + st),
     (if u = 2 then decide (1 ≤ r) && decide (r ≤ 4) else r == 0, o + 2 + st),
     (u == 2 || field k (4 + 4 * st) 4 == 0, o + 4 + 4 * st), (streamOk b i st, o + 4 + 4 * st)]
  let gain := sInt (field k 12 2) 16
  let cfr := field k 14 2
  stream 0 ++ stream 1 ++
    [(if i < 4 then gain == 0 else decide (-300 ≤ gain) && decide (gain ≤ 0), o + 12),
     (cfr == 0 || (decide (4 ≤ i) && decide (65 ≤ cfr) && decide (cfr ≤ 120)), o + 14), (chainOk b i, o)]

/-- The fronthaul block holds only values of R550. -/
def fronthaulChecks (b : List Byte) : List FieldCheck :=
  let k := slice b 960 64
  if radioRole b = 3 then [zeroBytes b 960 1024]
  else
    [(decide (1 ≤ field k 0 1) && decide (field k 0 1 ≤ 15), 960),
     (if radioRole b = 2 then decide (1 ≤ field k 1 1) && decide (field k 1 1 ≤ 4) else field k 1 1 == 0, 961),
     (!bit (field k 2 2) 12, 962), zeroBytes b 970 972, if radioRole b = 2 then (true, 972) else zeroBytes b 972 992,
     zeroBytes b 992 1024]

/-- REGION_CARRIER and STROBE_LEAD of the regions (R550). -/
def leadChecks (b : List Byte) : List FieldCheck :=
  (List.range 6).flatMap fun r =>
    let c := regionCarrier b r
    [(c == 0xFF || decide (c < 2), 8 + r), (c == 0xFF || decide (strobeLead b r < slotTicks b c), 16 + 4 * r)]

/-- The checks of a RADIO_CONFIG body (R508, R550, R551). -/
def radioChecks (b : List Byte) : List FieldCheck :=
  [(b.length == 1024, 0), (decide (1 ≤ radioRole b) && decide (radioRole b ≤ 3), 0),
   (decide (1 ≤ radioCarriers b) && decide (radioCarriers b ≤ 2), 1), zeroBytes b 2 4,
   (decide (-2457600 ≤ frameOfs b) && decide (frameOfs b ≤ 2457599), 4)] ++ leadChecks b ++
    [zeroBytes b 14 16, zeroBytes b 40 64] ++
    ((List.range (radioCarriers b)).flatMap fun c => carrierChecks b c (64 + 384 * c)) ++
    [if radioCarriers b = 1 then zeroBytes b 448 832 else (true, 448)] ++
    ((List.range 8).flatMap fun i => chainChecks b i (832 + 16 * i)) ++ fronthaulChecks b

/-- The body needs the absent converter chiplet: ROLE 1 or 3, or a chain in use (04 R171, R518). -/
def radioAbsent (p : Part) (b : List Byte) : Bool :=
  p == .jx720 && (radioRole b == 1 || radioRole b == 3 || (List.range 8).any fun i => streamUse b i 0 != 0 || streamUse b i 1 != 0)

/-- The radio units answer: Full tier, their domain on. -/
def radUp (s : State) : Bool := decide (3 ≤ s.tier) && s.domUp 17

/-- A stream of a chain (ADC chains 0–3, DAC chains 4–7) is in use and runs: the converter chiplet is up, and its carrier's streams, or
the raw streams, run (R505). -/
def streamRuns (s : State) (i st : Nat) : Bool :=
  s.domUp 18 && s.domUp 17 && match streamUse (radioBody s) i st with
  | 1 => bit s.rad.streams st
  | 2 => s.rad.raw
  | _ => false

/-- The radio accelerators as a requester: NI 37 at QCLASS 0, context 0x94 (R544). -/
def radioRq : Requester := ⟨37, 0⟩

/-- Bytes that the radio reads; what a bus error leaves it with is a free value (log entry 100). -/
def radioGet (s : State) (a n : Nat) : State × List Byte :=
  match s.busRead radioRq a n with
  | (s, some r) => (s, r.1)
  | (s, none) => (s.useFresh, leBytes n (Config.freeValue s.fresh))

/-- Device address of a crate. -/
def crateAddr (s : State) (h : Nat) : Nat := poolBase s (bits h 30 2) + crateSize (bits h 30 2) * bits h 0 20

/-- Bytes that the radio writes. -/
def radioPut (s : State) (a : Nat) (bs : List Byte) : State := (s.busWrite radioRq a bs).1

/-! FAPI messages to L2 (R543). -/

/-- SCF message types; DL_TTI, UL_TTI, UL_DCI and TX_Data are 0x80, 0x81, 0x83 and 0x84. -/
def fapiError : Nat := 0x07
def fapiStopInd : Nat := 0x06
def msgInvalidState : Nat := 1
def msgInvalidConfig : Nat := 2
def msgSlotErr : Nat := 6

/-- FAPI is presented to L2 in roles 2 and 3 for the carriers configured. -/
def fapiOn (s : State) (c : Nat) : Bool := decide (2 ≤ radioRole (radioBody s)) && decide (c < radioCarriers (radioBody s))

/-- The radio units are on and answer L2 for a carrier. -/
def fapiUp (s : State) (c : Nat) : Bool := radUp s && fapiOn s c

/-- A message pushed to FAPI_OUT.  The spec gives its occasion and what it carries; its bytes are those of SCF 222.10.02,
which the spec does not restate: a packet of 1 to 64 words of free values. -/
def fapiPush (s : State) (c type sfn slot code : Nat) (args : List Nat) : State :=
  if fapiOn s c then
    let v := Config.freeValue s.fresh
    let s := ({ s with rad := { s.rad with sent := s.rad.sent ++ [(⟨c, type, sfn, slot, code, args⟩ : FapiMsg)] } }).useFresh
    pushPacket s (field (carrierBlock (radioBody s) c) 8 1) (leBytes (8 * (1 + v % 64)) (v / 64)) 37
  else s

/-- A message from L2 leaves FAPI_IN: its oldest whole packet. -/
def fapiPop (s : State) (c : Nat) : State :=
  let n := field (carrierBlock (radioBody s) c) 7 1
  let q := s.q n
  if fapiOn s c && q.marks.contains true then (popPacket s n).1 else s

/-! Frames and slots (R530, R531). -/

/-- Ticks since the epoch of a carrier's frames. -/
def radioTime (s : State) : Int := (s.now : Int) - frameOfs (radioBody s)

/-- Frame of an instant, and its SFN (R530). -/
def frameOf (t : Int) : Int := t / 4915200
def sfnOf (f : Int) : Nat := ((f - 364) % 1024).toNat

/-- Air boundary of a slot of the frame with an SFN nearest to now (R531). -/
def slotStart (s : State) (c sfn slot : Nat) : Int :=
  let f := frameOf (radioTime s)
  let d : Int := ((sfn : Int) - sfnOf f + 512) % 1024 - 512
  frameOfs (radioBody s) + (f + d) * 4915200 + slot * slotTicks (radioBody s) c

/-- A carrier's slot boundary falls now. -/
def atSlot (s : State) (c : Nat) : Bool := radioTime s % slotTicks (radioBody s) c == 0

/-- SFN and slot of an instant. -/
def slotAt (s : State) (c : Nat) (at_ : Int) : Nat × Nat :=
  let t := at_ - frameOfs (radioBody s)
  (sfnOf (frameOf t), (t % 4915200 / slotTicks (radioBody s) c).toNat)

/-- A carrier is configured. -/
def carrierOn (s : State) (c : Nat) : Bool := decide (c < radioCarriers (radioBody s))

/-! Release and withdrawal (R536-R542). -/

/-- A pair of GFB_CUT_CFG has a stream that is not in raw use at rate code 1 (R537). -/
def cutUnfit (s : State) : Bool :=
  let b := radioBody s
  (List.range 16).any fun l => bit (s.rd Reg.GFB_CUT_CFG.PAIRS) l &&
    !((List.range 2).all fun k => streamUse b (4 * k + l / 2) (l % 2) == 2 && streamRate b (4 * k + l / 2) (l % 2) == 1)

/-- Excluded from group radio timing (16 R753). -/
def groupExcluded (s : State) : Bool :=
  s.cfg.groupBody.isSome &&
    ([1, 3, 4, 5].contains (s.rd Reg.GRP_STAT.STATE) ||
      (s.rd Reg.CFG_STAT.HOP != 0 && !s.flag Reg.GRP_STAT.INCLUDED))

/-- Reason for which a release is refused, 0 for none (R537). -/
def releaseReason (s : State) : Nat :=
  if s.cfg.radioBody.isNone then 1
  else if s.flag Reg.RAD_STAT.RELEASED then 2
  else if !(s.mode == 3 || s.mode == 4) || s.busy || s.flag Reg.CLK_MODE_STAT.BUSY then 3
  else if !s.flag Reg.CLK_MODE_STAT.REFCLK_OK then 4
  else if cutUnfit s then 6
  else if groupExcluded s then 7
  else 0

/-- A release refused (R537). -/
def releaseRefused (s : State) (reason rq : Nat) : State :=
  ((s.wr Reg.RAD_STAT.REASON reason).wr Reg.RAD_STAT.CALIBRATING 0).logEvent 141 0x1802 reason s.mode rq

/-- t0 of a release: the checks, then foreground calibration (R511, R536). -/
def startRelease (s : State) (rq : Nat) : State :=
  match releaseReason s with
  | 0 => ({ s with rad := { s.rad with calAt := s.ck.time, requester := rq } }).wr Reg.RAD_STAT.CALIBRATING 1
  | r => releaseRefused s r rq

/-- A carrier stops: its streams, its FAPI state, STOP.indication (R538). -/
def stopCarrier (s : State) (c : Nat) : State :=
  let s := { s with rad := { s.rad with streams := clrBit s.rad.streams c, stopMask := clrBit s.rad.stopMask c,
                                        fapi := Tbl.put s.rad.fapi c 1 0, fapiStop := clrBit s.rad.fapiStop c } }
  fapiPush (s.clearBits Reg.RAD_STAT.STARTED (2 ^ c)) c fapiStopInd 0 0 0 []

/-- RELEASED clears with a cause (R538, R539). -/
def endRelease (s : State) (cause rq : Nat) : State :=
  let s := ((s.wr Reg.RAD_STAT.RELEASED 0).wr Reg.SYS_PWR_STAT.RADIO_RELEASED 0).wr Reg.RAD_STAT.CAUSE cause
  ({ s with rad := { s.rad with raw := false, streams := 0, stopMask := 0, reqs := [] } }).logEvent 141 0x1801 0 cause rq

/-- A crate freed by the radio accelerators, context 0x94, with the checks of 06 R279; the null handle names none. -/
def radioFree (s : State) (h : Nat) : State := if h = 0 then s else unitFree s radioRq h

/-- Crates of a list freed. -/
def radioFreeAll (s : State) (hs : List Nat) : State := hs.foldl radioFree s

/-- The radio domains are removed: what is in flight ends, and the crates it holds stay allocated (06 R284). -/
def dropDecodes (s : State) : State := { s with rad := { s.rad with blocks := [], islands := [], allocs := [] } }

/-- Decodes in flight are abandoned on cause 2: their crates go, learned crates and descriptors of admitted allocations with their
completions (12 "At the edges"). -/
def abandonDecodes (s : State) : State :=
  let s := s.rad.allocs.foldl (fun (s : State) a =>
    let s := radioFreeAll s a.cl
    if a.engine.isSome && a.comp.isNone then s else radioFreeAll s (a.ll ++ a.desc :: a.inputs)) s
  { s with rad := { s.rad with
    blocks := [], islands := [],
    allocs := (s.rad.allocs.filter fun a => a.engine.isSome && a.comp.isNone).map fun a =>
      { a with cl := [], chosen := some 0, crc := some false, left := 0, reported := true } } }

/-- Radio withdrawn at once, cause 2 or 4, or a release in progress ended (R539). -/
def withdrawNow (s : State) (cause : Nat) : State :=
  if s.flag Reg.RAD_STAT.RELEASED then
    let s := endRelease ((List.range (radioCarriers (radioBody s))).foldl stopCarrier s) cause 0
    if cause = 2 then abandonDecodes s else dropDecodes s
  else if s.flag Reg.RAD_STAT.CALIBRATING ∧ cause = 2 then releaseRefused s 4 s.rad.requester
  else s.wr Reg.RAD_STAT.CALIBRATING 0

/-- Radio withdrawn at each carrier's next slot boundary, cause 1 or 3 (R538, R539). -/
def withdrawLater (s : State) (cause rq : Nat) : State :=
  if s.flag Reg.RAD_STAT.RELEASED then
    { s with rad := { s.rad with stopMask := 2 ^ radioCarriers (radioBody s) - 1, stopCause := cause, stopRq := rq } }
  else s

/-- A write to RAD_CTRL: RELEASE, then WITHDRAW. -/
def writeRadCtrl (s : State) (rq : Requester) (data : Nat) : State :=
  let s := if bit data 0 then startRelease s rq.ni else s
  (if bit data 1 then withdrawLater s 1 rq.ni else s).answer 0

/-- The gate's committed settings of a carrier, from the active values of the RAD_LR registers. -/
def gateCommitted (s : State) (c : Nat) : GateCfg :=
  { mode := s.rd Reg.RAD_LR_CFG.GATE_MODE, engines := s.rd Reg.RAD_LR_CFG.ENGINES,
    thresh := if c = 0 then s.rd Reg.RAD_LR_THRESH.THRESH0 else s.rd Reg.RAD_LR_THRESH.THRESH1,
    guard_ := min 81920 (max 24576 (s.rd Reg.RAD_LR_GUARD.TICKS)),
    base := s.rd Reg.RAD_LR_BUDGET.BASE, per := s.rd Reg.RAD_LR_BUDGET.PER }

/-- Settings in force for a carrier's slots. -/
def State.gateOf (s : State) (c : Nat) : GateCfg := Tbl.get s.rad.gate c {}

/-- Settings that hold for the slot of a carrier with an air boundary (12 R571). -/
def gateFor (s : State) (c : Nat) (boundary : Int) : GateCfg :=
  match Tbl.find s.rad.gatePrev c with
  | some p => if boundary < p.1 then p.2 else s.gateOf c
  | none => s.gateOf c

/-- Step 3 of a release: RELEASED sets, streams and slots run, every HARQ buffer is free (R536, 12 R582). -/
def finishRelease (s : State) : State :=
  let n := radioCarriers (radioBody s)
  let s := ((s.wr Reg.RAD_STAT.CALIBRATING 0).wr Reg.RAD_STAT.RELEASED 1).wr Reg.SYS_PWR_STAT.RADIO_RELEASED 1
  let s := { s with rad := { s.rad with
    raw := true, streams := 2 ^ n - 1, harq := [], harqHeld := [], freeAt := [], reqs := [], stopMask := 0, gatePend := [],
    gatePrev := [], cplane := [], uplane := [],
    gate := (List.range n).map fun c => (c, gateCommitted s c) } }
  s.logEvent 141 0x1801 1 0 s.rad.requester

/-! A slot boundary (R529, R531, R535, R538, R542). -/

/-- A PDU of more layers than the limit. -/
def overLayers (max_ : Nat) (p : FapiPdu) : Bool := decide (max_ < p.layers)

/-- The beam table committed in time takes effect (R529). -/
def applyBeams (s : State) (c : Nat) : State :=
  let due := s.rad.beamPend.filter fun p => p.1 == c && decide (p.2.1 + 4096 ≤ s.now)
  match due.getLast? with
  | some p => { s with rad := { s.rad with beams := Tbl.set s.rad.beams c p.2.2,
                                           beamPend := s.rad.beamPend.filter fun p => !due.contains p } }
  | none => s

/-- The gate settings committed in time apply from this slot (12 R571). -/
def applyGate (s : State) (c : Nat) : State :=
  match (s.rad.gatePend.filter fun p => bit p.2.1 c && decide (p.1 + 4096 ≤ s.now)).getLast? with
  | some p =>
    let old := s.gateOf c
    let new := Tbl.get p.2.2 c {}
    let pend := (s.rad.gatePend.map fun q => if decide (q.1 + 4096 ≤ s.now) then (q.1, clrBit q.2.1 c, q.2.2) else q).filter
      fun q => q.2.1 != 0
    let s := { s with rad := { s.rad with gate := Tbl.set s.rad.gate c new, gatePend := pend,
                                          gatePrev := Tbl.set s.rad.gatePrev c ((s.now : Int), old) } }
    if old.mode = new.mode then s else s.logEvent 218 0x1817 new.mode old.mode c
  | none => s

/-- The layer limit of governor level 3 takes effect or is lifted (R542). -/
def applyLayers (s : State) : State :=
  let conf := configLayers (radioBody s)
  let limit := decide (3 ≤ s.rd Reg.SYS_GOV_STAT.LEVEL)
  let s := { s with rad := { s.rad with limited := limit } }
  let want := if limit then min 2 conf else conf
  let old := s.rd Reg.RAD_STAT.MAX_LAYERS
  if want = old then s else (s.wr Reg.RAD_STAT.MAX_LAYERS want).logEvent 141 0x1805 want old (s.rd Reg.SYS_TJ.TJ_MAX)

/-- Accepted PDUs of the starting slot beyond the layer limit are rejected (R542 and "At the edges"). -/
def rejectLayers (s : State) (c : Nat) : State :=
  let m := s.rd Reg.RAD_STAT.MAX_LAYERS
  let mine (r : SlotReq) : Bool := r.carrier == c && r.boundary == (s.now : Int)
  let bad := (s.rad.reqs.filter mine).flatMap fun r => (r.pdus.filter (overLayers m)).map fun _ => (r.sfn, r.slot)
  let cut (r : SlotReq) : SlotReq := if mine r then { r with pdus := r.pdus.filter fun p => !overLayers m p } else r
  let s := { s with rad := { s.rad with reqs := s.rad.reqs.map cut } }
  bad.foldl (fun s p => fapiPush s c fapiError p.1 p.2 msgInvalidConfig []) s

/-! Fronthaul symbols (R521-R524, R542). -/

/-- Ports that the fronthaul uses. -/
def fhPorts (s : State) : Nat := field (radioBody s) 960 1

/-- Symbols of a slot with the long cyclic prefix that start before symbol `l` (R531, TS 38.211: the first of every half subframe,
PRESUMED, log entry 101). -/
def longBefore (mu slot l : Nat) : Nat :=
  if mu = 0 then b2n (0 < l) + b2n (7 < l) else b2n (0 < l && (mu == 1 || slot % 2 == 0))

/-- Ticks from the start of a slot to its symbol `l`. -/
def symbolOffset (mu slot l : Nat) : Nat := l * (35072 / 2 ^ mu) + 256 * longBefore mu slot l

/-- Resource blocks of a carrier by numerology and bandwidth (TS 38.101-1, PRESUMED, log entry 101). -/
def carrierBlocks (mu bw : Nat) : Nat :=
  let row := if mu = 0 then [(5, 25), (10, 52), (15, 79), (20, 106), (25, 133), (30, 160), (40, 216), (50, 270)]
    else if mu = 1 then [(5, 11), (10, 24), (15, 38), (20, 51), (25, 65), (30, 78), (40, 106), (50, 133), (60, 162), (70, 189),
      (80, 217), (90, 245), (100, 273)]
    else [(10, 11), (15, 18), (20, 24), (25, 31), (30, 38), (40, 51), (50, 65), (60, 79), (70, 93), (80, 107), (90, 121), (100, 135)]
  Tbl.get row bw 0

/-- Downlink and uplink symbols of the slot of a carrier that starts at an instant. -/
def slotSymbols (s : State) (c : Nat) (at_ : Int) : List Nat × List Nat :=
  let b := radioBody s
  let j := ((at_ - frameOfs b) / slotTicks b c % (max 1 (field (carrierBlock b c) 6 1) : Nat)).toNat
  let (ty, dl, ul, _) := slotEntryOf b c j
  let all := List.range 14
  if field (carrierBlock b c) 1 1 = 2 then (all, all)
  else if ty = 0 then (all, [])
  else if ty = 1 then ([], all)
  else (all.take dl, all.drop (14 - ul))

/-- Antennas of a carrier. -/
def antennas (b : List Byte) (c : Nat) : List Nat := ones (antMask b c) 4

/-- Reception of a carrier's uplink starts this many ticks before its air boundary (R531). -/
def uplinkLead (b : List Byte) (c : Nat) : Nat := if field (carrierBlock b c) 1 1 = 1 then 6400 else 0

/-- The window of the U-plane for a symbol has ended: of an O-RU 60 µs before its air start, of an O-DU at RX_WIN_MAX; an O-RU's uplink
section stays until its symbol is received (R521, R523, R524). -/
def windowEnded (s : State) (plane : Nat) (symbol : Int) : Bool :=
  if plane = 2 then decide (symbol ≤ s.now)
  else if plane = 3 then decide (symbol + field (radioBody s) 988 4 < (s.now : Int))
  else decide (10 * (symbol - s.now) < 294912)

/-- Elements of a section: those that arrived, zero for the others (R523, R524); all zero on antenna chains 2 and 3 of an O-RU under the
layer limit (R542). -/
def sectionElements (s : State) (x : FhSection) : List Nat :=
  (List.range x.count).map fun i =>
    let k := x.first + i
    if x.plane = 1 ∧ s.rad.limited ∧ 2 ≤ x.eaxc % 16 then 0
    else match s.rad.uplane.find? fun d => d.eaxc == x.eaxc && d.symbol == x.symbol && decide (d.first ≤ k) &&
        decide (k < d.first + d.elements.length) with
      | some d => d.elements.getD (off k d.first) 0
      | none => 0

/-- Stages of the downlink that a role performs (R526). -/
def txStages (role : Nat) : List TxStage :=
  if role = 1 then [.receive, .beam, .ifft, .duc]
  else if role = 2 then [.encode, .modulate, .precode, .frame]
  else [.encode, .modulate, .precode, .beam, .ifft, .duc]

/-- What sets a stage: the beam table in use, CFR_CDB of the DAC chains (R527), their gains and zones, the compression sent. -/
def stageSet (s : State) (c : Nat) : TxStage → Nat × List Nat
  | .encode => (0, [])
  | .modulate => (1, [field (carrierBlock (radioBody s) c) 10 2])
  | .precode => (2, [field (carrierBlock (radioBody s) c) 3 1])
  | .frame => (3, [field (radioBody s) 961 1, field (radioBody s) 962 2])
  | .receive => (4, [])
  | .beam => (5, [leNat (Tbl.get s.rad.beams c [])])
  | .ifft => (6, carrierMu (radioBody s) c :: (List.range 4).map fun a => field (chainBlock (radioBody s) (4 + a)) 14 2)
  | .duc => (7, (List.range 4).map fun a => field (chainBlock (radioBody s) (4 + a)) 12 2)

/-- A slot's or a symbol's content goes through the stages of the role (R526). -/
def runStages (s : State) (c input : Nat) : List TxStage → Nat
  | [] => input
  | st :: rest => runStages s c (let p := stageSet s c st; Config.radioStage p.1 p.2 input) rest

/-- What a carrier sends from an instant on. -/
def sendTx (s : State) (c : Nat) (at_ : Int) (signal : Nat) : State :=
  { s with rad := { s.rad with tx := s.rad.tx ++ [⟨c, at_, txStages (radioRole (radioBody s)), signal⟩] } }

/-- The window of a section has ended: an O-RU sends its elements on the air, or its uplink U-plane 35 to 60 µs after the symbol's start
(R521, R523); an O-DU's receiver takes the uplink elements (R524). -/
def closeSection (s : State) (x : FhSection) : State :=
  let es := sectionElements s x
  let s := { s with rad := { s.rad with cplane := s.rad.cplane.erase x } }
  if x.plane = 2 then
    { s with rad := { s.rad with fhSent := s.rad.fhSent ++
        [(⟨3, x.eaxc, x.symbol, x.symbol + 17204 + (Config.freeValue s.fresh % 12288 : Nat)⟩ : FhSent)] } }.useFresh
  else
    let s := { s with rad := { s.rad with symbols := s.rad.symbols ++ [(x, es)] } }
    if x.plane = 1 then
      sendTx s (bits x.eaxc 4 4) x.symbol (if es.all (· == 0) then 0
        else runStages s (bits x.eaxc 4 4) (es.foldr (fun e n => e + 2 ^ 32 * n) 0) (txStages 1))
    else s

/-- At a slot boundary of a carrier, its sections whose window has ended are completed, and U-plane data whose window has ended goes. -/
def closeWindows (s : State) (c : Nat) : State :=
  let s := (s.rad.cplane.filter fun x => bits x.eaxc 4 4 == c && windowEnded s x.plane x.symbol).foldl closeSection s
  let plane := if radioRole (radioBody s) = 1 then 1 else 3
  { s with rad := { s.rad with uplane := s.rad.uplane.filter fun d => !(bits d.eaxc 4 4 == c && windowEnded s plane d.symbol) } }

/-- Requests accepted for the slot of a carrier that starts at an instant. -/
def slotReqs (s : State) (c : Nat) (at_ : Int) : List SlotReq := s.rad.reqs.filter fun r => r.carrier == c && r.boundary == at_

/-- Payload bytes of crates, each a handle and a length. -/
def cratePayload (s : State) : List (Nat × Nat) → State × List Byte
  | [] => (s, [])
  | h :: rest =>
    let r := radioGet s (crateAddr s h.1) (min h.2 (crateSize (bits h.1 30 2)))
    let q := cratePayload r.1 rest
    (q.1, r.2 ++ q.2)

/-- The downlink of the slot that starts now, in the roles that build it from L2 (R526, R535): the PDUs served and the transport blocks
through the stages of the role, or zero without an accepted DL_TTI.request. -/
def downlinkSlot (s : State) (c : Nat) : State :=
  let reqs := (slotReqs s c s.now).filter fun r => r.type != 0x81
  if radioRole (radioBody s) < 2 ∨ (slotSymbols s c s.now).1 = [] then s
  else if !reqs.any fun r => r.type == 0x80 then sendTx s c s.now 0
  else
    let r := cratePayload s (reqs.flatMap (·.crates))
    sendTx r.1 c s.now
      (runStages s c (leNat (reqs.flatMap (fun q => q.pdus.flatMap (·.bytes)) ++ r.2)) (txStages (radioRole (radioBody s))))

/-- The fronthaul of an O-DU for the slot that starts now (R524): downlink messages, and with an accepted UL_TTI.request uplink C-plane
messages, leave their advance before the symbol's air start, and each uplink symbol is awaited. -/
def fronthaulSlot (s : State) (c : Nat) : State :=
  let b := radioBody s
  if radioRole b ≠ 2 then s
  else
    let has (ty : Nat) : Bool := (slotReqs s c s.now).any fun r => r.type == ty
    let mu := carrierMu b c
    let start (l : Nat) : Int := (s.now : Int) + symbolOffset mu (slotAt s c s.now).2 l
    let up (l : Nat) : Int := start l - uplinkLead b c
    let syms := slotSymbols s c s.now
    let dl : List FhSent := if has 0x80 then syms.1.flatMap fun l => (antennas b c).flatMap fun a =>
        [⟨1, 16 * c + a, start l, start l - field b 976 4⟩, ⟨0, 16 * c + a, start l, start l - field b 972 4⟩] else []
    let ul : List FhSent := if has 0x81 then syms.2.flatMap fun l => (antennas b c).map fun a =>
        ⟨2, 16 * c + a, up l, up l - field b 980 4⟩ else []
    let due : List FhSection := if has 0x81 then syms.2.flatMap fun l => (antennas b c).map fun a =>
        ⟨16 * c + a, 3, (up l).toNat, 0, 12 * carrierBlocks mu (field (carrierBlock b c) 2 1), 0⟩ else []
    { s with rad := { s.rad with fhSent := s.rad.fhSent ++ dl ++ ul, cplane := s.rad.cplane ++ due } }

/-- The slot starting now has downlink symbols. -/
def slotHasDl (s : State) (c : Nat) : Bool := (slotSymbols s c s.now).1 != []

/-- A downlink slot without an accepted DL_TTI.request (R535). -/
def noteEmpty (s : State) (c : Nat) : State :=
  if fapiOn s c && slotHasDl s c &&
      !(s.rad.reqs.any fun r => r.carrier == c && r.type == 0x80 && r.boundary == (s.now : Int)) then
    s.bump (Reg.RAD_DL_EMPTY.COUNT c) 1
  else s

/-- Requests of slots that have ended go, and the crates of transmitted slots are freed (R544; those of
slots that a withdrawal cuts off are not: DESIGN CHOICE, log entry 108). -/
def retireReqs (s : State) (c : Nat) : State :=
  let ended (r : SlotReq) : Bool := r.carrier == c && decide (r.boundary < (s.now : Int))
  let hs := (s.rad.reqs.filter ended).flatMap fun r => r.crates.map (·.1)
  radioFreeAll { s with rad := { s.rad with reqs := s.rad.reqs.filter fun r => !ended r } } hs

/-- A slot boundary of a carrier while radio is released. -/
def slotBoundary (s : State) (c : Nat) (sats : List Nat) : State :=
  let s := sats.zipIdx.foldl (fun (s : State) p => if p.2 < 4 then s.bump (Reg.RAD_DAC_SAT.COUNT p.2) p.1 else s) s
  let s := retireReqs s c
  if bit s.rad.stopMask c then
    let s := stopCarrier s c
    if s.rad.stopMask = 0 then endRelease s s.rad.stopCause s.rad.stopRq else s
  else
    let s := if bit s.rad.fapiStop c then
        let streams := s.rad.streams
        let s := stopCarrier s c
        { s with rad := { s.rad with streams := streams } }
      else s
    let s := { s with rad := { s.rad with slot := Tbl.put s.rad.slot c (slotAt s c s.now).2 0 } }
    let s := noteEmpty (rejectLayers (applyLayers (applyGate (applyBeams (closeWindows s c) c) c)) c) c
    fronthaulSlot (downlinkSlot s c) c

/-! P7 requests (R515, R516, R533, R534). -/

/-- PDUs of a kind served per slot and carrier (R515). -/
def pduLimit : Nat → Nat
  | 0 => 16 | 1 => 4 | 2 => 8 | 3 => 2 | 4 => 4 | 5 => 16 | 6 => 32 | _ => 8

/-- A feature that the part serves, by the carrier's µ and the kind of the PDU (R513, R514). -/
def featureServed (mu kind : Nat) : NrFeature → Bool
  | .codewords n => decide (n ≤ 1)
  | .modulation n => [2, 4, 6, 8].contains n || (kind == 5 && n == 1)
  | .dftS => kind == 5
  | .mappingB _ => kind == 0 || kind == 5
  | .ssb case lMax => decide (case ≤ 2) && (lMax == 4 || lMax == 8)
  | .ports n => [1, 2, 4].contains n
  | .pucchFormat n => decide (n ≤ 4)
  | .prachFormat n => decide (n ≤ 3) || [161, 162, 163, 177, 178, 179, 180, 192, 194].contains n
  | .comb n => n == 2 || n == 4
  | .dmrs type symbols additional => (type == 1 || type == 2) && (symbols == 1 || symbols == 2) && decide (additional ≤ 3)
  | .codebook type panels ports => type == 1 && panels == 1 && ports == 4
  | .beam i => decide (i ≤ 64)
  | .baseGraph n => n == 1 || n == 2
  | .numerology m => m == mu
  | .repetitionA => kind == 0 || kind == 5
  | .extendedCp | .ptRs | .repetitionB | .sidelink | .positioning | .other => false

/-- A PDU requests only features of R513: π/2-BPSK with DFT-s-OFDM alone, which has one layer. -/
def pduSupported (mu : Nat) (p : FapiPdu) : Bool :=
  p.features.all (featureServed mu p.kind) && (!p.features.contains (.modulation 1) || p.features.contains .dftS) &&
    (!p.features.contains .dftS || decide (p.layers ≤ 1))

/-- Kinds of PDU that a message may hold (R546). -/
def messageKinds (type : Nat) : List Nat :=
  if type = 0x80 then [0, 1, 2, 3] else if type = 0x81 then [4, 5, 6, 7] else if type = 0x83 then [1] else []

/-- The PDUs of a message served and the number rejected, in message order, after those served for the slot before (R514-R516, R542). -/
def servePdus (mu max_ type : Nat) (before pdus : List FapiPdu) : List FapiPdu × Nat :=
  pdus.foldl (fun (acc : List FapiPdu × Nat) p =>
    let same := (before ++ acc.1).filter fun q => q.kind == p.kind
    let dcis := (same.map (·.dcis)).sum
    if (messageKinds type).contains p.kind && pduSupported mu p && decide (same.length < pduLimit p.kind) &&
        (p.kind != 1 || decide (dcis + p.dcis ≤ 32)) && !overLayers max_ p then (acc.1 ++ [p], acc.2)
    else (acc.1, acc.2 + 1)) ([], 0)

/-- A late P7 request (R534). -/
def lateRequest (s : State) (c type sfn slot : Nat) : State :=
  let s := fapiPush s c fapiError sfn slot msgSlotErr [type]
  let s := s.bump (Reg.RAD_FAPI_LATE.COUNT c) 1
  s.logLimited c 141 0x1803 c type (s.rd (Reg.RAD_FAPI_LATE.COUNT c))

/-- A P7 request for a slot, due `lead` ticks before its air boundary. -/
def p7Request (s : State) (c type sfn slot lead : Nat) (pdus : List FapiPdu) (crates : List (Nat × Nat)) : State :=
  if !fapiUp s c then s
  else
    let s := fapiPop s c
    if !s.flag Reg.RAD_STAT.RELEASED then fapiPush s c fapiError sfn slot msgInvalidState [type]
    else
      let at_ := slotStart s c sfn slot
      if at_ - lead < (s.now : Int) then lateRequest s c type sfn slot
      else
        let (ok, bad) := servePdus (carrierMu (radioBody s) c) (s.rd Reg.RAD_STAT.MAX_LAYERS) type
          ((slotReqs s c at_).flatMap (·.pdus)) pdus
        let s := { s with rad := { s.rad with reqs := s.rad.reqs ++ [⟨c, type, at_, sfn, slot, ok, crates⟩] } }
        (List.range bad).foldl (fun s _ => fapiPush s c fapiError sfn slot msgInvalidConfig [type]) s

/-- An indication of the slot timeline: pushed when the slot that ended, or starts, `ago` ticks before now is the
carrier's (R533). -/
def timelineInd (s : State) (c type : Nat) (ago : Int) (args : List Nat) : State :=
  let at_ : Int := (s.now : Int) - ago
  if fapiOn s c ∧ s.flag Reg.RAD_STAT.RELEASED ∧ bit (s.rd Reg.RAD_STAT.STARTED) c ∧
      (at_ - frameOfs (radioBody s)) % slotTicks (radioBody s) c = 0 then
    let p := slotAt s c at_
    fapiPush s c type p.1 p.2 0 args
  else s

/-! Fronthaul messages (R519-R525). -/

/-- A frame dropped (R520). -/
def fhDrop (s : State) (p type : Nat) : State :=
  let s := s.bump (Reg.RAD_ETH_DROP.COUNT p) 1
  s.logLimited p (219 + p) 0x1807 p type (s.rd (Reg.RAD_ETH_DROP.COUNT p))

/-- The eAxC identity is one that R519 allows. -/
def eaxcOk (s : State) (x : Nat) : Bool := decide (x / 256 = 0) && carrierOn s (bits x 4 4) && decide (bits x 0 4 < 4)

/-- Window of a message in tenths of a tick before the air start of its symbol, for the O-RU role (R521). -/
def ruWindow (plane : Nat) : Int × Int :=
  if plane = 0 then (294912, 1572864) else if plane = 1 then (589824, 2211840) else (294912, 1966080)

/-- A message against its window: 0 in time, 1 early, 2 late (R521, R522, R524). -/
def fhWindow (s : State) (m : FhMsg) : Nat :=
  if radioRole (radioBody s) = 1 then
    let lead : Int := 10 * ((m.symbol : Int) - s.now)
    let w := ruWindow m.plane
    if w.2 < lead then 1 else if lead < w.1 then 2 else 0
  else
    let after : Int := (s.now : Int) - m.symbol
    if after < field (radioBody s) 984 4 then 1 else if field (radioBody s) 988 4 < after then 2 else 0

/-- The planes that a role receives: an O-RU downlink U and both C planes, an O-DU uplink U. -/
def fhPlaneOk (s : State) (m : FhMsg) : Bool :=
  if radioRole (radioBody s) = 1 then decide (m.plane ≤ 2) && (if m.plane = 0 then m.type == 0 else m.type == 2)
  else m.plane == 3 && m.type == 0

/-- A message carries only options of R519. -/
def fhSupported (m : FhMsg) : Bool :=
  m.overEthernet && m.headerOk &&
    ((m.type == 0 && decide (1 ≤ m.comp) && decide (m.comp ≤ 4)) ||
     (m.type == 2 && (m.section_ == 1 || m.section_ == 3) && !m.extension && decide (m.beam ≤ 64)))

/-- An I or Q value sent in `w` bits as bit field `k` of a block, the first field the most significant. -/
def iqField (v n w k : Nat) : Int := sInt (bits v ((n - 1 - k) * w) w) w

/-- The element of U-plane data at index `i` (R519, R526): 16 bits uncompressed, or block floating point, whose blocks of 12 elements
start with a byte that holds the exponent in its low half (O-RAN.WG4.CUS, PRESUMED, log entry 101). -/
def element (comp : Nat) (data : List Byte) (i : Nat) : Nat :=
  let iq (a b : Int) : Nat := ofInt a 16 + 2 ^ 16 * ofInt b 16
  if comp = 1 then let v := beNat (slice data (4 * i) 4); iq (iqField v 2 16 0) (iqField v 2 16 1)
  else
    let w := if comp = 2 then 9 else if comp = 3 then 12 else 14
    let blk := slice data (i / 12 * (1 + 3 * w)) (1 + 3 * w)
    let e : Int := (2 ^ (field blk 0 1 % 16) : Nat)
    let v := beNat (blk.drop 1)
    let k := 2 * (i % 12)
    iq (clampI (-32768) 32767 (iqField v 24 w k * e)) (clampI (-32768) 32767 (iqField v 24 w (k + 1) * e))

/-- Elements that U-plane data of a compression holds. -/
def elementCount (comp : Nat) (data : List Byte) : Nat :=
  if comp = 1 then data.length / 4
  else 12 * (data.length / (1 + 3 * (if comp = 2 then 9 else if comp = 3 then 12 else 14)))

/-- U-plane data decompressed. -/
def decompress (m : FhMsg) : FhData :=
  ⟨m.eaxc, m.symbol, m.first, (List.range (elementCount m.comp m.data)).map (element m.comp m.data)⟩

/-- A delay measurement answered with its identity and its time of arrival (R519). -/
def answerDelay (s : State) (p id : Nat) : State := { s with rad := { s.rad with owd := Tbl.set s.rad.owd p (id, s.now) } }

/-- A U-plane message of an O-RU has a C-plane section for its symbol ("At the edges"). -/
def hasSection (s : State) (m : FhMsg) : Bool :=
  s.rad.cplane.any fun x => x.plane == 1 && x.eaxc == m.eaxc && x.symbol == m.symbol

/-- A fronthaul message received on a port.  Frames of more than 9,216 bytes are not accepted (R525). -/
def fhReceive (s : State) (p : Nat) (m : FhMsg) : State :=
  if !s.flag (Reg.RAD_ETH_CFG.EN p) || !bit (fhPorts s) p || decide (9216 < m.octets) then s
  else if m.overEthernet && m.headerOk && m.type == 5 then answerDelay s p m.eaxc
  else if !fhSupported m || !eaxcOk s m.eaxc || !fhPlaneOk s m then fhDrop s p m.type
  else if radioRole (radioBody s) == 1 && m.plane == 0 && s.rad.limited && decide (2 ≤ m.eaxc % 16) then fhDrop s p m.type
  else
    let logWin (s : State) (late : Nat) : State := s.logLimited p (219 + p) 0x1804 p late m.eaxc
    match fhWindow s m with
    | 1 => logWin (s.bump (Reg.RAD_ETH_EARLY.COUNT p) 1) 0
    | 2 => logWin (s.bump (Reg.RAD_ETH_LATE.COUNT p) 1) 1
    | _ =>
      let s := s.bump (Reg.RAD_ETH_ON_TIME.COUNT p) 1
      if m.type = 2 then
        { s with rad := { s.rad with cplane := s.rad.cplane ++ [⟨m.eaxc, m.plane, m.symbol, m.first, m.count, m.beam⟩] } }
      else if radioRole (radioBody s) == 1 && !hasSection s m then fhDrop s p m.type
      else { s with rad := { s.rad with uplane := s.rad.uplane ++ [decompress m] } }

/-- A write to RAD_ETHp_CFG, refused while radio is released and the port serves the fronthaul (R553). -/
def writeEthCfg (s : State) (rq : Requester) (p data : Nat) : State :=
  let addr := 0xF03000100 + 0x40 * p
  if s.flag Reg.RAD_STAT.RELEASED && bit (fhPorts s) p then (s.logEvent 141 0x1808 addr data rq.ni).answer 0
  else
    let sp := bits data 1 2
    let s := (s.wr (Reg.RAD_ETH_CFG.EN p) data).wr (Reg.RAD_ETH_CFG.RS_FEC p) (bits data 3 1)
    if sp = 0 ∨ sp = 3 then (s.logEvent 141 0x0102 addr data rq.ni).answer 0
    else (s.wr (Reg.RAD_ETH_CFG.SPEED p) sp).answer 0

/-- A write to a word of RAD_BEAMc_BASE, refused when the address it makes is not 4 KiB aligned in the larder (R553). -/
def writeBeamBase (s : State) (rq : Requester) (c : Nat) (hi : Bool) (data : Nat) : State :=
  let v := data % 2 ^ 32
  let bad := if hi then v != 0x8 else v % 4096 != 0 || decide (0x04000000 < v + 4096)
  if bad then
    (s.logEvent 141 0x1808 (0xF03000060 + 8 * c + 4 * b2n hi) data rq.ni).answer 0
  else (s.wr (if hi then Reg.RAD_BEAM_BASE_HI.ADDR c else Reg.RAD_BEAM_BASE_LO.ADDR c) v).answer 0

/-- A write to RAD_BEAM_COMMIT copies the tables (R529). -/
def beamCommit (s : State) (data : Nat) : State :=
  ((ones data 2).foldl (fun (s : State) c =>
    let a := s.rdPair (Reg.RAD_BEAM_BASE_LO.ADDR c) (Reg.RAD_BEAM_BASE_HI.ADDR c)
    let r := radioGet s a 4096
    { r.1 with rad := { r.1.rad with beamPend := r.1.rad.beamPend ++ [(c, s.now, r.2)] } }) s).answer 0

/-- Weight of layer `l` to antenna `a` for a beam identity (R528): none for identity 0, which maps layer to antenna. -/
def beamWeight (s : State) (c i l a : Nat) : Option Nat :=
  if i = 0 then none else some (field (Tbl.get s.rad.beams c []) (64 * (i - 1) + 16 * l + 4 * a) 4)

/-! The commands. -/

/-- RADIO_RELEASE (R536, R537): a write of RAD_CTRL with RELEASE. -/
def execRadioRelease (rq : Requester) (data : Nat) (s : State) : Host.Outcome State Fault Refusal :=
  whilePowered s fun s => atRegister s rq 0xF03000000 true (setBit data 0) fun s => writeRadCtrl s rq (setBit data 0)

/-- RADIO_RELEASED (R536 step 3): the first frame boundary of carrier 0 after calibration, which took at most 9,830,400 ticks (R511)
and ended with `calOk`. -/
def execRadioReleased (calOk : Bool) (s : State) : Host.Outcome State Fault Refusal :=
  whilePowered s fun s =>
    if !radUp s || !s.flag Reg.RAD_STAT.CALIBRATING || radioTime s % 4915200 != 0 ||
        decide (s.rad.calAt.toNat + 14745600 < s.now) then s
    else if !s.flag Reg.CLK_MODE_STAT.REFCLK_OK then releaseRefused s 4 s.rad.requester
    else if !calOk then releaseRefused s 5 s.rad.requester
    else finishRelease s

/-- RADIO_WITHDRAW (R538): a write of RAD_CTRL with WITHDRAW. -/
def execRadioWithdraw (rq : Requester) (data : Nat) (s : State) : Host.Outcome State Fault Refusal :=
  whilePowered s fun s => atRegister s rq 0xF03000000 true (setBit data 1) fun s => writeRadCtrl s rq (setBit data 1)

/-- BACKGROUND_CALIBRATION (R512). -/
def execBackgroundCalibration (chain param value : Nat) (inTolerance : Bool) (s : State) :
    Host.Outcome State Fault Refusal :=
  whilePowered s fun s =>
    if !radUp s || !s.flag Reg.RAD_STAT.RELEASED || decide (4 ≤ chain) then s
    else if inTolerance then
      { s with rad := { s.rad with cal := Tbl.put s.rad.cal (256 * chain + param % 256) value 0 } }
    else s.logLimited chain 141 0x1806 chain param 0

/-- FRAME_BOUNDARY (R530). -/
def execFrameBoundary (carrier : Nat) (s : State) : Host.Outcome State Fault Refusal :=
  whilePowered s fun s =>
    if radUp s && s.flag Reg.RAD_STAT.RELEASED && carrierOn s carrier && radioTime s % 4915200 == 0 then
      { s with rad := { s.rad with sfn := Tbl.put s.rad.sfn carrier (sfnOf (frameOf (radioTime s))) 0 } }
    else s

/-- SLOT_BOUNDARY (R504, R529, R531, R535, R538, R542): `sats` are the samples saturated by each DAC chain in the slot that
ended. -/
def execSlotBoundary (carrier : Nat) (sats : List Nat) (s : State) : Host.Outcome State Fault Refusal :=
  whilePowered s fun s =>
    if radUp s && s.flag Reg.RAD_STAT.RELEASED && carrierOn s carrier && atSlot s carrier then slotBoundary s carrier sats
    else s

/-- BEAM_COMMIT (R529). -/
def execBeamCommit (rq : Requester) (data : Nat) (s : State) : Host.Outcome State Fault Refusal :=
  whilePowered s fun s => atRegister s rq 0xF03000070 true data fun s => beamCommit s data

/-- FRONTHAUL_FRAME_RECEIVE (R519-R524, R542). -/
def execFronthaulFrameReceive (port : Nat) (msg : FhMsg) (s : State) : Host.Outcome State Fault Refusal :=
  whilePowered s fun s =>
    if radUp s && s.domUp 19 && s.cfg.radioBody.isSome && radioRole (radioBody s) != 3 then fhReceive s (port % 4) msg
    else s

/-- ONE_WAY_DELAY_MEASUREMENT (R519): answered in hardware with the message's identity and its time of arrival. -/
def execOneWayDelayMeasurement (port id : Nat) (s : State) : Host.Outcome State Fault Refusal :=
  whilePowered s fun s =>
    if radUp s && s.domUp 19 && s.flag (Reg.RAD_ETH_CFG.EN (port % 4)) && bit (fhPorts s) (port % 4) then
      answerDelay s (port % 4) id
    else s

/-- PARAM_REQUEST (R546). -/
def execParamRequest (carrier : Nat) (s : State) : Host.Outcome State Fault Refusal :=
  whilePowered s fun s => if fapiUp s carrier then fapiPush (fapiPop s carrier) carrier 0x01 0 0 0 [] else s

/-- A TLV of CONFIG.request asks for what the part does not serve or differs from the image (R547). -/
def badTlv (s : State) (c : Nat) (t : ConfigTlv) : Bool :=
  let differs := match t.place with
    | some (o, n) => field (carrierBlock (radioBody s) c) o n != t.value
    | none => false
  let served := t.feature.all fun f => (List.range 8).any fun k => featureServed (carrierMu (radioBody s) c) k f
  !served || differs

/-- CONFIG_REQUEST (R547). -/
def execConfigRequest (carrier : Nat) (tlvs : List ConfigTlv) (s : State) : Host.Outcome State Fault Refusal :=
  whilePowered s fun s =>
    if !fapiUp s carrier then s
    else
      let s := fapiPop s carrier
      let bad := tlvs.filter (badTlv s carrier)
      if bad = [] then
        let s := { s with rad := { s.rad with
          fapi := Tbl.put s.rad.fapi carrier (max 1 (Tbl.get s.rad.fapi carrier 0)) 0 } }
        fapiPush s carrier 0x03 0 0 0 []
      else fapiPush s carrier 0x03 0 0 msgInvalidConfig (bad.map (·.tag))

/-- START_REQUEST (R548). -/
def execStartRequest (carrier : Nat) (s : State) : Host.Outcome State Fault Refusal :=
  whilePowered s fun s =>
    if !fapiUp s carrier then s
    else
      let s := fapiPop s carrier
      if s.flag Reg.RAD_STAT.RELEASED then
        ({ s with rad := { s.rad with fapi := Tbl.put s.rad.fapi carrier 2 0 } }).orBits Reg.RAD_STAT.STARTED (2 ^ carrier)
      else fapiPush s carrier fapiError 0 0 msgInvalidState [0x04]

/-- STOP_REQUEST (R546): the carrier stops at its next slot boundary. -/
def execStopRequest (carrier : Nat) (s : State) : Host.Outcome State Fault Refusal :=
  whilePowered s fun s =>
    if !fapiUp s carrier then s
    else
      let s := fapiPop s carrier
      if bit (s.rd Reg.RAD_STAT.STARTED) carrier then
        { s with rad := { s.rad with fapiStop := setBit s.rad.fapiStop carrier } }
      else fapiPush s carrier fapiError 0 0 msgInvalidState [0x05]

/-- DL_TTI_REQUEST (R533, R534): due 122,880 ticks before the air boundary. -/
def execDlTtiRequest (carrier sfn slot : Nat) (pdus : List FapiPdu) (s : State) : Host.Outcome State Fault Refusal :=
  whilePowered s fun s => p7Request s carrier 0x80 sfn slot 122880 pdus []

/-- UL_TTI_REQUEST (R533, R534): due 49,152 ticks before the air boundary. -/
def execUlTtiRequest (carrier sfn slot : Nat) (pdus : List FapiPdu) (s : State) : Host.Outcome State Fault Refusal :=
  whilePowered s fun s => p7Request s carrier 0x81 sfn slot 49152 pdus []

/-- UL_DCI_REQUEST (R533, R534). -/
def execUlDciRequest (carrier sfn slot : Nat) (pdus : List FapiPdu) (s : State) : Host.Outcome State Fault Refusal :=
  whilePowered s fun s => p7Request s carrier 0x83 sfn slot 122880 pdus []

/-- TX_DATA_REQUEST (R533, R534, R544): each payload a crate handle and a length. -/
def execTxDataRequest (carrier sfn slot : Nat) (crates : List (Nat × Nat)) (s : State) : Host.Outcome State Fault Refusal :=
  whilePowered s fun s => p7Request s carrier 0x84 sfn slot 122880 [] crates

/-- FAPI_UNSUPPORTED_MESSAGE (R546). -/
def execFapiUnsupportedMessage (carrier type : Nat) (s : State) : Host.Outcome State Fault Refusal :=
  whilePowered s fun s =>
    if fapiUp s carrier then fapiPush (fapiPop s carrier) carrier fapiError 0 0 msgInvalidState [type] else s

/-- SLOT_INDICATION (R533 step 1, R548): two slots before the air boundary. -/
def execSlotIndication (carrier : Nat) (s : State) : Host.Outcome State Fault Refusal :=
  whilePowered s fun s => timelineInd s carrier 0x82 (-(2 * slotTicks (radioBody s) carrier : Nat)) []

/-- UCI_INDICATION (R533 step 6): 49,152 ticks after the slot's end. -/
def execUciIndication (carrier : Nat) (s : State) : Host.Outcome State Fault Refusal :=
  whilePowered s fun s => timelineInd s carrier 0x87 (49152 + slotTicks (radioBody s) carrier) []

/-- RACH_INDICATION (R533 step 9): 491,520 ticks after the slot's end. -/
def execRachIndication (carrier : Nat) (s : State) : Host.Outcome State Fault Refusal :=
  whilePowered s fun s => timelineInd s carrier 0x89 (491520 + slotTicks (radioBody s) carrier) []

end Sys2Proof.Machine
end

