-- ==== Sys2Proof/Machine/Image.lean ====
section
/-! DEFINITION. Bitstream images (chapter 04): the header, the directory, the bodies and the signature block, and what makes an
image abort.  The checks run in the order of the image's bytes, and the first that fails decides (DEDUCED). -/

namespace Sys2Proof.Machine

/-- An abort: its code, the image byte offset at which the cause was found, and the directory index (04 "At the edges"). -/
structure Abort where
  code : Nat
  offset : Nat
  index : Nat
  deriving DecidableEq, Repr

/-- Arg1 where no directory entry is concerned. -/
def noIndex : Nat := 0xFFFFFFFF

/-- The first check that fails. -/
def firstAbort : List (Bool × Abort) → Option Abort
  | [] => none
  | (ok, a) :: t => if ok then firstAbort t else some a

/-- The first abort found in a list of items. -/
def firstOf {α : Type} (f : α → Option Abort) : List α → Option Abort
  | [] => none
  | x :: t => match f x with
    | some a => some a
    | none => firstOf f t

/-- A length rounded up to a multiple of 64. -/
def pad64 (n : Nat) : Nat := (n + 63) / 64 * 64

/-- 1 MiB. -/
def mib : Nat := 1048576

/-- The silicon revision of the part: letter in [15:8], digit in [7:0] (02 R116). -/
def revision : Nat := 0x4101

/-! Header and directory (R164-R172). -/

/-- A directory entry (R166). -/
def readSection (b : List Byte) (k : Nat) : Section :=
  let o := 0x100 + 16 * k
  { type := field b o 2, flags := field b (o + 2) 2, target := field b (o + 4) 4
    offset := field b (o + 8) 4, length := field b (o + 12) 4 }

/-- The header and directory of an image (R165, R166). -/
def readHeader (b : List Byte) : ImageHdr :=
  { parts := field b 8 2, minRev := field b 10 2, tier := field b 12 1, keySlot := field b 13 1
    imageLen := field b 16 4, svn := field b 20 4, flags := field b 24 4
    sections := (List.range (min 1024 (field b 14 2))).map (readSection b) }

/-- The section's body is encrypted (R166). -/
def Section.enc (x : Section) : Bool := bit x.flags 0

/-- First byte of [lo, hi) that is not 0. -/
def firstNonzero (b : List Byte) (lo hi : Nat) : Option Nat :=
  ((List.range (hi - lo)).find? fun i => field b (lo + i) 1 != 0).map (lo + ·)

/-- Reserved bytes are 0 (R165, R170). -/
def reservedBytes (b : List Byte) (lo hi : Nat) : Bool × Abort :=
  match firstNonzero b lo hi with
  | some o => (false, ⟨0x0304, o, noIndex⟩)
  | none => (true, ⟨0x0304, lo, noIndex⟩)

/-- The checks of the header (R165, R167, R170, R172).  The spec names no code for a wrong MAGIC; the model takes that of a broken
format, 0x0302 (DESIGN CHOICE, log entry 95). -/
def headerAbort (p : Part) (b : List Byte) : Option Abort :=
  let h := readHeader b
  let n := field b 14 2
  let at_ (code o : Nat) : Abort := ⟨code, o, noIndex⟩
  firstAbort
    [(field b 0 4 == 0x5342584A, at_ 0x0302 0), (field b 4 2 == 1, at_ 0x0304 4), (field b 6 2 == 256, at_ 0x0304 6),
     (h.parts != 0 && decide (h.parts < 8), at_ 0x0304 8), (bit h.parts p.bitOf, at_ 0x0303 8),
     (decide (h.minRev ≤ revision), at_ 0x0303 10), (h.tier == 2 || h.tier == 3, at_ 0x0304 12),
     (decide (h.keySlot ≤ 3), at_ 0x0304 13), (decide (1 ≤ n) && decide (n ≤ 1024), at_ 0x0302 14),
     (h.imageLen % 64 == 0 && decide (h.imageLen ≤ 0x20000000) && decide (pad64 (0x100 + 16 * n) ≤ h.imageLen), at_ 0x0302 16),
     (decide (h.svn ≤ 63), at_ 0x0304 20), (decide (h.flags < 8), at_ 0x0304 24), reservedBytes b 28 32,
     reservedBytes b 64 256]

/-- TARGET holds no reserved value for its TYPE (R168). -/
def targetOk (x : Section) : Bool :=
  if x.type = 6 then decide (x.target < 256)
  else if x.type = 9 then decide (x.target ≤ 5)
  else if x.type = 10 then decide (x.target / 256 ≤ 5) && decide (x.target % 256 ≤ 7)
  else if x.type = 11 then decide (x.target ≤ 3)
  else if x.type = 12 then decide (x.target ≤ 255)
  else x.target == 0

/-- TARGET names IE3 or region 5 on the JX741 (R171). -/
def targetAbsent (p : Part) (x : Section) : Bool :=
  p == .jx741 && ((x.type == 9 && x.target == 5) || (x.type == 10 && x.target / 256 == 5) || (x.type == 11 && x.target == 3))

/-- Most sections of a TYPE in one image, counted per TARGET for types 9 to 11 (R168). -/
def countMax (t : Nat) : Nat := if t = 6 then 8 else if t = 12 then 256 else 1

/-- Sections before index `k` that count with section `k` (R168). -/
def sameBefore (ss : List Section) (k : Nat) (x : Section) : Nat :=
  (ss.take k).countP fun y => y.type == x.type && (!(9 ≤ x.type ∧ x.type ≤ 11) || y.target == x.target)

/-- Two padded bodies overlap. -/
def bodiesMeet (x y : Section) : Bool := overlap x.offset (pad64 x.length) y.offset (pad64 y.length)

/-- The checks of directory entry `k` (R166-R171). -/
def entryAbort (p : Part) (h : ImageHdr) (k : Nat) (x : Section) : Option Abort :=
  let o := 0x100 + 16 * k
  let first := pad64 (0x100 + 16 * h.sections.length)
  let prev := (h.sections[k - 1]?).getD x
  firstAbort
    [(decide (1 ≤ x.type) && decide (x.type ≤ 16), ⟨0x0304, o, k⟩),
     (k == 0 || decide (prev.type ≤ x.type), ⟨0x0305, o, k⟩),
     (h.tier == 3 || decide (x.type ≤ 8), ⟨0x0305, o, k⟩),
     (decide (sameBefore h.sections k x < countMax x.type), ⟨0x0305, o, k⟩),
     (decide (x.flags < 4), ⟨0x0304, o + 2, k⟩), (targetOk x, ⟨0x0304, o + 4, k⟩), (!targetAbsent p x, ⟨0x0306, o + 4, k⟩),
     (x.offset % 64 == 0 && decide (first ≤ x.offset) && decide (x.offset + pad64 x.length ≤ h.imageLen), ⟨0x0302, o + 8, k⟩),
     ((h.sections.take k).all fun y => !bodiesMeet x y, ⟨0x0302, o + 8, k⟩)]

/-- Sections with their directory indices. -/
def indexed (h : ImageHdr) : List (Nat × Section) := (List.range h.sections.length).zip h.sections

/-- A section of a type, with its index. -/
def sectionOf (h : ImageHdr) (t : Nat) : Option (Nat × Section) := (indexed h).find? fun p => p.2.type == t

/-- The checks of the directory; types 1 to 3, 5, 6 and 8 appear in every bitstream (R168, R169). -/
def directoryAbort (p : Part) (h : ImageHdr) : Option Abort :=
  match firstOf (fun x : Nat × Section => entryAbort p h x.1 x.2) (indexed h) with
  | some a => some a
  | none =>
    if [1, 2, 3, 5, 6, 8].all fun t => (sectionOf h t).isSome then none
    else some ⟨0x0305, 0x100 + 16 * h.sections.length, noIndex⟩

/-- The bodies of types 1 to 5 fit the configuration buffer (R185). -/
def bufferAbort (h : ImageHdr) : Option Abort :=
  firstOf (fun x : Nat × Section =>
    let total := (((h.sections.take (x.1 + 1)).filter fun y => decide (y.type ≤ 5)).map (·.length)).sum
    if x.2.type ≤ 5 ∧ 262144 < total then some ⟨0x0302, x.2.offset, x.1⟩ else none) (indexed h)

/-! Bodies (R173, R174, R180). -/

/-- The device key or the group key (R166). -/
def aesKey (keysel : Nat) : List Byte := (List.range 32).map (Config.aesKeyByte keysel)

/-- The plaintext of a body (R180). -/
def plainBody (b : List Byte) (k : Nat) (x : Section) : Except Abort (List Byte) :=
  let body := slice b x.offset x.length
  if !x.enc then .ok body
  else if x.length < 32 ∨ field body 12 4 ≠ 0 then .error ⟨0x0304, x.offset, k⟩
  else
    match Crypto.gcmOpen (aesKey (bits x.flags 1 1)) (slice body 0 12) (slice b (0x100 + 16 * k) 16) (body.drop 32)
      (slice body 16 16) with
    | some p => .ok p
    | none => .error ⟨0x030B, x.offset, k⟩

/-- The plaintext of the one section of a type, none where the image holds none or it does not decrypt. -/
def bodyOf (b : List Byte) (h : ImageHdr) (t : Nat) : Option (List Byte) :=
  match sectionOf h t with
  | none => none
  | some (k, x) => match plainBody b k x with
    | .ok p => some p
    | .error _ => none

/-- A MEMORY_MAP body (R173). -/
def readMap (b : List Byte) : MemMap :=
  { atticBase := field b 0 8, atticSize := field b 8 8, frameBase := field b 16 8, frameSize := field b 24 8
    resumeBase := field b 32 8 }

/-- The memory map of an image. -/
def mapOf (b : List Byte) (h : ImageHdr) : MemMap := readMap ((bodyOf b h 2).getD [])

/-- Bytes of the resume range (R173). -/
def resumeSize (h : ImageHdr) : Nat := (h.imageLen + 256 + mib - 1) / mib * mib

/-- A range lies wholly in the DRAM window. -/
def inDram (a n : Nat) : Bool := decide (a + n ≤ 0x7C0000000)

/-- One entry of DRAM_ARB or LAR_ARB holds no reserved value (R259). -/
def arbEntryOk (v : Nat) : Bool := bits v 16 8 == 0 && bits v 26 6 == 0

/-- The checks of a DRAM_CONFIG body (05 R259). -/
def dramChecks (b : List Byte) : List FieldCheck :=
  [(b.length == 80, 0), (decide (1 ≤ field b 0 1) && decide (field b 0 1 ≤ 3), 0), (decide (field b 1 1 ≤ 1), 1),
   (decide (1 ≤ field b 2 2) && decide (field b 2 2 ≤ 168), 2), (decide (1 ≤ field b 4 1) && decide (field b 4 1 ≤ 16), 4),
   zeroBytes b 5 8] ++ ((List.range 16).map fun i => (arbEntryOk (field b (8 + 4 * i) 4), 8 + 4 * i)) ++
    [(field b 68 4 == 0, 68), (decide (64 ≤ field b 72 2), 72), (decide (64 ≤ field b 74 2), 74), zeroBytes b 76 80]

/-- A value for CEL_PIN_CFG of pin `i` holds no reserved encoding and no reserved bit (14 R633, R635). -/
def pinValueOk (i v : Nat) : Bool :=
  v &&& 0xF8C80000 == 0 && !((fieldsAt (0xF04000000 + 4 * i)).getD []).any (fun f => f.reserved v) &&
    pinFuncOk i ((Reg.CEL_PIN_CFG.FUNC i).of v) ((Reg.CEL_PIN_CFG.SIG i).of v)

/-- The checks of a PIN_PLAN body (14 R638). -/
def pinChecks (b : List Byte) : List FieldCheck :=
  (b.length == 640, 0) :: (List.range 160).map fun i => (pinValueOk i (field b (4 * i) 4), 4 * i)

/-- An entry of a NOC_ROUTES body (05 R229, R230). -/
def routeEntryOk (n v : Nat) : Bool := if n ≤ 48 then entryOk n v else bits v 27 5 == 0

/-- The checks of a NOC_ROUTES body (05 R230). -/
def routeChecks (b : List Byte) : List FieldCheck :=
  (b.length == 16384, 0) :: (List.range 4096).map fun i => (routeEntryOk (i / 64) (field b (4 * i) 4), 4 * i)

/-- A NOC_ROUTES body gives NI 27 a route, or another NI a route to it, on the JX741, where IE3 is fused off (R171, 05 R230). -/
def routeAbsences (p : Part) (b : List Byte) : List FieldCheck :=
  let off (o : Nat) : FieldCheck := (!bit (field b o 4) 31, o)
  if p = .jx741 then ((List.range 64).map fun e => off (6912 + 4 * e)) ++ (List.range 64).map fun n => off (256 * n + 108) else []

/-- The checks of a GROUP body (16 R735). -/
def groupChecks (b : List Byte) : List FieldCheck :=
  [(b.length == 576, 0), (decide (field b 60 1 ≤ 1), 60), zeroBytes b 61 62,
   (decide (1 ≤ field b 62 2) && decide (field b 62 2 ≤ 600), 62)] ++
    (List.range 8).flatMap fun h =>
      let o := 64 + 64 * h
      let role := field b o 1
      [(if h = 0 then role == 1 else role != 1 && decide (role ≤ 3), o), (decide (field b (o + 1) 1 ≤ 1), o + 1),
       zeroBytes b (o + 2) (o + 4)] ++
        ((List.range 4).map fun i =>
          let v := field b (o + 4 + i) 1
          (if bit v 7 then bits v 2 2 == 0 else v == 0, o + 4 + i)) ++
        ((List.range 8).map fun d => (decide (field b (o + 8 + d) 1 ≤ 3) || field b (o + 8 + d) 1 == 0xFF, o + 8 + d)) ++
        [if h = 0 then zeroBytes b (o + 16) (o + 64) else (true, o + 16)]

/-- The checks of a VISION_CONFIG body (13 R624). -/
def visionChecks (m : MemMap) (b : List Byte) : List FieldCheck :=
  let pb := field b 0 8
  let ps := field b 8 8
  let sb := field b 16 8
  let inFrame (a n : Nat) : Bool := decide (m.frameBase ≤ a) && decide (a + n ≤ m.frameBase + m.frameSize)
  [(b.length == 64, 0), (pb % 64 == 0 && inFrame pb ps, 0),
   (sb % 64 == 0 && inFrame sb 262144 && !overlap pb ps sb 262144, 16), zeroBytes b 24 64]

/-- The checks of a CLOCK_PLAN body (R174). -/
def clockChecks (b : List Byte) : List FieldCheck :=
  [(b.length == 96, 0), (field b 0 1 == 1 || field b 0 1 == 2, 0), (decide (field b 1 1 ≤ 1), 1), zeroBytes b 2 64,
   (bits (field b 93 1) 6 2 == 0, 93), zeroBytes b 94 96, if field b 1 1 = 0 then zeroBytes b 64 96 else (true, 64)]

/-- What a CLOCK_PLAN names that the part has not: a cut-through path on the JX720, or a pinned island (R171, R174). -/
def clockAbsences (p : Part) (b : List Byte) : List FieldCheck :=
  (!(p == .jx720 && field b 1 1 == 1), 1) ::
    (List.range 238).map fun i => (!bit (field b (64 + i / 8) 1) (i % 8) || p.hasIsland i, 64 + i / 8)

/-- The checks of a DOMAIN_PLAN body (R168); on the JX741 it does not name IE3 or region 5, on the JX720 not the converters
(R171). -/
def domainChecks (b : List Byte) : List FieldCheck :=
  [(b.length == 8, 0), (bits (field b 0 4) 23 9 == 0, 0), (bits (field b 4 4) 23 9 == 0, 4)]
def domainAbsences (p : Part) (b : List Byte) : List FieldCheck :=
  [(field b 0 4 &&& p.fused == 0, 0), (field b 4 4 &&& p.fused == 0, 4)]

/-- The checks of a SHELF_IMAGE that starts at `o` (07 R326, R334). -/
def shelfChecks (b : List Byte) (o : Nat) : List FieldCheck :=
  ((List.range 128).map fun n => (cellRecordOk (field b (o + 64 * n) 64), o + 64 * n)) ++
    (List.range 16).map fun m => (boxRecordOk (field b (o + 8192 + 64 * m) 64), o + 8192 + 64 * m)

/-- The checks of a REGION_IMAGE body (R211). -/
def regionImageChecks (b : List Byte) : List FieldCheck :=
  [(b.length == 140032, 0)] ++ ((List.range 8).flatMap fun k => shelfChecks b (9216 * k)) ++
    (List.range 96).map fun e => (idleEntryOk (field b (139264 + 8 * e) 8), 139264 + 8 * e)

/-- The checks of an ENGINE_IMAGE body (08 R373). -/
def engineChecks (b : List Byte) : List FieldCheck :=
  [(decide (16 ≤ b.length) && (b.length - 16) % 64 == 0, 0),
   (field b 8 8 % 64 == 0 && decide (field b 8 8 + (b.length - 16) ≤ 524288), 8)]

/-- The checks of a MODEL_PACKAGE body: its load prefix, and the reserved values of the package header behind it (10 R472). -/
def packageChecks (b : List Byte) : List FieldCheck :=
  [(decide (144 ≤ b.length), 0), (field b 20 1 == 1, 20), (decide (field b 21 1 ≤ 3), 21), (decide (field b 22 2 ≤ 1), 22),
   zeroBytes b 48 76, zeroBytes b 80 144]

/-- What a RADIO_CONFIG body names that the part has not: the converters, or region 5 on the JX741 (R171). -/
def radioAbsences (p : Part) (b : List Byte) : List FieldCheck :=
  (!radioAbsent p b, 0) ::
    if p = .jx741 then
      (regionCarrier b 5 == 0xFF, 13) :: (List.range (radioCarriers b)).flatMap fun c =>
        (List.range (min 40 (field (carrierBlock b c) 6 1))).map fun j =>
          (!bit (slotEntryOf b c j).2.2.2 5, 64 + 384 * c + 67 + 8 * j)
    else []

/-- The checks of a plaintext body: reserved values, then what the part has not (R170, R171). -/
def bodyChecks (p : Part) (m : MemMap) (t : Nat) (b : List Byte) : List FieldCheck × List FieldCheck :=
  match t with
  | 1 => (clockChecks b, clockAbsences p b)
  | 2 => ([(b.length == 64, 0), zeroBytes b 40 64], [])
  | 3 => (dramChecks b, [])
  | 4 => (pinChecks b, [])
  | 5 => (domainChecks b, domainAbsences p b)
  | 6 | 7 => ([(decide (16 ≤ b.length), 0)], [])
  | 8 => (routeChecks b, routeAbsences p b)
  | 9 => (regionImageChecks b, [])
  | 10 => ((b.length == 9216, 0) :: shelfChecks b 0, [])
  | 11 => (engineChecks b, [])
  | 12 => (packageChecks b, [])
  | 13 => (radioChecks b, radioAbsences p b)
  | 14 => (visionChecks m b, [])
  | 15 => (groupChecks b, [])
  | _ => ([], [])

/-- The abort that a plaintext body causes, at the image byte of the field: an encrypted body's plaintext starts 32 bytes into
it (R170, R171, R180). -/
def bodyAbort (p : Part) (m : MemMap) (k : Nat) (x : Section) (b : List Byte) : Option Abort :=
  let at_ := x.offset + if x.enc then 32 else 0
  let (rsv, abs) := bodyChecks p m x.type b
  firstAbort ((rsv.map fun c => (c.1, ⟨0x0304, at_ + c.2, k⟩)) ++ abs.map fun c => (c.1, ⟨0x0306, at_ + c.2, k⟩))

/-- The checks of the bodies that a stage reads: those of types above `done` and up to `reached`, and every body that is not
encrypted when `plain` is set. -/
def bodiesAbort (p : Part) (m : MemMap) (b : List Byte) (h : ImageHdr) (done reached : Nat) (plain : Bool) : Option Abort :=
  firstOf (fun x : Nat × Section =>
    if (done < x.2.type ∧ x.2.type ≤ reached) ∨ (plain ∧ !x.2.enc) then
      match plainBody b x.1 x.2 with
      | .error a => some a
      | .ok t => bodyAbort p m x.1 x.2 t
    else none) (indexed h)

/-! The memory map (R173). -/

/-- DEST and length of a section with a load prefix; an encrypted one is read once its type has been reached. -/
def destOf (b : List Byte) (k : Nat) (x : Section) (reached : Nat) : Option (Nat × Nat) :=
  if [6, 7, 11, 12].contains x.type ∧ (x.type ≤ reached ∨ !x.enc) then
    match plainBody b k x with
    | .ok t => some (field t 0 8, t.length - 16)
    | .error _ => none
  else none

/-- A CELLAR_IMAGE lies in cellar SRAM, other sections in the DRAM window clear of the ranges given (R173). -/
def destOk (x : Section) (d : Nat × Nat) (taken : List (Nat × Nat)) : Bool :=
  if x.type = 7 then decide (0x10000000 ≤ d.1) && decide (d.1 + d.2 ≤ 0x10060000)
  else inDram d.1 d.2 && taken.all fun r => !overlap d.1 d.2 r.1 r.2

/-- The DEST ranges in directory order. -/
def destAbort (b : List Byte) (reached : Nat) : List (Nat × Section) → List (Nat × Nat) → Option Abort
  | [], _ => none
  | (k, x) :: t, taken => match destOf b k x reached with
    | none => destAbort b reached t taken
    | some d =>
      if destOk x d taken then destAbort b reached t (if x.type = 7 then taken else taken ++ [d])
      else some ⟨0x0307, x.offset, k⟩

/-- The ranges of the memory map and every DEST range read so far (R173). -/
def mapAbort (b : List Byte) (h : ImageHdr) (reached : Nat) : Option Abort :=
  match sectionOf h 2, bodyOf b h 2 with
  | some (k, x), some t =>
    let m := readMap t
    let rs := [(m.atticBase, m.atticSize), (m.frameBase, m.frameSize), (m.resumeBase, resumeSize h)]
    if ([m.atticBase, m.atticSize, m.frameBase, m.frameSize, m.resumeBase].all fun v => v % mib == 0) &&
        (rs.all fun r => inDram r.1 r.2) && disjointRanges rs then destAbort b reached (indexed h) rs
    else some ⟨0x0307, x.offset, k⟩
  | _, _ => none

/-- A list of checks holds throughout. -/
def checksHold (l : List FieldCheck) : Bool := l.all fun c => c.1

/-! Authentication (R175-R179). -/

/-- The bitstream digest (R176). -/
def imageDigest (b : List Byte) (h : ImageHdr) : List Byte := Crypto.sha384 (slice b 0 (h.imageLen + 128))

/-- The signature verifies (R175, R178). -/
def signatureOk (b : List Byte) (h : ImageHdr) : Bool :=
  let o := h.imageLen
  field b o 1 == 4 && Crypto.verify (beNat (imageDigest b h)) (beNat (slice b (o + 1) 48)) (beNat (slice b (o + 49) 48))
    (beNat (slice b (o + 0x80) 48)) (beNat (slice b (o + 0xB0) 48))

/-- Key slots programmed, revoked, and the SVN floor: the fuses, and what the device has blown since (R216). -/
def keyProgrammed : Nat := Config.fuseProgrammed % 16
def keyRevoked (s : State) : Nat := (Config.fuseRevoked ||| s.cfg.keyRevoked) % 16
def svnFloor (s : State) : Nat := max (Config.fuseSvnFloor % 64) s.cfg.svnFloor

/-- The digest that a key slot holds. -/
def keyDigest (slot : Nat) : Nat := Config.fuseKeyDigest slot % 2 ^ 384

/-- The signature block, key, signature and SVN (R175-R179). -/
def authAbort (s : State) (b : List Byte) (h : ImageHdr) : Option Abort :=
  let o := h.imageLen
  firstAbort
    [reservedBytes b (o + 0x61) (o + 0x80), reservedBytes b (o + 0xE0) (o + 0x100),
     (bit keyProgrammed h.keySlot && !bit (keyRevoked s) h.keySlot &&
       beNat (Crypto.sha384 (slice b o 97)) == keyDigest h.keySlot, ⟨0x0308, o, noIndex⟩),
     (signatureOk b h, ⟨0x0309, o + 0x80, noIndex⟩), (decide (svnFloor s ≤ h.svn), ⟨0x030A, 20, noIndex⟩)]

/-- Pass 1 on an image received with a HOP (R165-R179, R185, R199). -/
def pass1Abort (s : State) (b : List Byte) (hop : Nat) : Option Abort :=
  let h := readHeader b
  match headerAbort s.part b with
  | some a => some a
  | none => match directoryAbort s.part h with
    | some a => some a
    | none =>
      let deep := match sectionOf h 16 with
        | some (k, _) => if hop = 7 then some (⟨0x0305, 0x100 + 16 * k, k⟩ : Abort) else none
        | none => none
      match deep with
      | some a => some a
      | none => match bufferAbort h with
        | some a => some a
        | none => match bodiesAbort s.part (mapOf b h) b h 0 5 true with
          | some a => some a
          | none => match mapAbort b h 0 with
            | some a => some a
            | none => authAbort s b h

/-! Hatch packages (R205). -/

/-- The subcode that an abort of a package gives: 4 where authentication or decryption fails, else 2 (R206). -/
def packageSubcode (a : Abort) : Nat := if 0x0308 ≤ a.code ∧ a.code ≤ 0x030B then 4 else 2

/-- The body of a package's section as the hatch writes it, decrypted where it is encrypted, whatever its tag; and whether the tag
holds (R180, R208). -/
def rawBody (b : List Byte) (k : Nat) (x : Section) : Except Nat (List Byte × Bool) :=
  let body := slice b x.offset x.length
  if !x.enc then .ok (body, true)
  else if x.length < 32 ∨ field body 12 4 ≠ 0 then .error 2
  else
    let key := aesKey (bits x.flags 1 1)
    .ok (Crypto.gcmPlain key (slice body 0 12) (body.drop 32),
      (Crypto.gcmOpen key (slice body 0 12) (slice b (0x100 + 16 * k) 16) (body.drop 32) (slice body 16 16)).isSome)

/-- The one section of a package: its type, its plaintext, and whether a signed package is authentic and whole (R205, R206,
R208). -/
def readPackageImage (s : State) (b : List Byte) (signed : Bool) : Except Nat (Nat × List Byte × Bool) :=
  let h := readHeader b
  match headerAbort s.part b, h.sections with
  | some a, _ => .error (packageSubcode a)
  | none, [x] =>
    if h.imageLen + 256 ≠ b.length then .error 2
    else match entryAbort s.part h 0 x, rawBody b 0 x with
      | some a, _ => .error (packageSubcode a)
      | none, .error e => .error e
      | none, .ok (t, whole) => .ok (x.type, t, whole && (!signed || (authAbort s b h).isNone))
  | none, _ => .error 2

end Sys2Proof.Machine
end

