-- ==== Sys2Proof/Machine/Serial.lean ====
section
/-! DEFINITION. The serial controllers of the plant I/O island (chapter 14): CAN FD, the RS-485 UARTs with Modbus RTU, I²C and
SPI, and the writes to the plant registers by offset. -/

namespace Sys2Proof.Machine

/-! CAN FD (R668-R674). -/

/-- A CAN controller. -/
def State.can (s : State) (n : Nat) : CanCtl := Tbl.get s.cel.can n {}

/-- A CAN controller replaced. -/
def State.setCan (s : State) (n : Nat) (c : CanCtl) : State := { s with cel := { s.cel with can := Tbl.put s.cel.can n c {} } }

/-- The crystal clocks the CAN controllers: it has given edges for 1 ms (R669). -/
def canClocked (s : State) : Bool := s.pw.xtalOk && decide (s.pw.xtalAt + 491520 ≤ s.now ∨ s.pw.xtalAt = 0)

/-- The controller takes part in the bus: enabled, clocked from the crystal, not bus-off (R669, R673). -/
def canLive (s : State) (n : Nat) : Bool :=
  s.flag (Reg.CEL_CAN_CTRL.EN n) && canClocked s && s.rd (Reg.CEL_CAN_STAT.STATE n) != 2

/-- Filter `f` matches a frame (R670). -/
def canMatch (s : State) (n : Nat) (fr : CanFrame) (f : Nat) : Bool :=
  let m := s.rd (Reg.CEL_CAN_MASK.MASK n f)
  s.flag (Reg.CEL_CAN_FLT.EN n f) && (fr.id.toNat &&& m) == (s.rd (Reg.CEL_CAN_FLT.ID n f) &&& m) &&
    s.flag (Reg.CEL_CAN_FLT.XTD n f) == fr.xtd

/-- The bytes of a frame slot (R674). -/
def canSlot (fr : CanFrame) (filter : Nat) (sof : DWord) : List Byte :=
  leBytes 4 (fr.id.toNat + 2 ^ 29 * b2n fr.xtd + 2 ^ 30 * b2n fr.rtr) ++
    leBytes 4 (fr.dlc.toNat + 2 ^ 4 * b2n fr.fdf + 2 ^ 5 * b2n fr.brs + 2 ^ 6 * b2n fr.esi + 2 ^ 8 * filter) ++
    leBytes 8 sof.toNat ++ slice fr.data 0 64

/-- A frame received (R670, R671). -/
def canReceive (s : State) (n : Nat) (fr : CanFrame) (sof : DWord) : State :=
  match (List.range 32).find? (canMatch s n fr) with
  | none => s
  | some f =>
    let s := if s.flag (Reg.CEL_CAN_MASK.WAKE n f) then { s with cel := { s.cel with wake := setBit s.cel.wake 2 } } else s
    let cnt := s.rd (Reg.CEL_CAN_RX_STAT.COUNT n)
    if 64 ≤ cnt then
      let s := s.bump (Reg.CEL_CAN_RX_LOST.COUNT n) 1
      s.logLimited n 236 0x2004 n (s.rd (Reg.CEL_CAN_RX_LOST.COUNT n)) 0
    else
      let at_ := (s.rd (Reg.CEL_CAN_RX_STAT.HEAD n) + cnt) % 64
      let c := s.can n
      (s.setCan n { c with slots := Mem.writeN c.slots (0x800 + 80 * at_) (canSlot fr f sof) }).wr
        (Reg.CEL_CAN_RX_STAT.COUNT n) (cnt + 1)

/-- Arbitration rank of a transmit slot, lower first: base identifier, then base before extended and data before remote, then
the identifier extension; a base identifier stands in ID [10:0] (R672). -/
def canRank (s : State) (n slot : Nat) : Nat :=
  let w := Mem.num (s.can n).slots (80 * slot) 4
  let id := bits w 0 29
  if bit w 29 then ((id / 2 ^ 18) * 2 + 1) * 2 ^ 20 + 2 ^ 19 + (id % 2 ^ 18) * 2 + b2n (bit w 30)
  else ((id % 2 ^ 11) * 2 + b2n (bit w 30)) * 2 ^ 20

/-- A slot goes first among the slots of a mask (R672). -/
def canFirst (s : State) (n slot mask : Nat) : Bool :=
  (ones mask 16).all fun t => decide (canRank s n slot < canRank s n t) ||
    (canRank s n slot == canRank s n t && decide (slot ≤ t))

/-- A frame sent (R672): `started` are the slots that were pending when it was begun. -/
def canSent (s : State) (n slot started : Nat) : State :=
  let pend := s.rd (Reg.CEL_CAN_TX_PEND.SLOTS n)
  if bit pend slot ∧ bit started slot ∧ andNot started pend = 0 ∧ canFirst s n slot started then
    let c := s.can n
    let s := s.setCan n { c with sent := Mem.readN c.slots (80 * slot) 80 }
    (s.clearBits (Reg.CEL_CAN_TX_PEND.SLOTS n) (2 ^ slot)).orBits (Reg.CEL_CAN_TX_DONE.SLOTS n) (2 ^ slot)
  else s

/-- The head receive slot is freed (R671). -/
def canPop (s : State) (n : Nat) : State :=
  let cnt := s.rd (Reg.CEL_CAN_RX_STAT.COUNT n)
  if cnt = 0 then s
  else (s.wr (Reg.CEL_CAN_RX_STAT.COUNT n) (cnt - 1)).wr (Reg.CEL_CAN_RX_STAT.HEAD n) (s.rd (Reg.CEL_CAN_RX_STAT.HEAD n) + 1)

/-- Bus-off ends: counters and state cleared (R673). -/
def canRecover (s : State) (n : Nat) : State :=
  ((s.wr (Reg.CEL_CAN_STAT.STATE n) 0).wr (Reg.CEL_CAN_STAT.TEC n) 0).wr (Reg.CEL_CAN_STAT.REC n) 0

/-- A write to CEL_CANn_CTRL: EN written 0 and then 1 ends bus-off (R673). -/
def writeCanCtrl (s : State) (rq : Requester) (n data : Nat) : State :=
  let was := s.flag (Reg.CEL_CAN_CTRL.EN n)
  let s := stdWrite s rq (0xF04004000 + 0x4000 * n) data
  if s.flag (Reg.CEL_CAN_CTRL.EN n) ∧ !was ∧ s.rd (Reg.CEL_CAN_STAT.STATE n) = 2 then canRecover s n else s

/-- A write to a bit-timing register, refused while the controller is enabled (R668). -/
def writeCanTiming (s : State) (rq : Requester) (n addr data : Nat) : State :=
  if s.flag (Reg.CEL_CAN_CTRL.EN n) then celRefused s addr data rq else stdWrite s rq addr data

/-- A write to a word of a frame slot at offset `o` from 0x800: refused in a pending transmit slot (R672); receive slots take no
writes. -/
def writeCanSlot (s : State) (rq : Requester) (n o addr data : Nat) : State :=
  if 0x800 ≤ o then s.answer 0
  else if bit (s.rd (Reg.CEL_CAN_TX_PEND.SLOTS n)) (o / 80) then celRefused s addr data rq
  else (s.setCan n { s.can n with slots := Mem.writeN (s.can n).slots o (leBytes 4 data) }).answer 0

/-! RS-485 and Modbus RTU (R675-R679). -/

/-- A UART. -/
def State.uart (s : State) (u : Nat) : Uart := Tbl.get s.cel.uart u {}

/-- A UART replaced. -/
def State.setUart (s : State) (u : Nat) (v : Uart) : State := { s with cel := { s.cel with uart := Tbl.put s.cel.uart u v {} } }

/-- A bit time in sixteenths of a cellar cycle (R675). -/
def uartBit (s : State) (u : Nat) : Nat := 16 * max 16 (s.rd (Reg.CEL_UART_CFG.BITLEN u)) + s.rd (Reg.CEL_UART_CFG.FRAC u)

/-- Ticks of a number of bit times, rounded down. -/
def uartBits (s : State) (u n : Nat) : Nat := n * uartBit s u * cellarTicks / 16

/-- Bits of a character: start bit, data bits, parity and stop bits. -/
def uartCharBits (s : State) (u : Nat) : Nat :=
  1 + (if s.flag (Reg.CEL_UART_FMT.SEVEN u) then 7 else 8) + (if s.rd (Reg.CEL_UART_FMT.PAR u) = 0 then 0 else 1) +
    (if s.flag (Reg.CEL_UART_FMT.STOP2 u) then 2 else 1)

/-- A character time in ticks. -/
def uartChar (s : State) (u : Nat) : Nat := uartBits s u (uartCharBits s u)

/-- t1.5 and t3.5 in ticks (R677). -/
def uartT15 (s : State) (u : Nat) : Nat := if uartBit s u < 40960 then 368640 else uartChar s u * 3 / 2
def uartT35 (s : State) (u : Nat) : Nat := if uartBit s u < 40960 then 860160 else uartChar s u * 7 / 2

/-- One byte of the Modbus CRC-16. -/
def crc16Byte (c : Nat) (b : Byte) : Nat :=
  (List.range 8).foldl (fun c _ => if c % 2 = 1 then (c / 2) ^^^ 0xA001 else c / 2) (c ^^^ b.toNat)

/-- The Modbus CRC-16. -/
def crc16 (bs : List Byte) : Nat := bs.foldl crc16Byte 0xFFFF

/-- A whole frame waits to be sent. -/
def hasFrame (tx : List Nat) : Bool := tx.any fun b => bit b 8

/-- The start of the next frame: at once, or in MODBUS mode after t3.5 of line silence (R678). -/
def uartStart (s : State) (u : Nat) : State :=
  let v := s.uart u
  if v.sending.isNone && s.flag (Reg.CEL_UART_CFG.EN u) && hasFrame v.tx then
    let t := if s.flag (Reg.CEL_UART_FMT.MODBUS u) then max s.now (max v.lastRx v.lastTx + uartT35 s u) else s.now
    s.setUart u { v with sending := some t }
  else s

/-- A frame is being sent. -/
def uartSends (s : State) (u : Nat) : Bool :=
  match (s.uart u).sending with
  | some t => decide (t ≤ s.now)
  | none => false

/-- DE is driven 1, and RE# with it (R676). -/
def uartDe (s : State) (u : Nat) : Bool := uartSends s u || decide (s.now < (s.uart u).deUntil)

/-- Queued bytes of the next frame. -/
def uartFrameLen (tx : List Nat) : Nat := (tx.takeWhile fun b => !bit b 8).length + 1

/-- The last stop bit of the frame being sent has passed: its bytes, and in MODBUS mode the CRC (R675, R678). -/
def uartFrameOut (s : State) (u : Nat) : Bool :=
  let n := uartFrameLen (s.uart u).tx + if s.flag (Reg.CEL_UART_FMT.MODBUS u) then 2 else 0
  match (s.uart u).sending with
  | some t => decide (t + uartBits s u (n * uartCharBits s u) ≤ s.now)
  | none => false

/-- A write to CEL_UARTu_TXD (R678). -/
def writeTxd (s : State) (rq : Requester) (u data : Nat) : State :=
  let v := s.uart u
  if 256 ≤ v.tx.length then celRefused s (0xF04001808 + 0x40 * u) data rq
  else (uartStart (s.setUart u { v with tx := v.tx ++ [data % 512] }) u).answer 0

/-- A frame has been sent: its bytes, in MODBUS mode with their CRC low byte first; DE drops DE_HOLD bit times later (R676,
R678). -/
def uartSent (s : State) (u : Nat) : State :=
  let v := s.uart u
  if uartFrameOut s u then
    let k := uartFrameLen v.tx
    let mask := if s.flag (Reg.CEL_UART_FMT.SEVEN u) then 128 else 256
    let bs := (v.tx.take k).map fun b => BitVec.ofNat 8 (b % mask)
    let bs := if s.flag (Reg.CEL_UART_FMT.MODBUS u) then bs ++ leBytes 2 (crc16 bs) else bs
    let hold := uartBits s u (s.rd (Reg.CEL_UART_FMT.DE_HOLD u))
    uartStart (s.setUart u { v with tx := v.tx.drop k, sending := none, sent := bs, lastTx := s.now, deUntil := s.now + hold }) u
  else s

/-- A byte arrives; frames end only in MODBUS mode (R676, R677, R679). -/
def uartReceive (s : State) (u : Nat) (b : Byte) : State :=
  let v := s.uart u
  if !s.flag (Reg.CEL_UART_CFG.EN u) ∨ uartDe s u ∨ !inputOn s 3 (4 * u + 1) then s
  else
    let framed := s.flag (Reg.CEL_UART_FMT.MODBUS u)
    let gap := v.gap || (v.frame != [] && decide (v.lastRx + uartChar s u + uartT15 s u < s.now))
    let v := { v with frame := if framed then v.frame ++ [b] else [], gap := framed && gap, lastRx := s.now }
    if (framed ∧ v.dropping) ∨ 256 ≤ v.rx.length then
      let s := (s.setUart u { v with dropping := framed }).bump (Reg.CEL_UART_RX_LOST.COUNT u) 1
      s.logLimited u 236 0x2006 u (s.rd (Reg.CEL_UART_RX_LOST.COUNT u)) 0
    else
      let data := if s.flag (Reg.CEL_UART_FMT.SEVEN u) then b.toNat % 128 else b.toNat
      s.setUart u { v with rx := v.rx ++ [data + 0x800] }

/-- A silence of t3.5 ends a Modbus frame: its last byte carries END, CRC_OK and ERR, unless it was dropped or popped
(R677). -/
def uartFrameEnd (s : State) (u : Nat) : State :=
  let v := s.uart u
  if s.flag (Reg.CEL_UART_FMT.MODBUS u) && v.frame != [] && decide (v.lastRx + uartT35 s u ≤ s.now) then
    let mark := 0x100 + 0x200 * b2n (crc16 v.frame == 0) + 0x400 * b2n v.gap
    let rx := match v.rx.getLast? with
      | some b => if v.dropping then v.rx else v.rx.dropLast ++ [b + mark]
      | none => v.rx
    s.setUart u { v with rx := rx, frame := [], gap := false, dropping := false }
  else s

/-- A read of CEL_UARTu_RXD pops one byte (R690). -/
def readRxd (s : State) (u : Nat) : State × Nat :=
  let v := s.uart u
  match v.rx with
  | [] => (s, 0)
  | b :: t => (s.setUart u { v with rx := t }, b)

/-- A write to CEL_UARTu_CFG: a frame that waits starts when EN becomes 1. -/
def writeUartCfg (s : State) (rq : Requester) (u data : Nat) : State := uartStart (stdWrite s rq (0xF04001800 + 0x40 * u) data) u

/-! I²C and SPI (R680-R683). -/

/-- The bytes of DATA0-15, and some of them replaced; `fld` gives the register of an index. -/
def dataBytes (s : State) (fld : Nat → Fld) : List Byte := (List.range 16).flatMap fun k => leBytes 4 (s.rd (fld k))

/-- DATA0-15 with the first bytes replaced. -/
def setData (s : State) (fld : Nat → Fld) (bs : List Byte) : State :=
  let all := bs.take 64 ++ (dataBytes s fld).drop (bs.take 64).length
  (List.range 16).foldl (fun s k => s.wr (fld k) (field all (4 * k) 4)) s

/-- A write to CEL_I2Cn_CMD (R680, R683). -/
def writeI2cCmd (s : State) (rq : Requester) (n data : Nat) : State :=
  if s.flag (Reg.CEL_I2C_STAT.BUSY n) then celRefused s (0xF04001A04 + 0x80 * n) data rq
  else if s.flag (Reg.CEL_I2C_CFG.EN n) then
    let s := { s with cel := { s.cel with i2cCmd := Tbl.set s.cel.i2cCmd n (data % 65536), cmdAt := Tbl.set s.cel.cmdAt n s.now } }
    let s := [Reg.CEL_I2C_STAT.NACK n, Reg.CEL_I2C_STAT.ARB_LOST n, Reg.CEL_I2C_STAT.TIMEOUT n, Reg.CEL_I2C_STAT.DONE n].foldl
      (fun s f => s.wr f 0) s
    (s.wr (Reg.CEL_I2C_STAT.BUSY n) 1).answer 0
  else s.answer 0

/-- Bits of a transfer that can have passed on the bus since its command was written (R680). -/
def i2cBits (s : State) (n : Nat) : Nat :=
  let hz := match s.rd (Reg.CEL_I2C_CFG.SPEED n) with
    | 0 => 100000
    | 1 => 400000
    | _ => 1000000
  (s.now - Tbl.get s.cel.cmdAt n 0) * hz / ticksPerSecond

/-- An I²C transfer ends with what the bus gave: bytes moved, NACK, lost arbitration, and the bytes read.  A controller whose
SDA no pin carries reads 1 and so sees no acknowledge.  Address and bytes take 9 bits each at least (R634, R680). -/
def i2cDone (s : State) (n done : Nat) (nack arb : Bool) (data : List Byte) : State :=
  let cmd := Tbl.get s.cel.i2cCmd n 0
  let live := inputOn s 4 (2 * n + 1)
  let done := if live then min done (min 64 (bits cmd 8 7)) else 0
  if s.flag (Reg.CEL_I2C_STAT.BUSY n) ∧ (9 * (done + 1) ≤ i2cBits s n ∨ arb = true) then
    let out := BitVec.ofNat 8 (2 * bits cmd 0 7 + b2n (bit cmd 7)) ::
      if bit cmd 7 then [] else slice (dataBytes s (Reg.CEL_I2C_DATA.DATA n)) 0 done
    let s := { s with cel := { s.cel with cmdSent := Tbl.set s.cel.cmdSent n out } }
    let s := if bit cmd 7 then setData s (Reg.CEL_I2C_DATA.DATA n) (slice data 0 done) else s
    let s := ((s.wr (Reg.CEL_I2C_STAT.NACK n) (b2n (nack || !live))).wr (Reg.CEL_I2C_STAT.ARB_LOST n) (b2n (arb && live))).wr
      (Reg.CEL_I2C_STAT.DONE n) done
    s.wr (Reg.CEL_I2C_STAT.BUSY n) 0
  else s

/-- SCL held low for 25 ms (R681). -/
def i2cTimeout (s : State) (n done : Nat) : State :=
  if s.flag (Reg.CEL_I2C_STAT.BUSY n) ∧ inputOn s 4 (2 * n) then
    let cmd := Tbl.get s.cel.i2cCmd n 0
    let done := min done (min 64 (bits cmd 8 7))
    let s := ((s.wr (Reg.CEL_I2C_STAT.TIMEOUT n) 1).wr (Reg.CEL_I2C_STAT.DONE n) done).wr (Reg.CEL_I2C_STAT.BUSY n) 0
    s.logEvent 236 0x2007 n (bits cmd 0 7) done
  else s

/-- A write to CEL_SPIn_CMD (R682, R683). -/
def writeSpiCmd (s : State) (rq : Requester) (n data : Nat) : State :=
  if s.flag (Reg.CEL_SPI_STAT.BUSY n) then celRefused s (0xF04001B00 + 0x80 * n) data rq
  else
    let s := { s with cel := { s.cel with spiCmd := Tbl.set s.cel.spiCmd n (data % 2 ^ 25),
                                          cmdAt := Tbl.set s.cel.cmdAt (2 + n) s.now, spiCs := Tbl.set s.cel.spiCs n (bits data 8 2 + 1) } }
    (s.wr (Reg.CEL_SPI_STAT.BUSY n) 1).answer 0

/-- Ticks of an SPI transfer: 8 bits a byte at 49.152 MHz / (2 × (DIV + 1)) (R682). -/
def spiTicks (cmd : Nat) : Nat := 8 * min 64 (bits cmd 0 7) * (2 * (bits cmd 16 8 + 1)) * cellarTicks

/-- An SPI transfer ends: received bytes replace the bytes sent; a MISO that no pin carries reads 0 (R634, R682). -/
def spiDone (s : State) (n : Nat) (data : List Byte) : State :=
  let cmd := Tbl.get s.cel.spiCmd n 0
  if s.flag (Reg.CEL_SPI_STAT.BUSY n) ∧ Tbl.get s.cel.cmdAt (2 + n) 0 + spiTicks cmd ≤ s.now then
    let len := min 64 (bits cmd 0 7)
    let out := slice (dataBytes s (Reg.CEL_SPI_DATA.DATA n)) 0 len
    let s := { s with cel := { s.cel with cmdSent := Tbl.set s.cel.cmdSent (2 + n) out } }
    let bs := if inputOn s 5 (8 * n + 2) then slice data 0 len else List.replicate len 0
    let s := setData s (Reg.CEL_SPI_DATA.DATA n) bs
    let s := if bit cmd 24 then s else { s with cel := { s.cel with spiCs := Tbl.erase s.cel.spiCs n } }
    s.wr (Reg.CEL_SPI_STAT.BUSY n) 0
  else s

/-! Writes to the plant registers by CEL offset (R627-R690). -/

/-- A write to a CAN register by its offset in the controller. -/
def writeCan (s : State) (rq : Requester) (n o addr data : Nat) : State :=
  if o = 0 then writeCanCtrl s rq n data
  else if o = 4 ∨ o = 8 then writeCanTiming s rq n addr data
  else if o = 0x14 then (s.orBits (Reg.CEL_CAN_TX_PEND.SLOTS n) (data % 65536)).answer 0
  else if o = 0x24 then (if bit data 0 then canPop s n else s).answer 0
  else if 0x800 ≤ o ∧ o < 0xD00 then writeCanSlot s rq n (off o 0x800) addr data
  else if 0x1000 ≤ o ∧ o < 0x2400 then writeCanSlot s rq n (off o 0x800) addr data
  else stdWrite s rq addr data

/-- A write to a plant register below CEL offset 0x2_0000. -/
def writePlant (s : State) (rq : Requester) (o data : Nat) : State :=
  let addr := 0xF04000000 + o
  if o < 0x280 then writePin s rq (o / 4) data
  else if 0x400 ≤ o ∧ o < 0x428 then (gpioWrite s (some rq) ((off o 0x400) / 4) data).answer 0
  else if 0x800 ≤ o ∧ o < 0xC00 ∧ o % 0x40 = 0 then writeMatcherCfg s rq ((off o 0x800) / 0x40) data
  else if o = 0x1000 then
    let s := stdWrite s rq addr data
    { s with cel := { s.cel with adcDone := 0, adcScans := 0, adcAt := s.now } }
  else if 0x1100 ≤ o ∧ o < 0x1180 ∧ o % 0x10 = 4 then writeThreshold s rq ((off o 0x1100) / 0x10) data
  else if o = 0x11C0 then writeTripStat s rq data
  else if 0x1200 ≤ o ∧ o < 0x1280 ∧ o % 0x10 = 0 then writePwmCfg s rq ((off o 0x1200) / 0x10) data
  else if 0x1200 ≤ o ∧ o < 0x1280 ∧ o % 0x10 = 8 then writeDuty s rq ((off o 0x1200) / 0x10) data
  else if o = 0x1280 then writePwmCommit s data
  else if 0x1400 ≤ o ∧ o < 0x1500 ∧ o % 0x20 = 0 then writePleCfg s rq ((off o 0x1400) / 0x20) data
  else if 0x1400 ≤ o ∧ o < 0x1500 ∧ o % 0x20 = 0xC then writePleLim s rq ((off o 0x1400) / 0x20) data
  else if 0x1800 ≤ o ∧ o < 0x1880 ∧ o % 0x40 = 0 then writeUartCfg s rq ((off o 0x1800) / 0x40) data
  else if 0x1800 ≤ o ∧ o < 0x1880 ∧ o % 0x40 = 8 then writeTxd s rq ((off o 0x1800) / 0x40) data
  else if 0x1A00 ≤ o ∧ o < 0x1B00 ∧ o % 0x80 = 4 then writeI2cCmd s rq ((off o 0x1A00) / 0x80) data
  else if 0x1B00 ≤ o ∧ o < 0x1C00 ∧ o % 0x80 = 0 then writeSpiCmd s rq ((off o 0x1B00) / 0x80) data
  else if 0x4000 ≤ o ∧ o < 0xC000 then writeCan s rq ((off o 0x4000) / 0x4000) (o % 0x4000) addr data
  else stdWrite s rq addr data

/-! The commands. -/

/-- CAN_FRAME_RECEIVE (R669-R671): nothing happens on a controller that takes no part in the bus. -/
def execCanFrameReceive (n : Nat) (frame : CanFrame) (sof : DWord) (s : State) : Host.Outcome State Fault Refusal :=
  whilePowered s fun s =>
    if canLive s (n % 2) ∧ inputOn s 2 (2 * (n % 2) + 1) ∧ (frame.fdf = false ∨ s.flag (Reg.CEL_CAN_CTRL.FD (n % 2))) then
      canReceive s (n % 2) frame sof
    else s

/-- CAN_TX_REQUEST (R672). -/
def execCanTxRequest (rq : Requester) (n data : Nat) (s : State) : Host.Outcome State Fault Refusal :=
  whilePowered s fun s => atRegister s rq (0xF04004014 + 0x4000 * (n % 2)) true data fun s =>
    writeCan s rq (n % 2) 0x14 (0xF04004014 + 0x4000 * (n % 2)) data

/-- CAN_TX_DONE (R672). -/
def execCanTxDone (n slot started : Nat) (s : State) : Host.Outcome State Fault Refusal :=
  whilePowered s fun s =>
    if canLive s (n % 2) ∧ !s.flag (Reg.CEL_CAN_CTRL.LISTEN (n % 2)) then canSent s (n % 2) (slot % 16) (started % 65536) else s

/-- CAN_RX_POP (R671). -/
def execCanRxPop (rq : Requester) (n data : Nat) (s : State) : Host.Outcome State Fault Refusal :=
  whilePowered s fun s => atRegister s rq (0xF04004024 + 0x4000 * (n % 2)) true data fun s =>
    writeCan s rq (n % 2) 0x24 (0xF04004024 + 0x4000 * (n % 2)) data

/-- CAN_BUS_OFF (R673). -/
def execCanBusOff (n tec : Nat) (s : State) : Host.Outcome State Fault Refusal :=
  whilePowered s fun s =>
    if canLive s (n % 2) then
      ((s.wr (Reg.CEL_CAN_STAT.STATE (n % 2)) 2).wr (Reg.CEL_CAN_STAT.TEC (n % 2)) tec).logEvent 236 0x2005 (n % 2) tec
        (s.rd (Reg.CEL_CAN_CTRL.AUTO_REC (n % 2)))
    else s

/-- CAN_BUS_OFF_RECOVERY (R673). -/
def execCanBusOffRecovery (n : Nat) (s : State) : Host.Outcome State Fault Refusal :=
  whilePowered s fun s =>
    if s.rd (Reg.CEL_CAN_STAT.STATE (n % 2)) = 2 ∧ s.flag (Reg.CEL_CAN_CTRL.AUTO_REC (n % 2)) ∧ s.flag (Reg.CEL_CAN_CTRL.EN (n % 2)) ∧
        canClocked s then canRecover s (n % 2)
    else s

/-- UART_TXD_WRITE (R678). -/
def execUartTxdWrite (rq : Requester) (u data : Nat) (s : State) : Host.Outcome State Fault Refusal :=
  whilePowered s fun s => atRegister s rq (0xF04001808 + 0x40 * (u % 2)) true data fun s => writeTxd s rq (u % 2) data

/-- UART_FRAME_SENT (R676, R678): nothing happens before the last stop bit of a frame. -/
def execUartFrameSent (u : Nat) (s : State) : Host.Outcome State Fault Refusal := whilePowered s fun s => uartSent s (u % 2)

/-- UART_BYTE_RECEIVE (R676, R679). -/
def execUartByteReceive (u : Nat) (byte : Byte) (s : State) : Host.Outcome State Fault Refusal :=
  whilePowered s fun s => uartReceive s (u % 2) byte

/-- UART_FRAME_END (R677). -/
def execUartFrameEnd (u : Nat) (s : State) : Host.Outcome State Fault Refusal := whilePowered s fun s => uartFrameEnd s (u % 2)

/-- UART_RXD_POP (R690). -/
def execUartRxdPop (rq : Requester) (u : Nat) (s : State) : Host.Outcome State Fault Refusal :=
  whilePowered s fun s => atRegister s rq (0xF0400180C + 0x40 * (u % 2)) false 0 fun s =>
    let (s, v) := readRxd s (u % 2)
    s.answer v

/-- I2C_COMMAND (R680, R683). -/
def execI2cCommand (rq : Requester) (n data : Nat) (s : State) : Host.Outcome State Fault Refusal :=
  whilePowered s fun s => atRegister s rq (0xF04001A04 + 0x80 * (n % 2)) true data fun s => writeI2cCmd s rq (n % 2) data

/-- I2C_COMMAND_DONE (R680). -/
def execI2cCommandDone (n done : Nat) (nack arb : Bool) (data : List Byte) (s : State) : Host.Outcome State Fault Refusal :=
  whilePowered s fun s => i2cDone s (n % 2) done nack arb data

/-- I2C_TIMEOUT (R681). -/
def execI2cTimeout (n done : Nat) (s : State) : Host.Outcome State Fault Refusal := whilePowered s fun s => i2cTimeout s (n % 2) done

/-- SPI_COMMAND (R682, R683). -/
def execSpiCommand (rq : Requester) (n data : Nat) (s : State) : Host.Outcome State Fault Refusal :=
  whilePowered s fun s => atRegister s rq (0xF04001B00 + 0x80 * (n % 2)) true data fun s => writeSpiCmd s rq (n % 2) data

/-- SPI_COMMAND_DONE (R682). -/
def execSpiCommandDone (n : Nat) (data : List Byte) (s : State) : Host.Outcome State Fault Refusal :=
  whilePowered s fun s => spiDone s (n % 2) data

end Sys2Proof.Machine
end

