-- ==== Sys2Proof/Machine/Services.lean ====
section
/-! DEFINITION. Cellar services (chapter 15): the audio front end and its pre-roll rings, the spotter, verification, the plant
plan that Floor applies, and the battery cut. -/

namespace Sys2Proof.Machine

/-- Seconds and minutes of device time in ticks. -/
def seconds (n : Nat) : Nat := n * ticksPerSecond

/-! Audio (R692-R696, R699). -/

/-- The ring byte at an offset from 0x4_0000 and the ring position of a sample (R694). -/
def ringAt (m n : Nat) : Nat := 0x10000 * m + 2 * (n % 32768)

/-- Sample `n` of a microphone as the ring holds it. -/
def ringSample (s : State) (m n : Nat) : Int := sInt (Mem.num s.svc.rings (ringAt m n) 2) 16

/-- GAINm. -/
def micGain (s : State) (m : Nat) : Nat := if m = 0 then s.rd Reg.CEL_AUDIO_CFG.GAIN0 else s.rd Reg.CEL_AUDIO_CFG.GAIN1

/-- Cellar cycles of a PDM_CLK period, PDM bits of a sample (R691, R692), and ticks of a sample. -/
def pdmDivisor (s : State) : Nat := if s.flag Reg.CEL_AUDIO_CFG.PDM_DIV then 48 else 24
def pdmDecimation (s : State) : Nat := if s.flag Reg.CEL_AUDIO_CFG.PDM_DIV then 64 else 128
def sampleTicks (s : State) : Nat := pdmDivisor s * pdmDecimation s * cellarTicks

/-- The next sample is produced: 16 kHz from where EN became 1, at the pace of the oscillator on RC (R691-R693). -/
def sampleDue (s : State) : Bool := decide (s.svc.sampleAt + sampleTicks s ≤ s.now) || s.pw.clk == CellarClk.rc

/-- A decimated and filtered sample of a microphone: gain, saturation, ring (R692, R694). -/
def micSample (s : State) (m n : Nat) (x : Int) : State :=
  if bit (s.rd Reg.CEL_AUDIO_CFG.MIC_EN) m then
    let v := x * (2 ^ micGain s m : Nat)
    let y := clampI (-32768) 32767 v
    let s := { s with svc := { s.svc with rings := Mem.writeN s.svc.rings (ringAt m n) (leBytes 2 (ofInt y 16)) } }
    if y = v then s
    else
      let s := s.bump (Reg.CEL_AUDIO_CLIP.COUNT m) 1
      s.logLimited m 235 0x2018 m (s.rd (Reg.CEL_AUDIO_CLIP.COUNT m)) (micGain s m)
  else s

/-- The latest verified detection leaves VSTATE 1 (R715, R716). -/
def endVerify (s : State) (vstate score : Nat) : State :=
  match s.svc.ver with
  | none => s
  | some _ =>
    let s := (s.wr Reg.CEL_WAKE_REC.VSTATE vstate).wr Reg.CEL_WAKE_REC.VSCORE score
    let s := { s with svc := { s.svc with ver := none, console := if vstate = 3 then none else s.svc.console } }
    s.logEvent 235 0x2011 (s.rd Reg.CEL_WAKE_SEQ.SEQ) vstate score

/-- VLEN as it acts (R716). -/
def verLen (s : State) : Nat := min 32768 (max 1600 (s.rd Reg.CEL_VER_LEN.VLEN))

/-- The oldest sample of the phrase has been overwritten: VSTATE 5 (R715). -/
def checkRing (s : State) : State :=
  match s.svc.ver with
  | some v => if 32769 - verLen s < (s.rd Reg.CEL_AUDIO_SAMPLES.SAMPLE_CNT + 2 ^ 32 - v.sample) % 2 ^ 32 then endVerify s 5 0 else s
  | none => s

/-- Each microphone produces a sample (R692-R694). -/
def audioSample (s : State) (x0 x1 : Int) : State :=
  let n := s.svc.count
  let s := micSample (micSample s 0 n x0) 1 n x1
  checkRing (({ s with svc := { s.svc with count := n + 1, sampleAt := if s.pw.clk = CellarClk.rc then s.now else s.svc.sampleAt + sampleTicks s } }).wr Reg.CEL_AUDIO_SAMPLES.SAMPLE_CNT (n + 1))

/-- The clock moves off a frame boundary: cause 1 REFCLK lost, 2 crystal failed; a PDM bit may be taken twice, so the next sample
may come one bit sooner (R699). -/
def audioGlitch (s : State) (cause : Nat) : State :=
  if s.flag Reg.CEL_AUDIO_CFG.EN then
    let s := { s with svc := { s.svc with sampleAt := s.svc.sampleAt - pdmDivisor s * cellarTicks } }
    let s := s.bump Reg.CEL_AUDIO_STAT.GLITCH 1
    s.logEvent 235 0x2012 (s.rd Reg.CEL_AUDIO_SAMPLES.SAMPLE_CNT) cause (s.rd Reg.CEL_AUDIO_STAT.GLITCH)
  else s

/-- A write to CEL_AUDIO_CFG: samples and frames count from where EN becomes 1 (R693), and a clock move that waits for a frame
boundary waits no longer when EN becomes 0 (02 R71). -/
def writeAudioCfg (s : State) (rq : Requester) (data : Nat) : State :=
  let was := s.flag Reg.CEL_AUDIO_CFG.EN
  let s := stdWrite s rq 0xF04020000 data
  if s.flag Reg.CEL_AUDIO_CFG.EN ∧ !was then
    ({ s with svc := { s.svc with count := 0, sampleAt := s.now, frames := 0, scored := 0 } }).wr
      Reg.CEL_AUDIO_SAMPLES.SAMPLE_CNT 0
  else if s.flag Reg.CEL_AUDIO_CFG.EN then s
  else { s with pw := { s.pw with clkDue := none } }

/-- An access to the pre-roll rings at a CEL offset (R695). -/
def ringAccess (s : State) (rq : Requester) (write : Bool) (o len : Nat) : State :=
  if !write && o % 4 == 0 && len % 4 == 0 && decide (4 ≤ len) && decide (len ≤ 256) && decide (0x40000 ≤ o) &&
      decide (o + len ≤ 0x60000) && (o / 0x10000 == (o + len - 1) / 0x10000) then
    s.answer (leNat (Mem.readN s.svc.rings (off o 0x40000) len))
  else (s.logEvent 235 0x2016 o (b2n write) rq.ni).busErr

/-! The spotter (R700-R709). -/

/-- Byte of the model memory that nothing has written since the default model was loaded. -/
def modelBase (s : State) (o : Nat) : Byte := if s.svc.modelRom && decide (o < 24576) then Config.defaultModelByte o else 0

/-- A byte of the model memory. -/
def modelByte (s : State) (o : Nat) : Byte := Tbl.get s.svc.model o (modelBase s o)

/-- A number of `n` bytes in the model memory. -/
def modelNum (s : State) (o n : Nat) : Nat := leNat ((List.range n).map fun i => modelByte s (o + i))

/-- Bytes written to the model memory. -/
def modelWrite (s : State) (o : Nat) (bs : List Byte) : State :=
  let m := bs.zipIdx.foldl (fun m p => Tbl.put m (o + p.2) p.1 (modelBase s (o + p.2))) s.svc.model
  { s with svc := { s.svc with model := m } }

/-- A write of a word to the model memory, refused while the spotter is enabled (R707). -/
def writeModelMem (s : State) (rq : Requester) (addr data : Nat) : State :=
  if s.flag Reg.CEL_SPOT_CFG.EN then (s.logEvent 235 0x200A addr data rq.ni).busErr
  else (modelWrite s (off addr 0xF04060000) (leBytes 4 data)).answer 0

/-- A layer record (R701). -/
structure Layer where
  relu : Nat
  inp : Nat
  out : Nat
  shift : Nat
  wofs : Nat
  bofs : Nat
  deriving DecidableEq, Repr

/-- The layer records from an offset up to the first with OP 0; none where the end record does not lie below LEN or an OP is
neither 0 nor 1. -/
def modelLayers (s : State) (len o : Nat) : Nat → Option (List Layer)
  | 0 => none
  | k + 1 =>
    if len < o + 16 then none
    else match modelNum s o 1 with
      | 0 => some []
      | 1 =>
        let l : Layer := ⟨modelNum s (o + 1) 1, modelNum s (o + 2) 2, modelNum s (o + 4) 2, modelNum s (o + 6) 1,
          modelNum s (o + 8) 4, modelNum s (o + 12) 4⟩
        (modelLayers s len (o + 16) k).map (l :: ·)
      | _ => none

/-- IN and OUT of the layers chain from the input. -/
def layersChain : Nat → List Layer → Bool
  | _, [] => true
  | n, l :: t => l.inp == n && decide (1 ≤ l.out) && layersChain l.out t

/-- REASON for which a model is refused, 0 for none (R700, R701, R707). -/
def keywordReason (s : State) : Nat :=
  let len := modelNum s 8 4
  let ctx := modelNum s 5 1
  let zero := ([7] ++ (List.range 48).map (12 + ·)).all fun i => modelNum s i 1 == 0
  if modelNum s 0 4 ≠ 0x534B584A ∨ modelNum s 4 1 ≠ 1 ∨ !zero then 1
  else if len % 64 ≠ 0 ∨ len < 128 ∨ 98304 < len then 2
  else match modelLayers s len 64 6144 with
    | none => 2
    | some ls =>
      if ls.any fun l => decide (len < l.wofs + l.out * l.inp) || decide (len < l.bofs + 4 * l.out) || l.bofs % 4 != 0 then 2
      else if crc32 ((List.range (len - 64)).map fun i => modelByte s (64 + i)) ≠ modelNum s 60 4 then 3
      else if ctx < 1 ∨ 100 < ctx ∨ ls = [] ∨ !layersChain (40 * ctx) ls ∨
          ls.any (fun l => decide (1 < l.relu) || decide (31 < l.shift)) then 4
      else 0

/-- A write to CEL_SPOT_CFG (R707). -/
def writeSpotCfg (s : State) (rq : Requester) (data : Nat) : State :=
  let fs := [Reg.CEL_SPOT_CFG.MIC_SEL, Reg.CEL_SPOT_CFG.THRESH, Reg.CEL_SPOT_CFG.REFRACT]
  let s := writeFields s rq 0xF04020100 data fs
  if bit data 0 ∧ !s.flag Reg.CEL_SPOT_CFG.EN then
    let r := keywordReason s
    if r = 0 then (s.wr Reg.CEL_SPOT_CFG.EN 1).answer 0
    else ((s.wr Reg.CEL_SPOT_STAT.REASON r).logEvent 235 0x2015 r (modelNum s 0 4) rq.ni).answer 0
  else (s.wr Reg.CEL_SPOT_CFG.EN (data % 2)).answer 0

/-- Sample `n` of the spotter's source (R702). -/
def sourceSample (s : State) (n : Nat) : Int :=
  match s.rd Reg.CEL_SPOT_CFG.MIC_SEL with
  | 0 => ringSample s 0 n
  | 1 => ringSample s 1 n
  | _ => (ringSample s 0 n + ringSample s 1 n) / 2

/-- The features of the last 400 samples (R702). -/
def features (s : State) : List Int :=
  let xs := (List.range 400).map fun i => sourceSample s (s.svc.count + 32768 - 400 + i)
  let fofs := sInt (modelNum s 6 1) 8
  (List.range 40).map fun b => clampI (-128) 127 (Config.melBand xs b + fofs)

/-- A frame boundary falls: every 160th sample since EN became 1 (R693, R702). -/
def audioFrame (s : State) : State :=
  let f := s.svc.count / 160
  if s.svc.count % 160 = 0 ∧ s.svc.frames < f then
    let s := { s with svc := { s.svc with frames := f, lastDet := s.svc.lastDet.map (· + 1) } }
    if s.flag Reg.CEL_SPOT_CFG.EN then
      { s with svc := { s.svc with feats := (s.svc.feats ++ [features s]).drop (s.svc.feats.length + 1 - 100) } }
    else s
  else s

/-- One dense layer (R701). -/
def denseLayer (s : State) (l : Layer) (x : List Int) : List Int :=
  (List.range l.out).map fun j =>
    let b := sInt (modelNum s (l.bofs + 4 * j) 4) 32
    let sum := (x.zipIdx.map fun p => sInt (modelNum s (l.wofs + j * l.inp + p.2) 1) 8 * p.1).sum
    let r : Int := if l.shift = 0 then 0 else (2 ^ (l.shift - 1) : Nat)
    let y := clampI (-128) 127 ((b + sum + r) / (2 ^ l.shift : Nat))
    if l.relu = 1 then max 0 y else y

/-- The score of the last frame (R703). -/
def spotScore (s : State) : Nat :=
  let ctx := modelNum s 5 1
  let x := (s.svc.feats.drop (s.svc.feats.length - ctx)).flatten
  let ls := (modelLayers s (modelNum s 8 4) 64 6144).getD []
  ((ls.foldl (fun x l => denseLayer s l x) x).headD 0 + 128).toNat

/-- A detection (R705, R706, R710, R715). -/
def detect (s : State) (score sample : Nat) : State :=
  let s := endVerify s 7 0
  let en := s.flag Reg.CEL_VER_CFG.EN
  let s := s.bump Reg.CEL_WAKE_SEQ.SEQ 1
  let s := [(Reg.CEL_WAKE_SAMPLE.SAMPLE, sample), (Reg.CEL_WAKE_REC.SCORE, score), (Reg.CEL_WAKE_REC.MODE, s.mode),
    (Reg.CEL_WAKE_REC.VSTATE, b2n en), (Reg.CEL_WAKE_REC.VSCORE, 0)].foldl (fun s p => s.wr p.1 p.2) s
  let v : Verify := { sample := sample, mic := s.rd Reg.CEL_SPOT_CFG.MIC_SEL, seenRun := s.mode == 3 }
  let wake := s.mode == 2 && bit (s.rd Reg.SYS_WAKE_EN.SOURCES) 0
  let s := { s with
    cel := { s.cel with audioIrq := true, wake := if wake then setBit s.cel.wake 0 else s.cel.wake },
    svc := { s.svc with ver := if en then some v else none, lastDet := some 0,
                        console := some (s.now + seconds (60 * max 1 (s.rd Reg.CEL_WAKE_CFG.CONSOLE_MIN))) } }
  s.logEvent 235 0x2010 (s.rd Reg.CEL_WAKE_SEQ.SEQ) sample (score + 256 * s.mode)

/-- The score of the last frame is formed (R703, R704); none is formed before CONTEXT frames have been taken. -/
def scoreFrame (s : State) : State :=
  if s.flag Reg.CEL_SPOT_CFG.EN && decide (s.svc.scored < s.svc.frames) && decide (modelNum s 5 1 ≤ s.svc.feats.length) then
    let score := spotScore s
    let f := s.svc.frames
    let s := ({ s with svc := { s.svc with scored := f } }).wr Reg.CEL_SPOT_STAT.SCORE score
    let quiet := match s.svc.lastDet with
      | some d => decide (d < s.rd Reg.CEL_SPOT_CFG.REFRACT)
      | none => false
    if s.rd Reg.CEL_SPOT_CFG.THRESH ≤ score ∧ quiet = false then checkRing (detect s score ((160 * f - 1) % 2 ^ 32)) else s
  else s

/-- Floor loads the default model and enables the spotter (R709). -/
def loadDefaultModel (s : State) : State :=
  (({ s with svc := { s.svc with model := [], modelRom := true } }).wr Reg.CEL_SPOT_CFG.MIC_SEL 0).wr Reg.CEL_SPOT_CFG.EN 1

/-! Verification (R710-R716). -/

/-- The request of a pending detection (R711). -/
def requestVerify (s : State) : State :=
  match s.svc.ver with
  | none => s
  | some v =>
    if v.request.isNone && s.mode == 3 && decide (3 ≤ s.tier) && s.flag Reg.STR_CTRL.EN && s.flag Reg.CEL_VER_CFG.READY then
      let w0 := 2 ^ 8 * s.rd Reg.CEL_VER_CFG.CQ + 2 ^ 16 * (s.rd Reg.CEL_WAKE_SEQ.SEQ % 65536) +
        2 ^ 32 * s.rd Reg.CEL_VER_ENTRY.ENTRY
      let arg1 := v.sample + 2 ^ 32 * s.rd Reg.CEL_VER_LEN.VLEN + 2 ^ 48 * v.mic
      let s := { s with svc := { s.svc with ver := some { v with request := some s.now, seenRun := true } } }
      pushPacket s (s.rd Reg.CEL_VER_CFG.JOBQ)
        (leBytes 8 w0 ++ leBytes 8 (s.rdPair Reg.CEL_VER_ADDR_LO.ADDR Reg.CEL_VER_ADDR_HI.ADDR) ++ leBytes 8 arg1 ++ leBytes 8 0) 44
    else s

/-- The verdict word read by the bridge (R713, R714). -/
def readVerdict (s : State) : State :=
  let (s, r) := s.busRead cellarCore (s.rdPair Reg.CEL_VER_ADDR_LO.ADDR Reg.CEL_VER_ADDR_HI.ADDR) 8
  match r with
  | some (bs, false) =>
    let w := leNat bs
    if bits w 0 16 = s.rd Reg.CEL_WAKE_SEQ.SEQ % 65536 then endVerify s (if bit w 16 then 2 else 3) (bits w 24 8) else endVerify s 6 0
  | _ => endVerify s 6 0

/-- The bridge pops one completion word (R714, R716). -/
def popVerdict (s : State) : State :=
  let q := s.rd Reg.CEL_VER_CFG.CQ
  if s.flag Reg.CEL_VER_CFG.EN ∧ 3 ≤ s.tier ∧ (s.q q).marks ≠ [] then
    let (s, w, _) := popSlot s q
    match s.svc.ver with
    | some v =>
      if v.request.isSome ∧ field w 0 2 = s.rd Reg.CEL_WAKE_SEQ.SEQ % 65536 then
        if field w 2 1 = 0 then readVerdict s else endVerify s 6 0
      else s
    | none => s
  else s

/-- TIMEOUT_MS after the request (R715). -/
def verifyTimeout (s : State) : State :=
  match s.svc.ver with
  | some v =>
    match v.request with
    | some t => if t + 491520 * max 1 (s.rd Reg.CEL_VER_LEN.TIMEOUT_MS) ≤ s.now then endVerify s 6 0 else s
    | none => s
  | none => s

/-- RUN is entered: a pending detection has reached it (R715). -/
def verifyInRun (s : State) : State := { s with svc := { s.svc with ver := s.svc.ver.map fun v => { v with seenRun := true } } }

/-- RUN is left, or a reset or trip removes the main domains: VSTATE 4 where the detection has reached RUN (R715). -/
def verifyLeft (s : State) : State :=
  match s.svc.ver with
  | some v => if v.seenRun then endVerify s 4 0 else s
  | none => s

/-- READY clears when the domain of the verifier's engine switches off (R712). -/
def verifierLost (s : State) (e : Nat) : State :=
  if s.rd Reg.CEL_VER_CFG.VENG = e then s.wr Reg.CEL_VER_CFG.READY 0 else s

/-- A write to a verifier register, refused while a request is out (R728). -/
def writeVerifier (s : State) (rq : Requester) (addr data : Nat) : State :=
  if s.svc.ver.any fun v => v.request.isSome then celRefused s addr data rq
  else checkRing (stdWrite s rq addr data)

/-! The plant plan of Floor (R717-R721). -/

/-- A pin set by Floor as a cellar-core write. -/
def planPin (s : State) (i data : Nat) : State := { writePin s cellarCore i data with resp := s.resp }

/-- A loop of R719: PV, channel, PRESCALE, PERIOD, SP, INV, KP, KI, OUT_MIN, OUT_MAX, SLEW, PERIOD_MS, OUT_MAX_BAT. -/
def planLoop (s : State) (l src c pre per sp inv kp ki lo hi slew ms : Nat) (bat : Option Nat) : State :=
  let s := (s.wr (Reg.CEL_PWM_CFG.PRESCALE c) pre).wrShadow (Reg.CEL_PWM_PERIOD.COUNT c) per
  let s := pwmCommit s c
  let s := (s.wr (Reg.CEL_PWM_CFG.EN c) 1).setPwm c { s.pwm c with start := s.now }
  let s := [(Reg.CEL_PLE_CFG.SRC_KIND l, 0), (Reg.CEL_PLE_CFG.SRC l, src), (Reg.CEL_PLE_CFG.INV l, inv), (Reg.CEL_PLE_CFG.PWM l, c),
    (Reg.CEL_PLE_CFG.OUT_EN l, 1), (Reg.CEL_PLE_CFG.PERIOD_MS l, ms), (Reg.CEL_PLE_SP.SP l, sp), (Reg.CEL_PLE_GAIN.KP l, kp),
    (Reg.CEL_PLE_GAIN.KI l, ki), (Reg.CEL_PLE_LIM.OUT_MIN l, lo), (Reg.CEL_PLE_LIM.OUT_MAX l, hi), (Reg.CEL_PLE_SLEW.SLEW l, slew),
    (Reg.CEL_PLE_INTEG.INTEG l, 0)].foldl (fun s p => s.wr p.1 p.2) s
  let s := match bat with
    | some b => (s.wr (Reg.CEL_HOLD_LIM.OUT_MAX_BAT l) b).wr (Reg.CEL_HOLD_LIM.EN l) 1
    | none => s
  pleEnabled (s.wr (Reg.CEL_PLE_CFG.EN l) 1) l

/-- A comparator of R720. -/
def planComparator (s : State) (k lo hi trip mask : Nat) : State :=
  [(Reg.CEL_CMP_THR.LO k, lo), (Reg.CEL_CMP_THR.HI k, hi), (Reg.CEL_CMP_CFG.HYS k, 2), (Reg.CEL_CMP_CFG.TRIP_EN k, trip),
    (Reg.CEL_CMP_CFG.TRIP_MASK k, mask), (Reg.CEL_CMP_CFG.EN k, 1)].foldl (fun s p => s.wr p.1 p.2) s

/-- Loop 3 runs only while no warming is in progress (R721). -/
def setLoop3 (s : State) (on : Bool) : State :=
  if s.flag Reg.CEL_PLANT_DEF.APPLIED then
    if on then pleEnabled (s.wr (Reg.CEL_PLE_CFG.EN 3) 1) 3 else s.wr (Reg.CEL_PLE_CFG.EN 3) 0
  else s

/-- Floor applies the plant plan (R717-R721). -/
def applyPlantPlan (s : State) : State :=
  let s := (List.range 5).foldl (fun s i => planPin s i 0x00010053) s
  let s := [(32, 0x00012113), (33, 0x00014113), (34, 0x00016113), (35, 0x00010613), (48, 0x0001C113)].foldl
    (fun s p => planPin s p.1 p.2) s
  let s := ({ s with cel := { s.cel with adcDone := 0, adcScans := 0, adcAt := s.now } }).wr Reg.CEL_ADC_CFG.CH_EN 0x1F
  let s := s.wr Reg.CEL_ADC_PERIOD.SLOTS 1003
  let s := planComparator (planComparator (planComparator s 0 688 1023 1 2) 2 0 594 1 10) 4 782 1023 0 0
  let s := planLoop s 0 2 1 255 19200 20000 0 2458 14 0 19200 960 10000 (some 9600)
  let s := planLoop s 1 1 3 0 1966 33768 0 64 8 0 1966 20 100 (some 0)
  let s := planLoop s 2 3 2 0 1966 30000 1 16 1 393 1966 100 1000 none
  let s := planLoop s 3 3 6 7 61440 18000 0 7864 8 0 61440 3072 2000 (some 30720)
  let s := s.wr Reg.CEL_PLANT_DEF.APPLIED 1
  mainsSourceChosen ((s.wr Reg.SYS_HOLD_CFG.SRC 1).wr Reg.SYS_HOLD_CFG.COMPARATOR 4)

/-! Battery (R723-R726). -/

/-- A write to CEL_HOLD_CFG: FW_BATT is written by the cellar core only (R723). -/
def writeHoldCfg (s : State) (rq : Requester) (data : Nat) : State :=
  if rq.ni = 44 then
    let s := stdWrite s rq 0xF04020204 data
    if s.rd Reg.SYS_HOLD_CFG.SRC = 0 then setBattery s (s.flag Reg.CEL_HOLD_CFG.FW_BATT) else s
  else s.answer 0

/-- A write to a service register from CEL offset 0x2_0000. -/
def writeService (s : State) (rq : Requester) (o data : Nat) : State :=
  let addr := 0xF04000000 + o
  if o = 0x20000 then writeAudioCfg s rq data
  else if o = 0x20100 then writeSpotCfg s rq data
  else if 0x20120 ≤ o ∧ o < 0x20140 then writeVerifier s rq addr data
  else if o = 0x20204 then writeHoldCfg s rq data
  else stdWrite s rq addr data

/-! The commands. -/

/-- AUDIO_SAMPLE (R691-R694): x0 and x1 are the decimated and filtered samples before gain. -/
def execAudioSample (x0 x1 : Int) (s : State) : Host.Outcome State Fault Refusal :=
  whilePowered s fun s => if s.flag Reg.CEL_AUDIO_CFG.EN && sampleDue s then audioSample s x0 x1 else s

/-- AUDIO_FRAME_BOUNDARY (R693, R702). -/
def execAudioFrameBoundary (s : State) : Host.Outcome State Fault Refusal :=
  whilePowered s fun s => if s.flag Reg.CEL_AUDIO_CFG.EN then audioFrame s else s

/-- AUDIO_RING_READ (R695). -/
def execAudioRingRead (rq : Requester) (write : Bool) (offset len : Nat) (s : State) : Host.Outcome State Fault Refusal :=
  whilePowered s fun s => ringAccess s rq write (0x40000 + offset % 0x20000) len

/-- SPOTTER_SCORE (R703-R706). -/
def execSpotterScore (s : State) : Host.Outcome State Fault Refusal := whilePowered s scoreFrame

/-- SPOT_ENABLE (R707). -/
def execSpotEnable (rq : Requester) (data : Nat) (s : State) : Host.Outcome State Fault Refusal :=
  whilePowered s fun s => atRegister s rq 0xF04020100 true data fun s => writeSpotCfg s rq data

/-- CONSOLE_TIMEOUT (R706). -/
def execConsoleTimeout (s : State) : Host.Outcome State Fault Refusal :=
  whilePowered s fun s =>
    match s.svc.console with
    | some t => if t ≤ s.now then { s with svc := { s.svc with console := none } } else s
    | none => s

/-- VERIFY_REQUEST (R711): nothing happens until every condition holds. -/
def execVerifyRequest (s : State) : Host.Outcome State Fault Refusal := whilePowered s requestVerify

/-- VERIFY_COMPLETION (R714, R716). -/
def execVerifyCompletion (s : State) : Host.Outcome State Fault Refusal := whilePowered s popVerdict

/-- VERIFY_TIMEOUT (R715). -/
def execVerifyTimeout (s : State) : Host.Outcome State Fault Refusal := whilePowered s verifyTimeout

end Sys2Proof.Machine
end

