-- ==== Sys2Proof/Machine/Clock.lean ====
section
/-! DEFINITION. Clock islands, device time and the run mark (chapter 03). -/

namespace Sys2Proof.Machine

/-! Islands (R117, R121). -/

/-- Ratio of an island's clock to REFCLK in fifths (R117, R162). -/
def islandRatio (i : Nat) : Nat :=
  if i ≤ 103 then 40 else if i ≤ 131 then 50 else if i ≤ 167 then 60 else if i ≤ 175 then 40 else if i ≤ 191 then 60
  else if i ≤ 200 then 80 else if i ≤ 208 then 20 else if i ≤ 210 then 5 else if i ≤ 212 then 40 else if i ≤ 218 then 50
  else if i ≤ 227 then 20 else if i ≤ 231 then 30 else if i ≤ 233 then 20 else if i ≤ 236 then 2 else 5

/-- Domain of an island; none for the cellar islands (02 R60). -/
def islandDomain (i : Nat) : Option Nat :=
  if i ≤ 95 then some (10 + i / 16) else if i ≤ 103 then some 16 else if i ≤ 131 then some (6 + (i - 104) / 7)
  else if i ≤ 167 then some 2 else if i ≤ 175 then some 1 else if i ≤ 191 then some 5 else if i ≤ 200 then some 0
  else if i ≤ 212 then some 18 else if i ≤ 218 then some 17 else if i ≤ 222 then some 19 else if i = 223 then some 20
  else if i ≤ 227 then some 21 else if i ≤ 231 then some 22 else if i ≤ 233 then some 3 else if i ≤ 236 then none else some 4

/-- The island is present and powered (R121, R162). -/
def islandLive (s : State) (i : Nat) : Bool :=
  s.part.hasIsland i && match islandDomain i with
  | some d => s.domOn d
  | none => true

/-- The island's generator is locked; the cellar islands run locked to their source. -/
def islandLocked (s : State) (i : Nat) : Bool :=
  islandLive s i && (islandDomain i == none || (s.flag Reg.CLK_MODE_STAT.REFCLK_OK && !s.ck.unlocked.contains i))

/-- CLK_ISLAND_STAT of an island (R121). -/
def islandStat (s : State) (i : Nat) : Nat :=
  if s.part.hasIsland i then
    islandRatio i + 256 * b2n (islandLocked s i) + 512 * b2n (s.ck.pinned.contains i) + 1024 * b2n (islandLive s i)
  else 0

/-! The unit, its modes and marks. -/

/-- The CLK unit answers from the Ground tier (R162). -/
def clkUp (s : State) : Bool := decide (2 ≤ s.tier)

/-- The clocking mode in force is Deterministic. -/
def deterministic (s : State) : Bool := s.rd Reg.CLK_MODE.MODE == 2

/-- An alignment mark falls now: the generators are locked and the beat count is a multiple of 10 (R122). -/
def atMark (s : State) : Bool :=
  s.flag Reg.CLK_MODE_STAT.REFCLK_OK && s.ck.beat.toNat % 10 == 0 && s.ck.tickPhase == 0

/-- The fabric's cycles renumbered from `d` more: every stamp moves with the count, so that nothing in flight changes. -/
def renumber (f : Fabric) (d : Nat) : Fabric :=
  let cell (c : Cell) : Cell := { c with mac := c.mac.map fun m => (m.1 + d, m.2) }
  { f with
    cycle := f.cycle + d
    flights := f.flights.map fun x => { x with at_ := x.at_ + d }
    lastTaken := f.lastTaken.map fun x => (x.1, x.2 + d)
    cuts := f.cuts.map fun x => (x.1, { x.2 with times := x.2.times.map fun k => (k.1, k.2 + d) })
    cutOut := f.cutOut.map fun x => (x.1, x.2.1, x.2.2 + d)
    ducOut := f.ducOut.map fun x => (x.1, x.2.1, x.2.2 + d)
    regions := f.regions.map fun x =>
      (x.1, { x.2 with old := x.2.old.map fun o => (o.1, o.2.1 + d, o.2.2), cells := x.2.cells.map fun c => (c.1, cell c.2) }) }

/-- The generators lock to REFCLK: the beat count restarts, and a fabric cycle that is a multiple of four falls on each beat
(R122). -/
def lockClock (s : State) : State :=
  let d := (4 - s.fab.cycle % 4) % 4
  { s.wr Reg.CLK_MODE_STAT.REFCLK_OK 1 with
    ck := { s.ck with beat := 0, tickPhase := 0, unlocked := [], free := false }
    pw := { s.pw with fenceAt := s.pw.fenceAt.map fun x => (x.1, x.2.1, x.2.2 + d) }
    fab := renumber s.fab d }

/-- The generators leave lock and stop. -/
def unlockClock (s : State) : State :=
  { s.wr Reg.CLK_MODE_STAT.REFCLK_OK 0 with ck := { s.ck with free := false } }

/-- The generators run: locked to REFCLK, or free at their last frequency (R136). -/
def clockRuns (s : State) : Bool := s.flag Reg.CLK_MODE_STAT.REFCLK_OK || s.ck.free

/-- A bit of CLK_RUN_STAT sets (R162, R163). -/
def runFlag (s : State) (f : Fld) : State := s.wr f 1

/-- Device time changes source between REFCLK and the cellar FLL (R141). -/
def moveTime (s : State) (toRefclk : Bool) : State :=
  if s.ck.fromRefclk = toRefclk then s
  else ({ s with ck := { s.ck with fromRefclk := toRefclk } }).logEvent 132 0x0209
    (if toRefclk then 1 else 2) (if toRefclk then 2 else 1) s.mode

/-- Code of a cellar clock source in CEL_AUDIO_STAT.SRC (15 R697). -/
def clkCode : CellarClk → Nat
  | .fll => 1
  | .refclk => 2
  | .rc => 3

/-- The cellar islands take a source (02 R86, R109, R120). -/
def setCellarClk (s : State) (c : CellarClk) : State :=
  moveTime ({ s with pw := { s.pw with clk := c, clkMove := none, clkDue := none } }.wr Reg.CEL_AUDIO_STAT.SRC (clkCode c)) (c == .refclk)

/-- Source of the cellar islands in the mode in force (R120, 02 R109). -/
def clkOfMode (s : State) : CellarClk :=
  if (s.mode = 3 ∨ s.mode = 4) ∧ s.flag Reg.CLK_MODE_STAT.REFCLK_OK then .refclk
  else if s.pw.xtalOk then .fll else .rc

/-- A mode has been entered: a move of the cellar clock is due where the mode names another source, while audio is enabled at the
next 10 ms frame boundary (02 R71, 15 R698). -/
def clockAfterMode (s : State) : State :=
  let c := clkOfMode s
  { s with pw := { s.pw with
      clkMove := if c = s.pw.clk then none else some c
      clkDue := if s.flag Reg.CEL_AUDIO_CFG.EN then some (160 * (s.svc.count / 160 + 1)) else none } }

/-- The frame boundary of the move is still to come. -/
def moveWaits (s : State) : Bool :=
  match s.pw.clkDue with
  | some n => decide (s.svc.count < n)
  | none => false

/-- The move takes place (02 R71). -/
def clockMove (s : State) : State :=
  match s.pw.clkMove with
  | none => s
  | some c => if moveWaits s then s else setCellarClk s c

/-- The mode changes; the VDD_CORE floor follows it (R124, R129). -/
def takeMode (s : State) (m : Nat) : State :=
  let s := { s.wr Reg.CLK_MODE.MODE m with ck := { s.ck with floorDet := m == 2, change := none } }
  let s := runFlag (s.wr Reg.CLK_MODE_STAT.BUSY 0) Reg.CLK_RUN_STAT.MODE
  if m = 2 then { s with pw := { s.pw with avs := max 800 s.pw.avs } } else runFlag s Reg.CLK_RUN_STAT.ADAPTIVE

/-- Steps 3 to 5 of a mode change (R129). -/
def finishChange (s : State) (m ticks : Nat) : State :=
  let old := s.rd Reg.CLK_MODE.MODE
  (takeMode s m).logEvent 132 0x0202 m old ticks

/-- A mode change refused or abandoned: 0 radio released or busy, 1 floor not reached, 2 REFCLK lost (R128, R130, R136). -/
def refuseChange (s : State) (m why : Nat) : State := s.logEvent 132 0x0203 m (s.rd Reg.CLK_MODE.MODE) why

/-- The change in progress is abandoned, if there is one: the mode stays as it was, and the floor is that of the mode again
(R130). -/
def abandonChange (s : State) (why : Nat) : State :=
  match s.ck.change with
  | none => s
  | some m =>
    refuseChange ({ s with ck := { s.ck with change := none, floorDet := deterministic s } }.wr Reg.CLK_MODE_STAT.BUSY 0) m why

/-- A write to CLK_MODE_REQ (R128, R129); a change in progress counts as busy, and without REFCLK no mark falls. -/
def requestClkMode (s : State) (m : Nat) (k : State → State) : State :=
  if s.radioReleased ∨ s.busy ∨ s.flag Reg.CLK_MODE_STAT.BUSY then refuseChange s m 0
  else if !s.flag Reg.CLK_MODE_STAT.REFCLK_OK then refuseChange s m 2
  else k s

/-- t0 of a change to Deterministic: BUSY sets and the floor rises; the change completes, or waits for VDD_CORE to reach the floor
(R129). -/
def startDeterministic (s : State) (floor : Option Nat) : State :=
  match floor with
  | some t => finishChange s 2 t
  | none =>
    ({ s with ck := { s.ck with change := some 2, changeAt := s.ck.time, floorDet := true }
              pw := { s.pw with avs := max 800 s.pw.avs } }).wr Reg.CLK_MODE_STAT.BUSY 1

/-- VDD_CORE has been read back at a voltage: a change that waits for the floor completes (R129). -/
def floorReached (s : State) (mv : Nat) : State :=
  if s.ck.change = some 2 ∧ 800 ≤ mv then finishChange s 2 (s.ck.time - s.ck.changeAt).toNat else s

/-- An island stretches cycles (R123, R126).  The cellar islands, in no domain, count and log none: they run from the cellar's own
source, and the spec gives them no droop detector by name (DESIGN CHOICE, log entry 92). -/
def droop (s : State) (i n : Nat) : State :=
  if islandLive s i ∧ islandDomain i ≠ none then
    let c := min 0xFFFFFFFF (Tbl.get s.ck.stretch i 0 + n)
    let s := { s with ck := { s.ck with stretch := Tbl.put s.ck.stretch i c 0 } }
    if deterministic s ∨ s.ck.pinned.contains i then
      (runFlag s Reg.CLK_RUN_STAT.DROOP).logEvent 132 0x0204 i n s.mode
    else s
  else s

/-- REFCLK is lost in RUN or HOLDOVER (R136, R137, 11 R539, 15 R699). -/
def refclkLost (s : State) : State :=
  if (s.mode = 3 ∨ s.mode = 4) ∧ s.flag Reg.CLK_MODE_STAT.REFCLK_OK then
    let s := abandonChange s 2
    let before := s.rd Reg.CLK_MODE.MODE
    let s := unlockClock { s with pw := { s.pw with refclk := false }, ck := { s.ck with floorDet := false } }
    let s := { s with ck := { s.ck with free := true } }
    let s := (runFlag (runFlag s Reg.CLK_RUN_STAT.REFCLK) Reg.CLK_RUN_STAT.ADAPTIVE).wr Reg.CLK_MODE.MODE 1
    let s := if before = 1 then s else runFlag s Reg.CLK_RUN_STAT.MODE
    let s := s.logEvent 132 0x020C s.mode before 0
    let moved := s.pw.clk == .refclk
    let s := setCellarClk s (if s.pw.clk = .refclk then (if s.pw.xtalOk then .fll else .rc) else s.pw.clk)
    let s := if moved then audioGlitch s 1 else s
    withdrawNow s 2
  else s

/-- REFCLK has returned: relock at an alignment mark; the mode stays Adaptive (R138). -/
def refclkRelock (s : State) : State :=
  if (s.mode = 3 ∨ s.mode = 4) ∧ !s.flag Reg.CLK_MODE_STAT.REFCLK_OK then
    clockAfterMode (moveTime (lockClock { s with pw := { s.pw with refclk := true } }) true)
  else s

/-! Rate and step (R143-R145). -/

/-- A rate held within ±858,993 (R143). -/
def clampRate (v : Nat) : Nat := ofInt (clampI (-858993) 858993 (sInt v 32)) 32

/-- A write to CLK_RATE (R143). -/
def writeClkRate (s : State) (rq : Requester) (v : Nat) : State :=
  let a := clampRate v
  let s := s.wr Reg.CLK_RATE.RATE a
  (if a = v % 2 ^ 32 then s else s.logEvent 132 0x0205 v a rq.ni).answer 0

/-- A write to CLK_STEP_LO. -/
def writeStepLo (s : State) (v : Nat) : State := ({ s with ck := { s.ck with stepLo := BitVec.ofNat 32 v } }).answer 0

/-- A write to CLK_STEP_HI arms the step (R144, R145). -/
def writeStepHi (s : State) (rq : Requester) (v : Nat) : State :=
  let w := s.ck.stepLo.toNat + 2 ^ 32 * (v % 2 ^ 32)
  if s.radioReleased ∧ (sInt w 64 < -1 ∨ 1 < sInt w 64) then
    (s.logEvent 132 0x0206 s.ck.stepLo.toNat v rq.ni).answer 0
  else ({ s with ck := { s.ck with step := some (BitVec.ofNat 64 w) } }).answer 0

/-- Whole seconds of device time less OFFSET at an instant (R151). -/
def ppsSecond (s : State) (t : Nat) : Int := ((t : Int) - sInt (s.rd Reg.CLK_PPS_OUT_OFS.OFFSET) 32) / (ticksPerSecond : Nat)

/-- Device time has moved on from `old`: PPS_OUT is due where that has reached, or passed over, an instant of R151. -/
def passedSecond (s : State) (old : Nat) : Bool :=
  s.flag Reg.CLK_PPS_OUT_CFG.EN && decide (ppsSecond s old < ppsSecond s s.now)

/-- The step is added to device time at an alignment mark (R144). -/
def applyStep (s : State) : State :=
  match s.ck.step with
  | some d =>
    if atMark s then
      let t := { s with ck := { s.ck with time := s.ck.time + d, step := none } }
      { t with ck := { t.ck with ppsDue := t.ck.ppsDue || passedSecond t s.now } }
    else s
  | none => s

/-! 1PPS (R148-R151). -/

/-- Distance of an instant from the nearest whole second. -/
def offSecond (t : Nat) : Int :=
  let r := t % ticksPerSecond
  if 2 * r ≤ ticksPerSecond then r else (r : Int) - ticksPerSecond

/-- Device time as PPS_IN captures it: within 1 tick, a free value (R148; DESIGN CHOICE, log entry 103). -/
def ppsCapture (s : State) : Nat := (s.ck.time + BitVec.ofNat 64 (Config.freeValue s.fresh % 3) - 1).toNat

/-- A rising edge on PPS_IN (R148, R150). -/
def ppsEdge (s : State) : State :=
  if clkUp s then
    let s := (s.useFresh.wrPair Reg.CLK_PPS_IN_LO.CAP Reg.CLK_PPS_IN_HI.CAP (ppsCapture s)).count Reg.CLK_PPS_STAT.COUNT
    let armed := s.ck.runArmed && s.flag Reg.CLK_RUN_CTRL.SRC
    let s := { s with ck := { s.ck with ppsIn := some s.ck.time, ppsMissing := false, runPps := s.ck.runPps || armed } }
    let d := offSecond s.now
    if d < -1000 ∨ 1000 < d then (s.wr Reg.CLK_PPS_STAT.JUMP 1).logEvent 132 0x0208 (ofInt d 32) 0 0 else s
  else s

/-- No edge for 1.1 s (R149). -/
def ppsMissing (s : State) : State :=
  match s.ck.ppsIn with
  | some t =>
    if clkUp s ∧ s.flag Reg.CLK_PPS_STAT.EXPECT ∧ !s.ck.ppsMissing ∧ 540672000 ≤ (s.ck.time - t).toNat then
      ({ s with ck := { s.ck with ppsMissing := true } }).logEvent 132 0x0207 (s.rd Reg.CLK_PPS_STAT.COUNT) 0 0
    else s
  | none => s

/-- WIDTH_MS as it acts. -/
def ppsWidth (s : State) : Nat := 491520 * min 999 (max 1 (s.rd Reg.CLK_PPS_OUT_CFG.WIDTH_MS))

/-! PTP timestamps and Synchronous Ethernet (R146-R153). -/

/-- CLK_PTP_CFG selects the port. -/
def ptpPort (s : State) (p : Nat) : Bool := bit (s.rd Reg.CLK_PTP_CFG.PORTS) p

/-- A timestamp in seconds and nanoseconds, ten bytes, most significant first (IEEE 1588: PRESUMED). -/
def ptpStamp (t : Nat) : List Byte :=
  beBytes 6 (t / ticksPerSecond) ++ beBytes 4 (t % ticksPerSecond * 1000000000 / ticksPerSecond)

/-- Bytes replaced in a frame from `o`. -/
def patch (f : List Byte) (o : Nat) (bs : List Byte) : List Byte := f.take o ++ bs ++ f.drop (o + bs.length)

/-- A sum in one's-complement arithmetic of 16 bits, `n` folds. -/
def onesFold : Nat → Nat → Nat
  | 0, v => v
  | n + 1, v => onesFold n (v % 65536 + v / 65536)

/-- Sum of the 16-bit words of a field. -/
def sum16 (bs : List Byte) : Nat := ((List.range (bs.length / 2)).map fun i => beNat (slice bs (2 * i) 2)).sum

/-- The UDP checksum after a field has changed (RFC 1624: PRESUMED); 0 stands for no checksum. -/
def udpUpdate (sum : Nat) (old new : List Byte) : Nat :=
  if sum = 0 then 0
  else
    let v := 65535 - onesFold 3 ((65535 - sum) + (old.length / 2 * 65535 - sum16 old) + sum16 new)
    if v = 0 then 65535 else v

/-- A one-step Sync with the timestamp in place, its UDP checksum or its FCS updated (R147). -/
def oneStep (f : List Byte) (loc : SyncLoc) (t : Nat) : List Byte :=
  let g := patch f loc.origin (ptpStamp t)
  let g := match loc.udpSum with
    | some o => patch g o (beBytes 2 (udpUpdate (beNat (slice f o 2)) (slice f loc.origin 10) (ptpStamp t)))
    | none => g
  g.take (g.length - 4) ++ leBytes 4 (crc32 (g.take (g.length - 4)))

/-- A frame received by a port (R146). -/
def ethReceive (s : State) (p : Nat) (f : List Byte) : State :=
  if s.domUp 19 ∧ 3 ≤ s.tier then
    let st := s.ck.time - BitVec.ofNat 64 (s.rd (Reg.CLK_PTP_LAT.RX p))
    let s := { s with ck := { s.ck with rxFrame := Tbl.set s.ck.rxFrame p f } }
    if ptpPort s p then { s with ck := { s.ck with rxStamp := Tbl.set s.ck.rxStamp p st } } else s
  else s

/-- A frame sent by a port (R146, R147). -/
def ethTransmit (s : State) (p : Nat) (f : List Byte) (sync : Option SyncLoc) : State :=
  if s.domUp 19 ∧ 3 ≤ s.tier then
    let st := s.ck.time + BitVec.ofNat 64 (s.rd (Reg.CLK_PTP_LAT.TX p))
    let out := match sync with
      | some loc => if ptpPort s p ∧ s.flag Reg.CLK_PTP_CFG.ONE_STEP then oneStep f loc st.toNat else f
      | none => f
    let s := { s with ck := { s.ck with txFrame := Tbl.set s.ck.txFrame p out } }
    if ptpPort s p then { s with ck := { s.ck with txStamp := Tbl.set s.ck.txStamp p st } } else s
  else s

/-- The selected port of a recovered-clock output, and whether the output is enabled (R152). -/
def syncePort (s : State) (o : Nat) : Nat := if o = 0 then s.rd Reg.CLK_SYNCE_CFG.PORT0 else s.rd Reg.CLK_SYNCE_CFG.PORT1
def synceOn (s : State) (o : Nat) : Bool := if o = 0 then s.flag Reg.CLK_SYNCE_CFG.EN0 else s.flag Reg.CLK_SYNCE_CFG.EN1

/-- What a recovered-clock output carries: the port whose clock it is and its divisor, 165 for 25GBASE-R and 66 for 10GBASE-R;
none where it is held low, disabled or squelched (R152, R153). -/
def synceOut (s : State) (o : Nat) : Option (Nat × Nat) :=
  let p := syncePort s o
  if clkUp s && synceOn s o && !bit s.ck.squelched o && s.domUp 19 then
    some (p, if s.rd (Reg.RAD_ETH_CFG.SPEED p) = 2 then 66 else 165)
  else none

/-- The selected port loses lock, whether or not the output is enabled (R153). -/
def squelch (s : State) (o : Nat) : State :=
  if clkUp s ∧ s.flag Reg.CLK_SYNCE_CFG.SQUELCH ∧ !bit s.ck.squelched o then
    ({ s with ck := { s.ck with squelched := setBit s.ck.squelched o } }).logEvent 132 0x020B o (syncePort s o) 0
  else s

/-! The run mark (R155, R163). -/

/-- A write to CLK_RUN_CTRL. -/
def writeRunCtrl (s : State) (rq : Requester) (data : Nat) : State :=
  let s := stdWrite s rq 0xF00100088 data
  if bit data 0 then { s with ck := { s.ck with runArmed := true, runPps := false } } else s

/-- The run mark falls. -/
def runMark (s : State) : State :=
  let due := if s.flag Reg.CLK_RUN_CTRL.SRC then s.ck.runPps
    else decide (s.rdPair Reg.CLK_RUN_AT_LO.AT Reg.CLK_RUN_AT_HI.AT ≤ s.now)
  if s.ck.runArmed ∧ atMark s ∧ due then
    let s := [Reg.CLK_RUN_STAT.GOV, Reg.CLK_RUN_STAT.MODE, Reg.CLK_RUN_STAT.FENCE, Reg.CLK_RUN_STAT.DROOP,
      Reg.CLK_RUN_STAT.REFCLK, Reg.CLK_RUN_STAT.ADAPTIVE].foldl (fun s f => s.wr f 0) s
    let s := if deterministic s then s else runFlag s Reg.CLK_RUN_STAT.ADAPTIVE
    let s := if s.flag Reg.SYS_GOV_STAT.LEVEL then runFlag s Reg.CLK_RUN_STAT.GOV else s
    ({ s with ck := { s.ck with runArmed := false, runPps := false } }).logEvent 132 0x020A
      s.now (s.now / 2 ^ 32) (s.rd Reg.CLK_MODE.MODE)
  else s

/-- The CLK registers and what lies behind them at a reset; the run mark, CLK_RUN_STAT and device time are kept, CLK_RATE across
a warm reset, the stretch counts until a cold reset (R162, R163).  Until a clock plan is read the mode is Adaptive
(`Reg.CLK_MODE`), and CLK_RUN_STAT says so.  A transition without a reset leaves them all (DESIGN CHOICE, log entry 94). -/
def clkReset (s : State) (cold keepRate : Bool) : State :=
  let keep := [Reg.CLK_RUN_STAT.GOV, Reg.CLK_RUN_STAT.MODE, Reg.CLK_RUN_STAT.FENCE, Reg.CLK_RUN_STAT.DROOP,
    Reg.CLK_RUN_STAT.REFCLK, Reg.CLK_RUN_STAT.ADAPTIVE, Reg.CLK_RUN_AT_LO.AT, Reg.CLK_RUN_AT_HI.AT, Reg.CLK_RUN_CTRL.SRC] ++
    if keepRate then [Reg.CLK_RATE.RATE] else []
  let s := runFlag (runFlag (s.resetWindow 0xF00100000 0xF00200000 keep) Reg.CLK_RUN_STAT.MODE) Reg.CLK_RUN_STAT.ADAPTIVE
  let c := s.ck
  { s with ck := { time := c.time, frac := c.frac, tickPhase := c.tickPhase, cellPhase := c.cellPhase, fromRefclk := c.fromRefclk,
                   stretch := if cold then [] else c.stretch, runArmed := c.runArmed, runPps := c.runPps } }

/-! The commands. -/

/-- CELLAR_CLOCK_MOVE (02 R71, 15 R697, R698). -/
def execCellarClockMove (s : State) : Host.Outcome State Fault Refusal := whilePowered s clockMove

/-- CLK_MODE_REQ_ADAPTIVE (R128, R129); `ticks` is the time from t0 to step 5. -/
def execClkModeReqAdaptive (rq : Requester) (ticks : Nat) (s : State) : Host.Outcome State Fault Refusal :=
  whilePowered s fun s => atRegister s rq 0xF00100004 true 1 fun s =>
    (requestClkMode s 1 fun s => finishChange s 1 ticks).answer 0

/-- CLK_MODE_REQ_DETERMINISTIC (R124, R128, R129); `floor` is the time to step 5 where the floor is reached in time. -/
def execClkModeReqDeterministic (rq : Requester) (floor : Option Nat) (s : State) : Host.Outcome State Fault Refusal :=
  whilePowered s fun s => atRegister s rq 0xF00100004 true 2 fun s =>
    (requestClkMode s 2 fun s => startDeterministic s floor).answer 0

/-- CLK_MODE_FLOOR_TIMEOUT (R130). -/
def execClkModeFloorTimeout (s : State) : Host.Outcome State Fault Refusal :=
  whilePowered s fun s => if 98304 ≤ (s.ck.time - s.ck.changeAt).toNat then abandonChange s 1 else s

/-- DROOP_STRETCH (R123, R126). -/
def execDroopStretch (island cycles : Nat) (s : State) : Host.Outcome State Fault Refusal :=
  whilePowered s fun s => droop s island cycles

/-- REFCLK_LOST (R136, R137). -/
def execRefclkLost (s : State) : Host.Outcome State Fault Refusal := whilePowered s refclkLost

/-- REFCLK_RELOCK (R138). -/
def execRefclkRelock (s : State) : Host.Outcome State Fault Refusal := whilePowered s refclkRelock

/-- CLK_RATE_WRITE (R143). -/
def execClkRateWrite (rq : Requester) (data : Nat) (s : State) : Host.Outcome State Fault Refusal :=
  whilePowered s fun s => atRegister s rq 0xF00100030 true data fun s => writeClkRate s rq data

/-- CLK_STEP_WRITE (R144, R145). -/
def execClkStepWrite (rq : Requester) (data : Nat) (s : State) : Host.Outcome State Fault Refusal :=
  whilePowered s fun s => atRegister s rq 0xF0010003C true data fun s => writeStepHi s rq data

/-- CLK_STEP_APPLY (R144). -/
def execClkStepApply (s : State) : Host.Outcome State Fault Refusal := whilePowered s applyStep

/-- PPS_IN_EDGE (R148, R150). -/
def execPpsInEdge (s : State) : Host.Outcome State Fault Refusal := whilePowered s ppsEdge

/-- CLK_PPS_MISSING (R149). -/
def execClkPpsMissing (s : State) : Host.Outcome State Fault Refusal := whilePowered s ppsMissing

/-- PPS_OUT_RISE (R151). -/
def execPpsOutRise (s : State) : Host.Outcome State Fault Refusal :=
  whilePowered s fun s =>
    if clkUp s ∧ s.flag Reg.CLK_PPS_OUT_CFG.EN ∧ s.ck.ppsDue then
      { s with ck := { s.ck with ppsOut := true, ppsDue := false, ppsRise := s.ck.time } } else s

/-- PPS_OUT_FALL (R151). -/
def execPpsOutFall (s : State) : Host.Outcome State Fault Refusal :=
  whilePowered s fun s =>
    if s.ck.ppsOut ∧ ppsWidth s ≤ (s.ck.time - s.ck.ppsRise).toNat then { s with ck := { s.ck with ppsOut := false } } else s

/-- ETH_FRAME_RECEIVE (R146). -/
def execEthFrameReceive (port : Nat) (frame : List Byte) (s : State) : Host.Outcome State Fault Refusal :=
  whilePowered s fun s => ethReceive s (port % 4) frame

/-- ETH_FRAME_TRANSMIT (R146, R147). -/
def execEthFrameTransmit (port : Nat) (frame : List Byte) (sync : Option SyncLoc) (s : State) :
    Host.Outcome State Fault Refusal :=
  whilePowered s fun s => ethTransmit s (port % 4) frame sync

/-- SYNCE_SQUELCH (R153). -/
def execSynceSquelch (out : Nat) (s : State) : Host.Outcome State Fault Refusal := whilePowered s fun s => squelch s (out % 2)

/-- SYNCE_UNSQUELCH (R153). -/
def execSynceUnsquelch (out : Nat) (s : State) : Host.Outcome State Fault Refusal :=
  whilePowered s fun s => { s with ck := { s.ck with squelched := clrBit s.ck.squelched (out % 2) } }

/-- CLK_RUN_ARM (R163). -/
def execClkRunArm (rq : Requester) (data : Nat) (s : State) : Host.Outcome State Fault Refusal :=
  whilePowered s fun s => atRegister s rq 0xF00100088 true data fun s => writeRunCtrl s rq data

/-- CLK_RUN_MARK (R155). -/
def execClkRunMark (s : State) : Host.Outcome State Fault Refusal := whilePowered s runMark

/-- CLK_ISLAND_UNLOCK (03 "At the edges", 0x0201): a generator loses lock for more than 64 cycles while REFCLK is present. -/
def execClkIslandUnlock (island : Nat) (s : State) : Host.Outcome State Fault Refusal :=
  whilePowered s fun s =>
    if islandLocked s island ∧ islandDomain island ≠ none then
      ({ s with ck := { s.ck with unlocked := island :: s.ck.unlocked } }).logEvent 132 0x0201 island (islandRatio island) s.mode
    else s

end Sys2Proof.Machine
end

