-- ==== Sys2Proof/Machine/Receiver.lean ====
section
/-! DEFINITION. The learned receiver (chapter 12): admission of learned jobs, the gate and its deadline guard, LDPC decoding
and HARQ combining as far as the spec describes them.  What TS 38.212 decides (parity checks, CRCs, the place of an LLR in
the circular buffer) comes with the command or from `Config`. -/

namespace Sys2Proof.Machine

/-- An allocation replaced. -/
def setAlloc (s : State) (a : Alloc) : State :=
  { s with rad := { s.rad with allocs := s.rad.allocs.map fun x => if x.id = a.id then a else x } }

/-- The allocation with an identity. -/
def allocOf (s : State) (id : Nat) : Option Alloc := s.rad.allocs.find? fun a => a.id == id

/-! Admission (R559-R563). -/

/-- Budget of a learned job in units of 64 engine cycles, and in ticks (R559). -/
def jobBudget (g : GateCfg) (nreL : Nat) : Nat := g.base + g.per * ((nreL + 1023) / 1024)
def budgetTicks (b : Nat) : Nat := (256 * b + 9) / 10

/-- Engine `e` is eligible with an ENGINES mask (R560). -/
def engEligible (s : State) (engines e : Nat) : Bool :=
  bit engines e && s.domOn (6 + e) && s.flag (Reg.IE_CTRL.EN e) && s.flag (Reg.IE_BANK_JOBQ.EN e 0) &&
    s.rd (Reg.IE_BANK_MODEL_STAT.STATE e 0) == 2 && (s.bank e 0).loading.isNone

/-- Projected free instant of an engine. -/
def freeAt (s : State) (e : Nat) : Nat := Tbl.get s.rad.freeAt e 0

/-- Dispatched jobs of an engine without a completion word. -/
def outstandingJobs (s : State) (e : Nat) : List Alloc := s.rad.allocs.filter fun a => a.engine == some e && a.comp.isNone

/-- The engine is overdue (R561). -/
def engOverdue (s : State) (e : Nat) : Bool := !(outstandingJobs s e).isEmpty && decide (freeAt s e < s.now)

/-- The engine chosen by R562 and the start it gives: the lowest index among the earliest starts. -/
def bestEngine (s : State) (g : GateCfg) (layers : Nat) : Option (Nat × Nat) :=
  (List.range 4).foldl (fun (best : Option (Nat × Nat)) e =>
    if engEligible s g.engines e && bit (s.rd (Reg.RAD_LR_LAYERS.LAYERS e)) (layers - 1) && !engOverdue s e then
      let st := max (s.now + 1278) (freeAt s e)
      match best with
      | none => some (e, st)
      | some (_, bs) => if st < bs then some (e, st) else best
    else best) none

/-- `n` crates of a pool for the radio accelerators; when one is missing, those taken go back (R562 crates_ok). -/
def radioCrates (s : State) (pool : Nat) : Nat → List Nat → State × Option (List Nat)
  | 0, got => (s, some got)
  | n + 1, got =>
    let (s, h) := allocCrate s pool 0x94
    if h = 0 then (radioFreeAll s got, none) else radioCrates s pool n (got ++ [h])

/-- LLR crates of an allocation: one for every 131,072 coded bits (R558). -/
def llrCrates (g : Nat) : Nat := (g + 131071) / 131072

/-- Handles written to a list of the descriptor, the unused ones null (R557). -/
def writeHandles (s : State) (desc o : Nat) (hs : List Nat) : State :=
  radioPut s (crateAddr s desc + o) ((List.range 10).flatMap fun i => leBytes 4 (hs.getD i 0))

/-- A learned job not admitted: reason 0 no engine, 1 past guard, 2 no crate (R562). -/
def notAdmitted (s : State) (a : Alloc) (why : Nat) : State := s.logLimited a.carrier 218 0x1812 a.carrier a.tag why

/-- The job packet of a learned job (R563). -/
def dispatchJob (s : State) (a : Alloc) (e budget : Nat) : State :=
  let cq := s.rd Reg.RAD_LR_CFG.CQ
  let entry := s.rd (Reg.IE_BANK_MODEL_ENTRY.ENTRY e 0)
  pushPacket s (s.rd (Reg.IE_BANK_JOBQ.QUEUE e 0))
    (leBytes 8 (2 ^ 8 * cq + 2 ^ 16 * a.tag + 2 ^ 32 * entry) ++ leBytes 8 (crateAddr s a.desc) ++
      leBytes 8 (ofInt a.guardAt 64) ++ leBytes 8 budget) 37

/-- A PUSCH PDU that both halves serve: CP-OFDM without repetition (R554). -/
def gatedPusch (p : PuschInfo) : Bool := !p.dftS && !p.repetition

/-- The gate admits or refuses the learned job of an allocation (R562). -/
def admitJob (s : State) (a : Alloc) (g : GateCfg) (layers nreL : Nat) : State :=
  if !gatedPusch a.pdu || g.mode == 1 then s
  else
    let b := jobBudget g nreL
    match bestEngine s g layers with
    | none => notAdmitted s a 0
    | some (e, start) =>
      if a.guardAt < (start + budgetTicks b : Nat) then notAdmitted s a 1
      else match radioCrates s 3 (llrCrates a.g) [] with
        | (s, none) => notAdmitted s a 2
        | (s, some ll) =>
          let s := writeHandles s a.desc 88 ll
          let s := radioPut s (crateAddr s a.desc + 9) [1]
          let s := { s with rad := { s.rad with freeAt := Tbl.set s.rad.freeAt e (start + budgetTicks b) } }
          dispatchJob (setAlloc s { a with ll := ll, engine := some e }) a e b

/-- Ta falls from the end of the allocation's last symbol to 2,048 ticks after it (R555). -/
def readyInTime (s : State) (p : PuschInfo) : Bool := decide (p.symEnd ≤ s.now) && decide (s.now ≤ p.symEnd + 2048)

/-- The classical LLRs are complete at most 12,288 ticks after the end of the allocation's last symbol (R556). -/
def classicalInTime (s : State) (p : PuschInfo) : Bool := decide (s.now ≤ p.symEnd + 12288)

/-- Ta: a descriptor is posted, its classical crates taken, and the learned job admitted or refused (R555, R557, R562). -/
def allocationReady (s : State) (desc : Nat) (p : PuschInfo) : State :=
  let r := radioGet s (crateAddr s desc) 256
  let s := r.1
  let d := r.2
  let c := field d 2 1
  if !carrierOn s c then s
  else
    let sfn := field d 4 2
    let slot := field d 6 1
    let boundary := slotStart s c sfn slot
    let g := gateFor s c boundary
    let e : Int := boundary + slotTicks (radioBody s) c
    let bitsN := field d 12 4
    let (s, cl) := radioCrates s 3 (llrCrates bitsN) []
    let a : Alloc :=
      { id := s.rad.nextId, tag := field d 0 2, carrier := c, sfn := sfn, slot := slot, slotEnd := e, guardAt := e + g.guard_,
        mode := g.mode, thresh := g.thresh, pdu := p, g := bitsN, desc := desc,
        inputs := ((List.range 6).map fun i => field d (24 + 4 * i) 4).filter (· != 0), cl := cl.getD [], ll := [],
        noCl := cl.isNone, left := p.blocks.length }
    let s := { s with rad := { s.rad with nextId := s.rad.nextId + 1, allocs := s.rad.allocs ++ [a] } }
    let s := s.bump (Reg.RAD_LR_CNT.COUNT c 0) 1
    let s := writeHandles (radioPut s (crateAddr s desc + 9) [0]) desc 48 a.cl
    admitJob s a g (field d 7 1) (field d 16 4)

/-! HARQ buffers and decoding (R574-R582). -/

/-- HARQ buffers configured. -/
def harqCount (s : State) : Nat := min 64 (s.rd Reg.RAD_HARQ_CFG.BUFS)

/-- First byte of a HARQ buffer. -/
def harqAddr (s : State) (i : Nat) : Nat :=
  s.rdPair Reg.RAD_HARQ_BASE_LO.ADDR Reg.RAD_HARQ_BASE_HI.ADDR + 4194304 * i

/-- Key of an allocation's buffer. -/
def harqKey (a : Alloc) : Nat × Nat × Nat := (a.carrier, a.pdu.rnti, a.pdu.harq)

/-- Buffer that holds a key. -/
def harqOf (s : State) (k : Nat × Nat × Nat) : Option Nat := (s.rad.harq.find? fun p => p.2 == k).map (·.1)

/-- An LLR byte as a signed number; −128 reads as −127 (R558). -/
def llrOf (b : Byte) : Int := max (-127) (sInt b.toNat 8)

/-- `n` LLRs from the crates of a list, read a crate at a time (R558). -/
def readLlrs (s : State) : List Nat → Nat → State × List Int
  | [], _ => (s, [])
  | h :: rest, n =>
    if n = 0 then (s, [])
    else
      let r := radioGet s (crateAddr s h) (min n 131072)
      let q := readLlrs r.1 rest (n - 131072)
      (q.1, r.2.map llrOf ++ q.2)

/-- An LLR added to a byte of a buffer, saturating at ±127; a place that holds none yet takes it as it is (R580). -/
def addLlr (old : Option Byte) (x : Int) : Byte :=
  BitVec.ofNat 8 (ofInt (clampI (-127) 127 (x + old.elim 0 fun b => sInt b.toNat 8)) 8)

/-- LLRs combined into one line of a buffer, read and written under the access checks (05 R262, 06 R271): place and LLR of each; with
the places that hold LLRs after it. -/
def combineLine (s : State) (base line : Nat) (held : List Nat) (ls : List (Nat × Int)) : State × List Nat :=
  match s.busRead radioRq (base + 64 * line) 64 with
  | (s, none) => (s, held)
  | (s, some r) =>
    let q := ls.foldl (fun (acc : List Byte × List Nat) p =>
      let o := p.1 % 64
      let old := if acc.2.contains p.1 then some (acc.1.getD o 0) else none
      (acc.1.set o (addLlr old p.2), if acc.2.contains p.1 then acc.2 else p.1 :: acc.2)) (r.1, held)
    (radioPut s (base + 64 * line) q.1, q.2)

/-- The chosen LLRs of an allocation combined into a buffer; with new data nothing that the buffer held counts (R580). -/
def combine (s : State) (a : Alloc) (buf : Nat) (fresh : Bool) : State :=
  let base := harqAddr s buf
  let r := readLlrs s (if a.chosen = some 2 then a.ll else a.cl) a.g
  let ps := r.2.zipIdx.map fun p => (Config.harqPlace a.pdu.rnti a.pdu.harq p.2 % 4194304, p.1)
  let held := if fresh then [] else Tbl.get s.rad.harqHeld buf []
  let q := (ps.map fun p => p.1 / 64).eraseDups.foldl
    (fun (acc : State × List Nat) line => combineLine acc.1 base line acc.2 (ps.filter fun p => p.1 / 64 == line)) (r.1, held)
  { q.1 with rad := { q.1.rad with harqHeld := Tbl.set q.1.rad.harqHeld buf q.2 } }

/-- A transport block reaches the decoder: its buffer, the combining, its code blocks (R576, R580, R581). -/
def startDecode (s : State) (a : Alloc) : State :=
  let k := harqKey a
  let free := (List.range (harqCount s)).find? fun i => (Tbl.find s.rad.harq i).isNone
  let s :=
    match harqOf s k with
    | some i => combine s a i a.pdu.newData
    | none =>
      if a.pdu.newData then
        match free with
        | some i => combine { s with rad := { s.rad with harq := Tbl.set s.rad.harq i k } } a i true
        | none => (s.bump Reg.RAD_LDPC_HARQ_FULL.COUNT 1).logLimited 0 213 0x1816 a.carrier a.pdu.rnti a.pdu.harq
      else s
  { s with rad := { s.rad with blocks := s.rad.blocks ++ (List.range a.pdu.blocks.length).map fun i => (a.id, i) } }

/-- MAX_ITER as it acts. -/
def maxIter (s : State) : Nat := max 1 (min 16 (s.rd Reg.RAD_LDPC_CFG.MAX_ITER))

/-- Scale of an iteration as it acts, among the entries that a block took: base graph 0 or 1, iteration from 1, row class (R574). -/
def scaleOf (entries : List Nat) (g i k : Nat) : Nat :=
  let e := 32 * g + 2 * (i - 1) + k
  max 1 (bits (entries.getD (e / 4) 0) (8 * (e % 4)) 8)

/-- A check-to-variable message: SCALE / 256 of the min-sum magnitude, ties to even, with the min-sum sign; 8 bits, saturating
(R574). -/
def checkMessage (run : LdpcRun) (g i k : Nat) (neg : Bool) (magnitude : Nat) : Int :=
  let v := scaleOf run.scales g i k * magnitude
  let m : Int := (v / 256 + b2n (decide (128 < v % 256) || (v % 256 == 128 && v / 256 % 2 == 1)) : Nat)
  min 127 m * (if neg then -1 else 1)

/-- Engine cycles for which a block occupies its island after a number of iterations (R576). -/
def blockCycles (b : CodeBlock) (iters : Nat) : Nat := 96 + (min b.ncb (b.er + 2 * b.zc) * iters + 127) / 128

/-- Free islands take the next blocks in order, island 213 first (R576). -/
def feedIslands (s : State) : State :=
  (List.range 2).foldl (fun (s : State) i =>
    match Tbl.find s.rad.islands i, s.rad.blocks with
    | none, b :: rest =>
      let run : LdpcRun := ⟨b.1, b.2, s.now, maxIter s, (List.range 16).map fun j => s.rd (Reg.RAD_LDPC_SCALE.ENTRIES j)⟩
      { s with rad := { s.rad with islands := Tbl.set s.rad.islands i run, blocks := rest } }
    | _, _ => s) s

/-- An allocation whose decode has ended and whose completion, if any is due, has come lets its crates go; once reported it
leaves the gate (R570). -/
def retireAlloc (s : State) (id : Nat) : State :=
  match allocOf s id with
  | none => s
  | some a =>
    let done := a.crc.isSome && (a.engine.isNone || a.comp.isSome)
    if !done then s
    else
      let s := if a.freed then s else radioFreeAll s (a.ll ++ a.cl ++ a.desc :: a.inputs)
      let s := setAlloc s { a with freed := true, cl := [], ll := [] }
      if a.reported then { s with rad := { s.rad with allocs := s.rad.allocs.filter fun x => x.id != id } } else s

/-- The decode of an allocation ends with its TB CRC: counted by the LLRs used; a pass frees its buffer (R580, R585). -/
def endDecode (s : State) (id : Nat) (ok : Bool) : State :=
  match allocOf s id with
  | none => s
  | some a =>
    let s := if ok then
        match harqOf s (harqKey a) with
        | some i => { s with rad := { s.rad with harq := Tbl.erase s.rad.harq i, harqHeld := Tbl.erase s.rad.harqHeld i } }
        | none => s
      else if a.chosen = some 2 then s.bump (Reg.RAD_LR_CNT.COUNT a.carrier 9) 1
      else if a.chosen = some 1 then s.bump (Reg.RAD_LR_CNT.COUNT a.carrier 10) 1
      else s
    let used := if a.chosen = some 2 then a.ll else a.cl
    let s := radioFreeAll s used
    retireAlloc (setAlloc s (if a.chosen = some 2 then { a with crc := some ok, ll := [] }
      else { a with crc := some ok, cl := [] })) id

/-! The choice (R566-R568, R572, R573). -/

/-- The completion counts as valid: before Tg, STATUS 0, no later than ARG1 (R567). -/
def compValid (a : Alloc) : Bool :=
  match a.comp with
  | some (st, at_, _) => st == 0 && decide ((at_ : Int) < a.guardAt)
  | none => false

/-- CONF meets the carrier's THRESH. -/
def confOk (a : Alloc) : Bool :=
  match a.comp with
  | some (_, _, conf) => decide (a.thresh ≤ conf)
  | none => false

/-- Row of the fallback table (R572). -/
def fallbackRow (a : Alloc) : Nat :=
  if (a.mode = 1 ∨ !gatedPusch a.pdu) ∧ !a.noCl then 1
  else if !a.clDone then (if compValid a then 2 else 3)
  else if a.engine.isNone then 4
  else match a.comp with
    | none => 6
    | some (st, _, _) =>
      if st ≠ 0 then 5
      else if !compValid a then 6
      else if a.mode = 0 ∧ !confOk a then 7
      else 8

/-- Counter of a row in the block of RAD_LRc counters. -/
def rowCounter : Nat → Nat
  | 1 => 6 | 2 => 7 | 3 => 8 | 4 => 4 | 5 => 5 | 6 => 3 | 7 => 2 | _ => 1

/-- LLRs that a row decodes: 0 none, 1 classical, 2 learned. -/
def rowChoice (row : Nat) : Nat := if row = 3 then 0 else if row = 2 ∨ row = 8 then 2 else 1

/-- The choice is made: its counter, its entry, the other half's crates, and the decode (R568, R572, R573). -/
def choose (s : State) (a : Alloc) : State :=
  let row := fallbackRow a
  let ch := rowChoice row
  let s := s.bump (Reg.RAD_LR_CNT.COUNT a.carrier (rowCounter row)) 1
  let s := if row = 6 then s.logLimited a.carrier 218 0x1810 a.carrier a.tag (s.rd (Reg.RAD_LR_CNT.COUNT a.carrier 3))
    else if row = 3 then s.logEvent 218 0x1813 a.carrier a.tag 0 else s
  let llGone := ch ≠ 2 ∧ (a.engine.isNone ∨ a.comp.isSome)
  let s := if ch ≠ 1 then radioFreeAll s a.cl else s
  let s := if llGone then radioFreeAll s a.ll else s
  let a := { a with chosen := some ch, cl := if ch ≠ 1 then [] else a.cl, ll := if llGone then [] else a.ll }
  let s := setAlloc s a
  if ch = 0 then retireAlloc (setAlloc s { a with crc := some false }) a.id
  else if a.pdu.blocks = [] then endDecode s a.id false
  else feedIslands (startDecode s a)

/-- The choice is made when it is due before Tg (R566). -/
def chooseIfReady (s : State) (id : Nat) : State :=
  match allocOf s id with
  | some a => if a.chosen.isNone && a.clDone && (a.engine.isNone || a.comp.isSome) then choose s a else s
  | none => s

/-- A completion word from the gate's completion queue (R561, R567, R568): the choice it makes, or its discarding. -/
def learnedCompletion (s : State) (w : Nat) : State :=
  match s.rad.allocs.find? fun a => a.tag == bits w 0 16 && a.engine.isSome && a.comp.isNone with
  | none => s
  | some a =>
    let st := bits w 16 8
    let r := radioGet s (crateAddr s a.desc) 12
    let s := r.1
    let conf := field r.2 10 2
    let s := if st = 0 then s else s.logLimited (4 + a.carrier) 218 0x1811 (a.engine.getD 0) a.tag st
    let late := a.chosen.isSome
    let s := setAlloc s { a with comp := some (st, s.now, conf) }
    if late then
      let s := if a.chosen = some 2 then s else radioFreeAll s a.ll
      retireAlloc (if a.chosen = some 2 then s else setAlloc s { a with comp := some (st, s.now, conf), ll := [] }) a.id
    else chooseIfReady s a.id

/-! The commands. -/

/-- ALLOCATION_READY (R555-R563): `desc` is the handle of the descriptor's crate. -/
def execAllocationReady (desc : Nat) (pdu : PuschInfo) (s : State) : Host.Outcome State Fault Refusal :=
  whilePowered s fun s =>
    if radUp s && s.flag Reg.RAD_STAT.RELEASED && readyInTime s pdu then allocationReady s desc pdu else s

/-- CLASSICAL_LLR_COMPLETE (R556, R566): by the allocation's number in order of Ta. -/
def execClassicalLlrComplete (alloc : Nat) (s : State) : Host.Outcome State Fault Refusal :=
  whilePowered s fun s =>
    match allocOf s alloc with
    | some a =>
      if radUp s && a.chosen.isNone && !a.noCl && classicalInTime s a.pdu then
        chooseIfReady (setAlloc s { a with clDone := true }) alloc
      else s
    | none => s

/-- LEARNED_COMPLETION (R561, R566-R568): the gate pops a word of queue RAD_LR_CFG.CQ. -/
def execLearnedCompletion (s : State) : Host.Outcome State Fault Refusal :=
  whilePowered s fun s =>
    let n := s.rd Reg.RAD_LR_CFG.CQ
    if radUp s && !(s.q n).marks.isEmpty then
      let (s, w, st, _) := popSlot s n
      if bit st 1 then learnedCompletion s (leNat w) else s
    else s

/-- The choices of a carrier that Tg makes (R566). -/
def guardChoices (s : State) (carrier : Nat) : State :=
  (s.rad.allocs.filter fun a => a.carrier == carrier && a.chosen.isNone && decide (a.guardAt ≤ (s.now : Int))).foldl choose s

/-- GUARD_INSTANT (R566, R569): Tg of a carrier's slot. -/
def execGuardInstant (carrier : Nat) (s : State) : Host.Outcome State Fault Refusal :=
  whilePowered s fun s => if radUp s then guardChoices s carrier else s

/-- ENGINE_OVERDUE (R561). -/
def execEngineOverdue (engine : Nat) (s : State) : Host.Outcome State Fault Refusal :=
  whilePowered s fun s =>
    if radUp s && engOverdue s engine then
      s.logLimited engine 218 0x1814 engine (((outstandingJobs s engine).head?.map (·.tag)).getD 0) 0
    else s

/-- Fields that RAD_LR_COMMIT applies (R571). -/
def gateFields : List Fld :=
  [Reg.RAD_LR_CFG.GATE_MODE, Reg.RAD_LR_CFG.ENGINES, Reg.RAD_LR_GUARD.TICKS, Reg.RAD_LR_THRESH.THRESH0,
   Reg.RAD_LR_THRESH.THRESH1, Reg.RAD_LR_BUDGET.BASE, Reg.RAD_LR_BUDGET.PER]

/-- A write to RAD_LR_COMMIT (R571). -/
def gateCommit (s : State) (data : Nat) : State :=
  (if bit data 0 then
    let s := s.commitAll gateFields
    let n := radioCarriers (radioBody s)
    { s with rad := { s.rad with
      gatePend := s.rad.gatePend ++ [(s.now, 2 ^ n - 1, (List.range n).map fun c => (c, gateCommitted s c))] } }
  else s).answer 0

/-- RAD_LR_COMMIT (R571). -/
def execRadLrCommit (rq : Requester) (data : Nat) (s : State) : Host.Outcome State Fault Refusal :=
  whilePowered s fun s => atRegister s rq 0xF03001010 true data fun s => gateCommit s data

/-- A block of an allocation has stopped; its transport block ends with its last block (R575, R580). -/
def blockEnds (s : State) (id : Nat) (tbCrc : Bool) (data : List Byte) : State :=
  match allocOf s id with
  | none => s
  | some a =>
    let a := { a with left := a.left - 1, payload := a.payload ++ data }
    let s := setAlloc s a
    if a.left = 0 then endDecode s id tbCrc else s

/-- The block in an island can stop now after `iters` iterations: at one at whose end every parity check and CRC 24B pass, or at MAX_ITER
(R575); and it has occupied the island for the cycles of R576. -/
def blockStops (s : State) (r : LdpcRun) (iters : Nat) (good : Bool) : Bool :=
  match allocOf s r.alloc with
  | some a =>
    decide (1 ≤ iters) && decide (iters ≤ r.maxIter) && (good || iters == r.maxIter) &&
      (a.pdu.blocks[r.block]?).any fun b => decide (r.at_ + engineTicks (blockCycles b iters) ≤ s.now)
  | none => false

/-- LDPC_BLOCK_DONE (R575, R576, R580): the block in an island stops with its payload after `iters` iterations, every parity check and
CRC 24B passed or not; `tbCrc` is the CRC of the transport block, when this is its last. -/
def execLdpcBlockDone (island iters : Nat) (good tbCrc : Bool) (data : List Byte) (s : State) : Host.Outcome State Fault Refusal :=
  whilePowered s fun s =>
    match Tbl.find s.rad.islands (island % 2) with
    | some r =>
      if radUp s && blockStops s r iters good then
        let s := { s with rad := { s.rad with islands := Tbl.erase s.rad.islands (island % 2) } }
        feedIslands (blockEnds s r.alloc tbCrc data)
      else s
    | none => s

/-- The cut-off of a carrier's slot: blocks in an island take their hard decisions, blocks not started fail (R577). -/
def ldpcCutoff (s : State) (carrier : Nat) : State :=
  let mine (id : Nat) : Bool := match allocOf s id with
    | some a => a.carrier == carrier && decide (a.slotEnd + 120832 ≤ (s.now : Int))
    | none => false
  let cut := s.rad.islands.filter fun p => mine p.2.alloc
  let left := s.rad.blocks.filter fun b => mine b.1
  let ids := ((cut.map (·.2.alloc)) ++ left.map (·.1)).eraseDups
  let s := { s with rad := { s.rad with
    islands := s.rad.islands.filter fun p => !mine p.2.alloc, blocks := s.rad.blocks.filter fun b => !mine b.1 } }
  let s := s.bump Reg.RAD_LDPC_CUT.COUNT (cut.length + left.length)
  let s := if cut.length + left.length = 0 then s else s.logLimited 0 213 0x1815 carrier cut.length left.length
  let s := ids.foldl (fun (s : State) id =>
    let failed := left.any fun b => b.1 == id
    let ok := !failed && s.freeVal 1 == 1
    endDecode s.useFresh id ok) s
  feedIslands s

/-- LDPC_CUTOFF (R577): 120,832 ticks after the end of a carrier's slot. -/
def execLdpcCutoff (carrier : Nat) (s : State) : Host.Outcome State Fault Refusal :=
  whilePowered s fun s => if radUp s then ldpcCutoff s carrier else s

/-- TB_CRC_DEADLINE (R533 step 7, R578, R584): by now the choices and the cut-off of the slot have been carried out, so that every
transport block has its CRC; SRS.indication is pushed. -/
def execTbCrcDeadline (carrier : Nat) (s : State) : Host.Outcome State Fault Refusal :=
  whilePowered s fun s =>
    let s := if radUp s then ldpcCutoff (guardChoices s carrier) carrier else s
    timelineInd s carrier 0x88 (122880 + slotTicks (radioBody s) carrier) []

/-- Smallest pool whose crate holds a payload. -/
def poolFor (n : Nat) : Nat := if n ≤ 256 then 0 else if n ≤ 2048 then 1 else if n ≤ 16384 then 2 else 3

/-- The payload of a transport block in a crate given to L2_CTX: its handle and length, null and 0 without one (R544, R545,
R573). -/
def rxCrate (s : State) (a : Alloc) : State × Nat × Nat :=
  if a.crc ≠ some true then (s, 0, 0)
  else
    let (s, h) := allocCrate s (poolFor a.payload.length) 0x94
    if h = 0 then (s, 0, 0)
    else
      let s := radioPut s (crateAddr s h) a.payload
      (unitGive s radioRq h (field (carrierBlock (radioBody s) a.carrier) 9 1), h, a.payload.length)

/-- Step 8 of the slot timeline: CRC.indication, RX_Data.indication and UCI.indication for PUSCH (R533). -/
def crcIndication (s : State) (c : Nat) : State :=
  let ago : Int := 126976 + slotTicks (radioBody s) c
  let due := s.rad.allocs.filter fun a => a.carrier == c && !a.reported && a.crc.isSome &&
    decide (a.slotEnd + 126976 ≤ (s.now : Int))
  let s := timelineInd s c 0x86 ago (due.flatMap fun a => [a.tag, b2n (a.crc == some true)])
  let (s, rx) := due.foldl (fun (acc : State × List Nat) a =>
    let (s, h, n) := rxCrate acc.1 a
    (s, acc.2 ++ [a.tag, h, n])) (s, [])
  let s := timelineInd s c 0x85 ago rx
  let s := timelineInd s c 0x87 ago []
  due.foldl (fun (s : State) a =>
    match allocOf s a.id with
    | some x => retireAlloc (setAlloc s { x with reported := true }) a.id
    | none => s) s

/-- CRC_INDICATION (R533 step 8, R544, R545, R573): 126,976 ticks after the slot's end. -/
def execCrcIndication (carrier : Nat) (s : State) : Host.Outcome State Fault Refusal :=
  whilePowered s fun s =>
    if radUp s && fapiOn s carrier && s.flag Reg.RAD_STAT.RELEASED &&
        ((s.now : Int) - 126976 - frameOfs (radioBody s)) % slotTicks (radioBody s) carrier == 0 then
      crcIndication s carrier
    else s

/-- Fields that RAD_LDPC_COMMIT applies (R579). -/
def ldpcFields : List Fld := Reg.RAD_LDPC_CFG.MAX_ITER :: (List.range 16).map Reg.RAD_LDPC_SCALE.ENTRIES

/-- RAD_LDPC_COMMIT (R579). -/
def execRadLdpcCommit (rq : Requester) (data : Nat) (s : State) : Host.Outcome State Fault Refusal :=
  whilePowered s fun s =>
    atRegister s rq 0xF03001204 true data fun s => (if bit data 0 then s.commitAll ldpcFields else s).answer 0

/-- A write to RAD_LR_CLEAR. -/
def clearGateCounters (s : State) : State :=
  (List.range 2).foldl (fun s c => (List.range 11).foldl (fun (s : State) i => s.wr (Reg.RAD_LR_CNT.COUNT c i) 0) s) s

/-- A HARQ address and count that R582 allows. -/
def harqOk (base n : Nat) : Bool := base % 4194304 == 0 && decide (base + 4194304 * min 64 n ≤ 0x7C0000000)

/-- A write to RAD_HARQ_BASE or RAD_HARQ_CFG: 0 LO, 1 HI, 2 CFG (R582). -/
def writeHarq (s : State) (rq : Requester) (which data : Nat) : State :=
  let lo := if which = 0 then data else s.rd Reg.RAD_HARQ_BASE_LO.ADDR
  let hi := if which = 1 then data else s.rd Reg.RAD_HARQ_BASE_HI.ADDR
  let n := if which = 2 then data % 128 else s.rd Reg.RAD_HARQ_CFG.BUFS
  if s.flag Reg.RAD_STAT.RELEASED || !harqOk (lo % 2 ^ 32 + 2 ^ 32 * (hi % 2 ^ 32)) n then
    (s.logEvent 213 0x1808 (0xF03001280 + 4 * which) data rq.ni).answer 0
  else (s.wr (if which = 0 then Reg.RAD_HARQ_BASE_LO.ADDR else if which = 1 then Reg.RAD_HARQ_BASE_HI.ADDR
    else Reg.RAD_HARQ_CFG.BUFS) data).answer 0

end Sys2Proof.Machine
end

