-- ==== Sys2Proof/Machine/VisionFrame.lean ====
section
/-! DEFINITION. The compositor's picture arithmetic (chapter 13): the channel descriptor and its check (R600), scaling
(R601-R605), blending and colour key (R606-R609), the shadow composition (R610, R611), and the output formats (R617-R619). -/

namespace Sys2Proof.Machine

/-- The requester of the vision islands: NI 41 of the decoders, NI 42 of the compositor, QCLASS 2 (R591). -/
def visDecoder : Requester := ⟨41, 2⟩
def visCompositor : Requester := ⟨42, 2⟩

/-- Bytes of a row padded to whole lines (R592, R617). -/
def padRow (n : Nat) : Nat := (n + 63) / 64 * 64

/-! The channel descriptor (R600). -/

def dOutW (d : List Byte) : Nat := field d 0 2
def dOutH (d : List Byte) : Nat := field d 2 2
def dFmt (d : List Byte) : Nat := field d 4 1
def dElem (d : List Byte) : Nat := field d 5 1
def dChans (d : List Byte) : Nat := field d 6 1
def dOrder (d : List Byte) : Nat := field d 7 1
def dMode (d : List Byte) : Nat := field d 21 1
/-- Video layer `i`. -/
def dVideo (d : List Byte) (i : Nat) : List Byte := slice d (128 + 64 * i) 64
/-- Mask layer `i`. -/
def dMask (d : List Byte) (i : Nat) : List Byte := slice d (384 + 48 * i) 48
/-- Region `r`. -/
def dRegion (d : List Byte) (r : Nat) : List Byte := slice d (576 + 16 * r) 16
/-- Channels of an element row: C (R617). -/
def dC (d : List Byte) : Nat := if dChans d = 2 then 1 else 3
/-- Bytes of an element: e (R617). -/
def dE (d : List Byte) : Nat := if dElem d = 2 then 1 else 2

/-- Row bytes (R617). -/
def outRow (d : List Byte) : Nat :=
  padRow (if dFmt d = 0 then dOutW d else if dFmt d = 1 then dOutW d * dC d * dE d else dOutW d * dE d)

/-- Rows (R617). -/
def outRows (d : List Byte) : Nat :=
  if dFmt d = 0 then dOutH d * 3 / 2 else if dFmt d = 1 then dOutH d else dC d * dOutH d

/-- Output bytes (R617). -/
def outBytes (d : List Byte) : Nat := outRow d * outRows d

/-- Rows in one data crate, and data crates (R620). -/
def crateRows (d : List Byte) : Nat := 131072 / max 1 (outRow d)
def cratesNeeded (d : List Byte) : Nat := (outRows d + crateRows d - 1) / max 1 (crateRows d)

/-- Bytes [lo, hi) hold 0, each with its offset. -/
def zeroChecks (d : List Byte) (lo hi : Nat) : List (Nat × Bool) :=
  (slice d lo (hi - lo)).zipIdx.map fun x => (lo + x.2, x.1 == 0)

/-- The rectangle in four 2-byte fields at `o` lies within w × h. -/
def rectIn (d : List Byte) (o w h : Nat) : Bool :=
  decide (field d o 2 + field d (o + 4) 2 ≤ w) && decide (field d (o + 2) 2 + field d (o + 6) 2 ≤ h)

/-- The step of an axis (R603). -/
def scaleStep (src dst : Nat) : Nat := src * 65536 / dst

/-- The checks of a video layer at `o`, against the frame's size. -/
def videoChecks (d : List Byte) (o w h : Nat) : List (Nat × Bool) :=
  let en := field d o 1
  let stepOk (k : Nat) : Bool :=
    en == 0 || (field d (o + 20 + k) 2 != 0 &&
      decide (8192 ≤ scaleStep (field d (o + 12 + k) 2) (field d (o + 20 + k) 2)) &&
      decide (scaleStep (field d (o + 12 + k) 2) (field d (o + 20 + k) 2) ≤ 524288))
  [(o, decide (en ≤ 1)), (o + 1, decide (field d (o + 1) 1 ≤ 1)), (o + 2, decide (field d (o + 2) 1 ≤ 3)),
   (o + 3, decide (field d (o + 3) 1 ≤ 3)), (o + 5, decide (field d (o + 5) 1 ≤ 1))] ++ zeroChecks d (o + 6) (o + 8) ++
  [(o + 8, rectIn d (o + 8) w h && (List.range 4).all fun k => field d (o + 8 + 2 * k) 2 % 2 == 0),
   (o + 16, rectIn d (o + 16) (dOutW d) (dOutH d)), (o + 20, stepOk 0), (o + 22, stepOk 2),
   (o + 24, decide (field d (o + 24) 4 < 2 ^ 30)), (o + 28, decide (field d (o + 28) 4 < 2 ^ 30))] ++
  zeroChecks d (o + 32) (o + 64)

/-- The checks of a mask layer at `o`. -/
def maskChecks (d : List Byte) (o : Nat) : List (Nat × Bool) :=
  let mf := field d (o + 1) 1
  [(o, decide (field d o 1 ≤ 1)), (o + 1, decide (mf ≤ 1)),
   (o + 3, field d (o + 3) 1 == 0 || (field d (o + 3) 1 == 1 && mf == 1)),
   (o + 4, rectIn d (o + 4) (dOutW d) (dOutH d)),
   (o + 12, field d (o + 12) 4 % 64 == 0 &&
     decide (field d (o + 8) 2 * (if mf = 1 then 4 else 1) ≤ field d (o + 12) 4)),
   (o + 16, field d (o + 16) 8 % 64 == 0), (o + 24, decide (field d (o + 24) 4 < 2 ^ 30)),
   (o + 28, decide (field d (o + 28) 4 < 2 ^ 24)), (o + 32, decide (field d (o + 32) 4 < 2 ^ 24))] ++
  zeroChecks d (o + 36) (o + 48)

/-- The checks of a region at `o`. -/
def regionChecks (d : List Byte) (o : Nat) : List (Nat × Bool) :=
  let m := field d (o + 8) 1
  [(o, rectIn d o (dOutW d) (dOutH d) &&
     (dFmt d != 0 || (List.range 4).all fun k => field d (o + 2 * k) 2 % 2 == 0)),
   (o + 8, decide (m ≤ 2))] ++ zeroChecks d (o + 9) (o + 12) ++ [(o + 12, m == 2 || field d (o + 12) 4 == 0)]

/-- The layer of a code 0-7 is enabled. -/
def layerOn (d : List Byte) (c : Nat) : Bool := field (if c < 4 then dVideo d c else dMask d (c - 4)) 0 1 == 1

/-- The checks of the fields of a descriptor, in the order of their offsets, for a frame of w × h and a frame range. -/
def descChecks (d : List Byte) (w h frameAt frameLen : Nat) : List (Nat × Bool) :=
  let fmt := dFmt d
  let even (n : Nat) : Bool := fmt != 0 || n % 2 == 0
  let code (i : Nat) : Nat := field d (8 + i) 1
  let codeOk (i : Nat) : Bool :=
    (decide (code i < 8) || code i == 0xFF) &&
      (dOrder d == 0 || code i == 0xFF ||
        (layerOn d (code i) && (List.range i).all fun j => code j != code i))
  let bufOk (o : Nat) : Bool :=
    dMode d == 0 || (field d o 8 % 64 == 0 && !overlap (field d o 8) (outBytes d) frameAt frameLen)
  [(0, decide (16 ≤ dOutW d) && decide (dOutW d ≤ 4096) && even (dOutW d)),
   (2, decide (16 ≤ dOutH d) && decide (dOutH d ≤ 2304) && even (dOutH d)),
   (4, decide (fmt ≤ 2)), (5, if fmt = 0 then dElem d == 0 else [2, 6, 7].contains (dElem d)),
   (6, decide (dChans d ≤ if fmt = 0 then 0 else 2)), (7, decide (dOrder d ≤ 1))] ++
  ((List.range 8).map fun i => (8 + i, codeOk i)) ++
  [(16, decide (field d 16 4 < 2 ^ 30)), (20, decide (field d 20 1 ≤ 16)), (21, decide (dMode d ≤ 1)),
   (22, field d 22 1 == 0 || (field d 22 1 == 1 && dMode d == 1)), (23, field d 23 1 == 0), (24, bufOk 24), (32, bufOk 32)] ++
  zeroChecks d 72 128 ++
  ((List.range 4).flatMap fun i => videoChecks d (128 + 64 * i) w h) ++
  ((List.range 4).flatMap fun i => maskChecks d (384 + 48 * i)) ++
  ((List.range 16).flatMap fun r => regionChecks d (576 + 16 * r)) ++ zeroChecks d 832 1024

/-- Offset of the first fault of a descriptor. -/
def descFault (d : List Byte) (w h frameAt frameLen : Nat) : Option Nat :=
  ((descChecks d w h frameAt frameLen).find? fun c => !c.2).map (·.1)

/-! Pixels: Y, Cb and Cr of 10 bits. -/

/-- A pixel of the compositor. -/
structure Pix where
  y : Nat
  cb : Nat
  cr : Nat
  deriving DecidableEq, Repr

/-- A colour packed as BG. -/
def pixOf (v : Nat) : Pix := ⟨bits v 0 10, bits v 10 10, bits v 20 10⟩

/-- An 8-bit sample widened. -/
def widen (v : Nat) : Nat := (v * 4) ||| (v / 64)

/-- Saturation to 0-1023. -/
def sat10 (i : Int) : Nat := (clampI 0 1023 i).toNat

/-- A frame as the compositor reads it: its size, and its samples by position. -/
structure Frame where
  w : Nat
  h : Nat
  luma : Nat → Nat → Nat
  cb : Nat → Nat → Nat
  cr : Nat → Nat → Nat

/-- The frame held in slot bytes: NV12, or P010 with samples in bits [15:6] (R592, "Layers and scaling"). -/
def frameOfBytes (w h : Nat) (ten : Bool) (read : Nat → Byte) : Frame :=
  let b := if ten then 2 else 1
  let row := padRow (w * b)
  let at_ (o : Nat) : Nat :=
    if ten then ((read o).toNat + 256 * (read (o + 1)).toNat) / 64 else widen (read o).toNat
  { w := w, h := h, luma := fun x y => at_ (y * row + x * b),
    cb := fun x y => at_ ((h + y) * row + 2 * x * b), cr := fun x y => at_ ((h + y) * row + (2 * x + 1) * b) }

/-- Source position of output position x on an axis: index and fraction (R603). -/
def scalePos (src dst x : Nat) : Int × Nat :=
  let st := scaleStep src dst
  let pos : Int := (x * st + st / 2 : Nat) - 32768
  (pos / 65536, (pos % 65536).toNat)

/-- The source sample at an index, the nearest edge sample outside the source (R603). -/
def edge (n : Nat) (get : Nat → Nat) (i : Int) : Int := (get (clampI 0 ((n : Int) - 1) i).toNat : Nat)

/-- One axis of a scaler (R604); taps by phase and tap. -/
def scaleAxis (bilinear : Bool) (tap : Nat → Nat → Int) (src dst : Nat) (get : Nat → Nat) (x : Nat) : Nat :=
  let (i, f) := scalePos src dst x
  let e := edge src get
  if bilinear then
    let w : Int := (f / 256 : Nat)
    sat10 ((e i * (256 - w) + e (i + 1) * w + 128) / 256)
  else
    let sum := ((List.range 8).map fun k => tap (f / 1024) k * e (i - 3 + k)).sum
    sat10 ((sum + 2048) / 4096)

/-- A plane cropped from (sx, sy) and scaled from sw × sh to dw × dh: horizontal first (R601). -/
def scalePlane (bilinear : Bool) (hTap vTap : Nat → Nat → Int) (sx sy sw sh dw dh : Nat) (get : Nat → Nat → Nat)
    (x y : Nat) : Nat :=
  scaleAxis bilinear vTap sh dh (fun r => scaleAxis bilinear hTap sw dw (fun c => get (sx + c) (sy + r)) x) y

/-- A coefficient tap of a set, phase and tap: R605 gives its value at reset. -/
def tapOf (coef : Tbl Nat) (set : Nat) (p k : Nat) : Int :=
  sInt (Tbl.get coef (512 * set + 8 * p + k) (if k = 3 then 4096 else 0)) 16

/-- The scaled pixel of a video layer at a position of its destination. -/
def videoPix (coef : Tbl Nat) (f : Frame) (l : List Byte) (x y : Nat) : Pix :=
  let bil := field l 1 1 == 1
  let sx := field l 8 2
  let sy := field l 10 2
  let sw := field l 12 2
  let sh := field l 14 2
  let dw := field l 20 2
  let dh := field l 22 2
  let h := tapOf coef (field l 2 1)
  let v := tapOf coef (field l 3 1)
  ⟨scalePlane bil h v sx sy sw sh dw dh f.luma x y,
   scalePlane bil h v (sx / 2) (sy / 2) (sw / 2) (sh / 2) dw dh f.cb x y,
   scalePlane bil h v (sx / 2) (sy / 2) (sw / 2) (sh / 2) dw dh f.cr x y⟩

/-- Each component lies within its range. -/
def keyed (p lo hi : Pix) : Bool :=
  decide (lo.y ≤ p.y) && decide (p.y ≤ hi.y) && decide (lo.cb ≤ p.cb) && decide (p.cb ≤ hi.cb) && decide (lo.cr ≤ p.cr) &&
    decide (p.cr ≤ hi.cr)

/-- A key of 8-bit components. -/
def key8 (v : Nat) : Pix := ⟨bits v 0 8, bits v 8 8, bits v 16 8⟩

/-- a + (a >> 7). -/
def alpha9 (a : Nat) : Nat := a + a / 128

/-- One layer drawn over a pixel with layer alpha a (R607). -/
def blend (src dst : Pix) (a : Nat) : Pix :=
  let c (s d : Nat) : Nat := (s * alpha9 a + d * (256 - alpha9 a) + 128) / 256
  ⟨c src.y dst.y, c src.cb dst.cb, c src.cr dst.cr⟩

/-- A video layer drawn at an output position (R607-R609). -/
def drawVideo (coef : Tbl Nat) (f : Frame) (l : List Byte) (x y : Nat) (dst : Pix) : Pix :=
  let dx := field l 16 2
  let dy := field l 18 2
  if dx ≤ x ∧ x < dx + field l 20 2 ∧ dy ≤ y ∧ y < dy + field l 22 2 then
    let p := videoPix coef f l (x - dx) (y - dy)
    let a := if field l 5 1 = 1 ∧ keyed p (pixOf (field l 24 4)) (pixOf (field l 28 4)) then 0 else field l 4 1
    blend p dst a
  else dst

/-- A mask layer drawn at an output position from the bytes of its buffer (R602, R607-R609). -/
def drawMask (l : List Byte) (buf : List Byte) (x y : Nat) (dst : Pix) : Pix :=
  let mx := field l 4 2
  let my := field l 6 2
  if mx ≤ x ∧ x < mx + field l 8 2 ∧ my ≤ y ∧ y < my + field l 10 2 then
    let o := (y - my) * field l 12 4
    let alpha (m : Nat) : Nat := m * alpha9 (field l 2 1) / 256
    if field l 1 1 = 0 then blend (pixOf (field l 24 4)) dst (alpha (field buf (o + (x - mx)) 1))
    else
      let q := slice buf (o + 4 * (x - mx)) 4
      let c : Pix := ⟨field q 1 1, field q 2 1, field q 3 1⟩
      let a := if field l 3 1 = 1 ∧ keyed c (key8 (field l 28 4)) (key8 (field l 32 4)) then 0 else alpha (field q 0 1)
      blend ⟨widen c.y, widen c.cb, widen c.cr⟩ dst a
  else dst

/-- The layers drawn, bottom first (R606). -/
def drawOrder (d : List Byte) : List Nat :=
  (if dOrder d = 0 then List.range 8 else (List.range 8).map fun i => field d (8 + i) 1).filter fun c =>
    decide (c < 8) && layerOn d c

/-- A composed output pixel; the shadow draws only the mask layers (R607, "The mask-signature proof"). -/
def composePix (coef : Tbl Nat) (f : Frame) (d : List Byte) (masks : List (List Byte)) (shadow : Bool) (x y : Nat) : Pix :=
  (drawOrder d).foldl (fun p c =>
    if c < 4 then (if shadow then p else drawVideo coef f (dVideo d c) x y p)
    else drawMask (dMask d (c - 4)) (masks.getD (c - 4) []) x y p) (pixOf (field d 16 4))

/-! Output values (R617-R619). -/

/-- The colour matrix and offsets, VIS_CSC0-8 and VIS_CSC_OFS. -/
structure Csc where
  k : List Int
  ofs : Pix

/-- R, G or B of a pixel: row `r` of the matrix (R618). -/
def cscRow (m : Csc) (r : Nat) (p : Pix) : Nat :=
  let k (j : Nat) : Int := m.k.getD (3 * r + j) 0
  sat10 ((k 0 * ((p.y : Int) - m.ofs.y) + k 1 * ((p.cb : Int) - m.ofs.cb) + k 2 * ((p.cr : Int) - m.ofs.cr) + 8192) / 16384)

/-- The value of channel `c` of a pixel before scaling. -/
def chanValue (m : Csc) (d : List Byte) (c : Nat) (p : Pix) : Nat :=
  if dChans d = 2 then p.y else cscRow m (if dChans d = 1 then 2 - c else c) p

/-- The element of channel `c`: scale and bias in FP32, then ELEM (R618). -/
def elemBytes (m : Csc) (d : List Byte) (c : Nat) (p : Pix) : List Byte :=
  let v := ((ofI (chanValue m d c p)).mul (f32 (field d (48 + 4 * c) 4))).round
  let v := (v.add (f32 (field d (60 + 4 * c) 4))).round
  leBytes (dE d) (narrow (dElem d) v).1

/-- Reduction of a 10-bit value to 8 bits (R619). -/
def to8 (v : Nat) : Nat := min ((v + 2) / 4) 255

/-- The mean of four chroma samples (R619). -/
def mean4 (a b c d : Nat) : Nat := (a + b + c + d + 2) / 4

/-- Y byte of an NV12 output. -/
def nvY (img : Nat → Nat → Pix) (x y : Nat) : Byte := BitVec.ofNat 8 (to8 (img x y).y)

/-- Cb and Cr bytes of the 2 × 2 block at chroma position (x, y). -/
def nvC (img : Nat → Nat → Pix) (x y : Nat) : List Byte :=
  let a := img (2 * x) (2 * y)
  let b := img (2 * x + 1) (2 * y)
  let c := img (2 * x) (2 * y + 1)
  let d := img (2 * x + 1) (2 * y + 1)
  [BitVec.ofNat 8 (to8 (mean4 a.cb b.cb c.cb d.cb)), BitVec.ofNat 8 (to8 (mean4 a.cr b.cr c.cr d.cr))]

/-- The bytes of a rectangle of an output in the order of a signature (R610). -/
def rectBytes (m : Csc) (d : List Byte) (img : Nat → Nat → Pix) (x0 y0 w h : Nat) : List Byte :=
  if dFmt d = 0 then
    ((List.range h).flatMap fun y => (List.range w).map fun x => nvY img (x0 + x) (y0 + y)) ++
      ((List.range (h / 2)).flatMap fun y => (List.range (w / 2)).flatMap fun x => nvC img (x0 / 2 + x) (y0 / 2 + y))
  else
    (List.range h).flatMap fun y => (List.range w).flatMap fun x =>
      (List.range (dC d)).flatMap fun c => elemBytes m d c (img (x0 + x) (y0 + y))

/-- One row of an output, padded with zeros (R617). -/
def outputRow (m : Csc) (d : List Byte) (img : Nat → Nat → Pix) (r : Nat) : List Byte :=
  let w := dOutW d
  let h := dOutH d
  let bs :=
    if dFmt d = 0 then
      if r < h then (List.range w).map fun x => nvY img x r
      else (List.range (w / 2)).flatMap fun x => nvC img x (r - h)
    else if dFmt d = 1 then
      (List.range w).flatMap fun x => (List.range (dC d)).flatMap fun c => elemBytes m d c (img x r)
    else (List.range w).flatMap fun x => elemBytes m d (r / h) (img x (r % h))
  slice bs 0 (outRow d)

/-- The output bytes (R617). -/
def outputBytes (m : Csc) (d : List Byte) (img : Nat → Nat → Pix) : List Byte :=
  (List.range (outRows d)).flatMap (outputRow m d img)

/-! Tiles (R615, R616). -/

/-- Tiles in a row of tiles, and tiles. -/
def tileCols (d : List Byte) : Nat := (dOutW d + 63) / 64
def tileCount (d : List Byte) : Nat := tileCols d * ((dOutH d + 63) / 64)

/-- Rectangle of a tile, cut to the output. -/
def tileRect (d : List Byte) (t : Nat) : Nat × Nat × Nat × Nat :=
  let x := 64 * (t % max 1 (tileCols d))
  let y := 64 * (t / max 1 (tileCols d))
  (x, y, min 64 (dOutW d - x), min 64 (dOutH d - y))

/-- Byte runs of a tile in the output: offset and length; the last tile of a row takes the row's padding. -/
def tileRuns (d : List Byte) (t : Nat) : List (Nat × Nat) :=
  let (x, y, w, h) := tileRect d t
  let row := outRow d
  let last := x + w == dOutW d
  let run (r b : Nat) : Nat × Nat := (r * row + x * b, if last then row - x * b else w * b)
  if dFmt d = 0 then
    ((List.range h).map fun i => run (y + i) 1) ++ ((List.range (h / 2)).map fun i => run (dOutH d + y / 2 + i) 1)
  else if dFmt d = 1 then (List.range h).map fun i => run (y + i) (dC d * dE d)
  else (List.range (dC d)).flatMap fun c => (List.range h).map fun i => run (c * dOutH d + y + i) (dE d)

end Sys2Proof.Machine
end

