-- ==== Sys2Proof/Machine/Vision.lean ====
section
/-! DEFINITION. Vision ingest and the privacy compositor (chapter 13): decode streams, composition jobs, the proof, release
and completion, and the writes to the VIS registers that have a behaviour of their own. -/

namespace Sys2Proof.Machine

/-- The vision domain answers in the Full tier. -/
def visUp (s : State) : Bool := decide (3 ≤ s.tier) && s.domUp 22

/-- Vision is enabled. -/
def visOn (s : State) : Bool := visUp s && s.flag Reg.VIS_CTRL.EN

/-- A refused VIS configuration write (R589, R624). -/
def visRefused (s : State) (addr data : Nat) (rq : Requester) : State := (s.logEvent 230 0x1C05 addr data rq.ni).answer 0

/-- A decode stream. -/
def State.stream (s : State) (m : Nat) : VisStream := Tbl.get s.vis.streams m {}

/-- A decode stream replaced; pictures that nothing holds any longer leave their slots (R593). -/
def State.setStream (s : State) (m : Nat) (v : VisStream) : State :=
  let v := { v with pics := v.pics.filter fun p => p.ref || p.wait || p.jobs != 0 }
  { s with vis := { s.vis with streams := Tbl.put s.vis.streams m v {} } }

/-- The picture in a slot of a stream changed. -/
def State.onPic (s : State) (m slot : Nat) (k : VisPic → VisPic) : State :=
  let v := s.stream m
  s.setStream m { v with pics := v.pics.map fun p => if p.slot = slot then k p else p }

/-- VIS_STRm_SLOT_BASE and the bytes of a slot (R592). -/
def slotBase (s : State) (m : Nat) : Nat := s.rdPair (Reg.VIS_STR_SLOT_BASE_LO.ADDR m) (Reg.VIS_STR_SLOT_BASE_HI.ADDR m)
def slotSize (s : State) (m : Nat) : Nat := 4096 * s.rd (Reg.VIS_STR_SLOT.PAGES m)

/-- Bytes of a frame (R592). -/
def frameBytes (w h : Nat) (ten : Bool) : Nat := padRow (if ten then 2 * w else w) * (h + (h + 1) / 2)

/-- The sizes of R586. -/
def sizeOk (w h : Nat) : Bool :=
  decide (0 < w) && decide (w ≤ 4096) && decide (0 < h) && decide (h ≤ 2304) && decide (w * h ≤ 8912896)

/-- Luma samples per second of a stream's configuration (R588). -/
def streamLoad (s : State) (m : Nat) : Nat :=
  s.rd (Reg.VIS_STR_SIZE.MAX_W m) * s.rd (Reg.VIS_STR_SIZE.MAX_H m) * s.rd (Reg.VIS_STR_CFG.MAX_FPS m)

/-- The conditions under which a stream is enabled, with the codec that the write carries (R589). -/
def streamOkToEnable (s : State) (m codec : Nat) : Bool :=
  let fps := s.rd (Reg.VIS_STR_CFG.MAX_FPS m)
  let w := s.rd (Reg.VIS_STR_SIZE.MAX_W m)
  let h := s.rd (Reg.VIS_STR_SIZE.MAX_H m)
  let n := s.rd (Reg.VIS_STR_SLOT.COUNT m)
  let others := (List.range 16).filter fun i =>
    16 * (m / 16) + i != m && s.flag (Reg.VIS_STR_CFG.EN (16 * (m / 16) + i))
  (codec == 1 || codec == 2) && sizeOk w h && fps != 0 &&
    decide (w * h * fps + (others.map fun i => streamLoad s (16 * (m / 16) + i)).sum ≤ 248832000) &&
    decide (s.cfg.map.frameBase ≤ slotBase s m) &&
    decide (slotBase s m + n * slotSize s m ≤ s.cfg.map.frameBase + s.cfg.map.frameSize) &&
    decide (4 ≤ n) && decide (n ≤ 20) && decide (frameBytes w h false ≤ slotSize s m)

/-- A stream starts when EN becomes 1, and ends when it becomes 0, where frames that jobs hold stay (R589, R593, R594). -/
def streamSwitched (s : State) (m : Nat) (on : Bool) : State :=
  if on then ((s.setStream m { pics := (s.stream m).pics }).wr (Reg.VIS_STR_STAT.STATE m) 1).wr (Reg.VIS_STR_STAT.REASON m) 0
  else (s.setStream m { pics := (s.stream m).pics.map fun p => { p with ref := false, wait := false } }).wr
    (Reg.VIS_STR_STAT.STATE m) 0

/-- A write to VIS_STRm_CFG (R589): a reserved CODEC is refused of its own (00 R18), and where EN is refused the other fields take their
written values (00 R19). -/
def writeStreamCfg (s : State) (rq : Requester) (m data : Nat) : State :=
  let addr := 0xF03801000 + 0x40 * m
  let was := s.flag (Reg.VIS_STR_CFG.EN m)
  let fs := [Reg.VIS_STR_CFG.CODEC m, Reg.VIS_STR_CFG.INQ m, Reg.VIS_STR_CFG.MAX_FPS m]
  if was then
    let s := noteRefused s rq addr data fs
    let s := if fs.any fun f => f.of data != s.rd f then visRefused s addr data rq else s
    if bit data 0 then s.answer 0 else (streamSwitched (s.wr (Reg.VIS_STR_CFG.EN m) 0) m false).answer 0
  else
    let s := writeFields s rq addr data fs
    if !bit data 0 then s.answer 0
    else if streamOkToEnable s m (bits data 1 2) then (streamSwitched (s.wr (Reg.VIS_STR_CFG.EN m) 1) m true).answer 0
    else visRefused s addr data rq

/-- A write to VIS_STRm_SIZE or VIS_STRm_SLOT, refused where it changes a field while the stream is enabled (R589). -/
def writeStreamSetup (s : State) (rq : Requester) (m addr data : Nat) (fs : List Fld) : State :=
  if s.flag (Reg.VIS_STR_CFG.EN m) ∧ fs.any (fun f => f.of data != s.rd f) then visRefused s addr data rq
  else (writeFields s rq addr data fs).answer 0

/-- A write to VIS_CTRL (R624). -/
def writeVisCtrl (s : State) (rq : Requester) (data : Nat) : State :=
  if bit data 0 ∧ s.cfg.visionBody.isNone then visRefused s 0xF03800000 data rq
  else (s.wr Reg.VIS_CTRL.EN (data % 2)).answer 0

/-! Access units (R590-R595). -/

/-- A packet of an input queue: the crates with their byte counts and the presentation time, where its layout holds
(R590). -/
def parseAu (s : State) (ws : List (List Byte)) : Option (List (Nat × Nat) × Nat) :=
  let crates := ws.dropLast.map fun w => (field w 0 4, field w 4 4)
  let ok (c : Nat × Nat) : Bool :=
    let k := s.crate (bits c.1 30 2) (bits c.1 0 20)
    decide (bits c.1 0 20 < poolCount s (bits c.1 30 2)) && k.alloc && k.gen == bits c.1 20 10 && decide (1 ≤ c.2) &&
      decide (c.2 ≤ crateSize (bits c.1 30 2))
  if 2 ≤ ws.length ∧ ws.length ≤ 17 ∧ crates.all ok then some (crates, leNat (ws.getLastD [])) else none

/-- The handle passes checks 1 and 2 of 06 R279. -/
def validHandle (s : State) (h : Nat) : Bool :=
  let k := s.crate (bits h 30 2) (bits h 0 20)
  decide (bits h 0 20 < poolCount s (bits h 30 2)) && k.alloc && k.gen == bits h 20 10

/-- The decoder frees the valid crates of a packet as context 0xA6 (R590, R591). -/
def freeAuCrates (s : State) (ws : List (List Byte)) : State :=
  (ws.dropLast.map fun w => field w 0 4).foldl (fun s h => if validHandle s h then unitFree s visDecoder h else s) s

/-- The lowest free slot of a stream. -/
def freeSlot (s : State) (m : Nat) : Option Nat :=
  (List.range (s.rd (Reg.VIS_STR_SLOT.COUNT m))).find? fun i => (s.stream m).pics.all fun p => p.slot != i

/-- The stream can take an access unit: it runs, its queue holds a whole packet, and a slot is free (R591, R593). -/
def canDecode (s : State) (m : Nat) : Bool :=
  let q := s.rd (Reg.VIS_STR_CFG.INQ m)
  s.rd (Reg.VIS_STR_STAT.STATE m) == 1 && (s.q q).marks.contains true &&
    (freeSlot s m).isSome

/-- The next stream of a decoder in round-robin order after the one served last. -/
def nextStream (s : State) (dec : Nat) : Option Nat :=
  let last := Tbl.get s.vis.served dec 15
  ((List.range 16).map fun i => 16 * dec + (last + 1 + i) % 16).find? (canDecode s)

/-- A stream stops (R594). -/
def stopStream (s : State) (m reason : Nat) : State :=
  let s := (s.wr (Reg.VIS_STR_STAT.STATE m) 2).wr (Reg.VIS_STR_STAT.REASON m) reason
  s.logEvent (228 + m / 16) 0x1C01 m reason (s.rd (Reg.VIS_STR_FRAMES.COUNT m))

/-- A picture is concealed (R595). -/
def noteConcealed (s : State) (m pts : Nat) : State :=
  let s := s.bump (Reg.VIS_STR_CONCEALED.COUNT m) 1
  s.logLimited m (228 + m / 16) 0x1C02 m (s.rd (Reg.VIS_STR_CONCEALED.COUNT m)) pts

/-- Bytes that a vision island reads; what a bus error or poisoned data leaves it with is a free value (log entry 100). -/
def visGet (s : State) (rq : Requester) (a n : Nat) : State × List Byte :=
  match s.busRead rq a n with
  | (s, some (bs, false)) => (s, bs)
  | (s, _) => (s.useFresh, leBytes n (Config.freeValue s.fresh))

/-- Rows of `n` bytes stored by a decoder `row` bytes apart. -/
def storeRows (s : State) (at_ n row : Nat) (data : List Byte) : Nat → State
  | 0 => s
  | k + 1 => storeRows (s.busWrite visDecoder at_ (slice data 0 n)).1 (at_ + row) n row (data.drop n) k

/-- REASON of R594 for what the sequence parameters name, 0 for none; a 10-bit picture larger than its slot counts as a
size. -/
def stopReason (s : State) (m : Nat) (p : VisDecode) : Nat :=
  if p.tool then 1
  else if s.rd (Reg.VIS_STR_SIZE.MAX_W m) < p.w ∨ s.rd (Reg.VIS_STR_SIZE.MAX_H m) < p.h ∨
      slotSize s m < frameBytes p.w p.h p.ten then 2
  else if s.rd (Reg.VIS_STR_SLOT.COUNT m) < p.dpb + 2 then 3
  else 0

/-- One access unit decoded into a slot. -/
def decodeAu (s : State) (m slot pts : Nat) (bad : Bool) (p : VisDecode) : State :=
  let b := if p.ten then 2 * p.w else p.w
  let s := if bad then noteConcealed s m pts
    else storeRows s (slotBase s m + slot * slotSize s m) b (padRow b) p.data (p.h + (p.h + 1) / 2)
  let v := s.stream m
  let old := v.pics.map fun q => { q with ref := p.refs.contains q.slot }
  s.setStream m { v with pics := old ++ [(⟨slot, pts, p.w, p.h, p.ten, bad, p.ref, p.shown || bad, 0⟩ : VisPic)] }

/-- A decoder takes the access unit of its next stream (R590-R595). -/
def takeAu (s : State) (dec : Nat) (p : VisDecode) : State :=
  match nextStream s dec with
  | none => s
  | some m =>
    let q := s.rd (Reg.VIS_STR_CFG.INQ m)
    let slot := (freeSlot s m).getD 0
    let (s, ws) := popPacket s q
    let s := { s with vis := { s.vis with served := Tbl.put s.vis.served dec (m % 16) 15 } }
    let au := parseAu s ws
    let s := freeAuCrates s ws
    match au with
    | none => decodeAu s m slot (leNat (ws.getLastD [])) true p
    | some (_, pts) =>
      let r := stopReason s m p
      if r = 0 then decodeAu s m slot pts p.bad p else stopStream s m r

/-- Mid-grey in every sample of a frame (R595). -/
def greyFrame (w h : Nat) (ten : Bool) : List Byte :=
  let n := frameBytes w h ten
  if ten then ((List.range (n / 2)).flatMap fun _ => leBytes 2 (512 * 64)) else List.replicate n 128

/-- The stream outputs the picture of a slot: a concealed one as a copy of the frame output last, or mid-grey; one job is
queued for each enabled channel that names the stream (R595, R596). -/
def outputFrame (s : State) (m slot : Nat) : State :=
  match (s.stream m).pics.find? fun p => p.slot == slot && p.wait with
  | none => s
  | some p =>
    let base := slotBase s m + slot * slotSize s m
    let (w, h, ten, s) :=
      if p.bad then
        match (s.stream m).last with
        | some (w, h, ten, bs) => (w, h, ten, (s.busWrite visDecoder base bs).1)
        | none => (p.w, p.h, p.ten, (s.busWrite visDecoder base (greyFrame p.w p.h p.ten)).1)
      else (p.w, p.h, p.ten, s)
    let s := s.bump (Reg.VIS_STR_FRAMES.COUNT m) 1
    let chans := (List.range 8).filter fun n =>
      s.flag (Reg.VIS_CH_CFG.EN n) && s.rd (Reg.VIS_CH_CFG.STREAM n) == m
    let jobs : List VisJob := chans.map fun n =>
      { ch := n, stream := m, slot := slot, pts := p.pts, frame := s.rd (Reg.VIS_STR_FRAMES.COUNT m) % 65536,
        w := w, h := h, ten := ten }
    let s := { s with vis := { s.vis with jobs := s.vis.jobs ++ jobs } }
    let r := visGet s visDecoder base (frameBytes w h ten)
    let s := r.1
    let v := s.stream m
    let v := { v with last := some (w, h, ten, r.2) }
    (s.setStream m v).onPic m slot fun p => { p with w := w, h := h, ten := ten, wait := false, jobs := p.jobs + jobs.length }

/-! Composition jobs (R597). -/

/-- A job's hold on its slot ends (R593, R597). -/
def dropHold (s : State) (j : VisJob) : State := s.onPic j.stream j.slot fun p => { p with jobs := p.jobs - 1 }

/-- The job at the head leaves the queue. -/
def visEndJob (s : State) (j : VisJob) : State := dropHold { s with vis := { s.vis with jobs := s.vis.jobs.drop 1 } } j

/-- The completion packet of a job and its counter (R623, R625). -/
def completeJob (s : State) (j : VisJob) (status tiles word1 : Nat) : State :=
  let n := j.ch
  let s := if status = 0 then s.bump (Reg.VIS_CH_RELEASED.COUNT n) 1
    else if status ≤ 2 then s.bump (Reg.VIS_CH_WITHHELD.COUNT n) 1
    else s.bump (Reg.VIS_CH_OTHER.COUNT n) 1
  let s := pushPacket s (s.rd (Reg.VIS_CH_CFG.CQ n))
    (leBytes 8 (n + 2 ^ 8 * status + 2 ^ 16 * j.frame + 2 ^ 32 * tiles) ++
      leBytes 8 (word1 % 2 ^ 32 + 2 ^ 32 * (j.pts % 2 ^ 32))) 42
  visEndJob s j

/-- The buffer that the next job of a channel uses in persistent mode (R622). -/
def nextBuf (s : State) (n : Nat) : Nat := Tbl.get s.vis.buf n 0

/-- Word 1 of a job that released nothing: the null handle, or the buffer number in persistent mode. -/
def emptyWord (s : State) (j : VisJob) : Nat := if dMode j.desc = 1 then nextBuf s j.ch else 0

/-- A committed descriptor address takes effect (R599), and every tile-signature entry of the channel is invalid (R616). -/
def takeDesc (s : State) (n : Nat) : State :=
  match Tbl.find s.vis.descNext n with
  | none => s
  | some a =>
    let s := s.wrPair (Reg.VIS_CH_DESC_LO.ADDR n) (Reg.VIS_CH_DESC_HI.ADDR n) a
    { s with vis := { s.vis with
      descNext := Tbl.erase s.vis.descNext n,
      sigValid := Tbl.erase (Tbl.erase s.vis.sigValid (2 * n)) (2 * n + 1) } }

/-- A committed coefficient copy takes effect (R605). -/
def takeCoef (s : State) : State :=
  match s.vis.coefNext with
  | none => s
  | some c => { s with vis := { s.vis with coef := c, coefNext := none } }

/-- A descriptor refused: status 3; the mode that word 1 depends on is open (R597, R600). -/
def refuseDesc (s : State) (j : VisJob) (a off : Nat) : State :=
  let s := s.logEvent 230 0x1C04 j.ch a off
  let w := s.freeVal 32
  completeJob s.useFresh j 3 0 w

/-- A job starts: commits take effect, the descriptor is read whole and checked (R597, R600, R614, R620). -/
def visStartJob (s : State) (j : VisJob) : State :=
  let s := takeDesc (takeCoef s) j.ch
  let a := s.rdPair (Reg.VIS_CH_DESC_LO.ADDR j.ch) (Reg.VIS_CH_DESC_HI.ADDR j.ch)
  let m := s.cfg.map
  let open_ (s : State) : State := refuseDesc s.useFresh j a (s.freeVal 32)
  if a % 64 ≠ 0 ∨ !inMemory a 1024 ∨ overlap a 1024 m.frameBase m.frameSize then open_ s
  else match s.busRead visCompositor a 1024 with
    | (s, none) => open_ s
    | (s, some (_, true)) => open_ s
    | (s, some (d, false)) =>
      match descFault d j.w j.h m.frameBase m.frameSize with
      | some off => refuseDesc s j a off
      | none =>
        if s.rd Reg.VIS_PROOF_SIZE.BYTES < outBytes d ∨ (dMode d = 0 ∧ 60 < cratesNeeded d) then open_ s
        else
          let cycles := ((dOutW d + 1) / 2 + 32) * dOutH d
          let j := { j with phase := 1, desc := d, endAt := s.now + (2 * cycles + 2) / 3 }
          { s with vis := { s.vis with jobs := j :: s.vis.jobs.drop 1 } }

/-- The bytes of a mask buffer as the pass reads them; free values where the read is answered with an error. -/
def readMask (s : State) (l : List Byte) : State × List Byte :=
  let n := field l 12 4 * field l 10 2
  if field l 0 1 = 0 ∨ n = 0 then (s, [])
  else visGet s visCompositor (field l 16 8) n

/-- The mask buffers of a descriptor. -/
def readMasks (s : State) (d : List Byte) : State × List (List Byte) :=
  (List.range 4).foldl (fun (acc : State × List (List Byte)) i =>
    let (s, bs) := readMask acc.1 (dMask d i)
    (s, acc.2 ++ [bs])) (s, [])

/-- The colour matrix in VIS_CSC0-8 and VIS_CSC_OFS. -/
def cscOf (s : State) : Csc :=
  ⟨(List.range 9).map fun i => sInt (s.rd (Reg.VIS_CSC.K i)) 18, pixOf (s.rd Reg.VIS_CSC_OFS.OFS)⟩

/-- The regions whose signature differs from their reference, one bit each (R610, R611, R613). -/
def failingRegions (m : Csc) (d : List Byte) (real shadow : Nat → Nat → Pix) : Nat :=
  ((List.range 16).filter fun r =>
    let g := dRegion d r
    let sig (img : Nat → Nat → Pix) : Nat :=
      crc32 (rectBytes m d img (field g 0 2) (field g 2 2) (field g 4 2) (field g 6 2))
    match field g 8 1 with
    | 0 => false
    | 1 => sig real != sig shadow
    | _ => sig real != field g 12 4).foldl setBit 0

/-- Regions declared. -/
def declaredRegions (d : List Byte) : Nat := (List.range 16).countP fun r => field (dRegion d r) 8 1 != 0

/-- Data crates and the list crate of a release, allocated as context 0xAA; none when a handle is null (R620, R621). -/
def allocOutput (s : State) (k : Nat) : State × Option (List Nat × Nat) :=
  let (s, hs) := (List.range k).foldl (fun (acc : State × List Nat) _ =>
    let (s, h) := allocCrate acc.1 3 0xAA
    (s, acc.2 ++ [h])) (s, [])
  let (s, l) := allocCrate s 0 0xAA
  if l ≠ 0 && hs.all fun h => h != 0 then (s, some (hs, l))
  else ((hs ++ [l]).foldl (fun s h => if h = 0 then s else releaseCrate s (bits h 30 2) (bits h 0 20)) s, none)

/-- The pool that had no crate: 3 where a data crate's pool was empty, else 0. -/
def emptyPool (s : State) (k : Nat) : Nat := if (s.freeStack 3).length < k then 3 else 0

/-- The output of a passed proof gets its destination (R620-R622). -/
def visPrepare (s : State) (j : VisJob) : State :=
  let n := j.ch
  if dMode j.desc = 1 then
    let b := nextBuf s n
    if bit s.vis.lent (2 * n + b) then
      let s := s.logLimited n 231 0x1C07 n b (s.rd (Reg.VIS_CH_OTHER.COUNT n) + 1)
      completeJob s j 4 0 b
    else { s with vis := { s.vis with jobs := { j with phase := 2 } :: s.vis.jobs.drop 1 } }
  else
    let k := cratesNeeded j.desc
    let pool := emptyPool s k
    match allocOutput s k with
    | (s, none) => completeJob (s.logLimited n 231 0x1C06 n pool (k + 1)) j 5 0 0
    | (s, some (hs, l)) =>
      { s with vis := { s.vis with jobs := { j with phase := 2, crates := hs, list := l } :: s.vis.jobs.drop 1 } }

/-- Bytes written by the compositor; an error answer leaves its entry in the log. -/
def visWrite (s : State) (a : Nat) (bs : List Byte) : State := (s.busWrite visCompositor a bs).1

/-- The pass ends: the output stands in the proof buffer, and the proof decides (R597, R612, R613). -/
def endPass (s : State) (j : VisJob) : State :=
  let d := j.desc
  let base := slotBase s j.stream + j.slot * slotSize s j.stream
  let (s, masks) := readMasks s d
  let r := visGet s visCompositor base (frameBytes j.w j.h j.ten)
  let s := r.1
  let f := frameOfBytes j.w j.h j.ten fun o => r.2.getD o 0
  let m := cscOf s
  let real := composePix s.vis.coef f d masks false
  let shadow := composePix s.vis.coef f d masks true
  let sigs := (List.range (tileCount d)).map fun t =>
    let (x, y, w, h) := tileRect d t
    crc32 (rectBytes m d real x y w h)
  let bad := failingRegions m d real shadow
  let s := visWrite s (s.rdPair Reg.VIS_PROOF_BASE_LO.ADDR Reg.VIS_PROOF_BASE_HI.ADDR) (outputBytes m d real)
  let status := if bad ≠ 0 then 1 else if declaredRegions d < field d 20 1 then 2 else 0
  if status ≠ 0 then completeJob (s.logEvent 231 0x1C03 j.ch bad status) j status 0 (emptyWord s j)
  else visPrepare s { j with tiles := sigs }

/-- Address of a tile-signature entry (R615). -/
def sigAddr (s : State) (n b t : Nat) : Nat :=
  s.rdPair Reg.VIS_SIG_BASE_LO.ADDR Reg.VIS_SIG_BASE_HI.ADDR + 16384 * (2 * n + b) + 4 * t

/-- The tiles that a release writes: all, or with TILE_SKIP those whose entry is invalid or differs (R616). -/
def tilesToWrite (s : State) (j : VisJob) (b : Nat) : State × List Nat :=
  let n := j.ch
  let valid := Tbl.get s.vis.sigValid (2 * n + b) 0
  if field j.desc 22 1 ≠ 1 then (s, List.range (tileCount j.desc))
  else
    let r := visGet s visCompositor (sigAddr s n b 0) (4 * tileCount j.desc)
    (r.1, (List.range (tileCount j.desc)).filter fun t => !(bit valid t && field r.2 (4 * t) 4 == j.tiles.getD t 0))

/-- The entries of the written tiles updated (R616). -/
def noteTiles (s : State) (j : VisJob) (b : Nat) (ts : List Nat) : State :=
  if field j.desc 22 1 = 1 then
    let s := ts.foldl (fun s t => visWrite s (sigAddr s j.ch b t) (leBytes 4 (j.tiles.getD t 0))) s
    let k := 2 * j.ch + b
    { s with vis := { s.vis with sigValid := Tbl.put s.vis.sigValid k (ts.foldl setBit (Tbl.get s.vis.sigValid k 0)) 0 } }
  else s

/-- The changed-tile bitmap: one bit for each tile of the output (R616). -/
def writeDirty (s : State) (j : VisJob) (ts : List Nat) : State :=
  let a := field j.desc 40 8
  if a = 0 then s
  else
    let n := (tileCount j.desc + 7) / 8
    let r := visGet s visCompositor a n
    visWrite r.1 a ((List.range n).map fun i =>
      BitVec.ofNat 8 ((List.range 8).foldl (fun v k =>
        let t := 8 * i + k
        if tileCount j.desc ≤ t then v else if ts.contains t then setBit v k else clrBit v k) (r.2.getD i 0).toNat))

/-- The release copy into persistent buffers (R616, R622). -/
def releaseBuffer (s : State) (j : VisJob) (out : List Byte) : State :=
  let n := j.ch
  let b := nextBuf s n
  let pb := field j.desc (24 + 8 * b) 8
  let r := tilesToWrite s j b
  let s := r.1
  let ts := r.2
  let s := ts.foldl (fun s t => (tileRuns j.desc t).foldl (fun s r => visWrite s (pb + r.1) (slice out r.1 r.2)) s) s
  let s := writeDirty (noteTiles s j b ts) j ts
  let s := { s with vis := { s.vis with lent := setBit s.vis.lent (2 * n + b), buf := Tbl.put s.vis.buf n (1 - b) 0 } }
  completeJob s j 0 ts.length b

/-- The list crate of an output (R620). -/
def listBytes (j : VisJob) : List Byte :=
  leBytes 2 (crateRows j.desc) ++ leBytes 2 j.crates.length ++ leBytes 4 (outBytes j.desc) ++ leBytes 8 j.pts ++
    j.crates.flatMap (leBytes 4)

/-- The release copy into crates (R620). -/
def releaseCrates (s : State) (j : VisJob) (out : List Byte) : State :=
  let k := crateRows j.desc * outRow j.desc
  let s := j.crates.zipIdx.foldl (fun (s : State) p =>
    visWrite s (crateAddr s p.1) ((out.drop (k * p.2)).take k)) s
  let s := visWrite s (crateAddr s j.list) (listBytes j)
  let ts := List.range (tileCount j.desc)
  let s := writeDirty s j ts
  let s := (j.crates ++ [j.list]).foldl (fun s h => unitGive s visCompositor h (s.rd (Reg.VIS_CH_CFG.CONSUMER j.ch))) s
  completeJob s j 0 ts.length j.list

/-- The release copy completes (R597, R616, R620, R622, R623). -/
def visRelease (s : State) (j : VisJob) : State :=
  let r := visGet s visCompositor (s.rdPair Reg.VIS_PROOF_BASE_LO.ADDR Reg.VIS_PROOF_BASE_HI.ADDR) (outBytes j.desc)
  if dMode j.desc = 1 then releaseBuffer r.1 j r.2 else releaseCrates r.1 j r.2

/-! Register writes and the domain. -/

/-- A write to VIS_CHn_COMMIT (R599, R616). -/
def writeChCommit (s : State) (n data : Nat) : State :=
  if bit data 0 then
    let a := s.rdShadow (Reg.VIS_CH_DESC_LO.ADDR n) + 2 ^ 32 * s.rdShadow (Reg.VIS_CH_DESC_HI.ADDR n)
    ({ s with vis := { s.vis with
      descNext := Tbl.set s.vis.descNext n a,
      sigValid := Tbl.erase (Tbl.erase s.vis.sigValid (2 * n)) (2 * n + 1) } }).answer 0
  else s.answer 0

/-- A write to VIS_COEF_COMMIT (R605). -/
def writeCoefCommit (s : State) (data : Nat) : State :=
  (if bit data 0 then { s with vis := { s.vis with coefNext := some s.vis.coefPend } } else s).answer 0

/-- A write to a coefficient pair goes to the pending copy (R605, R625). -/
def writeCoef (s : State) (off data : Nat) : State :=
  let k := off / 1024 * 512 + off % 1024 / 2
  let put (t : Tbl Nat) (k v : Nat) : Tbl Nat := Tbl.put t k v (if k % 8 = 3 then 4096 else 0)
  ({ s with vis := { s.vis with coefPend := put (put s.vis.coefPend k (bits data 0 16)) (k + 1) (bits data 16 16) } }).answer 0

/-- A tap of the pending copy. -/
def coefTap (s : State) (k : Nat) : Nat := Tbl.get s.vis.coefPend k (if k % 8 = 3 then 4096 else 0)

/-- A write to VIS_CHn_RETURN (R622). -/
def writeChReturn (s : State) (n data : Nat) : State :=
  ({ s with vis := { s.vis with lent := andNot s.vis.lent (bits data 0 2 * 2 ^ (2 * n)) } }).answer 0

/-- A write to VIS_CHn_CFG: a channel that is enabled starts with PB0 and no valid entry, and one that is disabled loses its
waiting jobs (R616, R622 and "At the edges"). -/
def writeVisChCfg (s : State) (rq : Requester) (n data : Nat) : State :=
  let was := s.flag (Reg.VIS_CH_CFG.EN n)
  let s := stdWrite s rq (0xF03802000 + 0x40 * n) data
  let now := s.flag (Reg.VIS_CH_CFG.EN n)
  if now ∧ !was then
    { s with vis := { s.vis with
      buf := Tbl.erase s.vis.buf n, sigValid := Tbl.erase (Tbl.erase s.vis.sigValid (2 * n)) (2 * n + 1) } }
  else if was ∧ !now then
    let gone (j : VisJob) : Bool := j.ch == n && j.phase == 0
    (s.vis.jobs.filter gone).foldl dropHold { s with vis := { s.vis with jobs := s.vis.jobs.filter fun j => !gone j } }
  else s

/-- The vision domain is fenced: the running job ends without release and without a completion packet. -/
def visFenced (s : State) : State :=
  match s.vis.jobs with
  | j :: _ => if j.phase = 0 then s else visEndJob s j
  | [] => s

/-- The vision domain switches off (R625). -/
def visLost (s : State) : State := { s.resetWindow 0xF03800000 0xF04000000 [] with vis := {} }

/-- The event takes the job at the head when it is in a phase. -/
def atJob (s : State) (phase : Nat) (k : State → VisJob → State) : State :=
  match s.vis.jobs with
  | j :: _ => if j.phase = phase ∧ visUp s then k s j else s
  | [] => s

/-! The commands. -/

/-- STREAM_ENABLE (R589). -/
def execStreamEnable (rq : Requester) (stream data : Nat) (s : State) : Host.Outcome State Fault Refusal :=
  whilePowered s fun s => atRegister s rq (0xF03801000 + 0x40 * (stream % 32)) true data fun s =>
    writeStreamCfg s rq (stream % 32) data

/-- ACCESS_UNIT (R590-R595): nothing happens while no stream of the decoder can take one. -/
def execAccessUnit (dec : Nat) (pic : VisDecode) (s : State) : Host.Outcome State Fault Refusal :=
  whilePowered s fun s => if visOn s then takeAu s (dec % 2) pic else s

/-- FRAME_OUTPUT (R595, R596): nothing happens where no picture of the slot waits for output. -/
def execFrameOutput (stream slot : Nat) (s : State) : Host.Outcome State Fault Refusal :=
  whilePowered s fun s =>
    if visOn s ∧ s.rd (Reg.VIS_STR_STAT.STATE (stream % 32)) = 1 then outputFrame s (stream % 32) slot else s

/-- COMPOSITION_JOB_START (R597, R599, R600, R605). -/
def execCompositionJobStart (s : State) : Host.Outcome State Fault Refusal :=
  whilePowered s fun s => if visOn s then atJob s 0 visStartJob else s

/-- COMPOSITION_PASS_END (R597, R598, R613, R621, R622): nothing happens before the pass has had its cycles. -/
def execCompositionPassEnd (s : State) : Host.Outcome State Fault Refusal :=
  whilePowered s fun s => atJob s 1 fun s j => if j.endAt ≤ s.now then endPass s j else s

/-- COMPOSITION_RELEASE (R597, R616, R620, R622, R623). -/
def execCompositionRelease (s : State) : Host.Outcome State Fault Refusal :=
  whilePowered s fun s => atJob s 2 visRelease

/-- VIS_CH_COMMIT (R599). -/
def execVisChCommit (rq : Requester) (ch data : Nat) (s : State) : Host.Outcome State Fault Refusal :=
  whilePowered s fun s => atRegister s rq (0xF0380200C + 0x40 * (ch % 8)) true data fun s => writeChCommit s (ch % 8) data

/-- VIS_COEF_COMMIT (R605). -/
def execVisCoefCommit (rq : Requester) (data : Nat) (s : State) : Host.Outcome State Fault Refusal :=
  whilePowered s fun s => atRegister s rq 0xF03800060 true data fun s => writeCoefCommit s data

/-- VIS_CH_RETURN (R622). -/
def execVisChReturn (rq : Requester) (ch data : Nat) (s : State) : Host.Outcome State Fault Refusal :=
  whilePowered s fun s => atRegister s rq (0xF03802010 + 0x40 * (ch % 8)) true data fun s => writeChReturn s (ch % 8) data

/-- VIS_ENABLE (R624). -/
def execVisEnable (rq : Requester) (data : Nat) (s : State) : Host.Outcome State Fault Refusal :=
  whilePowered s fun s => atRegister s rq 0xF03800000 true data fun s => writeVisCtrl s rq data

end Sys2Proof.Machine
end

