-- ==== Sys2Proof/Machine/Startup.lean ====
section
/-! DEFINITION. What transitions, start-up, resets and configuration share (chapter 02): domains on and off, the supply
sequencer, entering a mode, warming, and what a reset clears. -/

namespace Sys2Proof.Machine

/-! Domains (R60-R69). -/

/-- Requests that a domain's interfaces have outstanding (0x010A). -/
def outstandingOf (s : State) (d : Nat) : Nat := (s.noc.out.filter fun o => niDomain o.ni == some d).length

/-- First and end address of the registers that lie in a Full domain.  The CLK window is none of them: the model keeps it through a
transition that switches the main domains off, since 03 R163 names only the resets of R102 (DESIGN CHOICE, log entry 94). -/
def domainWindows (d : Nat) : List (Nat × Nat) :=
  if 10 ≤ d ∧ d ≤ 15 then [(0xF01001000 + 0x100 * (d - 10), 0xF01001100 + 0x100 * (d - 10))]
  else match d with
  | 16 => [(0xF01000000, 0xF01001000), (0xF01001600, 0xF01800000)]
  | 17 => [(0xF03000000, 0xF03000020), (0xF03000040, 0xF03000100), (0xF03000200, 0xF03800000)]
  | 18 => [(0xF03000020, 0xF03000040)]
  | 19 => [(0xF03000100, 0xF03000200)]
  | 21 => [(0xF04800000, 0xF05000000)]
  | _ => []

/-- Registers of a Full domain at their reset values. -/
def clearWindows (s : State) (d : Nat) : State := (domainWindows d).foldl (fun s w => s.resetWindow w.1 w.2 []) s

/-- What a unit loses when its switch opens (01 R46, 06 R285, 07 R345, 10 R487, 13 R625, 15 R712).  DRAM and larder bytes stand as
they are. -/
def domainLost (s : State) (d : Nat) : State :=
  let s := clearWindows s d
  if 6 ≤ d ∧ d ≤ 9 then verifierLost (engineLost s (d - 6)) (d - 6)
  else if 10 ≤ d ∧ d ≤ 15 then isolateRegion s (d - 10)
  else match d with
  | 0 => { s with pw := { s.pw with cores := 0 }, mem := { s.mem with l2 := [] } }
  | 1 => (s.wr Reg.MEM_STAT.TRAINED 0).wr Reg.MEM_STAT.SELF_REFRESH 0
  | 2 => { s with noc := {} }
  | 3 => { s with hatch := {}, cfg := { s.cfg with sectionDigests := [], xspiCmd := none } }
  | 5 => storeroomLost s
  | 16 => { s with fab := { s.fab with flights := [], held := [], channels := [], cuts := [] } }
  | 17 => { s with rad := { sent := s.rad.sent } }
  | 19 => { s with rad := { s.rad with cplane := [], uplane := [], owd := [] } }
  | 21 => { s with grp := {} }
  | 22 => visLost s
  | _ => s

/-- FENCE_REQ: the interfaces of the domain take no new request (R64 step 1, 07 R343). -/
def fenceRequest (s : State) (d : Nat) : State :=
  let s := { s with pw := { s.pw with fenceReq := setBit s.pw.fenceReq d
                                      fenceAt := Tbl.set s.pw.fenceAt d (s.now, s.fab.cycle) } }
  if 10 ≤ d ∧ d ≤ 15 then s.setRegion (d - 10) { s.region (d - 10) with pend := none }
  else if d = 22 then visFenced s
  else s

/-- Radio is withdrawn when its domains go (11 R539). -/
def radioRemoved (s : State) (d : Nat) : State := if d = 17 ∨ d = 18 then withdrawNow s 4 else s

/-- The switch opens (R64 step 4). -/
def domainOff (s : State) (d : Nat) : State :=
  let s := (domainLost (radioRemoved s d) d).clearBits Reg.SYS_DOM_STATE.DOM (2 ^ d)
  { s with pw := { s.pw with fenceReq := clrBit s.pw.fenceReq d, fenceAt := Tbl.erase s.pw.fenceAt d } }

/-- Domain of the controller or bank that an access waits at. -/
def accessDomain (r : LineReq) : Nat := if r.addr < 0x7C0000000 then 1 else 5

/-- A domain that acknowledges its fence has completed the requests it had issued and answered those it had accepted: their accesses
have been served and its own requests are over (R64 step 2, 05 R241). -/
def drained (s : State) (d : Nat) : State :=
  let s := (s.noc.queue.filter fun r => accessDomain r == d || niDomain r.ni == some d).foldl serveLine s
  { s with noc := { s.noc with out := s.noc.out.filter fun o => niDomain o.ni != some d
                               wait := s.noc.wait.filter fun w => niDomain w.rq.ni != some d } }

/-- Step 3 with or without FENCE_ACK (R64, R65). -/
def fenceArrives (s : State) (d : Nat) (ack : Bool) : State :=
  if ack then (drained s d).orBits Reg.SYS_FENCE_ACK.DOM (2 ^ d)
  else
    let s := runFlag (s.orBits Reg.SYS_FENCE_TO.DOM (2 ^ d)) Reg.CLK_RUN_STAT.FENCE
    s.logEvent 234 0x010A d (outstandingOf s d) 0

/-! The GROUP section (16 R735, R736). -/

/-- Its entry of a device: the bytes of entry `h` from `o`. -/
def groupEntry (b : List Byte) (h o n : Nat) : Nat := field b (64 + 64 * h + o) n

/-- The entry's ROLE; 0 for an absent member. -/
def groupRole (b : List Byte) (h : Nat) : Nat := if h < 8 then groupEntry b h 0 1 else 0

/-- PORTp of the entry. -/
def groupPort (b : List Byte) (h p : Nat) : Nat := groupEntry b h (4 + p) 1

/-- Egress port of the entry toward member `d`. -/
def groupRoute (b : List Byte) (h d : Nat) : Nat := groupEntry b h (8 + d) 1

/-- The device's own member index (16 R736). -/
def State.ownMember (s : State) : Nat := s.rd Reg.CFG_STAT.HOP

/-- Forming begins: t0, STATE, ROLE and MEMBER (16 R737, R738, R753). -/
def groupForms (s : State) (b : List Byte) : State :=
  let own := s.ownMember
  let s := ((s.wr Reg.GRP_STAT.STATE (if own = 0 then 2 else 1)).wr Reg.GRP_STAT.ROLE (groupRole b own)).wr Reg.GRP_STAT.MEMBER own
  { s.wr Reg.GRP_STAT.INCLUDED (b2n (own == 0)) with grp := { s.grp with formAt := s.ck.time } }

/-- A connected port trains (16 R733). -/
def trainPort (b : List Byte) (s : State) (p : Nat) : State :=
  if bit (groupPort b s.ownMember p) 7 then
    { s.wr (Reg.GRP_TETHER_STAT.STATE p) 1 with grp := { s.grp with ports := Tbl.set s.grp.ports p { ackAt := s.ck.time } } }
  else s

/-- The Tether domain switches on in a device of a group.  Beyond start-up, whose step 12 forms the group, it forms at once, so
that a member's manifest goes out again (16 R733, R737; "At the edges", STANDBY). -/
def groupDomainOn (s : State) (b : List Byte) : State :=
  let s := s.wrPair Reg.GRP_EPOCH_LO.EPOCH Reg.GRP_EPOCH_HI.EPOCH (field b 48 8)
  let s := [0, 1, 2, 3].foldl (trainPort b) s
  if s.pw.step = 0 then groupForms s b else s

/-- Registers that hold what the bitstream gives a unit, set as its domain switches on (11 R550, 13 R624, 16 R761). -/
def domainConfigured (s : State) (d : Nat) : State :=
  match d with
  | 17 =>
    match s.cfg.radioBody with
    | some b => (s.wr Reg.RAD_STAT.ROLE (radioRole b)).wr Reg.RAD_STAT.MAX_LAYERS (configLayers b)
    | none => s
  | 21 =>
    match s.cfg.groupBody with
    | some b => groupDomainOn s b
    | none => s
  | 22 =>
    match s.cfg.visionBody with
    | some b =>
      ((s.wrPair Reg.VIS_PROOF_BASE_LO.ADDR Reg.VIS_PROOF_BASE_HI.ADDR (field b 0 8)).wr Reg.VIS_PROOF_SIZE.BYTES
        (field b 8 8)).wrPair Reg.VIS_SIG_BASE_LO.ADDR Reg.VIS_SIG_BASE_HI.ADDR (field b 16 8)
    | none => s
  | _ => s

/-- A domain switches on (R68); a fused or absent one never does (R62).  Its bit of SYS_FENCE_ACK clears here: the spec gives no
instant for that (DESIGN CHOICE, log entry 86). -/
def domainOn (s : State) (d : Nat) : State :=
  if s.domOn d || bit s.part.fused d then s
  else
    let s := (s.orBits Reg.SYS_DOM_STATE.DOM (2 ^ d)).clearBits Reg.SYS_FENCE_ACK.DOM (2 ^ d)
    let s := if 10 ≤ d ∧ d ≤ 15 then s.setRegion (d - 10) regionFresh else s
    domainConfigured s d

/-- The requests that waited for the fence of a domain act in order; an off request of a domain that is on starts a fence of its
own, for which the rest wait (R69). -/
def afterFence (s : State) (d : Nat) : List (Nat × Bool) → State
  | [] => s
  | p :: rest =>
    let s := { s with pw := { s.pw with domPend := s.pw.domPend.erase p } }
    if p.2 then afterFence (domainOn s d) d rest
    else if s.domOn d then fenceRequest s d
    else afterFence s d rest

/-- The fence of a domain is that of a region reload, whose switch stays closed (04 R212 step 2). -/
def reloadFence (s : State) (d : Nat) : Bool := decide (10 ≤ d) && decide (d ≤ 15) && (s.region (d - 10)).reloading

/-- The fence of a reload has arrived: a region image whose check holds is written whole, and the region is reset with shelf 0 active
and every shelf valid (04 R212 steps 3 and 4, R213). -/
def reloadArrives (s : State) (d : Nat) : State :=
  let s := { s with pw := { s.pw with fenceReq := clrBit s.pw.fenceReq d, fenceAt := Tbl.erase s.pw.fenceAt d } }
  match s.hatch.body with
  | some b =>
    let x := s.region (d - 10)
    { s.setRegion (d - 10) (writeRegionImage { x with valid := 255, active := 0, cells := [], pend := none } b) with
      hatch := { s.hatch with body := none } }
  | none => s

/-- The fence that is asserted completes, and the requests that waited for it act (R64, R65, R69, 04 R212). -/
def fenceDone (s : State) (d : Nat) (ack : Bool) : State :=
  let t := fenceArrives s d ack
  let t := if reloadFence s d then reloadArrives t d else domainOff t d
  afterFence t d (t.pw.domPend.filter fun p => p.1 == d)

/-- An off request: a domain that is on is fenced, after the fence in which it may already be (R64, R69). -/
def offRequest (s : State) (d : Nat) : State :=
  if bit s.pw.fenceReq d then { s with pw := { s.pw with domPend := s.pw.domPend ++ [(d, false)] } }
  else if s.domOn d then fenceRequest s d
  else s

/-- An on request: after the fence in which the domain may be (R68, R69). -/
def onRequest (s : State) (d : Nat) : State :=
  if bit s.pw.fenceReq d then { s with pw := { s.pw with domPend := s.pw.domPend ++ [(d, true)] } } else domainOn s d

/-- The domain can have acknowledged its fence: a fabric region does so 64 fabric cycles after FENCE_REQ (07 R360). -/
def ackDue (s : State) (d : Nat) : Bool :=
  if 10 ≤ d ∧ d ≤ 15 then decide ((Tbl.get s.pw.fenceAt d (0, 0)).2 + 64 ≤ s.fab.cycle) else true

/-- 2,458 cellar cycles have passed since FENCE_REQ (R65). -/
def fenceExpired (s : State) (d : Nat) : Bool := decide ((Tbl.get s.pw.fenceAt d (0, 0)).1 + 24580 ≤ s.now)

/-- A domain drained, fenced and switched off; one already off is not changed, and requests that waited are overtaken (R64, R69). -/
def fenceOff (s : State) (late : Nat) (d : Nat) : State :=
  if s.domOn d then
    let s := if bit s.pw.fenceReq d then s else fenceRequest s d
    let s := { s with pw := { s.pw with domPend := s.pw.domPend.filter fun p => p.1 != d } }
    domainOff (fenceArrives s d (!bit late d)) d
  else s

/-- The domains of a mask fenced in parallel (R67). -/
def fenceMask (s : State) (mask late : Nat) : State := (ones mask 23).foldl (fun s d => fenceOff s late d) s

/-- The domains of a mask switched on. -/
def onMask (s : State) (mask : Nat) : State := (ones mask 23).foldl domainOn s

/-- A domain removed without drain (R102). -/
def removeDomain (s : State) (d : Nat) : State := if s.domOn d then domainOff s d else s

/-- Every main domain removed without drain. -/
def removeAll (s : State) : State :=
  let s := (List.range 23).foldl removeDomain s
  { s with pw := { s.pw with fenceReq := 0, fenceAt := [], domPend := [] } }

/-- Ground domains and Full domains. -/
def groundMask : Nat := 0x1F
def fullMask : Nat := 0x7FFFE0

/-- The tier reached. -/
def setTier (s : State) (t : Nat) : State := s.wr Reg.SYS_PWR_MODE.TIER t

/-! The supply sequencer (R98, R99). -/

/-- The sequencer lowers channels; VDD_CORE stands at its boot voltage when it next rises (17 R766). -/
def lowerChannels (s : State) (chs : List Nat) : State :=
  let p := chs.foldl (fun (p : Power) c => { p with chEn := clrBit p.chEn c, chPg := clrBit p.chPg c }) s.pw
  let p := if chs.contains 1 then { p with avs := 750, avsRead := 750 } else p
  { s with pw := { p with raise := p.raise.filter fun c => !chs.contains c } }

/-- Every raised channel lowered. -/
def lowerAll (s : State) : State := lowerChannels s [7, 6, 5, 4, 3, 2, 1, 0]

/-- The head of the channels still to be raised is enabled. -/
def enableNext (s : State) : State :=
  match s.pw.raise with
  | c :: _ => { s with pw := { s.pw with chEn := setBit s.pw.chEn c } }
  | [] => s

/-- Channels still to be raised, those already up left out. -/
def startRaise (s : State) (chs : List Nat) : State :=
  enableNext { s with pw := { s.pw with raise := chs.filter fun c => !bit s.pw.chPg c } }

/-- Channels raised one after the other, each once the power-good of the one before has asserted, within a transition that is one
command; `bad` names one whose power-good fails to assert, which is answered (R99, R100). -/
def raiseInOrder (s : State) (bad : Option Nat) : List Nat → State × Option Nat
  | [] => (s, none)
  | c :: rest =>
    let s := { s with pw := { s.pw with chEn := setBit s.pw.chEn c } }
    if bad = some c then (s, some c)
    else raiseInOrder { s with pw := { s.pw with chPg := setBit s.pw.chPg c } } bad rest

/-! Modes (R70-R77). -/

/-- The transition in progress (R74); a mains loss latched in it stays latched as its steps go on (R76). -/
def beginTransition (s : State) (target : Nat) : State :=
  let s := { s with pw := { s.pw with mainsLatched := s.busy && s.pw.mainsLatched } }
  (s.wr Reg.SYS_PWR_MODE.BUSY 1).wr Reg.SYS_PWR_MODE.TARGET target

/-- No transition is in progress; a latched mains loss causes none (R76). -/
def endTransition (s : State) : State :=
  let s := { s with pw := { s.pw with mainsLatched := false } }
  (s.wr Reg.SYS_PWR_MODE.BUSY 0).wr Reg.SYS_PWR_MODE.TARGET 0

/-- A transition completes in a mode (R71, R76, R77, 15 R715). -/
def enterMode (s : State) (m : Nat) : State :=
  let old := s.mode
  let latched := s.pw.mainsLatched && m == 3
  let s := (endTransition s).wr Reg.SYS_PWR_MODE.MODE m
  let s := (runFlag s Reg.CLK_RUN_STAT.MODE).logEvent 234 0x0116 m old s.tier
  let s := clockAfterMode { s with pw := { s.pw with mainsLatched := latched } }
  if m = 3 then verifyInRun s else verifyLeft s

/-- Tenant jobs, in banks 2 and 3, stopped (08 R400): 0x0115 with the engines and the number. -/
def shedTenants (s : State) (why : Nat) : State :=
  let hit := (List.range 4).flatMap fun e => ([2, 3].filter fun b => hasJob (s.bank e b) && s.domOn (6 + e)).map fun b => (e, b)
  let s1 := hit.foldl (fun s p => shedBank s p.1 p.2) s
  s1.logEvent 234 0x0115 (hit.foldl (fun m p => setBit m p.1) 0) hit.length why

/-! Warming (R86-R95, 07 R362-R364). -/

/-- A temperature reading sign-extended to 32 bits. -/
def tjExt (raw : Nat) : Nat := ofInt (sInt raw 16) 32

/-- TJ_MIN in units of 0.125 °C. -/
def tjMin (s : State) : Int := sInt (s.rd Reg.SYS_TJ.TJ_MIN) 16

/-- TJ_MAX in units of 0.125 °C. -/
def tjMax (s : State) : Int := sInt (s.rd Reg.SYS_TJ.TJ_MAX) 16

/-- A reading of TJ_MIN, and of TJ_MAX. -/
def setTjMin (s : State) (v : BitVec 16) : State := s.wr Reg.SYS_TJ.TJ_MIN v.toNat
def setTjMax (s : State) (v : BitVec 16) : State := s.wr Reg.SYS_TJ.TJ_MAX v.toNat

/-- Seconds of the warming period in progress. -/
def warmElapsed (s : State) : Nat := min 65535 ((s.ck.time - s.pw.warmStart).toNat / ticksPerSecond)

/-- Regions used as load: the first REGIONS of the live ones in the order of 07 R363 (R89, R116). -/
def loadRegions (s : State) : List Nat :=
  ([0, 3, 4, 1, 2, 5].filter fun r => !bit s.part.fused (10 + r)).take (s.rd Reg.SYS_WARM_CFG.REGIONS)

/-- Warming begins (R86 step 4, R88, R89, 15 R721).  HEAT_DUTY and REGIONS are taken here: a write to them during the period acts in
the next one, since the spec gives no other instant (DESIGN CHOICE, log entry 89). -/
def startWarming (s : State) : State :=
  let load := loadRegions s
  let s := ((s.bump Reg.SYS_WARM_STAT.ATTEMPTS 1).wr Reg.SYS_WARM_STAT.ACTIVE 1).wr Reg.SYS_WARM_STAT.EXPIRED 0
  let s := (s.wr Reg.SYS_WARM_STAT.ELAPSED_S 0).logEvent 234 0x010E (tjExt (s.rd Reg.SYS_TJ.TJ_MIN)) load.length
    (s.rd Reg.SYS_WARM_STAT.ATTEMPTS)
  let s := heaterOn (setLoop3 s false) (s.rd Reg.SYS_WARM_CFG.HEAT_DUTY)
  startRaise { s with pw := { s.pw with step := 5, coldWait := false, heater := true, warmStart := s.ck.time,
                                        warmRegions := load.foldl setBit 0 } } [0, 1]

/-- The warming load stops: its regions are reset, every shelf not valid (07 R364). -/
def endLoad (s : State) : State :=
  if s.flag Reg.SYS_WARM_STAT.ACTIVE then
    let s := (s.wr Reg.SYS_WARM_STAT.ELAPSED_S (warmElapsed s)).wr Reg.SYS_WARM_STAT.ACTIVE 0
    let s := (ones s.pw.warmRegions 6).foldl (fun (s : State) r => s.setRegion r regionFresh) s
    { s with pw := { s.pw with warmRegions := 0 } }
  else s

/-- The warming heater stops, and loop 3 may use its channel again (15 R721). -/
def endHeater (s : State) : State :=
  if s.pw.heater then setLoop3 (heaterOff { s with pw := { s.pw with heater := false } }) true else s

/-- Start-up waits cold with warming disabled (R94). -/
def startColdWait (s : State) (step : Nat) : State :=
  let s := endTransition (lowerAll s)
  ({ s with pw := { s.pw with step := 4, coldWait := true } }).logEvent 234 0x0119 (tjExt (s.rd Reg.SYS_TJ.TJ_MIN)) step 0

/-! The steps of start-up (R86). -/

/-- Step 4. -/
def startupStep4 (s : State) (step : Nat) : State :=
  if s.flag Reg.SYS_WARM_CFG.WARM_EN then startWarming (beginTransition s 3) else startColdWait s step

/-- Steps 7 and 11 begin when the last channel is good, and flash service waits for REFCLK. -/
def channelsUp (s : State) : State :=
  match s.pw.step with
  | 6 => { s with pw := { s.pw with step := 7 } }
  | 11 => setTier (onMask s (s.cfg.planOn &&& fullMask)) 3
  | _ => s

/-- Channels raised towards a step; with all of them up already the step goes on. -/
def raiseFor (s : State) (step : Nat) (chs : List Nat) : State :=
  let s := startRaise { s with pw := { s.pw with step := step } } chs
  if s.pw.raise = [] then channelsUp s else s

/-- Step 6: the Ground channels rise. -/
def startupStep6 (s : State) : State :=
  let s := beginTransition { s with pw := { s.pw with coldWait := false, cfgAborted := false, railFaulted := false,
                                                      railRetry := false, tripped := false } } 3
  raiseFor (endHeater s) 6 [0, 1, 2, 3, 4, 5]

/-- Step 3: Floor reads TJ_MIN. -/
def startupStep3 (s : State) : State :=
  let s := beginTransition s 3
  if -200 ≤ tjMin s then startupStep6 s else startupStep4 s 3

/-- Start-up ends in CELLAR. -/
def startupEnds (s : State) : State := endTransition { s with pw := { s.pw with step := 0 } }

/-- Full and Ground domains fenced off, and every rail lowered. -/
def groundOff (s : State) (late : Nat) : State :=
  let s := fenceMask s fullMask late
  let s := setTier (fenceMask s groundMask late) 1
  lowerAll (unlockClock s)

/-- TJ_MIN below −20 °C at step 9: start-up returns to step 4 (R92). -/
def tooColdForDram (s : State) : State := startupStep4 (groundOff s 0) 4

/-- The device reaches RUN at the end of start-up, in the clocking mode of the clock plan (R77, 03 R127). -/
def enterRun (s : State) : State :=
  enterMode (takeMode { s with pw := { s.pw with step := 0 } } s.cfg.planMode) 3

/-- Step 13: RUN, then the release of radio (R86, 11 R536). -/
def startupStep13 (s : State) : State := startRelease (enterRun s) 43

/-! Flash service (R96, R97). -/

/-- Flash service ends, or the entry to it: domains 2 and 3 fenced, those of `late` without FENCE_ACK, channels lowered; `who`
requested it. -/
def endFlash (s : State) (who late : Nat) : State :=
  if s.flag Reg.SYS_FLASH_SVC.EN then
    let s := ((fenceMask s 0xC late).wr Reg.SYS_FLASH_SVC.EN 0).wr Reg.SYS_FLASH_SVC.ACTIVE 0
    let s := lowerChannels (unlockClock { s with pw := { s.pw with flashWait := false } }) [2, 1, 0]
    s.logEvent 234 0x011A 0 0 who
  else s

/-! Resets (R102-R106). -/

/-- Register windows of the units in the main domains (01 R41). -/
def mainWindows : List (Nat × Nat) :=
  [(0xF00200000, 0xF00600000), (0xF01000000, 0xF04000000), (0xF04800000, 0xF05000000)]

/-- Those windows at their reset values; the refresh counts stand since cold reset (05 R265). -/
def resetMain (s : State) : State :=
  let sats := (List.range 16).flatMap fun k => [Reg.IE_BANK_SAT_M.COUNT (k / 4) (k % 4), Reg.IE_BANK_SAT_V.COUNT (k / 4) (k % 4)]
  mainWindows.foldl (fun s w => s.resetWindow w.1 w.2 ((List.range 16).map Reg.MEM_REF_COUNT.COUNT ++ sats)) s

/-- Main-domain registers and contents at reset; SYS, CEL, the log and the WL fields are kept, CLK_RATE across a warm reset. -/
def mainReset (s : State) (keepRate : Bool) : State :=
  let s := resetMain (clkReset s false keepRate)
  { s with cfg := { keyRevoked := s.cfg.keyRevoked, keyMarked := s.cfg.keyMarked, svnFloor := s.cfg.svnFloor }
           hatch := {}, noc := {}, str := {}, fab := { cycle := s.fab.cycle }, ie := [], rad := { sent := s.rad.sent }, vis := {}
           hiLatch := [] }

/-- A cause waits for the cellar core to run (R106). -/
def resetTaken (s : State) (bit before : Nat) : State :=
  let p := match s.pw.rstPend with
    | some (m, b) => (m ||| 2 ^ bit, b)
    | none => (2 ^ bit, before)
  { s with pw := { s.pw with rstPend := some p } }

/-- The cellar core runs: the causes that wait are recorded (R106). -/
def noteReset (s : State) : State :=
  match s.pw.rstPend with
  | some (m, before) =>
    let s := { s with pw := { s.pw with rstPend := none } }.orBits Reg.SYS_RST_CAUSE.CAUSE m
    s.logEvent 234 0x010D (s.rd Reg.SYS_RST_CAUSE.CAUSE) before (s.rd Reg.SYS_TJ.TJ_MAX)
  | none => s

/-- A reset that keeps the cellar running, once the main domains are gone: the device stands in CELLAR (R102, R106). -/
def cellarKeeps (s : State) (bit before : Nat) (keepRate : Bool) : State :=
  let s := lowerAll (unlockClock (endHeater (endLoad s)))
  let s := endTransition { setTier s 1 with pw := { s.pw with step := 0, coldWait := false, core0Retained := false } }
  noteReset (resetTaken (mainReset s keepRate) bit before)

/-- A thermal trip or rail fault: every main domain removed without drain, CELLAR entered (R75, R101, R102, R110). -/
def forcedCellar (s : State) (bit : Nat) : State :=
  let before := s.mode
  let s := removeAll (endFlash s 0 0)
  let s := cellarKeeps s bit before false
  if before = 1 then clockAfterMode s else enterMode s 1

/-- A warm reset, bit 5, or Tether group reset, bit 3: the main domains drained, fenced and off; start-up from step 3; a warm reset
alone keeps CLK_RATE (R86, R102, 03 R162). -/
def warmReset (s : State) (bit late : Nat) : State :=
  let before := s.mode
  let s := verifyLeft (fenceMask (fenceMask (endFlash s 0 late) fullMask late) groundMask late)
  let s := (cellarKeeps s bit before (bit == 5)).wr Reg.SYS_PWR_MODE.MODE 1
  clockAfterMode { s with pw := { s.pw with step := 3 } }

/-- Fields kept by a reset of the cellar core: the causes, the run mark's registers and the trouble log (R105, R116, 03 R163). -/
def keptByCold (k : Nat) : Bool :=
  k == Reg.SYS_RST_CAUSE.CAUSE.key ||
    ([Reg.CLK_RUN_STAT.GOV, Reg.CLK_RUN_STAT.MODE, Reg.CLK_RUN_STAT.FENCE, Reg.CLK_RUN_STAT.DROOP, Reg.CLK_RUN_STAT.REFCLK,
      Reg.CLK_RUN_STAT.ADAPTIVE, Reg.CLK_RUN_AT_LO.AT, Reg.CLK_RUN_AT_HI.AT, Reg.CLK_RUN_CTRL.SRC].any fun f => f.key == k) ||
    (decide (32 * 0xF00600000 ≤ k) && decide (k < 32 * 0xF00700000))

/-- PORn, the watchdog and the software cold reset: everything but the log, device time, the fuses and what R163 keeps is at its
reset value, marked key slots are revoked, and start-up begins at step 1 (R86, R102, 04 R216). -/
def coldReset (s : State) (bit : Nat) : State :=
  let before := s.mode
  let s := removeAll (endFlash (moveTime s false) 0 0)
  let s := runFlag (clkReset { s with csr := s.csr.filter fun p => keptByCold p.1, shadow := [], wl := [] } true false)
    Reg.CLK_RUN_STAT.MODE
  let fuses : Cfg := { keyRevoked := s.cfg.keyRevoked ||| s.cfg.keyMarked, svnFloor := s.cfg.svnFloor }
  let pend := (resetTaken s bit before).pw.rstPend
  { s with pw := { rstPend := pend, xtalOk := s.pw.xtalOk, xtalAt := s.pw.xtalAt, refclk := s.pw.refclk, kick := s.ck.time }
           cfg := fuses, hatch := {}, noc := {}, str := {}, fab := { cycle := s.fab.cycle }, ie := [], rad := { sent := s.rad.sent }
           vis := {}, cel := {}, svc := {}, grp := {}, yielded := false, hiLatch := [] }

end Sys2Proof.Machine
end

