-- ==== Sys2Proof/Machine/Configure.lean ====
section
/-! DEFINITION. The configuration controller (chapter 04, 02 R86 steps 8 to 11): reading the image, the abort, the load, the
chain, the flash commands and the fuses. -/

namespace Sys2Proof.Machine

/-! Pins (R189, 14 R638). -/

/-- Value of a CEL_PIN_CFG register. -/
def pinWord (s : State) (i : Nat) : Nat := regValue s ((fieldsAt (0xF04000000 + 4 * i)).getD [])

/-- The pins as they stand. -/
def pinsNow (s : State) : Tbl Nat := (List.range 160).map fun i => (i, pinWord s i)

/-- The pins written back to what they held at t0. -/
def restorePins (s : State) : State :=
  s.cfg.pinsAtT0.foldl (fun (s : State) p => if pinWord s p.1 = p.2 then s else planPin s p.1 p.2) s

/-! Abort (R189). -/

/-- What the fuses keep when configuration starts over. -/
def fusesOnly (c : Cfg) : Cfg := { keyRevoked := c.keyRevoked, keyMarked := c.keyMarked, svnFloor := c.svnFloor }

/-- The entry of an abort, which is also its record in CFG_ABORT. -/
def noteAbort (s : State) (a : Abort) : State :=
  (s.wr Reg.CFG_ABORT.CODE a.code).logEvent 232 a.code a.offset a.index (s.rd Reg.CFG_STAT.SOURCE)

/-- After an abort: Ground and Full domains fenced off, rails lowered, pins restored, start-up over in the Cellar tier. -/
def abortEnds (s : State) : State :=
  let s := restorePins (groundOff (s.wr Reg.CFG_STAT.PHASE 7) 0)
  startupEnds { s with cfg := fusesOnly s.cfg, pw := { s.pw with cfgAborted := true } }

/-- Configuration aborts. -/
def configAbort (s : State) (a : Abort) : State := abortEnds (noteAbort s a)

/-! Steps 8 to 10 of start-up (R181-R187). -/

/-- The pointer block is valid (R181, R182). -/
def pointerOk (b : List Byte) : Bool :=
  let count := field b 4 1
  let profile := field b 5 1
  field b 0 4 == 0x5042584A && (count == 1 || count == 2) && (profile == 1 || profile == 2) && decide (3 ≤ field b 6 1) &&
    decide (field b 6 1 ≤ 20) && decide (field b 7 1 ≤ 31) && field b 10 2 == 0 && field b 12 4 % 4096 == 0 &&
    field b 16 4 % 4096 == 0 && field b 20 40 == 0 && field b 60 4 == crc32 (slice b 0 60)

/-- The fields of a valid pointer block (R181). -/
def readPointer (b : List Byte) : Pointer :=
  { count := field b 4 1, profile := field b 5 1, div := field b 6 1, dummy := field b 7 1, readCmd := field b 8 2
    offset0 := field b 12 4, offset1 := field b 16 4 }

/-- Step 8 begins: the pointer block, whose fields set the flash interface, or without one the chain (R183,
R184). -/
def configStart (s : State) (block : Option (List Byte)) : State :=
  let s := { s with cfg := { fusesOnly s.cfg with pinsAtT0 := pinsNow s, chainT0 := s.ck.time } }
  let s := ((s.wr Reg.CFG_STAT.PHASE 2).wr Reg.CFG_STAT.HOP 0).wr Reg.CFG_STAT.SOURCE 0
  match block.filter pointerOk with
  | some b => { s with cfg := { s.cfg with pointer := some (readPointer b) } }
  | none => (s.wr Reg.CFG_STAT.SOURCE 2).logEvent 232 0x0301 0 0 0

/-- The MEM registers take the DRAM_CONFIG, pending values with the active ones (05 R259, R265). -/
def setBoth (s : State) (f : Fld) (v : Nat) : State := (s.wr f v).wrShadow f v

/-- DRAM_CONFIG handed over (05 R259, R265). -/
def applyDramConfig (s : State) (b : List Byte) : State :=
  let arb (s : State) (i : Nat) : State :=
    let d := field b (8 + 4 * i) 4
    let l := field b (40 + 4 * i) 4
    setBoth (setBoth (setBoth (setBoth s (Reg.MEM_ARB_DRAM.WEIGHT i) d) (Reg.MEM_ARB_DRAM.PRIO i) (d / 2 ^ 24))
      (Reg.MEM_ARB_LAR.WEIGHT i) l) (Reg.MEM_ARB_LAR.PRIO i) (l / 2 ^ 24)
  let s := (List.range 8).foldl arb s
  let s := setBoth (setBoth s Reg.MEM_ARB_WINDOW.DRAM (field b 72 2)) Reg.MEM_ARB_WINDOW.LARDER (field b 74 2)
  let s := setBoth s Reg.MEM_ARB_TENURE.TENURE (field b 4 1)
  (s.wr Reg.MEM_SCRUB_CFG.EN (field b 1 1)).wr Reg.MEM_SCRUB_CFG.HOURS (field b 2 2)

/-- CFG_DIGEST takes the bitstream digest (R184, R215). -/
def setDigest (s : State) (d : List Byte) : State :=
  let s := (List.range 12).foldl (fun s w => s.wr (Reg.CFG_DIGEST.DIGEST w) (field d (4 * w) 4)) s
  { s with cfg := { s.cfg with digest := some (leNat d) } }

/-- The end of pass 1 on an accepted image: pins, clock plan with its clocking mode, DRAM configuration and digest (R184 step 5,
03 R127, R162). -/
def acceptImage (s : State) (b : List Byte) : State :=
  let h := readHeader b
  let body (t : Nat) : List Byte := (bodyOf b h t).getD []
  let s := (setDigest s (imageDigest b h)).wr Reg.CFG_SVN.SVN h.svn
  let pins := (bodyOf b h 4).getD []
  let s := if pins = [] then s else (List.range 160).foldl (fun s i => planPin s i (field pins (4 * i) 4)) s
  let clock := body 1
  let s := { s with
    ck := { s.ck with cut := field clock 1 1 == 1, pinned := ones (field clock 64 32) 238 }
    cfg := { s.cfg with hdr := h, map := readMap (body 2), planMode := field clock 0 1, planOn := field (body 5) 0 4,
                        planRadio := field (body 5) 4 4 } }
  let s := (applyDramConfig (takeMode s s.cfg.planMode) (body 3)).wr Reg.CFG_STAT.PHASE 3
  let s := { s with pw := { s.pw with step := 9 } }
  if tjMin s < -160 then tooColdForDram s else s

/-- Pass 1 on an image that has no other in reserve. -/
def pass1Only (s : State) (image : List Byte) : State :=
  match pass1Abort s image (s.rd Reg.CFG_STAT.HOP) with
  | some a => configAbort s a
  | none => acceptImage s image

/-- The image at OFFSET0 has aborted in pass 1: the one at OFFSET1 is tried where COUNT is 2, else configuration aborts; `k` goes
on with it (R188). -/
def image0Aborts (s : State) (a : Abort) (k : State → State) : State :=
  match s.cfg.pointer with
  | some p =>
    if p.count = 2 then k (((noteAbort s a).logEvent 232 0x0314 a.code p.offset1 0).wr Reg.CFG_STAT.SOURCE 1) else configAbort s a
  | none => configAbort s a

/-- Pass 1 on the image at OFFSET0, with the one at OFFSET1 in reserve (R184, R188). -/
def pass1 (s : State) (image0 image1 : List Byte) : State :=
  match pass1Abort s image0 0 with
  | none => acceptImage s image0
  | some a => image0Aborts s a fun s => pass1Only s image1

/-- The end of pass 1, by the source of the image: a member's image is the pass that it has received. -/
def pass1Ends (s : State) (image0 image1 : List Byte) : State :=
  match s.rd Reg.CFG_STAT.SOURCE with
  | 0 => pass1 s image0 image1
  | 1 => pass1Only s image1
  | _ => match s.cfg.chainPass1 with
    | some b => pass1Only s b
    | none => s

/-- The flash stops answering during a pass (R187, R188). -/
def sourceLost (s : State) (offset : Nat) : State :=
  let a : Abort := ⟨0x030D, offset, noIndex⟩
  if 2 ≤ s.rd Reg.CFG_STAT.SOURCE then s
  else if s.pw.step = 8 ∧ s.rd Reg.CFG_STAT.PHASE = 2 then
    if s.rd Reg.CFG_STAT.SOURCE = 0 then image0Aborts s a (fun s => s) else configAbort s a
  else if s.pw.step = 10 then configAbort s a
  else s

/-- DRAM is trained, and refresh and the patrol scrub begin; or training has failed twice on the channels of a mask (05 R253-R256). -/
def trainingDone (s : State) (fail : Nat) : State :=
  if tjMin s < -160 then tooColdForDram s
  else if fail = 0 then
    startScrub (startRefresh { (s.wr Reg.MEM_STAT.TRAINED 1).wr Reg.CFG_STAT.PHASE 4 with pw := { s.pw with step := 10 } })
  else
    abortEnds ((s.wr Reg.CFG_ABORT.CODE 0x0507).logEvent 168 0x0507 (fail % 65536) 2 (s.rd Reg.SYS_TJ.TJ_MIN))

/-- The route tables take a NOC_ROUTES body (05 R230). -/
def writeRoutes (s : State) (b : List Byte) : State :=
  (List.range 64).foldl (fun s n => (List.range 64).foldl (fun s e =>
    s.wr (Reg.NOC_RT.ENTRY n e) (field b (256 * n + 4 * e) 4)) s) s

/-- A body with a load prefix goes to its DEST: DRAM, or cellar SRAM for a CELLAR_IMAGE (R168, R173). -/
def loadBody (s : State) (t : Nat) (b : List Byte) : State :=
  let d := field b 0 8
  let code := b.drop 16
  if t = 7 then { s with mem := { s.mem with sram := Mem.writeN s.mem.sram (off d 0x10000000) code } }
  else (s.storeBytes d code).clearBad d code.length

/-- The sections of a type in plaintext, with their TARGETs, in directory order. -/
def plainsOf (b : List Byte) (h : ImageHdr) (t : Nat) : List (Nat × List Byte) :=
  (indexed h).filterMap fun p => if p.2.type = t then
      match plainBody b p.1 p.2 with
      | .ok x => some (p.2.target, x)
      | .error _ => none
    else none

/-- The resume image in DRAM (R79, R184). -/
def resumeImage (s : State) : List Byte := s.bytesAt s.cfg.map.resumeBase (s.cfg.hdr.imageLen + 256)

/-- The section digest table (R184, R191). -/
def digestTable (b : List Byte) (h : ImageHdr) : Tbl Nat :=
  (indexed h).map fun p => (p.1, leNat (Crypto.sha384 (slice b p.2.offset p.2.length)))

/-- Pass 2 copies the image to the resume range (R184 step 7). -/
def keepImage (s : State) (b : List Byte) : State :=
  let image := slice b 0 (s.cfg.hdr.imageLen + 256)
  (s.storeBytes s.cfg.map.resumeBase image).clearBad s.cfg.map.resumeBase image.length

/-- Pass 2 loads the Ground images and enters the digest of each body (R184 step 7). -/
def loadGround (s : State) (b : List Byte) : State :=
  let h := s.cfg.hdr
  let s := [6, 7].foldl (fun s t => (plainsOf b h t).foldl (fun s p => loadBody s t p.2) s) s
  let s := (plainsOf b h 8).foldl (fun s p => writeRoutes s p.2) s
  { s with cfg := { s.cfg with sectionDigests := digestTable b h } }

/-- The service cores that a bitstream's SERVICE_IMAGEs name are released (02 R86 step 10, 04 R168). -/
def releaseCores (s : State) : State :=
  { s with pw := { s.pw with cores := s.cfg.hdr.sections.foldl (fun m x => if x.type = 6 then m ||| x.target % 256 else m) 0 } }

/-- Configuration completes: 0x0310, the RADIO mask and the SVN floor (R179, R184 steps 9 and 10). -/
def configComplete (s : State) : State :=
  let h := s.cfg.hdr
  let s := (s.wr Reg.SYS_DOM_RADIO.DOM s.cfg.planRadio).wr Reg.CFG_STAT.PHASE 6
  let s := if bit h.flags 0 then { s with cfg := { s.cfg with svnFloor := max (svnFloor s) h.svn } } else s
  s.logEvent 232 0x0310 (s.rd Reg.CFG_STAT.SOURCE) (s.rd Reg.CFG_STAT.HOP) h.svn

/-- What a body of pass 2 holds that the load cannot take (R170-R173, R180). -/
def pass2Abort (s : State) (b : List Byte) : Option Abort :=
  let h := s.cfg.hdr
  match bodiesAbort s.part s.cfg.map b h 5 8 false with
  | some a => some a
  | none => mapAbort b h 8

/-- Pass 2 ends: the image is kept and the Ground bodies are loaded, then the digest is compared and the stored digest written; the
Ground tier, then RUN or the Full channels (R86, R87, R184 steps 7 and 8, R186). -/
def pass2 (s : State) (b : List Byte) : State :=
  let same := s.cfg.digest == some (leNat (imageDigest b s.cfg.hdr))
  let s := keepImage s b
  let bad := pass2Abort s b
  let s := if bad.isNone then loadGround s b else s
  match (if same then bad else some ⟨0x030C, 0, noIndex⟩) with
  | some a => configAbort s a
  | none =>
    let s := releaseCores (setTier { s with cfg := { s.cfg with resumeDigest := s.cfg.digest } } 2)
    if s.cfg.hdr.tier = 2 then enterRun (configComplete s)
    else raiseFor (s.wr Reg.CFG_STAT.PHASE 5) 11 [6, 7]

/-! Step 11 (R184 step 9). -/

/-- A region takes a REGION_IMAGE body, every shelf of it valid. -/
def loadRegion (s : State) (r : Nat) (b : List Byte) : State :=
  if s.domOn (10 + r) then s.setRegion r { writeRegionImage (s.region r) b with valid := 255 } else s

/-- A shelf takes a SHELF_IMAGE body and is valid. -/
def loadShelf (s : State) (r k : Nat) (b : List Byte) : State :=
  if s.domOn (10 + r) then
    let x := writeShelf (s.region r) k b
    s.setRegion r { x with valid := setBit x.valid k }
  else s

/-- The code store of an engine takes an ENGINE_IMAGE at ENTRY (08 R373). -/
def loadCode (s : State) (e : Nat) (b : List Byte) : State :=
  if s.domOn (6 + e) then
    let g := s.eng e
    s.setEng e { g with code := Mem.writeN g.code (field b 8 8) (b.drop 16) }
  else s

/-- What the units of a Full domain hold from the bitstream, for domains that are on. -/
def fullUnits (s : State) (b : List Byte) (h : ImageHdr) : State :=
  let s := (plainsOf b h 9).foldl (fun s p => loadRegion s p.1 p.2) s
  let s := (plainsOf b h 10).foldl (fun s p => loadShelf s (p.1 / 256) (p.1 % 8) p.2) s
  let s := (plainsOf b h 11).foldl (fun s p => loadCode s p.1 p.2) s
  [17, 21, 22].foldl (fun s d => if s.domOn d then domainConfigured s d else s) s

/-- The Full bodies loaded in directory order: DEST, units, and the bodies that the radio, vision and group units read. -/
def loadFull (s : State) (b : List Byte) : State :=
  let h := s.cfg.hdr
  let s := (plainsOf b h 8).foldl (fun s p => writeRoutes s p.2) s
  let s := [11, 12].foldl (fun s t => (plainsOf b h t).foldl (fun s p => loadBody s t p.2) s) s
  let s := { s with cfg := { s.cfg with radioBody := bodyOf b h 13, visionBody := bodyOf b h 14, groupBody := bodyOf b h 15,
                                        chainTx := bodyOf b h 16 } }
  fullUnits s b h

/-- Step 11 ends; step 12 follows where the image holds a GROUP section, else step 13 (R86). -/
def configDone (s : State) : State :=
  let b := resumeImage s
  let h := s.cfg.hdr
  match bodiesAbort s.part s.cfg.map b h 8 16 false with
  | some a => configAbort s a
  | none => match mapAbort b h 16 with
    | some a => configAbort s a
    | none =>
      let s := configComplete (loadFull s b)
      if s.cfg.groupBody.isSome then { s with pw := { s.pw with step := 12 } } else startupStep13 s

/-! The chain (R193-R201). -/

/-- A frame as it stands between its delimiters: the header, the payload, and whether the CRC-32 holds (R194).  One whose LEN is
not its payload's fails its CRC-32 (DEDUCED, log entry 117). -/
structure ChainFrame where
  pass : Nat
  hop : Nat
  flags : Nat
  seq : Nat
  total : Nat
  payload : List Byte
  crcOk : Bool

/-- A frame read from its bytes (R194). -/
def readFrame (f : List Byte) : ChainFrame :=
  let n := field f 8 2
  { pass := field f 0 2, hop := field f 2 1, flags := field f 3 1, seq := field f 4 4, total := field f 12 4
    payload := slice f 16 n, crcOk := f.length == 20 + n && field f (16 + n) 4 == crc32 (slice f 0 (16 + n)) }

/-- A member is taking its image from CFG_DI. -/
def onChain (s : State) : Bool :=
  s.rd Reg.CFG_STAT.SOURCE == 2 && decide (8 ≤ s.pw.step) && decide (s.pw.step ≤ 10) && s.cfg.chainPass2.isNone

/-- The pass in progress is discarded: 0 CRC, 1 order or FLAGS, 2 gap (R197). -/
def discardPass (s : State) (pass seq why : Nat) : State :=
  ({ s with cfg := { s.cfg with chainRx := none } }.bump Reg.CFG_CHAIN_STAT.BAD 1).logEvent 232 0x030E pass seq why

/-- FIRST and LAST agree with SEQ and TOTAL, and the reserved FLAGS are 0 (R194). -/
def flagsAgree (f : ChainFrame) : Bool :=
  bits f.flags 2 6 == 0 && bit f.flags 0 == (f.seq == 0) && bit f.flags 1 == (f.seq + 1 == f.total) && decide (f.seq < f.total)

/-- A whole pass is pass 1, or pass 2 where it began after DRAM was trained (R196). -/
def wholePass (s : State) (r : ChainRx) : State :=
  let s := { s with cfg := { s.cfg with chainRx := none } }
  if s.cfg.chainPass1.isNone then
    { s.wr Reg.CFG_STAT.HOP r.hop with cfg := { s.cfg with chainPass1 := some r.bytes } }
  else if r.late then { s with cfg := { s.cfg with chainPass2 := some r.bytes } }
  else s

/-- A frame that continues its pass. -/
def takeFrame (s : State) (r : ChainRx) (f : ChainFrame) : State :=
  let r := { r with next := r.next + 1, bytes := r.bytes ++ f.payload, at_ := s.ck.time }
  if r.next = r.total then wholePass s r else { s with cfg := { s.cfg with chainRx := some r } }

/-- A frame of a pass that has not begun here: a pass begins with SEQ 0, and a member waits for one (R196, R197). -/
def firstFrame (s : State) (f : ChainFrame) : State :=
  if f.seq ≠ 0 then s
  else if !f.crcOk then discardPass s f.pass f.seq 0
  else if !flagsAgree f then discardPass s f.pass f.seq 1
  else takeFrame s ⟨f.pass, f.hop, 0, f.total, [], s.pw.step == 10, s.ck.time⟩ f

/-- A frame on CFG_DI (R194-R197). -/
def chainFrame (s : State) (f : ChainFrame) : State :=
  match s.cfg.chainRx with
  | none => firstFrame s f
  | some r =>
    if !f.crcOk then discardPass s f.pass f.seq 0
    else if f.pass ≠ r.pass ∨ f.seq ≠ r.next ∨ f.total ≠ r.total ∨ f.hop ≠ r.hop then
      firstFrame (discardPass s r.pass f.seq 1) f
    else if !flagsAgree f then discardPass s f.pass f.seq 1
    else if 4915200 < (s.ck.time - r.at_).toNat then discardPass s f.pass f.seq 2
    else takeFrame s r f

/-- Header and payload of a frame as sent, with its CRC-32 (R194). -/
def chainFrameBytes (pass hop total : Nat) (seq : Nat) (payload : List Byte) : List Byte :=
  let f := leBytes 2 pass ++ [BitVec.ofNat 8 hop, BitVec.ofNat 8 (b2n (seq == 0) + 2 * b2n (seq + 1 == total))] ++
    leBytes 4 seq ++ leBytes 2 payload.length ++ leBytes 2 0 ++ leBytes 4 total ++ payload
  f ++ leBytes 4 (crc32 f)

/-- The frames of a pass, 4,096 payload bytes in every frame but the last (R194). -/
def passBytes (pass hop : Nat) (body : List Byte) : List Byte :=
  let n := (body.length + 4095) / 4096
  (List.range n).flatMap fun k => chainFrameBytes pass hop n k ((body.drop (4096 * k)).take 4096)

/-- Ticks that a pass takes on the line: a frame of n payload bytes with its delimiters and one comma pair is n + 24 symbols of 10
bits at 245.76 Mb/s (R193, R194). -/
def passTicks (body : List Byte) : Nat := 20 * (body.length + 24 * ((body.length + 4095) / 4096))

/-- The idle gap after the last pass is over (R195). -/
def gapOver (s : State) : Bool :=
  s.cfg.chainSent == 0 || decide (s.cfg.chainEnd + 491520 * s.rd Reg.CFG_CHAIN_CFG.GAP_MS ≤ s.now)

/-- The device still has passes to send (R195). -/
def chainSends (s : State) : Bool :=
  s.cfg.chainTx.isSome && s.rd Reg.CFG_STAT.PHASE == 6 && !s.cfg.chainStop && s.domUp 3

/-- The next pass of the CHAIN body is sent (R195). -/
def sendPass (s : State) : State :=
  match s.cfg.chainTx with
  | some body =>
    if chainSends s ∧ s.cfg.chainSent < max 1 (s.rd Reg.CFG_CHAIN_CFG.PASSES) ∧ gapOver s then
      let k := s.cfg.chainSent + 1
      { (s.wr Reg.CFG_CHAIN_STAT.SENT k) with
        cfg := { s.cfg with chainSent := k, chainEnd := s.now + passTicks body,
                            cfgDo := passBytes k (s.rd Reg.CFG_STAT.HOP + 1) body } }
    else s
  | none => s

/-- What CFG_DO carries: low, comma pairs, or the frames of a pass (R193, R201). -/
inductive ChainLine where
  | low
  | commas
  | frames (bytes : List Byte)
  deriving DecidableEq, Repr

/-- CFG_DO now (R193-R195, R201): low without a body to send and once sending has stopped, commas before the first pass and in the
gaps. -/
def chainLine (s : State) : ChainLine :=
  if !chainSends s then .low
  else if 0 < s.cfg.chainSent ∧ s.now < s.cfg.chainEnd then .frames s.cfg.cfgDo
  else if s.cfg.chainSent < max 1 (s.rd Reg.CFG_CHAIN_CFG.PASSES) then .commas
  else .low

/-- The CHAIN body is forwarded again from the resume image (16 R744). -/
def resendChain (s : State) : State :=
  { s.wr Reg.CFG_CHAIN_STAT.SENT 0 with cfg := { s.cfg with chainSent := 0, chainStop := false } }

/-! Flash service and the xSPI commands (02 R96, R97, R192, R215). -/

/-- The channels of flash service rise. -/
def startFlash (s : State) : State :=
  startRaise { s.wr Reg.SYS_FLASH_SVC.EN 1 with pw := { s.pw with flashWait := true } } [0, 1, 2]

/-- Flash service is entered, or the request is refused; a member that waits for the chain after 0x0301 leaves its
start-up for it, since no bitstream is read there (02 R96, R97; DEDUCED). -/
def flashEnable (s : State) (rq : Requester) : State :=
  if s.flag Reg.SYS_FLASH_SVC.EN then s
  else if s.mode = 1 ∧ !s.busy ∧ s.pw.step = 0 ∧ (s.pw.cfgAborted ∨ s.pw.railFaulted) then startFlash s
  else if s.pw.step = 8 ∧ s.rd Reg.CFG_STAT.PHASE = 2 ∧ s.rd Reg.CFG_STAT.SOURCE = 2 then startFlash (abortEnds s)
  else s.logEvent 234 0x0108 s.mode 0 rq.ni

/-- REFCLK is detected with the channels of flash service up (02 R96). -/
def flashActive (s : State) : State :=
  let s := onMask (lockClock { s with pw := { s.pw with flashWait := false, refclk := true } }) 0xC
  (s.wr Reg.SYS_FLASH_SVC.ACTIVE 1).logEvent 234 0x011A 1 (s.rd Reg.CFG_ABORT.CODE) 44

/-- A write to SYS_FLASH_SVC; `late` names the domains whose FENCE_ACK does not come in time. -/
def writeFlashSvc (s : State) (rq : Requester) (data late : Nat) : State :=
  (if bit data 0 then flashEnable s rq else endFlash s rq.ni late).answer 0

/-- CFG_STAT.PHASE as it reads (02 R96). -/
def cfgPhase (s : State) : Nat := if s.flag Reg.SYS_FLASH_SVC.ACTIVE then 0 else s.rd Reg.CFG_STAT.PHASE

/-- A write to CFG_XSPI_CMD; `din` is what the flash gives (R192, R206, R215). -/
def xspiCommand (s : State) (rq : Requester) (data : Nat) (din : List Byte) : State :=
  let n := min 64 (bits data 16 7)
  if cfgPhase s ≠ 0 ∧ cfgPhase s ≠ 6 then
    ((s.wr Reg.CFG_HATCH_STAT.LAST 9).logEvent 232 0x0311 9 0 rq.ni).answer 0
  else if Reg.CFG_XSPI_CMD.ADDR_BYTES.reserved data then stdWrite s rq 0xF00200060 data
  else
    let cmd : XspiCmd := ⟨bits data 0 8, bits data 8 3, bits data 11 5, n, bit data 24, s.rd Reg.CFG_XSPI_ADDR.ADDR⟩
    let s := { s with cfg := { s.cfg with xspiCmd := some cmd } }
    if bit data 24 then
      ({ s with cfg := { s.cfg with xspiOut := (dataBytes s Reg.CFG_XSPI_DATA.DATA).take n } }).answer 0
    else (setData s Reg.CFG_XSPI_DATA.DATA (slice din 0 n)).answer 0

/-- A write to SEC_KEY_REVOKE (R216, R217). -/
def revokeKeys (s : State) (rq : Requester) (data : Nat) : State :=
  let m := bits data 0 4
  if s.locked Reg.SEC_KEY_REVOKE.SLOT then stdWrite s rq 0xF007000C4 data
  else if s.cfg.digest.isSome ∧ bit m s.cfg.hdr.keySlot then
    (s.logEvent 132 0x0315 m s.cfg.hdr.keySlot rq.ni).answer 0
  else
    let s := stdWrite s rq 0xF007000C4 data
    { s with cfg := { s.cfg with keyMarked := s.cfg.keyMarked ||| m } }

/-! The commands. -/

/-- CONFIG_START (R184): the pointer block as the flash answers it, none where it gives no answer. -/
def execConfigStart (pointer : Option (List Byte)) (s : State) : Host.Outcome State Fault Refusal :=
  whilePowered s fun s => if s.pw.step = 8 ∧ s.rd Reg.CFG_STAT.PHASE ≠ 2 then configStart s pointer else s

/-- CONFIG_PASS1_DONE (R184, R188): the images at OFFSET0 and OFFSET1. -/
def execConfigPass1Done (image0 image1 : List Byte) (s : State) : Host.Outcome State Fault Refusal :=
  whilePowered s fun s => if s.pw.step = 8 ∧ s.rd Reg.CFG_STAT.PHASE = 2 then pass1Ends s image0 image1 else s

/-- DRAM_TRAINING_DONE (05 R256): the channels on which training failed twice, 0 where it succeeded. -/
def execDramTrainingDone (fail : Nat) (s : State) : Host.Outcome State Fault Refusal :=
  whilePowered s fun s => if s.pw.step = 9 then trainingDone s fail else s

/-- CONFIG_PASS2_DONE (R184, R186). -/
def execConfigPass2Done (image : List Byte) (s : State) : Host.Outcome State Fault Refusal :=
  whilePowered s fun s =>
    if s.pw.step = 10 then
      if s.rd Reg.CFG_STAT.SOURCE = 2 then
        match s.cfg.chainPass2 with
        | some b => pass2 s b
        | none => s
      else pass2 s image
    else s

/-- CFG_SOURCE_LOST (R187): the flash stops answering at an image offset. -/
def execCfgSourceLost (offset : Nat) (s : State) : Host.Outcome State Fault Refusal :=
  whilePowered s fun s => sourceLost s offset

/-- CFG_DONE (R184 steps 9 and 10). -/
def execCfgDone (s : State) : Host.Outcome State Fault Refusal :=
  whilePowered s fun s => if s.pw.step = 11 ∧ s.pw.raise = [] then configDone s else s

/-- CHAIN_PASS_START (R195). -/
def execChainPassStart (s : State) : Host.Outcome State Fault Refusal := whilePowered s sendPass

/-- CHAIN_FRAME_RECEIVE (R194-R197). -/
def execChainFrameReceive (frame : List Byte) (s : State) : Host.Outcome State Fault Refusal :=
  whilePowered s fun s => if onChain s then chainFrame s (readFrame frame) else s

/-- CHAIN_FRAME_GAP (R197): more than 10 ms without a frame of the pass. -/
def execChainFrameGap (s : State) : Host.Outcome State Fault Refusal :=
  whilePowered s fun s =>
    match s.cfg.chainRx with
    | some r => if onChain s ∧ 4915200 < (s.ck.time - r.at_).toNat then discardPass s r.pass r.next 2 else s
    | none => s

/-- CFG_CHAIN_TIMEOUT (R198). -/
def execCfgChainTimeout (s : State) : Host.Outcome State Fault Refusal :=
  whilePowered s fun s =>
    if onChain s ∧ seconds (max 1 (s.rd Reg.CFG_CHAIN_CFG.WAIT_S)) ≤ (s.ck.time - s.cfg.chainT0).toNat then
      configAbort s ⟨0x030F, 0, noIndex⟩
    else s

/-- FLASH_SVC_ENABLE (02 R96, R97). -/
def execFlashSvcEnable (rq : Requester) (s : State) : Host.Outcome State Fault Refusal :=
  whilePowered s fun s => atRegister s rq 0xF00000074 true 1 fun s => writeFlashSvc s rq 1 0

/-- FLASH_SVC_DISABLE (02 R97). -/
def execFlashSvcDisable (rq : Requester) (late : Nat) (s : State) : Host.Outcome State Fault Refusal :=
  whilePowered s fun s => atRegister s rq 0xF00000074 true 0 fun s => writeFlashSvc s rq 0 late

/-- XSPI_READ_CMD (R192, R215). -/
def execXspiReadCmd (rq : Requester) (data : Nat) (din : List Byte) (s : State) : Host.Outcome State Fault Refusal :=
  whilePowered s fun s => atRegister s rq 0xF00200060 true data fun s => xspiCommand s rq data din

/-- XSPI_WRITE_CMD (R192, R215). -/
def execXspiWriteCmd (rq : Requester) (data : Nat) (s : State) : Host.Outcome State Fault Refusal :=
  whilePowered s fun s => atRegister s rq 0xF00200060 true data fun s => xspiCommand s rq data []

/-- SEC_KEY_REVOKE (R216, R217). -/
def execSecKeyRevoke (rq : Requester) (data : Nat) (s : State) : Host.Outcome State Fault Refusal :=
  whilePowered s fun s => atRegister s rq 0xF007000C4 true data fun s => revokeKeys s rq data

end Sys2Proof.Machine
end

