-- ==== Sys2Proof/Machine/Group.lean ====
section
/-! DEFINITION. Devices acting as one (chapter 16): Tether links, forming a group, group time, the mover, the group reset; and
the DDC words of chapter 11, which enter the fabric at port 6. -/

namespace Sys2Proof.Machine

/-! The group as the running image declares it (R735, R736). -/

/-- The GROUP body; empty where the image holds none. -/
def groupBody (s : State) : List Byte := s.cfg.groupBody.getD []

/-- The device belongs to a group. -/
def inGroup (s : State) : Bool := s.cfg.groupBody.isSome

/-- GRP_STAT.STATE. -/
def grpState (s : State) : Nat := s.rd Reg.GRP_STAT.STATE

/-- The device is a member other than the leader. -/
def isMember (s : State) : Bool := inGroup s && s.ownMember != 0

/-- The device is the leader. -/
def isLeader (s : State) : Bool := inGroup s && s.ownMember == 0

/-- Egress port toward a member; 0xFF for none. -/
def routeTo (s : State) (d : Nat) : Nat := groupRoute (groupBody s) s.ownMember d

/-- Members that the section declares, but the leader. -/
def declared (s : State) : List Nat := (List.range 8).filter fun h => h != 0 && groupRole (groupBody s) h != 0

/-- GRP_MEMBERS as one word. -/
def membersWord (s : State) : Nat :=
  s.rd Reg.GRP_MEMBERS.ADMITTED + 256 * s.rd Reg.GRP_MEMBERS.BENCHED + 65536 * s.rd Reg.GRP_MEMBERS.LOST

/-- GRP_MEMBERS takes a word that the leader reports. -/
def setMembers (s : State) (m : Nat) : State :=
  ((s.wr Reg.GRP_MEMBERS.ADMITTED m).wr Reg.GRP_MEMBERS.BENCHED (m / 256)).wr Reg.GRP_MEMBERS.LOST (m / 65536)

/-- A device excluded from group radio timing withdraws its radio (11 R539, R753). -/
def groupRadio (s : State) : State := if groupExcluded s then withdrawLater s 3 0 else s

/-! Tether links (R729-R734). -/

/-- A port beyond its registers. -/
def State.tether (s : State) (p : Nat) : Tether := Tbl.get s.grp.ports p {}

/-- A port replaced. -/
def State.setTether (s : State) (p : Nat) (x : Tether) : State :=
  { s with grp := { s.grp with ports := Tbl.put s.grp.ports p x {} } }

/-- GRP_TETHERp_STAT.STATE. -/
def portState (s : State) (p : Nat) : Nat := s.rd (Reg.GRP_TETHER_STAT.STATE p)

/-- A new frame leaves with the next SEQ while fewer than 512 are unacknowledged, else it waits; a NAK due goes with it (R730,
R731). -/
def launch (now : DWord) (x : Tether) (o : TetherOut) : Tether :=
  if x.unacked.length < 512 then
    { x with seq := (x.seq + 1) % 4096, nak := false, ackAt := if x.unacked = [] then now else x.ackAt,
             unacked := x.unacked ++ [{ o with seq := x.seq, ack := x.next, nak := x.nak }] }
  else { x with waiting := x.waiting ++ [o] }

/-- A frame handed to a port. -/
def sendFrame (s : State) (p : Nat) (o : TetherOut) : State := s.setTether p (launch s.ck.time (s.tether p) o)

/-- A message sent on its way to a member; without a link toward it nothing is sent (R737). -/
def sendMember (s : State) (d type : Nat) (m : GrpMsg) : State :=
  let p := routeTo s d
  if p < 4 ∧ (s.tether p).hello then sendFrame s p { seq := 0, type := type, member := d, msg := m } else s

/-- ACK from the peer: frames before it are dropped from the replay buffer, and frames that wait leave (R731). -/
def takeAck (now : DWord) (x : Tether) (ack : Nat) : Tether :=
  match x.unacked with
  | [] => x
  | o :: _ =>
    let n := (ack + 4096 - o.seq) % 4096
    if n = 0 ∨ x.unacked.length < n then x
    else x.waiting.foldl (launch now)
      { x with unacked := x.unacked.drop n, replays := 0, ackAt := now, waiting := [] }

/-- The leader loses its path to the admitted members behind a port (R741). -/
def losePath (s : State) (p : Nat) : State :=
  if isLeader s then
    ((ones (s.rd Reg.GRP_MEMBERS.ADMITTED) 8).filter fun h =>
      routeTo s h == p && !bit (s.rd Reg.GRP_MEMBERS.LOST) h).foldl
      (fun s h => (s.orBits Reg.GRP_MEMBERS.LOST (2 ^ h)).logEvent 224 0x240E h 0 0) s
  else s

/-- Descriptors not yet answered whose member lies behind a port end with STATUS 4 (R756). -/
def losePosts (s : State) (p : Nat) : State :=
  { s with grp := { s.grp with moves := s.grp.moves.map fun m =>
      if m.status.isNone && routeTo s m.member == p then { m with status := some 4 } else m } }

/-- A link goes down and its port retrains: 0 replay limit, 1 lost lock (R732, R733). -/
def linkDown (s : State) (p why : Nat) : State :=
  let s := s.bump (Reg.GRP_TETHER_DOWN.COUNT p) 1
  let s := s.logEvent (224 + p) 0x2402 p (s.rd (Reg.GRP_TETHER_RETRY.COUNT p)) why
  let s := (s.setTether p { rx := (s.tether p).rx, ackAt := s.ck.time }).wr (Reg.GRP_TETHER_STAT.STATE p) 1
  losePosts (losePath s p) p

/-- A replay of every unacknowledged frame; at the sixteenth without an advance of ACK the link goes down (R731, R732). -/
def replay (s : State) (p : Nat) : State :=
  let x := s.tether p
  if x.unacked = [] then s
  else
    let s := s.bump (Reg.GRP_TETHER_RETRY.COUNT p) 1
    let s := s.setTether p { x with replays := x.replays + 1, replayed := x.unacked, nak := false, ackAt := s.ck.time }
    if 16 ≤ x.replays + 1 then linkDown s p 0 else s

/-- A data, control or time frame is accepted in sequence (R730). -/
def acceptFrame (s : State) (p type vn : Nat) (f : List Byte) : State :=
  let x := s.tether p
  s.setTether p { x with next := (x.next + 1) % 4096, nak := false, nakSent := false, rx := x.rx ++ [⟨type, vn, slice f 4 80⟩] }

/-- Such a frame is discarded and counted, and NAK set once for the SEQ expected (R730). -/
def rejectFrame (s : State) (p : Nat) : State :=
  let x := s.tether p
  (s.bump (Reg.GRP_TETHER_CRC.COUNT p) 1).setTether p { x with nak := x.nak || !x.nakSent, nakSent := true }

/-- ACK and NAK of a frame that is not discarded. -/
def heedAck (s : State) (p ack : Nat) (nak : Bool) : State :=
  let s := s.setTether p (takeAck s.ck.time (s.tether p) ack)
  if nak then replay s p else s

/-- A frame on a trained port, with the codewords that its FEC corrected (R729-R731, R761). -/
def tetherFrame (s : State) (p : Nat) (f : List Byte) (fec : Nat) : State :=
  let s := s.bump (Reg.GRP_TETHER_FEC_CE.COUNT p) fec
  let w0 := field f 0 2
  let w1 := field f 2 2
  let type := bits w0 12 4
  let crcOk := f.length == 88 && field f 84 4 == crc32 (slice f 0 84)
  if type = 0 then if crcOk then heedAck s p (bits w1 0 12) (bit w1 14) else s
  else if 4 ≤ type then s
  else if crcOk ∧ bits w0 0 12 = (s.tether p).next then
    heedAck (acceptFrame s p type (bits w1 12 2) f) p (bits w1 0 12) (bit w1 14)
  else rejectFrame s p

/-! HELLO (R737, R742). -/

/-- A port has trained: the link starts afresh and HELLO goes out (R733, R737 step 2). -/
def trained (s : State) (p : Nat) : State :=
  let s := (s.setTether p { rx := (s.tether p).rx, ackAt := s.ck.time }).wr (Reg.GRP_TETHER_STAT.STATE p) 2
  sendFrame s p { seq := 0, type := 2, member := 8, msg := .hello (slice (groupBody s) 0 48) s.ownMember p }

/-- The device's manifest (R741). -/
def ownManifest (s : State) : List Byte :=
  let b := groupBody s
  leBytes 4 0x4D47584A ++ [1, BitVec.ofNat 8 s.ownMember, BitVec.ofNat 8 (groupRole b s.ownMember),
    BitVec.ofNat 8 (b2n s.yielded)] ++
  leBytes 2 (s.rd Reg.SYS_ID.REV_DIGIT + 256 * s.rd Reg.SYS_ID.REV_LETTER) ++ [0, 0] ++ slice b 56 4 ++ slice b 48 8 ++
  leBytes 8 (s.rdPair Reg.GRP_TIME_OFS_LO.OFS Reg.GRP_TIME_OFS_HI.OFS) ++
  leBytes 48 (s.cfg.digest.getD 0) ++ slice b 0 48

/-- A link is refused: it stays trained and carries only HELLO (R742). -/
def refuseLink (s : State) (p : Nat) : State :=
  (s.setTether p { s.tether p with hello := false }).wr (Reg.GRP_TETHER_STAT.STATE p) 3

/-- The peer's HELLO against the device's own GROUP section; on a member's port toward member 0 its manifest follows
(R737 steps 2 and 3, R739, R742). -/
def helloCheck (s : State) (p : Nat) (id : List Byte) (member peerPort epoch : Nat) : State :=
  let b := groupBody s
  let s := (s.wr (Reg.GRP_TETHER_STAT.PEER_MEMBER p) member).wr (Reg.GRP_TETHER_STAT.PEER_PORT p) peerPort
  if id ≠ slice b 0 48 then (refuseLink s p).logEvent (224 + p) 0x2403 p 1 member
  else if member = 0 ∧ s.ownMember = 0 then (refuseLink s p).logEvent (224 + p) 0x240B p (field b 48 4) epoch
  else if groupPort b s.ownMember p ≠ 128 + 16 * member + peerPort then
    (refuseLink s p).logEvent (224 + p) 0x2403 p 2 member
  else
    let s := (s.setTether p { s.tether p with hello := true }).wr (Reg.GRP_TETHER_STAT.STATE p) 2
    let s := s.logEvent (224 + p) 0x2401 p member peerPort
    if isMember s ∧ routeTo s 0 = p then sendMember s 0 2 (.manifest (ownManifest s)) else s

/-! Forming (R737-R740). -/

/-- The device goes on at step 13, where start-up stands at step 12. -/
def formed (s : State) : State := if s.pw.step = 12 then startupStep13 s else s

/-- The leader goes on once every declared member has been answered. -/
def leaderFormed (s : State) : State :=
  if isLeader s ∧ (declared s).all fun h => s.grp.answered.contains h then formed s else s

/-- Step 12 begins (R737, R738). -/
def formStart (s : State) : State := leaderFormed (groupForms s (groupBody s))

/-- JOINED or RESEND goes to a member of the chain, or acts on the leader itself for index 0 (R740, R744). -/
def tellChain (s : State) (h : Nat) (m : GrpMsg) (own : State → State) : State :=
  if h = 0 then own s else sendMember s h 2 m

/-- The CHAIN body is no longer forwarded after the pass in progress (R740, 04 R195). -/
def stopChain (s : State) : State := { s with cfg := { s.cfg with chainStop := true } }

/-- STATE 5, with its entry (R746). -/
def dissolved (s : State) (member reason : Nat) : State :=
  groupRadio ((s.wr Reg.GRP_STAT.STATE 5).logEvent 224 0x2407 member reason s.ownMember)

/-! The leader's judgement (R743-R747). -/

/-- Fields of a manifest (R741). -/
def manifestMember (m : List Byte) : Nat := field m 5 1
def manifestEpoch (m : List Byte) : Nat := field m 16 8

/-- The row of R743 that applies to a manifest from a device. -/
def verdict (s : State) (device : Nat) (m : List Byte) : Nat :=
  let b := groupBody s
  let h := manifestMember m
  let e := manifestEpoch m
  let own := field b 48 8
  let other := match Tbl.find s.grp.judged h with
    | some d => d != device
    | none => h == 0
  let rev := s.rd Reg.SYS_ID.REV_DIGIT + 256 * s.rd Reg.SYS_ID.REV_LETTER
  if field m 0 4 ≠ 0x4D47584A ∨ field m 4 1 ≠ 1 ∨ slice m 80 48 ≠ slice b 0 48 ∨ groupRole b h = 0 then 1
  else if other then 2
  else if e < own then if s.rd (Reg.GRP_MEMBER.YIELDS h) = 0 then 3 else 4
  else if own < e then 5
  else if slice m 32 48 ≠ slice b (64 + 64 * h + 16) 48 then 6
  else if field b 60 1 = 0 ∧ (field m 8 2 ≠ rev ∨ field m 12 4 ≠ field b 56 4) then 7
  else if field b 60 1 ≠ 0 ∧ (field m 9 1 ≠ rev / 256 ∨ field m 15 1 ≠ field b 59 1) then 7
  else 8

/-- A device counts as the one judged under its member index, and as answered. -/
def noteJudged (s : State) (h device : Nat) : State :=
  { s with grp := { s.grp with judged := Tbl.set s.grp.judged h device, answered := h :: s.grp.answered.filter (· != h) } }

/-- BENCH with its entry (R743, R745). -/
def benchMember (s : State) (h device e reason : Nat) : State :=
  let s := noteJudged s h device
  let s := ((s.clearBits Reg.GRP_MEMBERS.ADMITTED (2 ^ h)).orBits Reg.GRP_MEMBERS.BENCHED (2 ^ h)).clearBits
    Reg.GRP_MEMBERS.LOST (2 ^ h)
  (sendMember s h 2 (.bench (membersWord s))).logEvent 224 0x2405 h reason e

/-- ADMIT with its entry. -/
def admitMember (s : State) (h device e : Nat) : State :=
  let s := noteJudged s h device
  let s := ((s.orBits Reg.GRP_MEMBERS.ADMITTED (2 ^ h)).clearBits Reg.GRP_MEMBERS.BENCHED (2 ^ h)).clearBits
    Reg.GRP_MEMBERS.LOST (2 ^ h)
  (sendMember s h 2 (.admitted (membersWord s))).logEvent 224 0x2404 h (groupRole (groupBody s) h) e

/-- YIELD with its entry, and the chain sent again to the member (R743, R744). -/
def yieldMember (s : State) (h e : Nat) : State :=
  let s := s.bump (Reg.GRP_MEMBER.YIELDS h) 1
  let s := { s with grp := { s.grp with answered := h :: s.grp.answered.filter (· != h) } }
  let s := (sendMember s h 2 .yield).logEvent 224 0x2406 h e (s.rd (Reg.GRP_MEMBER.YIELDS h))
  tellChain s (h - 1) .resend resendChain

/-- DISSOLVE to every member judged, with the entries (R743, R746). -/
def dissolveGroup (s : State) (h device e reason : Nat) : State :=
  let s := (noteJudged s h device).logEvent 224 0x2405 h reason e
  let s := s.grp.answered.foldl (fun s d => sendMember s d 2 (.dissolve h reason)) s
  dissolved { s.wr Reg.GRP_STAT.INCLUDED 0 with grp := { s.grp with cause := (h, reason) } } h reason

/-- BENCH, or DISSOLVE where the entry's TOLERATE is 0. -/
def benchOrDissolve (s : State) (h device e reason : Nat) : State :=
  if bit (groupEntry (groupBody s) h 1 1) 0 then benchMember s h device e reason else dissolveGroup s h device e reason

/-- The row applied. -/
def applyVerdict (s : State) (device : Nat) (m : List Byte) (row : Nat) : State :=
  let h := manifestMember m
  let e := field m 16 4
  match row with
  | 2 => (sendMember s h 2 (.bench (membersWord s))).logEvent 224 0x2405 h 1 e
  | 3 => yieldMember s h e
  | 4 => benchMember s h device e 2
  | 5 => (benchMember s h device e 3).wr Reg.GRP_STAT.BEHIND 1
  | 6 => benchOrDissolve s h device e 4
  | 7 => benchOrDissolve s h device e 5
  | _ => admitMember s h device e

/-- A manifest reaches the leader (R740, R743, R746). -/
def judge (s : State) (device : Nat) (m : List Byte) : State :=
  let h := manifestMember m
  let row := verdict s device m
  let s := if h < 8 then s.wr (Reg.GRP_MEMBER.VERDICT h) row else s
  if row = 1 then s.logEvent 224 0x240A h (field m 0 4) 0
  else leaderFormed (applyVerdict (if h = 0 then s else tellChain s (h - 1) .joined stopChain) device m row)

/-- A manifest reaches the leader of a dissolved group (R746). -/
def dissolveLate (s : State) (m : List Byte) : State :=
  let h := manifestMember m
  if h < 8 then sendMember s h 2 (.dissolve s.grp.cause.1 s.grp.cause.2) else s

/-- The leader's answer at the member (R737 step 5). -/
def answered (s : State) (state members : Nat) : State := formed (groupRadio (setMembers (s.wr Reg.GRP_STAT.STATE state) members))

/-- FORM_WAIT_S is over (R737 step 6). -/
def formTimeout (s : State) : State :=
  if isMember s then
    if grpState s = 1 then
      let up := ([0, 1, 2, 3].filter fun p => portState s p == 2).foldl setBit 0
      formed ((s.wr Reg.GRP_STAT.STATE 4).logEvent 224 0x2409 s.ownMember up 0)
    else s
  else formed s

/-! Group time (R748-R753). -/

/-- Difference of two instants as a signed number. -/
def since (a b : DWord) : Int := (a - b).toInt

/-- The offset to the leader, in units of 2^−16 ticks (R749). -/
def groupOffset (s : State) : Int := sInt (s.rdPair Reg.GRP_TIME_OFS_LO.OFS Reg.GRP_TIME_OFS_HI.OFS) 64

/-- The offset lies within ±50 ns: 24.576 ticks (R752). -/
def withinLimit (o : Int) : Bool := decide (-1610612 ≤ o) && decide (o ≤ 1610612)

/-- INCLUDED changes: its entry, and on exclusion the withdrawal of radio (R752, R753). -/
def setIncluded (s : State) (inc why : Nat) : State :=
  let s := (s.wr Reg.GRP_STAT.INCLUDED inc).logEvent 224 0x2408 inc (ofInt (groupOffset s / 65536) 32) why
  groupRadio s

/-- Exclusion (R752). -/
def exclude (s : State) (why : Nat) : State :=
  setIncluded { s with grp := { s.grp with wasOut := true, goodAt := none } } 0 why

/-- An exchange takes the offset and the path delay (R748, R749). -/
def takeOffset (s : State) (t1 t2 t3 t4 : DWord) (parentOfs : Int) : State :=
  let a := since t2 t1
  let b := since t4 t3
  let offs := (s.grp.offs ++ [a - b]).drop (s.grp.offs.length - 15)
  let s := { s with grp := { s.grp with offs := offs, fails := 0 } }
  let o := if offs.length = 16 then 2048 * offs.sum + parentOfs else 0
  (s.wrPair Reg.GRP_TIME_OFS_LO.OFS Reg.GRP_TIME_OFS_HI.OFS (ofInt o 64)).wr Reg.GRP_TIME_DELAY.TICKS (ofInt ((a + b) / 2) 32)

/-- Lock starts at the first exchange after the leader's answer (R751). -/
def startLock (s : State) : State :=
  if !s.flag Reg.GRP_TIME_STAT.LOCKED ∧ [2, 3, 5].contains (grpState s) then
    { s.wr Reg.GRP_TIME_STAT.LOCKED 1 with grp := { s.grp with lockAt := s.ck.time } }
  else s

/-- Eight seconds have passed since an instant. -/
def eightSeconds (s : State) (t : DWord) : Bool := decide (8 * ticksPerSecond ≤ (s.ck.time - t).toNat)

/-- INCLUDED after an exchange (R751, R752). -/
def judgeOffset (s : State) : State :=
  let good := withinLimit (groupOffset s)
  if s.flag Reg.GRP_STAT.INCLUDED then if good then s else exclude s 0
  else
    let since_ := s.grp.goodAt.getD s.ck.time
    let s := { s with grp := { s.grp with goodAt := if good then some since_ else none } }
    if good ∧ s.flag Reg.GRP_TIME_STAT.LOCKED ∧ eightSeconds s s.grp.lockAt ∧ (!s.grp.wasOut ∨ eightSeconds s since_) then
      setIncluded s 1 0
    else s

/-- The servo: a step of the negated offset, or a new rate, whose value the spec leaves open (R750). -/
def servo (s : State) : State :=
  if s.flag Reg.GRP_TIME_CFG.HW_SERVO then
    let o := groupOffset s
    if !s.radioReleased ∧ (o < -134217728 ∨ 134217728 < o) then
      { s with ck := { s.ck with step := some (BitVec.ofInt 64 (-(o / 65536))) } }
    else (s.wr Reg.CLK_RATE.RATE (clampRate (s.freeVal 32))).useFresh
  else s

/-- A time frame on the link at a port, with the offset to the leader that this device reports (R748, R749). -/
def sendTime (s : State) (p : Nat) : State :=
  if p < 4 ∧ (s.tether p).hello then
    sendFrame s p { seq := 0, type := 3, member := s.rd (Reg.GRP_TETHER_STAT.PEER_MEMBER p), msg := .time (groupOffset s) }
  else s

/-- An exchange that has failed: the sixteenth in a row excludes (R752). -/
def exchangeFails (s : State) : State :=
  let n := s.grp.fails + 1
  let s := { s with grp := { s.grp with fails := n } }
  if 16 ≤ n ∧ s.flag Reg.GRP_STAT.INCLUDED then exclude s 1 else s

/-- Whole seconds since lock start, as GRP_TIME_STAT shows them. -/
def lockSeconds (s : State) : Nat :=
  if s.flag Reg.GRP_TIME_STAT.LOCKED then min 255 ((s.ck.time - s.grp.lockAt).toNat / ticksPerSecond) else 0

/-! The mover (R754-R756). -/

/-- The requester that the mover is on its own device. -/
def moverRq (cls : Nat) : Requester := ⟨40, cls⟩

/-- A descriptor as read. -/
def readMove (bs : List Byte) : Move :=
  { op := field bs 0 1, member := field bs 1 1, qclass := field bs 2 1, queue := field bs 3 1, length := field bs 4 4,
    local_ := field bs 8 8, remote := field bs 16 8, cq := field bs 24 1, tag := field bs 26 2 }

/-- The descriptor holds no reserved value (R754). -/
def moveOk (own : Nat) (bs : List Byte) (m : Move) : Bool :=
  decide (1 ≤ m.op) && decide (m.op ≤ 3) && decide (m.member ≤ 7) && m.member != own && decide (m.qclass ≤ 3) &&
  (if m.op = 3 then decide (m.queue ≤ 127) && m.length % 8 == 0 && decide (8 ≤ m.length) && decide (m.length ≤ 4096) && m.remote == 0
   else m.queue == 0 && m.length % 64 == 0 && decide (64 ≤ m.length) && decide (m.length ≤ 4194304) && m.remote % 64 == 0) &&
  m.local_ % 64 == 0 && decide (m.cq ≤ 127) && field bs 25 1 == 0 && field bs 28 4 == 0

/-- The named member takes group work, and so does the device itself (R745, R754, R756). -/
def moveAllowed (s : State) (m : Move) : Bool :=
  grpState s == 2 && (m.member == 0 || bit (s.rd Reg.GRP_MEMBERS.ADMITTED) m.member)

/-- The mover takes the descriptor posted (R754, R756). -/
def postMove (s : State) : State :=
  let a := s.rdPair Reg.GRP_MOVE_POST_LO.ADDR Reg.GRP_MOVE_POST_HI.ADDR
  match s.busRead (moverRq 0) a 32 with
  | (s, none) => s.logEvent 224 0x240F 0 3 0
  | (s, some (bs, _)) =>
    let m := readMove bs
    let st := if moveOk s.ownMember bs m ∧ moveAllowed s m then none else some 1
    { s with grp := { s.grp with moves := s.grp.moves ++ [{ m with status := st }] } }

/-- The first descriptor of an operation among the sixteen carried out that has no status yet, replaced. -/
def setMove (op : Nat) (f : Move → Move) : Nat → List Move → List Move
  | 0, ms => ms
  | _, [] => []
  | n + 1, m :: ms => if m.op = op ∧ m.status.isNone then f m :: ms else m :: setMove op f n ms

/-- That descriptor. -/
def nextMove (s : State) (op : Nat) : Option Move := (s.grp.moves.take 16).find? fun m => m.op == op && m.status.isNone

/-- It has a status and its bytes. -/
def moveDone (s : State) (op status : Nat) (bs : List Byte) : State :=
  { s with grp := { s.grp with moves := setMove op (fun m => { m with status := some status, data := bs }) 16 s.grp.moves } }

/-- STATUS by the remote device's answer: done, bus error there, link lost. -/
def remoteStatus (remote : Nat) : Nat := if remote = 2 ∨ remote = 4 then remote else 0

/-- A write or a push: local bytes read and sent to the member (R755). -/
def moveOut (s : State) (op remote : Nat) (msg : Move → List Byte → GrpMsg) : State :=
  match nextMove s op with
  | none => s
  | some m =>
    match s.busRead (moverRq m.qclass) m.local_ m.length with
    | (s, none) => moveDone s op 3 []
    | (s, some (_, true)) => moveDone s op 3 []
    | (s, some (bs, false)) => moveDone (sendMember s m.member 1 (msg m bs)) op (remoteStatus remote) bs

/-- A read: the bytes that the member answered written to local memory (R755). -/
def moveIn (s : State) (remote : Nat) (bytes : List Byte) : State :=
  match nextMove s 2 with
  | none => s
  | some m =>
    let s := sendMember s m.member 1 (.request false m.qclass m.remote [])
    if remoteStatus remote ≠ 0 then moveDone s 2 (remoteStatus remote) []
    else
      let bs := slice bytes 0 m.length
      let (s, ok) := s.busWrite (moverRq m.qclass) m.local_ bs
      moveDone s 2 (if ok then 0 else 3) bs

/-- The first descriptor with a status, and the others. -/
def takeDone : List Move → Option (Move × Nat × List Move)
  | [] => none
  | m :: ms => match m.status with
    | some st => some (m, st, ms)
    | none => (takeDone ms).map fun r => (r.1, r.2.1, m :: r.2.2)

/-- A descriptor completes: an end-marked word with TAG and STATUS in its completion queue (R756). -/
def completeMove (s : State) : State :=
  match takeDone s.grp.moves with
  | none => s
  | some (m, st, ms) =>
    let s := pushPacket { s with grp := { s.grp with moves := ms } } (m.cq % 128) (leBytes 8 (m.tag + 65536 * st)) 40
    if st = 0 then s else s.logEvent 224 0x240F m.tag st m.member

/-! Group reset (R757, R758). -/

/-- RESET sent to the members of a mask; where the leader is not among them, the chain goes again to each whose neighbour toward
member 0 was not reset with it. -/
def sendResets (s : State) (mask rq : Nat) : State :=
  let hs := (ones mask 8).filter (· != 0)
  let s := hs.foldl (fun s h => sendMember s h 2 .reset) s
  let s := s.logEvent 224 0x240C mask 0 rq
  if bit mask 0 then { s with grp := { s.grp with resetAt := some s.ck.time } }
  else (hs.filter fun h => !bit mask (h - 1)).foldl (fun s h => tellChain s (h - 1) .resend resendChain) s

/-- A write to GRP_RESET. -/
def writeGrpReset (s : State) (rq : Requester) (data : Nat) : State :=
  if bits data 16 16 ≠ 0x6B71 then (s.logEvent 224 0x010C 0xF04800010 data rq.ni).answer 0
  else if isLeader s ∧ grpState s = 2 then (sendResets s (bits data 0 8) rq.ni).answer 0
  else (s.logEvent 224 0x240D 0xF04800010 data rq.ni).answer 0

/-- A RESET frame waits for its acknowledgement. -/
def resetUnacked (s : State) : Bool :=
  [0, 1, 2, 3].any fun p => ((s.tether p).unacked ++ (s.tether p).waiting).any fun o => o.msg == .reset

/-- RESET at a member from `source`, or the leader's own reset when it is due. -/
def groupReset (s : State) (source late : Nat) : State :=
  if isMember s then if source = 0 then warmReset s 3 late else s
  else match s.grp.resetAt with
    | some t => if !resetUnacked s ∨ 491520 ≤ (s.ck.time - t).toNat then warmReset s 3 late else s
    | none => s

/-! DDC words (11 R504, R505, 07 R353, R355). -/

/-- The DDC stream of ADC chain `a` is in use and runs. -/
def ddcRuns (s : State) (a st : Nat) : Bool := streamRuns s a st

/-- A DDC word reaches port 6, which presents it on its lane of the converter link. -/
def ddcWord (s : State) (a st : Nat) (word : Word) : State :=
  let l := 2 * a + st
  if s.domUp 16 ∧ bit (s.rd (Reg.GFB_SP_CFG.CONV 6)) l then
    let s := if bit (s.rd Reg.GFB_CUT_CFG.PAIRS) l then cutPresent s l else s
    if takesIn s (portRegion 6) then
      let (i, il) := portLane 6 l
      sendTo s 102 i il ⟨word, true⟩
    else s
  else s

/-! The commands. -/

/-- TETHER_FRAME_RECEIVE (R729-R731). -/
def execTetherFrameReceive (port : Nat) (frame : List Byte) (fec : Nat) (s : State) : Host.Outcome State Fault Refusal :=
  whilePowered s fun s => if 2 ≤ portState s (port % 4) then tetherFrame s (port % 4) frame fec else s

/-- TETHER_REPLAY_TIMEOUT (R731, R732). -/
def execTetherReplayTimeout (port : Nat) (s : State) : Host.Outcome State Fault Refusal :=
  whilePowered s fun s =>
    if 2 ≤ portState s (port % 4) ∧ 983 ≤ (s.ck.time - (s.tether (port % 4)).ackAt).toNat then replay s (port % 4) else s

/-- TETHER_TRAINED (R733, R737 step 2). -/
def execTetherTrained (port : Nat) (s : State) : Host.Outcome State Fault Refusal :=
  whilePowered s fun s => if portState s (port % 4) = 1 ∧ inGroup s then trained s (port % 4) else s

/-- TETHER_TRAIN_RETRY (R733). -/
def execTetherTrainRetry (port : Nat) (s : State) : Host.Outcome State Fault Refusal :=
  whilePowered s fun s =>
    let x := s.tether (port % 4)
    if portState s (port % 4) = 1 ∧ 24576000 ≤ (s.ck.time - x.ackAt).toNat then
      s.setTether (port % 4) { x with ackAt := s.ck.time }
    else s

/-- GROUP_FORM_START (R737, R738). -/
def execGroupFormStart (s : State) : Host.Outcome State Fault Refusal :=
  whilePowered s fun s => if s.pw.step = 12 ∧ inGroup s ∧ grpState s = 0 then formStart s else s

/-- HELLO (R742): the peer's GROUP_ID, member index and port, and bits [31:0] of its EPOCH. -/
def execHello (port : Nat) (groupId : List Byte) (member peerPort epoch : Nat) (s : State) : Host.Outcome State Fault Refusal :=
  whilePowered s fun s =>
    if 2 ≤ portState s (port % 4) ∧ inGroup s then helloCheck s (port % 4) groupId (member % 8) (peerPort % 4) epoch else s

/-- MANIFEST (R739-R743): the manifest of a device, which the leader tells apart by where it comes from. -/
def execManifest (device : Nat) (manifest : List Byte) (s : State) : Host.Outcome State Fault Refusal :=
  whilePowered s fun s =>
    if isLeader s ∧ grpState s = 2 then judge s device manifest
    else if isLeader s ∧ grpState s = 5 then dissolveLate s manifest
    else s

/-- ADMIT (R737 step 5), with GRP_MEMBERS as the leader reports it. -/
def execAdmit (members : Nat) (s : State) : Host.Outcome State Fault Refusal :=
  whilePowered s fun s => if isMember s then answered s 2 members else s

/-- BENCH (R737 step 5, R745). -/
def execBench (members : Nat) (s : State) : Host.Outcome State Fault Refusal :=
  whilePowered s fun s => if isMember s then answered s 3 members else s

/-- YIELD (R744): domains in `late` do not acknowledge their fence. -/
def execYield (late : Nat) (s : State) : Host.Outcome State Fault Refusal :=
  whilePowered s fun s => if isMember s then warmReset { s with yielded := true } 3 late else s

/-- DISSOLVE (R746). -/
def execDissolve (member reason : Nat) (s : State) : Host.Outcome State Fault Refusal :=
  whilePowered s fun s => if isMember s then formed (dissolved s member reason) else s

/-- JOINED (R740, 04 R195). -/
def execJoined (s : State) : Host.Outcome State Fault Refusal :=
  whilePowered s fun s => if inGroup s then stopChain s else s

/-- RESEND (R744). -/
def execResend (s : State) : Host.Outcome State Fault Refusal :=
  whilePowered s fun s => if inGroup s then resendChain s else s

/-- GRP_FORM_TIMEOUT (R737 step 6). -/
def execGrpFormTimeout (s : State) : Host.Outcome State Fault Refusal :=
  whilePowered s fun s =>
    if s.pw.step = 12 ∧ inGroup s ∧ seconds (field (groupBody s) 62 2) ≤ (s.ck.time - s.grp.formAt).toNat then formTimeout s
    else s

/-- TIME_EXCHANGE (R748-R752): with `child`, the port of a child, the device is the parent and sends its time frame; else it is the
child, with the four instants of the exchange, corrected for the ports' latencies, and the parent's mean offset in units of
2^−16 ticks, or an exchange that has failed. -/
def execTimeExchange (child : Option Nat) (ok : Bool) (t1 t2 t3 t4 : DWord) (parentOfs : Int) (s : State) :
    Host.Outcome State Fault Refusal :=
  whilePowered s fun s =>
    match child with
    | some p => if inGroup s then sendTime s p else s
    | none =>
      if isMember s then
        if ok then servo (judgeOffset (startLock (takeOffset (sendTime s (routeTo s 0)) t1 t2 t3 t4 parentOfs))) else exchangeFails s
      else s

/-- MOVE_POST (R754, R756, R760): a write to GRP_MOVE_POST_HI. -/
def execMovePost (rq : Requester) (data : Nat) (s : State) : Host.Outcome State Fault Refusal :=
  whilePowered s fun s => atRegister s rq 0xF04800034 true data fun s =>
    (postMove (s.wr Reg.GRP_MOVE_POST_HI.ADDR data)).answer 0

/-- MOVE_WRITE (R754-R756): the remote device's answer is 0 done, 2 bus error, 4 link lost. -/
def execMoveWrite (remote : Nat) (s : State) : Host.Outcome State Fault Refusal :=
  whilePowered s fun s => moveOut s 1 remote fun m bs => .request true m.qclass m.remote bs

/-- MOVE_READ (R754-R756). -/
def execMoveRead (remote : Nat) (bytes : List Byte) (s : State) : Host.Outcome State Fault Refusal :=
  whilePowered s fun s => moveIn s remote bytes

/-- MOVE_PUSH (R754-R756). -/
def execMovePush (remote : Nat) (s : State) : Host.Outcome State Fault Refusal :=
  whilePowered s fun s => moveOut s 3 remote fun m bs => .push m.qclass m.queue bs

/-- MOVE_COMPLETE (R756). -/
def execMoveComplete (s : State) : Host.Outcome State Fault Refusal := whilePowered s completeMove

/-- GRP_RESET (R757, R758, R760). -/
def execGrpReset (rq : Requester) (data : Nat) (s : State) : Host.Outcome State Fault Refusal :=
  whilePowered s fun s => atRegister s rq 0xF04800010 true data fun s => writeGrpReset s rq data

/-- TETHER_GROUP_RESET (R757, R758, 02 R102). -/
def execTetherGroupReset (source late : Nat) (s : State) : Host.Outcome State Fault Refusal :=
  whilePowered s fun s => if inGroup s then groupReset s source late else s

/-- TETHER_LOCK_LOST (R732, R733). -/
def execTetherLockLost (port : Nat) (s : State) : Host.Outcome State Fault Refusal :=
  whilePowered s fun s => if 2 ≤ portState s (port % 4) then linkDown s (port % 4) 1 else s

/-- DDC_WORD_PRESENTED (11 R504, R505, 07 R355, R356): a word of an ADC chain's stream, with the samples since the last word that
stood at an end of the code range. -/
def execDdcWordPresented (chain stream : Nat) (word : Word) (ovr : Nat) (s : State) : Host.Outcome State Fault Refusal :=
  whilePowered s fun s =>
    if ddcRuns s (chain % 4) (stream % 2) then
      ddcWord (s.bump (Reg.RAD_ADC_OVR.COUNT (chain % 4)) ovr) (chain % 4) (stream % 2) word
    else s

end Sys2Proof.Machine
end

