-- ==== Sys2Proof/Machine/Power.lean ====
section
/-! DEFINITION. Power modes, start-up, supplies, resets and the thermal governor (chapter 02, 15 R722-R726, 17 R766-R771): the
commands. -/

namespace Sys2Proof.Machine

/-! VDD_CEL and VDD_IO33 (02 R72, 17 R770-R774). -/

/-- What outlives VDD_CEL: the part, the queue, the fuses, and the bytes of the memories, which the model lets stand. -/
def powerCycle (s : State) : State :=
  { State.reset with part := s.part, pending := s.pending, fresh := s.fresh, cfg := { keyRevoked := s.cfg.keyRevoked, svnFloor := s.cfg.svnFloor }
                     mem := { dram := s.mem.dram, larder := s.mem.larder, sram := s.mem.sram } }

/-- VDD_CEL loses power-good: OFF, the log and device time lost (R105, 17 R774). -/
def powerLost (s : State) : State :=
  let s := powerCycle s
  { s with log := {}, pw := { s.pw with off := true } }

/-! Entering and leaving the modes (R72-R85). -/

/-- A domain fenced for STANDBY with what it holds retained (R78 step 5). -/
def retainOff (s : State) (late : Nat) (d : Nat) : State :=
  if s.domOn d then
    let s := (fenceArrives s d (!bit late d)).clearBits Reg.SYS_DOM_STATE.DOM (2 ^ d)
    match d with
    | 2 => { s with noc := {} }
    | 3 => { s with hatch := {}, cfg := { s.cfg with sectionDigests := [] } }
    | _ => s
  else s

/-- DRAM enters self-refresh with its queues empty: core 0 has written back the L2, and every access that the controllers had accepted
is served (R78 steps 3 and 4, 05 R257). -/
def enterSelfRefresh (s : State) : State :=
  let s := (s.mem.l2.filter fun x => x.2.dirty).foldl (fun s x => (writeRange s ⟨36, 0⟩ (64 * x.1) x.2.data).1) s
  let s := (s.noc.queue.filter fun r => accessDomain r == 1).foldl serveLine { s with mem := { s.mem with l2 := [] } }
  s.wr Reg.MEM_STAT.SELF_REFRESH 1

/-- RUN to STANDBY (R78). -/
def enterStandby (s : State) (late : Nat) : State :=
  let kept := s.rd Reg.SYS_DOM_STATE.DOM &&& fullMask
  let s := shedTenants (beginTransition { s with pw := { s.pw with keptTier := s.tier, keptDom := kept } } 2) 2
  let s := enterSelfRefresh (fenceMask s fullMask late)
  let s := [1, 2, 3, 4].foldl (fun s d => retainOff s late d) s
  let s := lowerChannels (unlockClock (setTier s 1)) [7, 6, 2]
  enterMode { s with pw := { s.pw with core0Retained := true, avs := 650, avsRead := 650 } } 2

/-- A rail fault: 0 never up, 1 dropped (R100, R101, R104). -/
def railFault (s : State) (ch why : Nat) : State :=
  let before := s.mode
  let s := forcedCellar (s.logEvent 234 0x0113 ch why before) 6
  { s with pw := { s.pw with railFaulted := true, railRetry := decide (2 ≤ before), railAt := s.ck.time } }

/-- The Ground tier again after STANDBY, its channels up (R79, 05 R258).  VDD_CORE stands at its boot voltage, or at the floor of
Deterministic mode, whatever stood before STANDBY: the spec names no set point here (DESIGN CHOICE, log entry 88). -/
def resumeGround (s : State) : State :=
  let avs := if s.ck.floorDet then 800 else 750
  let s := lockClock { s with pw := { s.pw with avs := avs, avsRead := avs, refclk := true } }
  startScrub (startRefresh (setTier ((onMask s groundMask).wr Reg.MEM_STAT.SELF_REFRESH 0) 2))

/-- The Full tier again from the resume image (R79, 04 R191). -/
def resumeFull (s : State) (b : List Byte) : State :=
  let s := { s with cfg := { s.cfg with sectionDigests := digestTable b s.cfg.hdr } }
  if s.pw.keptTier = 3 then fullUnits (setTier (onMask s s.pw.keptDom) 3) b s.cfg.hdr else s

/-- The resume once its channels are up: the digest decides (R79-R81). -/
def resumeUp (s : State) : State :=
  let s := resumeGround s
  let b := resumeImage s
  if s.cfg.resumeDigest = some (leNat (imageDigest b s.cfg.hdr)) then
    enterMode { resumeFull s b with pw := { s.pw with core0Retained := false } } 3
  else warmReset (s.logEvent 234 0x0114 ((s.cfg.hdr.imageLen + 256) / 1024) 0 0) 5 0

/-- STANDBY to RUN, with the wake sources that caused it; `bad` names a channel whose power-good fails to assert (R79-R81, R99,
R100). -/
def resume (s : State) (cause : Nat) (bad : Option Nat) : State :=
  let s := (beginTransition s 3).wr Reg.SYS_WAKE_CAUSE.SOURCES cause
  match raiseInOrder s bad (if s.pw.keptTier = 3 then [2, 6, 7] else [2]) with
  | (s, some c) => railFault s c 0
  | (s, none) => resumeUp s

/-- Domains that HOLDOVER entry switches off: vision, PCIe, and the engines and regions that carry no radio work (R83, R84). -/
def holdoverMask (s : State) : Nat :=
  (List.range 23).foldl (fun m d =>
    if s.domOn d && (d == 20 || d == 22 || (decide (6 ≤ d) && decide (d ≤ 15) && !s.domRadio d)) then setBit m d else m) 0

/-- RUN to HOLDOVER (R83).  A domain that another off request is already fencing is not among those that HOLDOVER switches off (R69,
R85). -/
def enterHoldover (s : State) (late : Nat) : State :=
  let m := holdoverMask s
  let s := shedTenants (beginTransition { s with pw := { s.pw with keptDom := andNot m s.pw.fenceReq } } 4) 1
  enterMode (fenceMask s m late) 4

/-- HOLDOVER to RUN (R85). -/
def leaveHoldover (s : State) : State := enterMode (onMask (beginTransition s 3) s.pw.keptDom) 3

/-- RUN, HOLDOVER or STANDBY to CELLAR (R72). -/
def enterCellar (s : State) (late : Nat) : State :=
  let s := groundOff (beginTransition s 1) late
  let s := (s.wr Reg.MEM_STAT.TRAINED 0).wr Reg.MEM_STAT.SELF_REFRESH 0
  enterMode { s with pw := { s.pw with core0Retained := false, step := 0 } } 1

/-- A request for RUN in CELLAR: start-up at step 6, or at step 4 after a warming period that has expired; a start-up that waits
cold, or has yet to begin, is what the request asks for (R72, R91, R94, R97).  The spec gives step 6 after an abort, a rail fault, a
trip and flash service; after a firmware request for CELLAR and an absent REFCLK the model takes it too (DESIGN CHOICE, log entry
87). -/
def runFromCellar (s : State) (rq late : Nat) : State :=
  if s.pw.coldWait ∨ (1 ≤ s.pw.step ∧ s.pw.step ≤ 3) then s
  else if s.pw.step = 4 then startupStep4 s 4
  else startupStep6 (endFlash s rq late)

/-- The transition is in the table of R72 for a firmware request (R72, R73, R114, 15 R726). -/
def transitionAllowed (s : State) (target : Nat) : Bool :=
  match target with
  | 1 => s.mode != 1
  | 2 => s.mode == 3 && !s.radioReleased
  | 3 => s.mode != 3 && !s.flag Reg.CEL_HOLD_STAT.CUT && !(s.mode == 1 && s.pw.tripped && decide (800 < tjMax s))
  | 4 => s.mode == 3
  | _ => false

/-- A firmware request for a mode (R72-R74). -/
def requestMode (s : State) (rq target late : Nat) (bad : Option Nat) : State :=
  if s.busy then s.logEvent 234 0x0109 s.mode (s.rd Reg.SYS_PWR_MODE.TARGET) target
  else if !transitionAllowed s target then s.logEvent 234 0x0108 s.mode target rq
  else match target with
    | 1 => enterCellar s late
    | 2 => enterStandby s late
    | 4 => enterHoldover s late
    | _ => if s.mode = 1 then runFromCellar s rq late else if s.mode = 2 then resume s 0 bad else leaveHoldover s

/-- A request through SYS_PWR_REQ: `late` names the domains whose FENCE_ACK does not come in time, `bad` a channel of a STANDBY exit
whose power-good does not. -/
def writePwrReq (s : State) (rq : Requester) (target late : Nat) (bad : Option Nat) : State :=
  (requestMode s rq.ni target late bad).answer 0

/-- A wake source acts in STANDBY (R72, R79). -/
def wakeUp (s : State) (source : Nat) (bad : Option Nat) : State :=
  if s.mode = 2 ∧ !s.busy ∧ source < 5 ∧ bit (s.rd Reg.SYS_WAKE_EN.SOURCES) source then
    resume { s with cel := { s.cel with wake := clrBit s.cel.wake source } } (2 ^ source) bad
  else s

/-- The mains-loss trigger, or the one latched in the transition that has ended in RUN (R72, R76, R83). -/
def mainsTrigger (s : State) (late : Nat) : State :=
  if s.pw.mainsTrig then
    let s := { s with pw := { s.pw with mainsTrig := false } }
    if s.busy then { s.wr Reg.SYS_PWR_STAT.MAINS_LOST 1 with pw := { s.pw with mainsLatched := true } }
    else if s.mode = 3 then enterHoldover s late
    else s
  else if s.pw.mainsLatched ∧ s.flag Reg.SYS_PWR_STAT.MAINS_LOST ∧ s.mode = 3 ∧ !s.busy then enterHoldover s late
  else s

/-- The mains-loss source has shown mains present for HOLD_DWELL_S without a break (R85, 15 R723). -/
def mainsDwell (s : State) : State :=
  if s.flag Reg.SYS_HOLD_CFG.SRC ∧ !s.pw.mainsLost ∧
      s.pw.mainsBack + seconds (max 1 (s.rd Reg.SYS_HOLD_CFG.HOLD_DWELL_S)) ≤ s.now then
    let s := setBattery s false
    if s.mode = 4 ∧ !s.busy then leaveHoldover s else s
  else s

/-- The battery cut (15 R725, R726). -/
def batteryCut (s : State) : State :=
  match s.cel.battLow with
  | some t =>
    if s.flag Reg.CEL_HOLD_STAT.ON_BATTERY ∧ !s.flag Reg.CEL_HOLD_STAT.CUT ∧
        t + seconds (s.rd Reg.CEL_HOLD_CUT.DWELL_S) ≤ s.now then
      let s := (s.wr Reg.CEL_HOLD_STAT.CUT 1).logEvent 236 0x2014
        (s.rd (Reg.CEL_ADC_RES.CODE (s.rd Reg.CEL_HOLD_CUT.BATT_CH))) (s.rd Reg.CEL_HOLD_CUT.CODE) s.mode
      if s.mode = 1 then s
      else requestMode (if s.radioReleased then withdrawLater s 1 44 else s) 44 1 0 none
    else s
  | none => s

/-! Start-up (R86-R94). -/

/-- The cellar core starts (R86 step 1, R108, 15 R709). -/
def coreStarts (s : State) : State :=
  let s := setCellarClk s .rc
  let s := { s.wr Reg.SYS_WDOG_CFG.EN 1 with wl := Reg.SYS_WDOG_CFG.EN.key :: s.wl, pw := { s.pw with kick := s.ck.time, step := 2 } }
  beginTransition (loadDefaultModel s) 3

/-- Start-up begins after a reset (R86, R106). -/
def startUp (s : State) : State :=
  let s := noteReset s
  match s.pw.step with
  | 1 => coreStarts s
  | 3 => startupStep3 s
  | _ => s

/-- The FLL locks, and Floor samples MFIO63 and TJ_MIN (R86 steps 2 and 3, 15 R717). -/
def fllLocks (s : State) (tj : BitVec 16) (mfio63 : Bool) : State :=
  if s.pw.step = 2 ∧ s.pw.xtalOk then
    let s := setTjMin (setCellarClk s .fll) tj
    startupStep3 (if mfio63 then applyPlantPlan s else s)
  else s

/-- TJ_MIN reaches −20 °C in warming, or after it has expired (R86 step 5, R91). -/
def warmReached (s : State) (tj : BitVec 16) : State :=
  let s := setTjMin s tj
  if tjMin s < -160 then s
  else if s.pw.step = 5 then
    let s := endLoad s
    startupStep6 (s.logEvent 234 0x010F (tjExt tj.toNat) (s.rd Reg.SYS_WARM_STAT.ELAPSED_S) 0)
  else if s.pw.step = 4 ∧ !s.pw.coldWait then startupStep6 s
  else s

/-- LIMIT_MIN minutes of warming have passed with TJ_MIN below −20 °C (R90). -/
def warmExpires (s : State) (tj : BitVec 16) : State :=
  let s := setTjMin s tj
  if s.pw.step = 5 ∧ tjMin s < -160 ∧ seconds (60 * max 1 (s.rd Reg.SYS_WARM_CFG.LIMIT_MIN)) ≤ (s.ck.time - s.pw.warmStart).toNat then
    let s := endLoad s
    let s := (s.wr Reg.SYS_WARM_STAT.EXPIRED 1).logEvent 234 0x010F (tjExt tj.toNat) (s.rd Reg.SYS_WARM_STAT.ELAPSED_S) 1
    lowerAll (endTransition { s with pw := { s.pw with step := 4 } })
  else s

/-- Floor's reading of TJ_MIN while start-up waits cold (R94). -/
def coldReading (s : State) (tj : BitVec 16) : State :=
  let s := setTjMin s tj
  if !s.pw.coldWait then s
  else if -160 ≤ tjMin s then startupStep6 s
  else if s.flag Reg.SYS_WARM_CFG.WARM_EN then startWarming (beginTransition s 3)
  else s

/-- A channel's power-good asserts (R98, R99). -/
def channelGood (s : State) (ch : Nat) : State :=
  match s.pw.raise with
  | c :: rest =>
    if c = ch ∧ bit s.pw.chEn ch then
      let s := enableNext { s with pw := { s.pw with chPg := setBit s.pw.chPg ch, raise := rest } }
      if s.pw.raise = [] then channelsUp s else s
    else s
  | [] => s

/-- REFCLK is detected (R86 step 7, R96); the pointer block is read next (04 R215). -/
def refclkFound (s : State) : State :=
  if s.pw.step = 7 then
    (onMask (lockClock { s with pw := { s.pw with refclk := true, step := 8 } }) groundMask).wr Reg.CFG_STAT.PHASE 1
  else if s.pw.flashWait ∧ s.pw.raise = [] then flashActive s
  else s

/-- REFCLK is missing after 100 ms (R93, R96). -/
def refclkMissing (s : State) : State :=
  if s.pw.step = 7 then startupEnds (lowerAll (s.logEvent 234 0x0117 4915200 0 0))
  else if s.pw.flashWait ∧ s.pw.raise = [] then
    let s := lowerChannels (s.logEvent 234 0x0117 4915200 0 0) [2, 1, 0]
    { s.wr Reg.SYS_FLASH_SVC.EN 0 with pw := { s.pw with flashWait := false } }
  else s

/-! Domain requests (R61-R69). -/

/-- The refused bits of a domain request are logged once. -/
def refuseDomains (s : State) (rq : Requester) (bad on : Nat) : State :=
  if bad = 0 then s else s.logEvent 234 0x010B bad on rq.ni

/-- A write to SYS_DOM_ON_REQ (R61-R63, R68, R69). -/
def domainOnRequest (s : State) (rq : Requester) (data : Nat) : State :=
  let m := data % 2 ^ 23
  let bad := m &&& (groundMask ||| s.part.fused ||| if s.tier < 2 then fullMask else 0)
  let s := refuseDomains s rq bad 1
  ((ones (andNot m bad) 23).foldl onRequest s).answer 0

/-- A write to SYS_DOM_OFF_REQ (R61, R64, R67, R69). -/
def domainOffRequest (s : State) (rq : Requester) (data : Nat) : State :=
  let m := data % 2 ^ 23
  let s := refuseDomains s rq (m &&& groundMask) 0
  ((ones (andNot m groundMask) 23).foldl offRequest s).answer 0

/-! Resets by software and the watchdog (R102, R107, R108). -/

/-- A key that does not match (R107). -/
def keyMismatch (s : State) (rq : Requester) (addr data : Nat) : State := (s.logEvent 234 0x010C addr data rq.ni).answer 0

/-- A write to SYS_RESET; COLD takes precedence (R102, R107, R116). -/
def writeReset (s : State) (rq : Requester) (data late : Nat) : State :=
  if bits data 16 16 ≠ 0x5AC0 then keyMismatch s rq 0xF00000034 data
  else if bit data 0 then (coldReset s 4).answer 0
  else if bit data 1 then (warmReset s 5 late).answer 0
  else s.answer 0

/-- A write to SYS_WDOG_KICK (R107, R108). -/
def writeKick (s : State) (rq : Requester) (data : Nat) : State :=
  if bits data 0 16 ≠ 0xA5C3 then keyMismatch s rq 0xF0000003C data
  else ({ s with pw := { s.pw with kick := s.ck.time } }).answer 0

/-- The watchdog has had no valid kick for PERIOD_MS (R102, R116). -/
def watchdogDue (s : State) : Bool :=
  s.flag Reg.SYS_WDOG_CFG.EN &&
    decide (491520 * max 1 (s.rd Reg.SYS_WDOG_CFG.PERIOD_MS) ≤ (s.ck.time - s.pw.kick).toNat)

/-! The thermal governor (R110-R114). -/

/-- Threshold of a governor level in units of 0.125 °C. -/
def govThreshold : Nat → Int
  | 1 => 880
  | 2 => 928
  | 3 => 976
  | _ => 1000

/-- A level entered or cleared (R112). -/
def setLevel (s : State) (new old : Nat) : State :=
  (s.wr Reg.SYS_GOV_STAT.LEVEL new).logEvent 234 0x0111 new old (s.rd Reg.SYS_TJ.TJ_MAX)

/-- A thermal trip (R75, R102, R113). -/
def thermalTrip (s : State) : State :=
  let s := s.logEvent 234 0x0112 (s.rd Reg.SYS_TJ.TJ_MAX) (s.rd Reg.SYS_DOM_STATE.DOM) s.mode
  let s := forcedCellar (runFlag s Reg.CLK_RUN_STAT.GOV) 2
  { s with pw := { s.pw with tripped := true } }

/-- The action of a level as it is entered (R110); level 3 acts at the next slot boundary (11 R542). -/
def levelAction (s : State) (l : Nat) : State :=
  let s := runFlag s Reg.CLK_RUN_STAT.GOV
  if l = 2 then
    [10, 11, 12, 13, 14, 15].foldl (fun s d => if s.domRadio d then s else offRequest s d) s
  else if l = 4 ∧ !s.pw.tripped then thermalTrip s
  else s

/-- Levels entered in ascending order (R112). -/
def raiseLevels (s : State) : Nat → State
  | 0 => s
  | n + 1 =>
    let l := s.rd Reg.SYS_GOV_STAT.LEVEL
    if l < 4 ∧ govThreshold (l + 1) ≤ tjMax s then raiseLevels (levelAction (setLevel s (l + 1) l) (l + 1)) n else s

/-- Levels cleared from the highest, each at 4 °C below its threshold (R110, R111).  Regions that level 2 has fenced stay off when it
clears, and an on request is honoured in it: the spec has neither a switching on nor a refusal (DESIGN CHOICE, log entry 90). -/
def lowerLevels (s : State) : Nat → State
  | 0 => s
  | n + 1 =>
    let l := s.rd Reg.SYS_GOV_STAT.LEVEL
    if 1 ≤ l ∧ tjMax s ≤ govThreshold l - 32 then lowerLevels (setLevel s (l - 1) l) n else s

/-- One evaluation. -/
def evaluate (s : State) (lo hi : BitVec 16) : State := lowerLevels (raiseLevels (setTjMax (setTjMin s lo) hi) 4) 4

/-! Clocks and VDD_CORE (R109, 17 R766-R768). -/

/-- The crystal gives no edge for 1 ms: the cellar clock moves to the RC oscillator (R109, 15 R699). -/
def xtalFails (s : State) : State :=
  if s.pw.xtalOk then
    let s := { s with pw := { s.pw with xtalOk := false, clk := .rc, clkMove := none } }.logEvent 234 0x0110 0 0 s.mode
    audioGlitch (s.wr Reg.CEL_AUDIO_STAT.SRC 3) 2
  else s

/-- The crystal is back. -/
def xtalBack (s : State) : State :=
  let s := { s with pw := { s.pw with xtalOk := true, xtalAt := if s.pw.xtalOk then s.pw.xtalAt else s.now } }
  if s.pw.step = 1 ∨ s.pw.step = 2 then s else clockAfterMode s

/-- A set point over AVSBus and the voltage read back, none where the regulator does not answer (17 R766-R768). -/
def avsSetPoint (s : State) (mv : Nat) (answer : Option Nat) : State :=
  if 650 ≤ mv ∧ mv ≤ 850 ∧ mv % 5 = 0 ∧ (!s.ck.floorDet ∨ 800 ≤ mv) ∧ bit s.pw.chPg 1 then
    let s := { s with pw := { s.pw with avs := mv } }
    match answer with
    | some v =>
      let s := { s with pw := { s.pw with avsRead := v } }
      if v ≤ mv + 10 ∧ mv ≤ v + 10 then floorReached s v else abandonChange (s.logLimited 0 234 0x0118 mv v s.mode) 1
    | none => abandonChange (s.logLimited 0 234 0x0118 mv s.pw.avsRead s.mode) 1
  else s

/-! The commands. -/

/-- VDD_CEL_POWER_GOOD (R72, 17 R770). -/
def execVddCelPowerGood (s : State) : Host.Outcome State Fault Refusal := .next (if s.pw.off then powerCycle s else s)

/-- VDD_CEL_LOSS (R72, R105, 17 R774). -/
def execVddCelLoss (s : State) : Host.Outcome State Fault Refusal := .next (powerLost s)

/-- VDD_IO33_LOW (17 R771). -/
def execVddIo33Low (s : State) : Host.Outcome State Fault Refusal :=
  whilePowered s fun s =>
    let s := coldReset s 0
    { s with pw := { s.pw with held := true } }

/-- VDD_IO33_RESTORED (17 R771). -/
def execVddIo33Restored (s : State) : Host.Outcome State Fault Refusal := .next { s with pw := { s.pw with held := false } }

/-- PORN_RESET (R102). -/
def execPornReset (s : State) : Host.Outcome State Fault Refusal := whilePowered s fun s => coldReset s 0

/-- WATCHDOG_EXPIRY (R102, R108). -/
def execWatchdogExpiry (s : State) : Host.Outcome State Fault Refusal :=
  whilePowered s fun s => if watchdogDue s then coldReset s 1 else s

/-- WDOG_KICK (R107, R108). -/
def execWdogKick (rq : Requester) (data : Nat) (s : State) : Host.Outcome State Fault Refusal :=
  whilePowered s fun s => atRegister s rq 0xF0000003C true data fun s => writeKick s rq data

/-- SOFTWARE_COLD_RESET (R102, R107). -/
def execSoftwareColdReset (rq : Requester) (data : Nat) (s : State) : Host.Outcome State Fault Refusal :=
  whilePowered s fun s => atRegister s rq 0xF00000034 true data fun s => writeReset s rq data 0

/-- SOFTWARE_WARM_RESET (R102, R107); `late` names the domains whose FENCE_ACK does not come in time. -/
def execSoftwareWarmReset (rq : Requester) (data late : Nat) (s : State) : Host.Outcome State Fault Refusal :=
  whilePowered s fun s => atRegister s rq 0xF00000034 true data fun s => writeReset s rq data late

/-- START_UP (R86, R106). -/
def execStartUp (s : State) : Host.Outcome State Fault Refusal := whilePowered s startUp

/-- FLL_LOCK (R86). -/
def execFllLock (tjMin : BitVec 16) (mfio63 : Bool) (s : State) : Host.Outcome State Fault Refusal :=
  whilePowered s fun s => fllLocks s tjMin mfio63

/-- WARM_END (R86, R91). -/
def execWarmEnd (tjMin : BitVec 16) (s : State) : Host.Outcome State Fault Refusal := whilePowered s fun s => warmReached s tjMin

/-- WARM_LIMIT_EXPIRED (R90). -/
def execWarmLimitExpired (tjMin : BitVec 16) (s : State) : Host.Outcome State Fault Refusal :=
  whilePowered s fun s => warmExpires s tjMin

/-- COLD_WAIT_READING (R94). -/
def execColdWaitReading (tjMin : BitVec 16) (s : State) : Host.Outcome State Fault Refusal :=
  whilePowered s fun s => coldReading s tjMin

/-- RAIL_CHANNEL_POWER_GOOD (R98, R99). -/
def execRailChannelPowerGood (ch : Nat) (s : State) : Host.Outcome State Fault Refusal := whilePowered s fun s => channelGood s ch

/-- RAIL_FAULT_TIMEOUT (R100): the channel last enabled has no power-good after 10 ms. -/
def execRailFaultTimeout (ch : Nat) (s : State) : Host.Outcome State Fault Refusal :=
  whilePowered s fun s => if s.pw.raise.head? = some ch ∧ bit s.pw.chEn ch then railFault s ch 0 else s

/-- RAIL_FAULT_DROP (R101). -/
def execRailFaultDrop (ch : Nat) (s : State) : Host.Outcome State Fault Refusal :=
  whilePowered s fun s => if bit s.pw.chEn ch ∧ bit s.pw.chPg ch then railFault s ch 1 else s

/-- RAIL_FAULT_RETRY (R104). -/
def execRailFaultRetry (s : State) : Host.Outcome State Fault Refusal :=
  whilePowered s fun s =>
    if s.pw.railRetry ∧ seconds 10 ≤ (s.ck.time - s.pw.railAt).toNat then
      requestMode { s with pw := { s.pw with railRetry := false } } 44 3 0 none
    else s

/-- REFCLK_DETECTED (R86, R96). -/
def execRefclkDetected (s : State) : Host.Outcome State Fault Refusal := whilePowered s refclkFound

/-- REFCLK_ABSENT (R93, R96). -/
def execRefclkAbsent (s : State) : Host.Outcome State Fault Refusal := whilePowered s refclkMissing

/-- PWR_REQ_CELLAR (R72, R74). -/
def execPwrReqCellar (rq : Requester) (late : Nat) (s : State) : Host.Outcome State Fault Refusal :=
  whilePowered s fun s => atRegister s rq 0xF00000008 true 1 fun s => writePwrReq s rq 1 late none

/-- PWR_REQ_STANDBY (R72-R74, R78). -/
def execPwrReqStandby (rq : Requester) (late : Nat) (s : State) : Host.Outcome State Fault Refusal :=
  whilePowered s fun s => atRegister s rq 0xF00000008 true 2 fun s => writePwrReq s rq 2 late none

/-- PWR_REQ_RUN (R72, R74, R79, R85, R91, R97, R100). -/
def execPwrReqRun (rq : Requester) (late : Nat) (bad : Option Nat) (s : State) : Host.Outcome State Fault Refusal :=
  whilePowered s fun s => atRegister s rq 0xF00000008 true 3 fun s => writePwrReq s rq 3 late bad

/-- PWR_REQ_HOLDOVER (R72, R74, R83). -/
def execPwrReqHoldover (rq : Requester) (late : Nat) (s : State) : Host.Outcome State Fault Refusal :=
  whilePowered s fun s => atRegister s rq 0xF00000008 true 4 fun s => writePwrReq s rq 4 late none

/-- STANDBY_WAKE (R72, R79, R100). -/
def execStandbyWake (source : Nat) (bad : Option Nat) (s : State) : Host.Outcome State Fault Refusal :=
  whilePowered s fun s => wakeUp s source bad

/-- MAINS_LOST (R72, R76, R83). -/
def execMainsLost (late : Nat) (s : State) : Host.Outcome State Fault Refusal := whilePowered s fun s => mainsTrigger s late

/-- MAINS_PRESENT_DWELL (R85, 15 R723). -/
def execMainsPresentDwell (s : State) : Host.Outcome State Fault Refusal := whilePowered s mainsDwell

/-- BATTERY_CUT (15 R725). -/
def execBatteryCut (s : State) : Host.Outcome State Fault Refusal := whilePowered s batteryCut

/-- DOMAIN_ON_REQUEST (R61-R63, R68). -/
def execDomainOnRequest (rq : Requester) (mask : Nat) (s : State) : Host.Outcome State Fault Refusal :=
  whilePowered s fun s => atRegister s rq 0xF00000014 true mask fun s => domainOnRequest s rq mask

/-- DOMAIN_OFF_REQUEST (R61, R64). -/
def execDomainOffRequest (rq : Requester) (mask : Nat) (s : State) : Host.Outcome State Fault Refusal :=
  whilePowered s fun s => atRegister s rq 0xF00000018 true mask fun s => domainOffRequest s rq mask

/-- FENCE_ACK (R64, 07 R360). -/
def execFenceAck (dom : Nat) (s : State) : Host.Outcome State Fault Refusal :=
  whilePowered s fun s => if bit s.pw.fenceReq dom ∧ ackDue s dom then fenceDone s dom true else s

/-- FENCE_TIMEOUT (R65). -/
def execFenceTimeout (dom : Nat) (s : State) : Host.Outcome State Fault Refusal :=
  whilePowered s fun s => if bit s.pw.fenceReq dom ∧ fenceExpired s dom then fenceDone s dom false else s

/-- XTAL_FAIL (R109). -/
def execXtalFail (s : State) : Host.Outcome State Fault Refusal := whilePowered s xtalFails

/-- CRYSTAL_RESTORED (R109). -/
def execCrystalRestored (s : State) : Host.Outcome State Fault Refusal := whilePowered s xtalBack

/-- GOVERNOR_EVALUATION (R110-R112). -/
def execGovernorEvaluation (tjMin tjMax : BitVec 16) (s : State) : Host.Outcome State Fault Refusal :=
  whilePowered s fun s => evaluate s tjMin tjMax

/-- THERMAL_TRIP (R110, R113). -/
def execThermalTrip (tjMax : BitVec 16) (s : State) : Host.Outcome State Fault Refusal :=
  whilePowered s fun s => if tjMax.toInt < 1000 then setTjMax s tjMax else thermalTrip (setTjMax s tjMax)

/-- TRIP_RESTART (R114). -/
def execTripRestart (tjMax : BitVec 16) (s : State) : Host.Outcome State Fault Refusal :=
  whilePowered s fun s =>
    let s := setTjMax s tjMax
    if s.pw.tripped ∧ s.flag Reg.SYS_THERM_CFG.TRIP_RESTART ∧ tjMax.toInt ≤ 800 ∧ s.mode = 1 ∧ !s.busy then startupStep6 s else s

/-- AVS_SET_POINT (17 R766-R768). -/
def execAvsSetPoint (mv : Nat) (answer : Option Nat) (s : State) : Host.Outcome State Fault Refusal :=
  whilePowered s fun s => avsSetPoint s mv answer

end Sys2Proof.Machine
end

