-- ==== Sys2Proof/Machine/Hatch.lean ====
section
/-! DEFINITION. The hatch: posts, shelf and route loads, and the reload of a fabric region (04 R202-R214, 07 R352). -/

namespace Sys2Proof.Machine

/-- The configuration controller on the network (05 R218). -/
def controller : Requester := ⟨43, 1⟩

/-- The configuration unit answers. -/
def cfgUp (s : State) : Bool := decide (2 ≤ s.tier) && s.domUp 3

/-- A descriptor (R203). -/
def readDesc (b : List Byte) (poster : Nat) : HatchDesc :=
  { op := field b 0 1, shelf := field b 1 1, region := field b 2 1, src := field b 3 1, section_ := field b 4 4
    addr := field b 8 8, length := field b 16 4, queue := field b 20 1, tag := field b 22 2
    reserved := field b 21 1 != 0 || field b 24 8 != 0, poster := poster }

/-- The completion word (R209). -/
def hatchWord (s : State) (d : HatchDesc) (subcode cycles : Nat) : State :=
  if d.queue < 128 then
    pushPacket s d.queue (leBytes 8 (d.tag + 2 ^ 16 * subcode + 2 ^ 24 * (cycles % 2 ^ 32))) 43
  else s

/-- The entry of a refusal (R206). -/
def noteHatch (s : State) (subcode op poster : Nat) : State :=
  (s.wr Reg.CFG_HATCH_STAT.LAST subcode).logEvent 232 0x0311 subcode op poster

/-- A descriptor refused, with its completion word unless the queue was full (R206). -/
def refuseDescriptor (s : State) (d : HatchDesc) (subcode : Nat) : State :=
  let s := noteHatch s subcode d.op d.poster
  if subcode = 1 then s else hatchWord s d subcode 0

/-- The descriptor at an address is posted (R202-R204); one that cannot be read is refused with subcode 2. -/
def hatchPost (s : State) (addr poster : Nat) (fabric : Bool) : State :=
  let (s, r) := s.busRead controller addr 32
  match r with
  | some (bs, false) =>
    let d := readDesc bs poster
    if fabric ∧ !bit s.cfg.hdr.flags 2 then refuseDescriptor s d 7
    else if 8 ≤ s.hatch.queue.length then refuseDescriptor s d 1
    else { s with hatch := { s.hatch with queue := s.hatch.queue ++ [d] } }
  | _ => noteHatch s 2 0 poster

/-- A write to CFG_HATCH_POST_HI (R203). -/
def writeHatchHi (s : State) (rq : Requester) (data : Nat) : State :=
  let s := s.wr Reg.CFG_HATCH_POST_HI.ADDR data
  { hatchPost s (s.rdPair Reg.CFG_HATCH_POST_LO.ADDR Reg.CFG_HATCH_POST_HI.ADDR) rq.ni false with resp := {} }

/-- A post through the hatch lane of a stream port (07 R352). -/
def lanePost (s : State) (p : Nat) (lo hi : Word) : State :=
  if cfgUp s ∧ 3 ≤ s.tier ∧ s.domUp 16 ∧ s.flag (Reg.GFB_SP_CFG.HATCH p) then
    { hatchPost s (lo.toNat + 2 ^ 32 * (hi.toNat % 16)) (28 + p) true with resp := s.resp }
  else s

/-! Carrying out a descriptor (R205-R208). -/

/-- Section type that an OP loads. -/
def opType (op : Nat) : Nat := if op = 1 then 10 else if op = 2 then 9 else 8

/-- Bytes of the body that an OP loads (R168, R211, 05 R230). -/
def opBytes (op : Nat) : Nat := if op = 1 then 9216 else if op = 2 then 140032 else 16384

/-- A reserved value in the descriptor (R203). -/
def descReserved (d : HatchDesc) : Bool :=
  d.reserved || d.op == 0 || decide (3 < d.op) || decide (2 < d.src) || decide (127 < d.queue) || (d.op == 1 && decide (7 < d.shelf)) ||
    (d.op != 3 && decide (5 < d.region)) || (d.src != 1 && !inMemory d.addr d.length)

/-- The subcode of the checks on the descriptor alone, in ascending order; 0 for none (R206). -/
def descSubcode (s : State) (d : HatchDesc) : Nat :=
  let sec := s.cfg.hdr.sections[d.section_]?
  if descReserved d then 2
  else if d.op ≠ 3 ∧ (bit s.part.fused (10 + d.region) ∨ !s.domUp (10 + d.region)) then 3
  else if d.op ≠ 3 ∧ bit (s.rd Reg.SYS_DOM_RADIO.DOM) (10 + d.region) ∧ s.radioReleased then 5
  else if d.op = 1 ∧ (s.region d.region).active = d.shelf then 6
  else if d.src = 2 ∧ !bit s.cfg.hdr.flags 1 then 7
  else if d.src = 1 ∧ !(sec.any fun x => x.type == opType d.op) then 8
  else 0

/-- The body to load: a subcode, or the plaintext and whether its check holds (R205). -/
def hatchBody (s : State) (d : HatchDesc) : State × Except Nat (List Byte × Bool) :=
  if d.src = 1 then
    match s.cfg.hdr.sections[d.section_]? with
    | none => (s, .error 8)
    | some x =>
      let image := resumeImage s
      let good := Tbl.find s.cfg.sectionDigests d.section_ == some (leNat (Crypto.sha384 (slice image x.offset x.length))) &&
        !s.badAt (s.cfg.map.resumeBase + x.offset) x.length
      match rawBody image d.section_ x with
      | .ok (t, whole) => (s, .ok (t, good && whole))
      | .error c => (s, .error c)
  else
    let (s, r) := s.busRead controller d.addr d.length
    match r with
    | some (bs, false) => match readPackageImage s bs (d.src == 0) with
      | .ok (t, body, good) => (s, if t = opType d.op then .ok (body, good) else .error 8)
      | .error c => (s, .error c)
    | _ => (s, .error 4)

/-- The plaintext holds no reserved value, and routes name no absent NI (R206, 05 R230). -/
def hatchBodyOk (p : Part) (op : Nat) (b : List Byte) : Bool :=
  if op = 1 then shelfImageOk b else if op = 2 then regionImageOk b else checksHold (routeChecks b ++ routeAbsences p b)

/-- The descriptor in progress, with the subcode that its completion word will carry. -/
def setCur (s : State) (d : HatchDesc) (subcode : Nat) : State := { s with hatch := { s.hatch with cur := some (d, subcode) } }

/-- A shelf is written while it is hashed, not valid until the load completes (R207, R208). -/
def loadingShelf (s : State) (d : HatchDesc) (b : List Byte) : State :=
  let x := writeShelf (s.region d.region) d.shelf b
  s.setRegion d.region { x with valid := clrBit x.valid d.shelf }

/-- A region's shelves are not valid, its lanes idle, and it is being fenced with its switch closed; the image waits for the fence
(R212 steps 1 and 2). -/
def isolateForReload (s : State) (r : Nat) (image : Option (List Byte)) : State :=
  let s := isolateRegion s r
  let s := fenceRequest (s.setRegion r { s.region r with valid := 0, reloading := true }) (10 + r)
  { s with hatch := { s.hatch with body := image } }

/-- The effect of a descriptor whose checks have passed: the check of its source is known when the data has been taken. -/
def carryOut (s : State) (d : HatchDesc) (b : List Byte) (good : Bool) : State :=
  match d.op with
  | 1 => loadingShelf s d b
  | 2 => isolateForReload s d.region (if good then some b else none)
  | _ => if good then writeRoutes s b else s

/-- The hatch takes its next descriptor where that asks for `op`; one with a reserved OP is refused as it is taken (R204,
R206, R208, R213). -/
def takeDescriptor (s : State) (op : Nat) : State :=
  match s.hatch.cur, s.hatch.queue with
  | none, d :: rest =>
    if !cfgUp s ∨ (d.op ≠ op ∧ 1 ≤ d.op ∧ d.op ≤ 3) then s
    else
      let s := { s with hatch := { s.hatch with queue := rest } }
      match descSubcode s d with
      | 0 =>
        let (s, r) := hatchBody s d
        match r with
        | .error c => refuseDescriptor s d c
        | .ok (b, good) =>
          if b.length ≠ opBytes d.op ∨ (good && !hatchBodyOk s.part d.op b) then refuseDescriptor s d 2
          else
            let s := setCur (carryOut s d b good) d (if good then 0 else 4)
            if good then s else noteHatch s 4 d.op d.poster
      | c => refuseDescriptor s d c
  | _, _ => s

/-- A shelf or route load completes (R207, R209). -/
def loadComplete (s : State) (cycles : Nat) : State :=
  match s.hatch.cur with
  | some (d, c) =>
    if d.op = 2 then s
    else
      let s := { s with hatch := { s.hatch with cur := none } }
      let s := if d.op = 1 ∧ c = 0 ∧ s.domOn (10 + d.region) then
          s.setRegion d.region { s.region d.region with valid := setBit (s.region d.region).valid d.shelf } else s
      hatchWord s d c cycles
  | none => s

/-- The first alignment mark after the region has been written (R212 step 5, R213). -/
def regionReloaded (s : State) (cycles : Nat) : State :=
  match s.hatch.cur with
  | some (d, c) =>
    if d.op = 2 ∧ atMark s ∧ !bit s.pw.fenceReq (10 + d.region) then
      let s := { s with hatch := { s.hatch with cur := none } }
      let s := if c = 0 ∧ s.domOn (10 + d.region) then
          (s.setRegion d.region { s.region d.region with isolated := false, reloading := false }).clearBits
            Reg.SYS_FENCE_ACK.DOM (2 ^ (10 + d.region))
        else s
      hatchWord (s.logEvent 232 0x0312 d.region c cycles) d c cycles
    else s
  | none => s

/-! The commands. -/

/-- HATCH_POST (R202, R203). -/
def execHatchPost (rq : Requester) (data : Nat) (s : State) : Host.Outcome State Fault Refusal :=
  whilePowered s fun s => atRegister s rq 0xF00200054 true data fun s => writeHatchHi s rq data

/-- HATCH_LANE_POST (07 R352). -/
def execHatchLanePost (port : Nat) (lo hi : Word) (s : State) : Host.Outcome State Fault Refusal :=
  whilePowered s fun s => lanePost s (port % 8) lo hi

/-- SHELF_LOAD (R204-R208). -/
def execShelfLoad (s : State) : Host.Outcome State Fault Refusal := whilePowered s fun s => takeDescriptor s 1

/-- REGION_RELOAD (R211-R213): what stands at t0; the region is written once its fence has arrived. -/
def execRegionReload (s : State) : Host.Outcome State Fault Refusal := whilePowered s fun s => takeDescriptor s 2

/-- ROUTE_LOAD (R204-R206). -/
def execRouteLoad (s : State) : Host.Outcome State Fault Refusal := whilePowered s fun s => takeDescriptor s 3

/-- HATCH_LOAD_COMPLETE (R207, R209). -/
def execHatchLoadComplete (cycles : Nat) (s : State) : Host.Outcome State Fault Refusal :=
  whilePowered s fun s => loadComplete s cycles

/-- REGION_RELOADED (R212). -/
def execRegionReloaded (cycles : Nat) (s : State) : Host.Outcome State Fault Refusal :=
  whilePowered s fun s => regionReloaded s cycles

end Sys2Proof.Machine
end

