-- ==== Sys2Proof/Machine/Models.lean ====
section
/-! DEFINITION. Activating models in the banks of an engine (chapter 10): the package header, the fit check, the copies of
step 4. -/

namespace Sys2Proof.Machine

/-- A package header (10 R472). -/
structure Package where
  cls : Nat
  noSpill : Bool
  codeOfs : Nat
  codeLen : Nat
  entry : Nat
  weightOfs : Nat
  w : Nat
  work : Nat

/-- A header read from 128 bytes when MAGIC, VERSION, HDR_CRC, its reserved bytes and the ranges of R472 and R473 hold. -/
def readPackage (bs : List Byte) : Option Package :=
  let p : Package := ⟨field bs 5 1, bit (field bs 6 2) 0, field bs 8 4, field bs 12 4, field bs 16 4, field bs 20 4,
    field bs 24 4, field bs 28 4⟩
  let zero (o n : Nat) : Bool := (slice bs o n).all fun b => b == 0
  if field bs 0 4 = 0x504D584A ∧ field bs 4 1 = 1 ∧ field bs 60 4 = crc32 (slice bs 0 60) ∧ p.cls ≤ 3 ∧
      field bs 6 2 ≤ 1 ∧ zero 32 28 ∧ zero 64 64 ∧
      p.codeOfs % 64 = 0 ∧ 128 ≤ p.codeOfs ∧ p.codeLen % 64 = 0 ∧ 64 ≤ p.codeLen ∧ p.codeLen ≤ 524288 ∧
      p.entry % 64 = 0 ∧ p.entry < p.codeLen ∧ p.weightOfs % 64 = 0 ∧ 128 ≤ p.weightOfs ∧
      p.w % 65536 = 0 ∧ 65536 ≤ p.w ∧ p.w ≤ 8388608 ∧ p.work % 4096 = 0 ∧ 4096 ≤ p.work ∧ p.work ≤ 4194304 ∧
      !overlap p.codeOfs p.codeLen p.weightOfs p.w then some p
  else none

/-- Last byte after the package, from its header as it stands (10 R473). -/
def packageEnd (bs : List Byte) : Nat := max (field bs 8 4 + field bs 12 4) (field bs 20 4 + field bs 24 4)

/-- The model fits resident (10 R476). -/
def fitsResident (c w : Nat) : Bool := decide (w ≤ c)

/-- The model may spill (10 R477). -/
def fitsSpilled (c w : Nat) (p : Package) : Bool :=
  decide (c < w) && decide (w ≤ c + c / 8) && decide (196608 ≤ c) && p.cls != 0 && !p.noSpill

/-- Resident bytes of a spilled model (10 "Attic spill"). -/
def residentBytes (c : Nat) : Nat := (off c 131072) / 65536 * 65536

/-- Bytes of an attic slice (10 R488). -/
def sliceBytes (s : State) : Nat := s.cfg.map.atticSize / 1048576 * 65536

/-- Code range of a bank's active or accepted model: first offset and length. -/
def codeRange (s : State) (e b : Nat) : Nat × Nat :=
  let k := s.bank e b
  match k.loading with
  | some l => (l.codeAt, l.codeLen)
  | none => if 1 ≤ s.rd (Reg.IE_BANK_MODEL_STAT.STATE e b) then (k.model.codeAt, k.model.codeLen) else (0, 0)

/-- Package address of a bank. -/
def modelAddr (s : State) (e b : Nat) : Nat :=
  s.rdPair (Reg.IE_BANK_MODEL_ADDR_LO.ADDR e b) (Reg.IE_BANK_MODEL_ADDR_HI.ADDR e b)

/-- The checks of R480 on a package header in their order: the reason of the first that fails. -/
def modelReason (s : State) (e b : Nat) (hdr : Option (List Byte)) : Nat ⊕ Package :=
  let a := modelAddr s e b
  let at_ := s.rd (Reg.IE_BANK_MODEL_ACT.CODE_AT e b)
  let len := match hdr with
    | some bs => packageEnd bs
    | none => 128
  if a % 64 ≠ 0 ∨ !inMemory a (max 128 len) then .inl 2
  else match hdr.bind readPackage with
    | none => .inl 3
    | some p =>
      let win := winBytes s e b
      let c := win - p.work
      if p.cls ≠ b then .inl 4
      else if at_ % 64 ≠ 0 ∨ 524288 < at_ + p.codeLen ∨
          ((List.range 4).any fun o => o != b && overlap at_ p.codeLen (codeRange s e o).1 (codeRange s e o).2) then .inl 5
      else if win < p.work then .inl 6
      else if c + c / 8 < p.w then .inl 7
      else if !(fitsResident c p.w || fitsSpilled c p.w p) then .inl 9
      else if !fitsResident c p.w && decide (sliceBytes s < p.w - residentBytes c) then .inl 8
      else .inr p

/-- A refusal (10 R481, R482). -/
def modelRefused (s : State) (e b reason : Nat) (busy : Bool) : State :=
  let s := (s.wr (Reg.IE_BANK_MODEL_STAT.REASON e b) reason).wr (Reg.IE_BANK_MODEL_STAT.BUSY e b) (b2n busy)
  s.logEvent (engIsland e) 0x1020 (4 * e + b) reason (modelAddr s e b)

/-- GO: steps 1 and 2 of R479. -/
def modelGo (s : State) (e b : Nat) : State :=
  if s.flag (Reg.IE_BANK_MODEL_STAT.BUSY e b) then modelRefused s e b 1 true
  else
    let s := s.wr (Reg.IE_BANK_MODEL_STAT.BUSY e b) 1
    let a := modelAddr s e b
    let (s, hdr) := if a % 64 ≠ 0 ∨ !inMemory a 128 then (s, none)
      else match devReadLines s (bankRq e b) a 2 with
        | (s, bs, 0) => (s, some bs)
        | (s, _, _) => (s, none)
    match modelReason s e b hdr with
    | .inl r => modelRefused s e b r false
    | .inr p =>
      let l : Loading :=
        { addr := a, codeOfs := p.codeOfs, codeLen := p.codeLen, entry := p.entry, weightOfs := p.weightOfs, w := p.w,
          work := p.work, codeAt := s.rd (Reg.IE_BANK_MODEL_ACT.CODE_AT e b),
          spill := !fitsResident (winBytes s e b - p.work) p.w }
      s.onBank e b fun k => { k with loading := some l }

/-- DROP (10 R485). -/
def modelDrop (s : State) (e b : Nat) : State :=
  if s.flag (Reg.IE_BANK_MODEL_STAT.BUSY e b) then s
  else (s.wr (Reg.IE_BANK_MODEL_STAT.STATE e b) 0).onBank e b fun k => { k with model := {}, ring := {} }

/-- A write to IE_BANKb_MODEL_ACT: CODE_AT, then DROP, then GO (10 R479, R485 and "At the edges"). -/
def writeModelAct (s : State) (e b data : Nat) : State :=
  let s := s.wr (Reg.IE_BANK_MODEL_ACT.CODE_AT e b) data
  let s := if bit data 30 then modelDrop s e b else s
  (if bit data 31 then modelGo s e b else s).answer 0

/-- Resident bytes of an accepted model. -/
def Loading.res (l : Loading) (win : Nat) : Nat := if l.spill then residentBytes (win - l.work) else l.w

/-- Lines copied from device memory until one fails: the state, the number copied, and the outcome. -/
def copyLines (put : State → Nat → List Byte → State) (rq : Requester) (a : Nat) :
    List Nat → State → State × Option (Nat × Nat)
  | [], s => (s, none)
  | i :: rest, s =>
    match devRead s rq (a + 64 * i) 64 with
    | (s, bs, 0) => copyLines put rq a rest (put s i bs)
    | (s, _, r) => (s, some (r - 1, a + 64 * i))

/-- The copies of step 4 in order: code, resident weights, spilled blocks into the attic slice by the configuration
controller (10 R479, R488). -/
def loadCopies (s : State) (e b : Nat) (l : Loading) : State × Option (Nat × Nat) :=
  let res := l.res (winBytes s e b)
  let rq := bankRq e b
  let code (s : State) (i : Nat) (bs : List Byte) : State :=
    s.setEng e { s.eng e with code := Mem.writeN (s.eng e).code (l.codeAt + 64 * i) bs }
  match copyLines code rq (l.addr + l.codeOfs) (List.range (l.codeLen / 64)) s with
  | (s, some err) => (s, some err)
  | (s, none) =>
    match copyLines (fun s i bs => stageWrite s e b (l.work + 64 * i) bs) rq (l.addr + l.weightOfs) (List.range (res / 64)) s with
    | (s, some err) => (s, some err)
    | (s, none) =>
      if l.spill then
        let base := sliceBase s e b
        copyLines (fun s i bs => (s.busWrite ⟨43, b⟩ (base + 64 * i) bs).1) ⟨43, b⟩ (l.addr + l.weightOfs + res)
          (List.range ((l.w - res) / 64)) s
      else (s, none)

/-- The engine's domain is fenced or off (10 R483). -/
def engFenced (s : State) (e : Nat) : Bool := !s.domUp (6 + e)

/-- The copies of step 4 are not suspended by a higher bank that issues (10 R498). -/
def copiesRun (s : State) (e b : Nat) : Bool := !(decide ((s.eng e).active < b) && (s.bank e (s.eng e).active).state == 1)

/-- An activation fails in step 4 (10 R483). -/
def modelFail (s : State) (e b cause addr : Nat) : State :=
  let s := (s.wr (Reg.IE_BANK_MODEL_STAT.STATE e b) 0).wr (Reg.IE_BANK_MODEL_STAT.BUSY e b) 0
  let s := s.onBank e b fun k => { k with loading := none, model := {}, ring := {} }
  s.logEvent (engIsland e) 0x1022 (4 * e + b) cause addr

/-! The commands. -/

/-- MODEL_ACTIVATE (10 R479-R482): a write of IE_BANKb_MODEL_ACT with GO. -/
def execModelActivate (rq : Requester) (e bank data : Nat) (s : State) : Host.Outcome State Fault Refusal :=
  whilePowered s fun s =>
    let d := setBit (data % 2 ^ 32) 31
    atRegister s rq (bankAddr e bank 0x60) true d fun s => writeModelAct s (e % 4) (bank % 4) d

/-- MODEL_LOAD_BEGIN (10 R479 step 4, R488, R498): the bank is idle. -/
def execModelLoadBegin (e bank : Nat) (s : State) : Host.Outcome State Fault Refusal :=
  whilePowered s fun s =>
    let k := s.bank e bank
    match k.loading with
    | some l =>
      if engUp s e && k.state == 0 && k.ready.isNone && !l.begun then
        let s := s.wr (Reg.IE_BANK_MODEL_STAT.STATE e bank) 1
        let (s, err) := loadCopies s e bank l
        s.onBank e bank fun k => { k with loading := some { l with begun := true, done := err.isNone, err := err } }
      else s
    | none => s

/-- MODEL_ACTIVE (10 R479 step 5). -/
def execModelActive (e bank : Nat) (s : State) : Host.Outcome State Fault Refusal :=
  whilePowered s fun s =>
    match (s.bank e bank).loading with
    | some l =>
      if engUp s e && l.begun && l.done && copiesRun s e bank then
        let res := l.res (winBytes s e bank)
        let s := s.wr (Reg.IE_BANK_MODEL_STAT.STATE e bank) (if l.spill then 3 else 2)
        let s := s.wr (Reg.IE_BANK_MODEL_STAT.BUSY e bank) 0
        let s := s.wr (Reg.IE_BANK_MODEL_ENTRY.ENTRY e bank) (l.codeAt + l.entry)
        let s := s.wr (Reg.IE_BANK_SPILL_BYTES.BYTES e bank) (l.w - res)
        let s := (s.wr (Reg.IE_BANK_SPILL_WAIT.CYCLES e bank) 0).wr (Reg.IE_BANK_SPILL_MISS.COUNT e bank) 0
        let s := s.onBank e bank fun k => { k with
          loading := none, ring := {},
          model := { work := l.work, w := l.w, res := res, codeAt := l.codeAt, codeLen := l.codeLen } }
        schedulerLook (s.logEvent (engIsland e) 0x1021 (4 * e + bank) l.w (l.w - res)) e
      else s
    | none => s

/-- MODEL_LOAD_FAIL (10 R483): a read error met by the copies, an error the network brings (cause 0 or 1 at an address), or
the fencing of the engine's domain (cause 2). -/
def execModelLoadFail (e bank cause addr : Nat) (s : State) : Host.Outcome State Fault Refusal :=
  whilePowered s fun s =>
    match (s.bank e bank).loading with
    | some l =>
      if !l.begun then s
      else match l.err with
        | some (c, a) => modelFail s e bank c a
        | none => if cause ≤ 1 then modelFail s e bank cause addr
          else if engFenced s e then modelFail s e bank 2 0 else s
    | none => s

/-- MODEL_DROP (10 R485): a write of IE_BANKb_MODEL_ACT with DROP. -/
def execModelDrop (rq : Requester) (e bank data : Nat) (s : State) : Host.Outcome State Fault Refusal :=
  whilePowered s fun s =>
    let d := setBit (data % 2 ^ 31) 30
    atRegister s rq (bankAddr e bank 0x60) true d fun s => writeModelAct s (e % 4) (bank % 4) d

end Sys2Proof.Machine
end

