-- ==== Sys2Proof/Machine/TroubleLog.lean ====
section
/-! DEFINITION. The trouble log (06 R307-R317): the intake, the ring, routing of copied entries, the management port. -/

namespace Sys2Proof.Machine

/-- Slot of a sequence number (06 R309). -/
def logSlot (seq : Nat) : Nat := (seq - 1) % 4096

/-- The entry in a slot. -/
def slotEntry (s : State) (i : Nat) : Option LogEntry := s.log.ring.find? fun e => logSlot e.seq == i

/-- The number after a sequence number: 1 after 0xFFFF_FFFF (06 R309). -/
def nextSeq (n : Nat) : Nat := if n = 0xFFFFFFFF then 1 else n + 1

/-- An event becomes the next entry of the ring; an entry overwritten above LOG_ACK_SEQ counts as lost (06 R309, R312). -/
def writeEntry (s : State) (ev : LogEv) : State × LogEntry :=
  let e : LogEntry := ⟨nextSeq (s.rd Reg.LOG_HEAD_SEQ.SEQ), ev⟩
  let lost := match slotEntry s (logSlot e.seq) with
    | some o => decide (s.rd Reg.LOG_ACK_SEQ.SEQ < o.seq)
    | none => false
  let s := if lost then s.bump Reg.LOG_LOST_OVER.COUNT 1 else s
  let ring := s.log.ring.filter fun o => logSlot o.seq != logSlot e.seq
  (({ s with log := { s.log with ring := ring ++ [e] } }).wr Reg.LOG_HEAD_SEQ.SEQ e.seq, e)

/-- With room in the intake again, one 0x0C0F records the events dropped since the last (06 R311). -/
def noteDropped (s : State) : State :=
  if s.log.dropped = 0 ∨ 16 ≤ s.log.intake.length then s
  else
    let n := s.log.dropped
    ({ s with log := { s.log with dropped := 0 } }).logEvent 234 0x0C0F n (s.rd Reg.LOG_LOST_DROP.COUNT) 0

/-- The intake writes its oldest event to the ring and, in the Full tier with the storeroom enabled, copies the entry for
routing (06 R302, R311). -/
def intakeWrite (s : State) : State :=
  match s.log.intake with
  | [] => s
  | ev :: rest =>
    let (s, e) := writeEntry { s with log := { s.log with intake := rest } } ev
    let s := noteDropped s
    if 3 ≤ s.tier ∧ s.flag Reg.STR_CTRL.EN then routeEntry s e else s

/-- How many entries before the newest one a sequence number stands, by the numbering of R309, which passes over 0. -/
def seqAge (s : State) (n : Nat) : Nat := (s.rd Reg.LOG_HEAD_SEQ.SEQ + 0xFFFFFFFF - n) % 0xFFFFFFFF

/-- Entries from a sequence number to the newest, in the order written; from the oldest where the number is older than all
present.  Of numbers up to half the numbering ahead of the newest there are none (DEDUCED, log entry 84); 0 is older than any. -/
def entriesFrom (s : State) (fromSeq count : Nat) : List LogEntry :=
  if fromSeq ≠ 0 ∧ 2 ^ 31 ≤ seqAge s fromSeq then []
  else (s.log.ring.filter fun e => fromSeq == 0 || decide (seqAge s e.seq ≤ seqAge s fromSeq)).take count

/-- A reply frame of the management port, in its layout (06 R316). -/
def logReply (s : State) (op : Nat) (es : List LogEntry) : State :=
  { s with log := { s.log with reply := some (leBytes 2 op ++ leBytes 2 es.length ++ leBytes 4 (s.rd Reg.LOG_HEAD_SEQ.SEQ) ++
      leBytes 4 (s.rd Reg.LOG_LOST_OVER.COUNT) ++ leBytes 4 (s.rd Reg.LOG_LOST_DROP.COUNT) ++ es.flatMap LogEntry.bytes) } }

/-- A READ or another request whose COUNT or OP is out of range gets OP 0x00FF and no entries (06 R315). -/
def badReply (s : State) : State := logReply s 0x00FF []

/-- OP of a request frame: 1 STATUS, 2 READ, 3 ACK (06 R315). -/
def logOp (payload : List Byte) : Nat := field payload 0 2
/-- COUNT of a request frame. -/
def logCount (payload : List Byte) : Nat := field payload 2 2
/-- FROM_SEQ of a request frame. -/
def logFrom (payload : List Byte) : Nat := field payload 4 4

/-- The request's OP is unknown, or it is a READ whose COUNT is out of range (06 R315). -/
def badLogRequest (payload : List Byte) : Bool :=
  !([1, 2, 3].contains (logOp payload)) || (logOp payload == 2 && (logCount payload == 0 || decide (44 < logCount payload)))

/-- The word of a log entry that LOG_ENTRY slot `i`, word `j` shows; 0 where the slot is empty (06 R307, R319). -/
def logWord (s : State) (i j : Nat) : Nat :=
  match slotEntry s i with
  | some e => field e.bytes (4 * j) 4
  | none => 0

/-- EVENT_ARRIVAL (06 R307, R310, R311): an event raised at `raised` reaches the intake. -/
def execEventArrival (raised : DWord) (island : Nat) (code : BitVec 16) (a0 a1 a2 : Word) (s : State) :
    Host.Outcome State Fault Refusal :=
  whilePowered s fun s => ((noteDropped s).logAt ⟨raised, island, code, a0, a1, a2⟩)

/-- LOG_INTAKE_WRITE (06 R302, R309-R312). -/
def execLogIntakeWrite (s : State) : Host.Outcome State Fault Refusal := whilePowered s fun s => (intakeWrite s)

/-- LOG_STATUS (06 R315, R316): a request frame with OP 1. -/
def execLogStatus (payload : List Byte) (s : State) : Host.Outcome State Fault Refusal :=
  whilePowered s fun s => if logOp payload = 1 then logReply s 0x81 [] else s

/-- LOG_READ (06 R315, R316): a request frame with OP 2 and COUNT 1 to 44. -/
def execLogRead (payload : List Byte) (s : State) : Host.Outcome State Fault Refusal :=
  whilePowered s fun s =>
    if logOp payload = 2 ∧ badLogRequest payload = false then logReply s 0x82 (entriesFrom s (logFrom payload) (logCount payload))
    else s

/-- LOG_ACK (06 R315): a request frame with OP 3. -/
def execLogAck (payload : List Byte) (s : State) : Host.Outcome State Fault Refusal :=
  whilePowered s fun s => if logOp payload = 3 then logReply (s.wr Reg.LOG_ACK_SEQ.SEQ (logFrom payload)) 0x83 [] else s

/-- LOG_BAD_REQUEST (06 R315): any other request frame. -/
def execLogBadRequest (payload : List Byte) (s : State) : Host.Outcome State Fault Refusal :=
  whilePowered s fun s => if badLogRequest payload then badReply s else s

end Sys2Proof.Machine
end

