-- ==== Sys2Proof/Machine/Bus.lean ====
section
/-! DEFINITION. Accesses by device address and by the cellar core's local address (chapters 00 and 01): what each unit's registers
read, what a write to them does, and the requests of the network, the PCIe endpoint and the cellar core. -/

namespace Sys2Proof.Machine

/-! What registers read (00 R6, R10, R15). -/

/-- Bits set by a predicate on 0 … n − 1. -/
def maskOf (n : Nat) (p : Nat → Bool) : Nat := ((List.range n).filter p).foldl setBit 0

/-- SYS fields computed at a read (02 R116, 17 R766). -/
def sysLive (s : State) (o lo : Nat) : Option Nat :=
  if o = 0 ∧ lo = 16 then some s.part.id
  else if o = 0x24 then some s.part.fused
  else if o = 0x28 then some (maskOf 23 s.domRadio)
  else if o = 0x44 ∧ lo = 16 ∧ s.flag Reg.SYS_WARM_STAT.ACTIVE then some (warmElapsed s)
  else none

/-- CLK fields computed at a read (03 R121, R122, R162). -/
def clkLive (s : State) (o lo w : Nat) : Option Nat :=
  let i := s.rd Reg.CLK_ISLAND_SEL.INDEX
  if o = 0x14 then some (bits (islandStat s i) lo w)
  else if o = 0x18 then some (Tbl.get s.ck.stretch i 0)
  else if o = 0x20 then some (s.now % 2 ^ 32)
  else if o = 0x24 then some (s.now / 2 ^ 32)
  else if o = 0x90 then some (s.ck.beat.toNat % 2 ^ 32)
  else if o = 0x94 then some (s.ck.beat.toNat / 2 ^ 32)
  else none

/-- CFG fields computed at a read (02 R96, 04 R215). -/
def cfgLive (s : State) (o lo : Nat) : Option Nat :=
  if o = 0 ∧ lo = 0 then some (cfgPhase s)
  else if o = 0x58 ∧ lo = 0 then some s.hatch.queue.length
  else if o = 0x58 ∧ lo = 8 then some (b2n s.hatch.cur.isSome)
  else none

/-- SEC fields (04 R216, R217, 14 R632). -/
def secLive (s : State) (o lo w : Nat) : Option Nat :=
  if o < 0xC0 then some (keyDigest (o / 48) / 2 ^ (32 * (o / 4 % 12)) % 2 ^ 32)
  else if o = 0xC0 then some (if lo = 0 then keyProgrammed else keyRevoked s)
  else if o = 0xC8 then some (svnFloor s)
  else if 0x200 ≤ o then some (bits (pinOwners s ((off o 0x200) / 4)) lo w)
  else none

/-- STR fields computed at a read (06 R318). -/
def strLive (s : State) (o lo : Nat) : Option Nat :=
  if 0x100 ≤ o ∧ o < 0x180 ∧ o % 0x20 = 0x10 ∧ lo = 0 then some (s.freeStack ((off o 0x100) / 0x20)).length
  else if 0x1000 ≤ o ∧ o < 0x3000 then
    let q := s.q ((off o 0x1000) / 0x40)
    let w := o % 0x40
    if w = 0xC then some q.marks.length
    else if w = 0x10 then some q.pkts
    else if w = 0x1C then if lo = 8 then some (b2n q.pinned) else none
    else none
  else none

/-- GFB fields computed at a read (07 R366). -/
def gfbLive (s : State) (o lo : Nat) : Option Nat :=
  if o = 0 then some (if lo = 0 then maskOf 6 fun r => !bit s.part.fused (10 + r) else b2n (s.part != .jx720))
  else if 0x1000 ≤ o ∧ o < 0x1600 ∧ o % 0x100 = 0 then
    let x := s.region ((off o 0x1000) / 0x100)
    if lo = 0 then some x.active
    else if lo = 8 then some x.valid
    else if lo = 16 then some (b2n x.isolated)
    else if lo = 17 then some (b2n x.pend.isSome)
    else some ((x.pend.map (·.target)).getD 0)
  else none

/-- IE fields of engine `e` computed at a read (08 R421, 09 R471). -/
def ieLive (s : State) (e o lo : Nat) : Option Nat :=
  let g := s.eng e
  if o = 0 then some e
  else if o = 8 then
    if lo = 0 then some g.active
    else if lo = 4 then some (b2n g.switching.isSome)
    else if lo = 8 then some g.entries.length
    else some (b2n g.doorbell)
  else if 0x100 ≤ o ∧ o < 0x300 then
    let b := (off o 0x100) / 0x80
    let k := s.bank e b
    let w := (off o 0x100) % 0x80
    if w = 0x04 then some (if lo = 0 then k.state else (g.entries.filter fun n => n.bank == b).length)
    else if w = 0x18 then some (k.progress % 2 ^ 32)
    else if w = 0x1C then some (k.progress / 2 ^ 32)
    else if w = 0x28 then some ((k.job.map (·.tag)).getD 0)
    else if w = 0x40 ∧ lo = 0 then some (if k.weights.loaded then k.weights.fmt else 0)
    else if w = 0x40 ∧ lo = 4 then some (b2n k.weights.loaded)
    else if w = 0x40 ∧ lo = 5 then some (b2n k.weights.scaled)
    else if w = 0x40 ∧ lo = 6 then some k.weights.gsize
    else none
  else none

/-- RAD fields computed at a read (12 R560, R561, R585). -/
def radLive (s : State) (o lo : Nat) : Option Nat :=
  if o = 0x1014 then
    some (if lo = 0 then maskOf 4 (engEligible s (s.rd Reg.RAD_LR_CFG.ENGINES)) else maskOf 4 (engOverdue s))
  else none

/-- VIS fields computed at a read (13 R605, R624). -/
def visLive (s : State) (o lo : Nat) : Option Nat :=
  if o = 4 then
    let running := (s.vis.jobs.filter fun j => j.phase != 0).length
    some (if lo = 0 then b2n (running != 0) else s.vis.jobs.length - running)
  else if 0x10000 ≤ o then some (coefTap s ((off o 0x10000) / 1024 * 512 + (off o 0x10000) % 1024 / 2 + lo / 16))
  else none

/-- CEL fields computed at a read (14 R690). -/
def celLive (s : State) (rq : Requester) (o lo : Nat) : Option Nat :=
  if 0x440 ≤ o ∧ o < 0x468 then some (gpioIn s rq ((off o 0x440) / 4))
  else if o = 0x1810 ∨ o = 0x1850 then
    let u := s.uart ((off o 0x1810) / 0x40)
    some (if lo = 0 then u.tx.length else u.rx.length)
  else none

/-- The value that a read computes from other state, where it does. -/
def liveField (s : State) (rq : Requester) (f : Fld) : Option Nat :=
  let t := (windowOf f.addr).1
  let o := off f.addr t.base
  match t with
  | .sys => sysLive s o f.lo
  | .clk => clkLive s o f.lo f.w
  | .cfg => cfgLive s o f.lo
  | .sec => secLive s o f.lo f.w
  | .str => strLive s o f.lo
  | .log => if 0x20000 ≤ o then some (logWord s ((off o 0x20000) / 32) (o % 32 / 4)) else none
  | .gfb => gfbLive s o f.lo
  | .ie n => ieLive s n o f.lo
  | .rad => radLive s o f.lo
  | .vis => visLive s o f.lo
  | .cel => celLive s rq o f.lo
  | .grp => if o = 0x1C ∧ f.lo = 8 then some (lockSeconds s) else none
  | _ => none

/-- What a read of a field returns (00 R6). -/
def fieldRead (s : State) (rq : Requester) (f : Fld) : Nat :=
  match f.acc with
  | .wo => 0
  | .rws => s.rdShadow f
  | _ => match liveField s rq f with
    | some v => v % 2 ^ f.w
    | none => s.rd f

/-- What a read of a register returns; a reserved bit reads 0 (00 R15). -/
def regWord (s : State) (rq : Requester) (fs : List Fld) : Nat := (fs.map fun f => fieldRead s rq f * 2 ^ f.lo).sum

/-- Low words of the 64-bit quantities (00 R9): address and indices. -/
def pairRows : List RegRow :=
  [⟨0xF00100020, [], fun _ _ => []⟩, ⟨0xF00100040, [], fun _ _ => []⟩, ⟨0xF00100080, [], fun _ _ => []⟩,
   ⟨0xF00100090, [], fun _ _ => []⟩, ⟨0xF00200050, [], fun _ _ => []⟩, ⟨0xF004000B0, [], fun _ _ => []⟩,
   ⟨0xF00500010, [], fun _ _ => []⟩, ⟨0xF00500100, [(4, 0x20)], fun _ _ => []⟩, ⟨0xF00501004, [(128, 0x40)], fun _ _ => []⟩,
   ⟨0xF01001010, [(6, 0x100)], fun _ _ => []⟩, ⟨0xF01002108, [(8, 0x400), (8, 0x40)], fun _ _ => []⟩,
   ⟨0xF02000118, [(4, 0x400000), (4, 0x80)], fun _ _ => []⟩, ⟨0xF02000120, [(4, 0x400000), (4, 0x80)], fun _ _ => []⟩,
   ⟨0xF02000158, [(4, 0x400000), (4, 0x80)], fun _ _ => []⟩, ⟨0xF03000060, [(2, 8)], fun _ _ => []⟩,
   ⟨0xF03001280, [], fun _ _ => []⟩, ⟨0xF03800010, [], fun _ _ => []⟩, ⟨0xF03800020, [], fun _ _ => []⟩,
   ⟨0xF03801008, [(32, 0x40)], fun _ _ => []⟩, ⟨0xF03802004, [(8, 0x40)], fun _ _ => []⟩, ⟨0xF04020130, [], fun _ _ => []⟩,
   ⟨0xF04800008, [], fun _ _ => []⟩, ⟨0xF04800020, [], fun _ _ => []⟩, ⟨0xF04800030, [], fun _ _ => []⟩]

/-- The address holds the low word of a 64-bit quantity. -/
def isPairLow (a : Nat) : Bool := (findReg pairRows a).isSome

/-- The latched high word of a requester at an address (R10). -/
def State.latched (s : State) (ni a : Nat) : Option Nat := (s.hiLatch.find? fun l => l.1 == ni && l.2.1 == a).map (·.2.2)

/-- That latch emptied, and filled where a value is given. -/
def State.setLatch (s : State) (ni a : Nat) (v : Option Nat) : State :=
  { s with hiLatch := (s.hiLatch.filter fun l => !(l.1 == ni && l.2.1 == a)) ++ (v.map fun x => (ni, a, x)).toList }

/-- A read of a register without an effect of its own; that of CLK_TIME_LO latches CLK_TIME_FRAC with the high word (03 R162). -/
def readPlain (s : State) (rq : Requester) (a : Nat) (fs : List Fld) : State :=
  if isPairLow a then
    let t := s.setLatch rq.ni (a + 4) (some (regWord s rq ((fieldsAt (a + 4)).getD [])))
    let t := if a = 0xF00100020 then t.setLatch rq.ni 0xF00100028 (some s.ck.frac.toNat) else t
    t.answer (regWord s rq fs)
  else if a = 0xF00100028 then s.answer ((s.latched rq.ni a).getD 0)
  else match s.latched rq.ni a with
    | some v => (s.setLatch rq.ni a none).answer v
    | none => s.answer (regWord s rq fs)

/-- Words of a window that are no registers: the shelf windows of the fabric (07 R367), the code store and the bank views of an
engine (08 R374, R423), the model memory (15 R700), the CAN frame slots (14 R674). -/
def readWindow (s : State) (rq : Requester) (t : Target) (o : Nat) : Option State :=
  match t with
  | .gfb =>
    if 0x800000 ≤ o ∧ o < 0x980000 then
      some (s.answer (shelfWindowWord (s.region ((off o 0x800000) / 0x40000)) ((off o 0x800000) % 0x40000)))
    else none
  | .ie n =>
    if 0x100000 ≤ o ∧ o < 0x140000 then some (viewAccess s rq n ((off o 0x100000) / 0x10000) false (o % 0x10000) 0)
    else if 0x200000 ≤ o ∧ o < 0x280000 then some (s.answer (Mem.num (s.eng n).code (off o 0x200000) 4))
    else none
  | .cel =>
    if 0x60000 ≤ o ∧ o < 0x78000 then some (s.answer (modelNum s (off o 0x60000) 4))
    else if 0x4000 ≤ o ∧ o < 0xC000 then
      let c := (off o 0x4000) % 0x4000
      if (0x800 ≤ c ∧ c < 0xD00) ∨ (0x1000 ≤ c ∧ c < 0x2400) then
        some (s.answer (Mem.num (s.can ((off o 0x4000) / 0x4000)).slots (off c 0x800) 4))
      else none
    else none
  | _ => none

/-- A read of the register at an address whose checks have passed (00 R6, R10, R13). -/
def regRead (s : State) (rq : Requester) (t : Target) (a : Nat) : State :=
  let o := off a t.base
  match readWindow s rq t o with
  | some s' => s'
  | none =>
    match fieldsAt a with
    | none => s.csrErr t.island 0x0101 a 0 rq
    | some fs =>
      if t = .str ∧ 0x100 ≤ o ∧ o < 0x180 ∧ o % 0x20 = 0x14 then
        let (s, h) := allocCrate s ((off o 0x100) / 0x20) rq.context
        s.answer h
      else if t = .cel ∧ (o = 0x180C ∨ o = 0x184C) then
        let (s, v) := readRxd s ((off o 0x180C) / 0x40)
        s.answer v
      else if t = .cel ∧ 0x440 ≤ o ∧ o < 0x468 then (readPlain s rq a fs).useFresh
      else readPlain s rq a fs

/-! What writes do.  Where a unit's answer to a write depends on its surroundings, the rows of the command table carry that answer;
a plain access takes it from a free value. -/

/-- SYS (chapter 02). -/
def sysWrite (s : State) (rq : Requester) (a data : Nat) : State :=
  let w := off a 0xF00000000
  if w = 0x08 then
    if Reg.SYS_PWR_REQ.TARGET.reserved data then stdWrite s rq a data
    else writePwrReq s.useFresh rq (data % 8) (s.freeVal 23) ([none, some 2, some 6, some 7].getD (s.freeVal 25 / 2 ^ 23) none)
  else if w = 0x14 then domainOnRequest s rq data
  else if w = 0x18 then domainOffRequest s rq data
  else if w = 0x34 then writeReset s.useFresh rq data (s.freeVal 23)
  else if w = 0x38 then
    let was := s.flag Reg.SYS_WDOG_CFG.EN
    let s := stdWrite s rq a data
    if was then s else { s with pw := { s.pw with kick := s.ck.time } }
  else if w = 0x3C then writeKick s rq data
  else if w = 0x68 then mainsSourceChosen (stdWrite s rq a data)
  else if w = 0x74 then writeFlashSvc s.useFresh rq data (s.freeVal 23)
  else stdWrite s rq a data

/-- CLK (chapter 03). -/
def clkWrite (s : State) (rq : Requester) (a data : Nat) : State :=
  let w := off a 0xF00100000
  if w = 0x04 then
    match data % 4 with
    | 1 => (requestClkMode s.useFresh 1 fun t => finishChange t 1 (s.freeVal 32)).answer 0
    | 2 =>
      let f := s.freeVal 17
      (requestClkMode s.useFresh 2 fun t => startDeterministic t (if f ≤ 98304 then some f else none)).answer 0
    | _ => stdWrite s rq a data
  else if w = 0x30 then writeClkRate s rq data
  else if w = 0x38 then writeStepLo s data
  else if w = 0x3C then writeStepHi s rq data
  else if w = 0x88 then writeRunCtrl s rq data
  else stdWrite s rq a data

/-- CFG and SEC (chapter 04); what the flash gives to a read command is a free value. -/
def cfgWrite (s : State) (rq : Requester) (a data : Nat) : State :=
  let w := off a 0xF00200000
  if w = 0x54 then writeHatchHi s rq data
  else if w = 0x60 then xspiCommand s.useFresh rq data (leBytes 64 (s.freeVal 512))
  else stdWrite s rq a data

/-- MEM (chapter 05); a patrol scrub that is enabled begins a pass (05 R253). -/
def memWrite (s : State) (rq : Requester) (a data : Nat) : State :=
  if a = 0xF00400048 then memArbCommit s data
  else
    let t := stdWrite s rq a data
    if t.flag Reg.MEM_SCRUB_CFG.EN ∧ !s.flag Reg.MEM_SCRUB_CFG.EN then startScrub t else t

/-- STR (chapter 06). -/
def strWrite (s : State) (rq : Requester) (a data : Nat) : State :=
  let o := off a 0xF00500000
  let base := o = 0x10 ∨ o = 0x14 ∨ (0x100 ≤ o ∧ o < 0x180 ∧ o % 0x20 < 0x10)
  if o = 0 then writeStrCtrl s rq data
  else if base ∧ s.flag Reg.STR_CTRL.EN then strRefused s a data rq
  else if o = 0x40 then freeCrate s rq (data % 2 ^ 32)
  else if o = 0x44 then latchGive s rq (data % 2 ^ 32)
  else if o = 0x48 then giveCrate s rq data
  else if o = 0x4C then reclaimCrates s rq data
  else if 0x1000 ≤ o ∧ o < 0x3000 then
    let n := (off o 0x1000) / 0x40
    let w := o % 0x40
    if w = 0 then writeQCfg s rq n data
    else if w = 0x1C then writeQCtrl s n data
    else if w = 4 ∨ w = 8 then if s.flag (Reg.STR_Q_CFG.EN n) then strRefused s a data rq else stdWrite s rq a data
    else stdWrite s rq a data
  else stdWrite s rq a data

/-- GFB (chapter 07). -/
def gfbWrite (s : State) (rq : Requester) (a data : Nat) : State :=
  let o := off a 0xF01000000
  if o = 0x10 then writeCutPairs s rq data
  else if 0x1000 ≤ o ∧ o < 0x1600 then
    let r := (off o 0x1000) / 0x100
    let w := o % 0x100
    if w = 0x04 then firmwareSwitch s r data
    else if w = 0x14 then (armTimer (s.wr (Reg.GFB_REG_SW_AT_HI.AT r) data) r).answer 0
    else stdWrite s rq a data
  else if 0x2000 ≤ o ∧ o < 0x4000 then
    let p := (off o 0x2000) / 0x400
    if o % 0x400 = 0 then writeSpCfg s rq p data
    else
      let c := (o % 0x400 - 0x100) / 0x40
      let w := (o % 0x400 - 0x100) % 0x40
      if w = 0x00 then writeChCfg s rq p c data
      else if w = 0x04 then writeChField s rq p c (Reg.GFB_CH_LANES.LANES p c) data
      else if w = 0x08 then writeChField s rq p c (Reg.GFB_CH_BASE_LO.ADDR p c) data
      else if w = 0x0C then writeChField s rq p c (Reg.GFB_CH_BASE_HI.ADDR p c) data
      else if w = 0x10 then writeChField s rq p c (Reg.GFB_CH_SIZE.BYTES p c) data
      else if w = 0x18 then
        let s := stdWrite s rq a data
        if c < 4 ∧ s.rd (Reg.GFB_CH_CFG.MODE p c) = 1 then { drainFifo s p c 64 with resp := s.resp } else s
      else stdWrite s rq a data
  else stdWrite s rq a data

/-- A write to IE_BANKb_SS (08 R422, 10 R484). -/
def writeBankSs (s : State) (rq : Requester) (e b a data : Nat) : State :=
  if (s.bank e b).state ≠ 0 ∨ 1024 < bits data 0 10 + bits data 16 11 ∨
      [1, 2, 3].contains (s.rd (Reg.IE_BANK_MODEL_STAT.STATE e b)) then ieRefused s e a data rq
  else stdWrite s rq a data

/-- IE (chapters 08 to 10); the registers that a blocking operation has moved when RESUME or EVICT stops it are a free value. -/
def ieWrite (s : State) (rq : Requester) (e a data : Nat) : State :=
  let o := off a (Target.ie e).base
  if 0x100 ≤ o ∧ o < 0x300 then
    let b := (off o 0x100) / 0x80
    let w := (off o 0x100) % 0x80
    if w = 0x00 then writeBankCtrl s.useFresh rq e b (s.freeVal 7) data
    else if w = 0x0C then writeBankSs s rq e b a data
    else if w = 0x40 then
      let s := stdWrite s rq a data
      if bit data 16 then clearSat s e b else s
    else if w = 0x60 then writeModelAct s e b data
    else stdWrite s rq a data
  else stdWrite s rq a data

/-- RAD (chapters 11 and 12). -/
def radWrite (s : State) (rq : Requester) (a data : Nat) : State :=
  let w := off a 0xF03000000
  if w = 0x00 then writeRadCtrl s rq data
  else if w = 0x60 then writeBeamBase s rq 0 false data
  else if w = 0x64 then writeBeamBase s rq 0 true data
  else if w = 0x68 then writeBeamBase s rq 1 false data
  else if w = 0x6C then writeBeamBase s rq 1 true data
  else if w = 0x70 then beamCommit s data
  else if w = 0x100 then writeEthCfg s rq 0 data
  else if w = 0x140 then writeEthCfg s rq 1 data
  else if w = 0x180 then writeEthCfg s rq 2 data
  else if w = 0x1C0 then writeEthCfg s rq 3 data
  else if w = 0x1010 then gateCommit s data
  else if w = 0x1018 then (if bit data 0 then clearGateCounters s else s).answer 0
  else if w = 0x1204 then (if bit data 0 then s.commitAll ldpcFields else s).answer 0
  else if w = 0x1280 then writeHarq s rq 0 data
  else if w = 0x1284 then writeHarq s rq 1 data
  else if w = 0x1288 then writeHarq s rq 2 data
  else stdWrite s rq a data

/-- VIS (chapter 13). -/
def visRegWrite (s : State) (rq : Requester) (a data : Nat) : State :=
  let o := off a 0xF03800000
  if o = 0 then writeVisCtrl s rq data
  else if o = 0x60 then writeCoefCommit s data
  else if 0x1000 ≤ o ∧ o < 0x1800 then
    let m := (off o 0x1000) / 0x40
    let w := o % 0x40
    if w = 0x00 then writeStreamCfg s rq m data
    else if w = 0x04 then writeStreamSetup s rq m a data [Reg.VIS_STR_SIZE.MAX_W m, Reg.VIS_STR_SIZE.MAX_H m]
    else if w = 0x10 then writeStreamSetup s rq m a data [Reg.VIS_STR_SLOT.COUNT m, Reg.VIS_STR_SLOT.PAGES m]
    else if w = 0x08 then writeStreamSetup s rq m a data [Reg.VIS_STR_SLOT_BASE_LO.ADDR m]
    else if w = 0x0C then writeStreamSetup s rq m a data [Reg.VIS_STR_SLOT_BASE_HI.ADDR m]
    else stdWrite s rq a data
  else if 0x2000 ≤ o ∧ o < 0x2200 then
    let n := (off o 0x2000) / 0x40
    let w := o % 0x40
    if w = 0x00 then writeVisChCfg s rq n data
    else if w = 0x0C then writeChCommit s n data
    else if w = 0x10 then writeChReturn s n data
    else stdWrite s rq a data
  else if 0x10000 ≤ o then writeCoef s (off o 0x10000) data
  else stdWrite s rq a data

/-- GRP (chapter 16). -/
def grpWrite (s : State) (rq : Requester) (a data : Nat) : State :=
  let w := off a 0xF04800000
  if w = 0x10 then writeGrpReset s rq data
  else if w = 0x34 then (postMove (s.wr Reg.GRP_MOVE_POST_HI.ADDR data)).answer 0
  else stdWrite s rq a data

/-- Words of a window that are no registers (07 R367, 08 R374, R423, 14 R672, 15 R707). -/
def writeWindow (s : State) (rq : Requester) (t : Target) (a data : Nat) : Option State :=
  let o := off a t.base
  match t with
  | .gfb => if 0x800000 ≤ o ∧ o < 0x980000 then some (s.answer 0) else none
  | .ie n =>
    if 0x100000 ≤ o ∧ o < 0x140000 then some (viewAccess s rq n ((off o 0x100000) / 0x10000) true (o % 0x10000) data)
    else if 0x200000 ≤ o ∧ o < 0x280000 then some (writeCode s n (off o 0x200000) data)
    else none
  | .cel =>
    if 0x60000 ≤ o ∧ o < 0x78000 then some (writeModelMem s rq a data)
    else if 0x4000 ≤ o ∧ o < 0xC000 then
      let c := (off o 0x4000) % 0x4000
      if (0x800 ≤ c ∧ c < 0xD00) ∨ (0x1000 ≤ c ∧ c < 0x2400) then some (writePlant s rq o data) else none
    else none
  | _ => none

/-- A write to a register that is there. -/
def unitWrite (s : State) (rq : Requester) (t : Target) (a data : Nat) : State :=
  match t with
  | .sys => sysWrite s rq a data
  | .clk => clkWrite s rq a data
  | .cfg => cfgWrite s rq a data
  | .sec => if a = 0xF007000C4 then revokeKeys s rq data else stdWrite s rq a data
  | .noc => if a = 0xF00300014 then nocArbCommit s data else stdWrite s rq a data
  | .mem => memWrite s rq a data
  | .str => strWrite s rq a data
  | .gfb => gfbWrite s rq a data
  | .ie n => ieWrite s rq n a data
  | .rad => radWrite s rq a data
  | .vis => visRegWrite s rq a data
  | .cel =>
    let o := off a 0xF04000000
    if o < 0x20000 then writePlant s rq o data else writeService s rq o data
  | .grp => grpWrite s rq a data
  | _ => stdWrite s rq a data

/-- A write to the register at an address whose checks have passed (00 R6, R13). -/
def regWrite (s : State) (rq : Requester) (t : Target) (a data : Nat) : State :=
  match writeWindow s rq t a data with
  | some s' => s'
  | none => if (fieldsAt a).isSome then unitWrite s rq t a data else s.csrErr t.island 0x0101 a data rq

/-! Accesses. -/

/-- An access to a unit's window whose checks have passed: a queue aperture (06 R288-R290), the pre-roll rings (15 R695), or a
register, by one aligned word (00 R8). -/
def unitAccess (s : State) (rq : Requester) (t : Target) (write : Bool) (a len : Nat) (data : List Byte) : State :=
  let o := off a t.base
  let word := field data 0 4
  if t = .str ∧ 0x10000 ≤ o ∧ o < 0x18000 then
    if write then aperturePush s rq ((off o 0x10000) / 256) (o % 256) (slice data 0 len)
    else popAnswer (aperturePop s rq ((off o 0x10000) / 256) (o % 256) len)
  else if t = .cel ∧ 0x40000 ≤ o ∧ o < 0x60000 then ringAccess s rq write o len
  else if len ≠ 4 ∨ a % 4 ≠ 0 then s.csrErr t.island 0x0104 a (if write then word else 0) rq
  else if write then regWrite s rq t a word
  else regRead s rq t a

/-- An access to a target other than memory: to a unit's window, or out on the PCIe link in root role, where a read's answer is
a free value (01 R41, R52). -/
def targetAccess (s : State) (rq : Requester) (t : Target) (write : Bool) (a len : Nat) (data : List Byte) : State :=
  if t = .pcie then
    if write then (pcieOutbound s true a (slice data 0 len)).answer 0
    else (pcieOutbound s.useFresh false a []).answer (s.freeVal (8 * len))
  else unitAccess s rq t write a len data

/-- A request whose path and checks are clear (01 R41-R44, 05 R220, R222). -/
def checkedRequest (s : State) (rq : Requester) (write : Bool) (a len : Nat) (data : List Byte) (poison : Bool) : State :=
  match checkAccess s rq a len write (field data 0 4) with
  | .err s' => s'
  | .ok t =>
    if t = .dram ∨ t = .larder then memoryRequest s rq write a len data poison
    else targetAccess s rq t write a len data

/-- A request of 1 to 256 bytes at a device address: with no TAG free it waits at its NI, without a route to a target it is not
injected (05 R231, R234, R241). -/
def nocRequest (s : State) (rq : Requester) (write : Bool) (a len : Nat) (data : List Byte) (poison : Bool) : State :=
  if len = 0 ∨ 256 < len ∨ !requesterUp s rq then s
  else if (freeTag s rq.ni).isNone then holdRequest s rq write a len data poison
  else match unrouted s rq a len with
    | some e => e
    | none => checkedRequest s rq write a len data poison

/-- TAGs of an NI are free again: the requests that wait there are made in order, as far as the TAGs reach (05 R234).  Only the
answer to the access that freed the TAG is kept. -/
def releaseWaiting (s : State) (ni : Nat) : State :=
  (s.noc.wait.filter fun w => w.rq.ni == ni).foldl (fun s w =>
    if (freeTag s ni).isNone then s
    else
      let t := { s with noc := { s.noc with wait := s.noc.wait.erase w } }
      { nocRequest t w.rq w.write w.addr w.len w.data w.poison with resp := s.resp }) s

/-- An access through BAR0, which the port has in endpoint role (01 R51, R52); the QCLASS of the port's requests is a free value.
A read of memory that ends in a bus error later ends it with Completer Abort there (`requestTimeout`). -/
def pcieAccess (s : State) (write : Bool) (a len : Nat) (data : List Byte) : State :=
  if a < 2 ^ 36 ∧ s.domUp 20 ∧ s.pcieRoot = false then
    let t := nocRequest { s.useFresh with resp := {} } ⟨39, s.freeVal 2⟩ write a len data false
    { t with resp := { t.resp with abort := t.resp.busError } }
  else s

/-- Ranges of the cellar core's local map (01 R47). -/
inductive LocalRange where
  | rom | sram | log | unit (base : Nat) | aperture
  deriving DecidableEq, Repr

/-- The local range of an address with its first and last address. -/
def localRange (a : Nat) : Option (LocalRange × Nat × Nat) :=
  ([(.rom, 0, 0xFFFF), (.sram, 0x10000000, 0x1005FFFF), (.log, 0x10060000, 0x1007FFFF),
    (.unit 0xF00000000, 0x40000000, 0x400FFFFF), (.unit 0xF00600000, 0x40100000, 0x401FFFFF),
    (.unit 0xF04000000, 0x41000000, 0x417FFFFF), (.aperture, 0x80000000, 0xFFFFFFFF)] : List (LocalRange × Nat × Nat)).find?
      fun r => decide (r.2.1 ≤ a) && decide (a ≤ r.2.2)

/-- The device address of an aperture address (01 R48). -/
def apertureAddr (s : State) (a : Nat) : Nat := s.rd Reg.SYS_CEL_APERTURE.BASE * 2 ^ 31 + (off a 0x80000000)

/-- An access through the aperture; in the Cellar tier only flash service answers one (01 R48, R49, 02 R96). -/
def apertureAccess (s : State) (write : Bool) (a len : Nat) (data : List Byte) : State :=
  let d := apertureAddr s a
  if s.tier ≤ 1 ∧ !(s.flag Reg.SYS_FLASH_SVC.ACTIVE ∧ (windowOf d).1 = .cfg) then
    s.csrErr 234 0x0105 d (if write then field data 0 4 else 0) cellarCore
  else if s.tier ≤ 1 then checkedRequest s cellarCore write d len data false
  else nocRequest s cellarCore write d len data false

/-- A byte of the trouble-log SRAM: slot by slot in the layout of an entry (01 R47, 06 R309). -/
def logByte (s : State) (o : Nat) : Byte := BitVec.ofNat 8 (logWord s (o / 32) (o % 32 / 4) / 256 ^ (o % 4))

/-- An access by the cellar core in its local map (01 R47-R50); a request that runs past its range is refused whole. -/
def localAccess (s : State) (write : Bool) (a len : Nat) (data : List Byte) : State :=
  match localRange a with
  | none => s.addrErr 0x0106 a write true cellarCore
  | some (r, lo, hi) =>
    if hi < a + len - 1 then s.addrErr 0x0106 a write true cellarCore
    else match r with
      | .rom =>
        if write then s.addrErr 0x0107 a true true cellarCore
        else s.answer (leNat ((List.range len).map fun i => Config.romByte (a + i)))
      | .sram =>
        if write then ({ s with mem := { s.mem with sram := Mem.writeN s.mem.sram (a - lo) (slice data 0 len) } }).answer 0
        else s.answer (leNat (Mem.readN s.mem.sram (a - lo) len))
      | .log =>
        if write then s.addrErr 0x0107 a true true cellarCore
        else s.answer (leNat ((List.range len).map fun i => logByte s (a - lo + i)))
      | .unit base =>
        let d := base + (a - lo)
        unitAccess s cellarCore (windowOf d).1 write d len data
      | .aperture => apertureAccess s write a len data

/-! The commands. -/

/-- REGISTER_WRITE (00 R6, R8, R13-R21): a write of `size` bytes to a register's address. -/
def execRegisterWrite (rq : Requester) (addr size data : Nat) (s : State) : Host.Outcome State Fault Refusal :=
  whilePowered s fun s => nocRequest s rq true addr size (leBytes size data) false

/-- NOC_REQUEST (01 R38, R42-R44, 05 R220-R222, R231, R234). -/
def execNocRequest (rq : Requester) (write : Bool) (addr len : Nat) (data : List Byte) (poison : Bool) (s : State) :
    Host.Outcome State Fault Refusal :=
  whilePowered s fun s => nocRequest s rq write addr len data poison

/-- NOC_RESPONSE_ARRIVAL (05 R232, R234, R239). -/
def execNocResponseArrival (ni tag : Nat) (s : State) : Host.Outcome State Fault Refusal :=
  whilePowered s fun s => releaseWaiting (responseArrives s ni tag) ni

/-- NOC_REQ_TIMEOUT (05 R234, R239). -/
def execNocReqTimeout (ni tag : Nat) (s : State) : Host.Outcome State Fault Refusal :=
  whilePowered s fun s => releaseWaiting (requestTimeout s ni tag) ni

/-- PCIE_ENDPOINT_ACCESS (01 R51, R52). -/
def execPcieEndpointAccess (write : Bool) (offset len : Nat) (data : List Byte) (s : State) : Host.Outcome State Fault Refusal :=
  whilePowered s fun s => pcieAccess s write offset len data

/-- CELLAR_LOCAL_ACCESS (01 R47-R50). -/
def execCellarLocalAccess (write : Bool) (addr len : Nat) (data : List Byte) (s : State) : Host.Outcome State Fault Refusal :=
  whilePowered s fun s => if len = 0 ∨ 256 < len then s else localAccess s write (addr % 2 ^ 32) len data

end Sys2Proof.Machine
end

