-- ==== Sys2Proof/Machine/EngineIsa.lean ====
section
/-! DEFINITION. The instructions of an engine (08 R379-R384): each is the attempt of the issuing bank to issue the bundle
at its PC, when that bundle holds the opcode in the slot. -/

namespace Sys2Proof.Machine

/-- C slot BR (08 R379). -/
def execBr (e : Nat) (s : State) : Host.Outcome State Fault Refusal :=
  whilePowered s (issueOp e (holdsOp 0 1) .clean .clean)

/-- C slot JMP (08 R379). -/
def execJmp (e : Nat) (s : State) : Host.Outcome State Fault Refusal :=
  whilePowered s (issueOp e (holdsOp 0 2) .clean .clean)

/-- C slot CALL (08 R379). -/
def execCall (e : Nat) (s : State) : Host.Outcome State Fault Refusal :=
  whilePowered s (issueOp e (holdsOp 0 3) .clean .clean)

/-- C slot RET (08 R379). -/
def execRet (e : Nat) (s : State) : Host.Outcome State Fault Refusal :=
  whilePowered s (issueOp e (holdsOp 0 4) .clean .clean)

/-- C slot LOOP (08 R393). -/
def execLoop (e : Nat) (s : State) : Host.Outcome State Fault Refusal :=
  whilePowered s (issueOp e (holdsOp 0 5) .clean .clean)

/-- C slot WAITALL (08 R379). -/
def execWaitall (e : Nat) (s : State) : Host.Outcome State Fault Refusal :=
  whilePowered s (issueOp e (holdsOp 0 6) .clean .clean)

/-- C slot WAITST (08 R379). -/
def execWaitst (e : Nat) (s : State) : Host.Outcome State Fault Refusal :=
  whilePowered s (issueOp e (holdsOp 0 7) .clean .clean)

/-- C slot HALT (08 R399). -/
def execHalt (e : Nat) (s : State) : Host.Outcome State Fault Refusal :=
  whilePowered s (issueOp e (holdsOp 0 8) .clean .clean)

/-- C slot EVT (08 R379). -/
def execEvt (e : Nat) (s : State) : Host.Outcome State Fault Refusal :=
  whilePowered s (issueOp e (holdsOp 0 9) .clean .clean)

/-- C slot BRK (08 R379). -/
def execBrk (e : Nat) (s : State) : Host.Outcome State Fault Refusal :=
  whilePowered s (issueOp e (holdsOp 0 10) .clean .clean)

/-- Opcode 0x00 in a slot, 0 C to 5 L (08 R376).  The command also stands for the attempt to issue a bundle whose slot holds an
undefined opcode (R415), and for a fetch that finds an uncorrectable word (R372). -/
def execNop (e slot : Nat) (fetch : Ecc) (s : State) : Host.Outcome State Fault Refusal :=
  whilePowered s (issueOp e (fun w => fetch == .double || opc (slotOfBundle w (slot % 6)) == 0 ||
    decide (lastOp (slot % 6) < opc (slotOfBundle w (slot % 6)))) fetch .clean)

/-- ADD in S0 or S1 (08 R380). -/
def execAdd (e slot : Nat) (s : State) : Host.Outcome State Fault Refusal :=
  whilePowered s (issueOp e (holdsOp (1 + slot % 2) 1) .clean .clean)

/-- SUB in S0 or S1 (08 R380). -/
def execSub (e slot : Nat) (s : State) : Host.Outcome State Fault Refusal :=
  whilePowered s (issueOp e (holdsOp (1 + slot % 2) 2) .clean .clean)

/-- AND in S0 or S1 (08 R380). -/
def execAnd (e slot : Nat) (s : State) : Host.Outcome State Fault Refusal :=
  whilePowered s (issueOp e (holdsOp (1 + slot % 2) 3) .clean .clean)

/-- OR in S0 or S1 (08 R380). -/
def execOr (e slot : Nat) (s : State) : Host.Outcome State Fault Refusal :=
  whilePowered s (issueOp e (holdsOp (1 + slot % 2) 4) .clean .clean)

/-- XOR in S0 or S1 (08 R380). -/
def execXor (e slot : Nat) (s : State) : Host.Outcome State Fault Refusal :=
  whilePowered s (issueOp e (holdsOp (1 + slot % 2) 5) .clean .clean)

/-- SLL in S0 or S1 (08 R380). -/
def execSll (e slot : Nat) (s : State) : Host.Outcome State Fault Refusal :=
  whilePowered s (issueOp e (holdsOp (1 + slot % 2) 6) .clean .clean)

/-- SRL in S0 or S1 (08 R380). -/
def execSrl (e slot : Nat) (s : State) : Host.Outcome State Fault Refusal :=
  whilePowered s (issueOp e (holdsOp (1 + slot % 2) 7) .clean .clean)

/-- SRA in S0 or S1 (08 R380). -/
def execSra (e slot : Nat) (s : State) : Host.Outcome State Fault Refusal :=
  whilePowered s (issueOp e (holdsOp (1 + slot % 2) 8) .clean .clean)

/-- MUL in S0 or S1 (08 R380). -/
def execMul (e slot : Nat) (s : State) : Host.Outcome State Fault Refusal :=
  whilePowered s (issueOp e (holdsOp (1 + slot % 2) 9) .clean .clean)

/-- MULH in S0 or S1 (08 R380). -/
def execMulh (e slot : Nat) (s : State) : Host.Outcome State Fault Refusal :=
  whilePowered s (issueOp e (holdsOp (1 + slot % 2) 10) .clean .clean)

/-- DIV in S0 or S1 (08 R382). -/
def execDiv (e slot : Nat) (s : State) : Host.Outcome State Fault Refusal :=
  whilePowered s (issueOp e (holdsOp (1 + slot % 2) 11) .clean .clean)

/-- REM in S0 or S1 (08 R382). -/
def execRem (e slot : Nat) (s : State) : Host.Outcome State Fault Refusal :=
  whilePowered s (issueOp e (holdsOp (1 + slot % 2) 12) .clean .clean)

/-- MIN in S0 or S1 (08 R380). -/
def execMin (e slot : Nat) (s : State) : Host.Outcome State Fault Refusal :=
  whilePowered s (issueOp e (holdsOp (1 + slot % 2) 13) .clean .clean)

/-- MAX in S0 or S1 (08 R380). -/
def execMax (e slot : Nat) (s : State) : Host.Outcome State Fault Refusal :=
  whilePowered s (issueOp e (holdsOp (1 + slot % 2) 14) .clean .clean)

/-- LIH in S0 or S1 (08 R380). -/
def execLih (e slot : Nat) (s : State) : Host.Outcome State Fault Refusal :=
  whilePowered s (issueOp e (holdsOp (1 + slot % 2) 15) .clean .clean)

/-- CMP_EQ in S0 or S1 (08 R380). -/
def execCmpEq (e slot : Nat) (s : State) : Host.Outcome State Fault Refusal :=
  whilePowered s (issueOp e (holdsOp (1 + slot % 2) 16) .clean .clean)

/-- CMP_LT in S0 or S1 (08 R380). -/
def execCmpLt (e slot : Nat) (s : State) : Host.Outcome State Fault Refusal :=
  whilePowered s (issueOp e (holdsOp (1 + slot % 2) 17) .clean .clean)

/-- CMP_LTU in S0 or S1 (08 R380). -/
def execCmpLtu (e slot : Nat) (s : State) : Host.Outcome State Fault Refusal :=
  whilePowered s (issueOp e (holdsOp (1 + slot % 2) 18) .clean .clean)

/-- PAND in S0 or S1 (08 R380). -/
def execPand (e slot : Nat) (s : State) : Host.Outcome State Fault Refusal :=
  whilePowered s (issueOp e (holdsOp (1 + slot % 2) 19) .clean .clean)

/-- POR in S0 or S1 (08 R380). -/
def execPor (e slot : Nat) (s : State) : Host.Outcome State Fault Refusal :=
  whilePowered s (issueOp e (holdsOp (1 + slot % 2) 20) .clean .clean)

/-- PNOT in S0 or S1 (08 R380). -/
def execPnot (e slot : Nat) (s : State) : Host.Outcome State Fault Refusal :=
  whilePowered s (issueOp e (holdsOp (1 + slot % 2) 21) .clean .clean)

/-- TIME in S0 or S1 (08 R380). -/
def execTime (e slot : Nat) (s : State) : Host.Outcome State Fault Refusal :=
  whilePowered s (issueOp e (holdsOp (1 + slot % 2) 22) .clean .clean)

/-- M slot MLOADB (09 R440). -/
def execMloadb (e : Nat) (s : State) : Host.Outcome State Fault Refusal :=
  whilePowered s (issueOp e (holdsOp 3 1) .clean .clean)

/-- M slot MLOADF (09 R441). -/
def execMloadf (e : Nat) (s : State) : Host.Outcome State Fault Refusal :=
  whilePowered s (issueOp e (holdsOp 3 2) .clean .clean)

/-- M slot MMUL (09 R443). -/
def execMmul (e : Nat) (s : State) : Host.Outcome State Fault Refusal :=
  whilePowered s (issueOp e (holdsOp 3 3) .clean .clean)

/-- M slot MMULA (09 R443). -/
def execMmula (e : Nat) (s : State) : Host.Outcome State Fault Refusal :=
  whilePowered s (issueOp e (holdsOp 3 4) .clean .clean)

/-- M slot MCONV (09 R449). -/
def execMconv (e : Nat) (s : State) : Host.Outcome State Fault Refusal :=
  whilePowered s (issueOp e (holdsOp 3 5) .clean .clean)

/-- M slot MDRAIN (09 R452). -/
def execMdrain (e : Nat) (s : State) : Host.Outcome State Fault Refusal :=
  whilePowered s (issueOp e (holdsOp 3 6) .clean .clean)

/-- V slot CHAIN (09 R456). -/
def execChain (e : Nat) (s : State) : Host.Outcome State Fault Refusal :=
  whilePowered s (issueOp e (holdsOp 4 1) .clean .clean)

/-- V slot VMOV (09 R455). -/
def execVmov (e : Nat) (s : State) : Host.Outcome State Fault Refusal :=
  whilePowered s (issueOp e (holdsOp 4 2) .clean .clean)

/-- V slot VZERO (09 R455). -/
def execVzero (e : Nat) (s : State) : Host.Outcome State Fault Refusal :=
  whilePowered s (issueOp e (holdsOp 4 3) .clean .clean)

/-- L slot LDV (08 R384); `ecc` is what the staging read finds (R416). -/
def execLdv (e : Nat) (ecc : Ecc) (s : State) : Host.Outcome State Fault Refusal :=
  whilePowered s (issueOp e (holdsOp 5 1) .clean ecc)

/-- L slot STV (08 R384). -/
def execStv (e : Nat) (s : State) : Host.Outcome State Fault Refusal :=
  whilePowered s (issueOp e (holdsOp 5 2) .clean .clean)

/-- L slot LDS (08 R384); `ecc` is what the staging read finds (R416). -/
def execLds (e : Nat) (ecc : Ecc) (s : State) : Host.Outcome State Fault Refusal :=
  whilePowered s (issueOp e (holdsOp 5 3) .clean ecc)

/-- L slot STS (08 R384). -/
def execSts (e : Nat) (s : State) : Host.Outcome State Fault Refusal :=
  whilePowered s (issueOp e (holdsOp 5 4) .clean .clean)

/-- L slot DMAIN (08 R384). -/
def execDmain (e : Nat) (s : State) : Host.Outcome State Fault Refusal :=
  whilePowered s (issueOp e (holdsOp 5 5) .clean .clean)

/-- L slot DMAOUT (08 R384). -/
def execDmaout (e : Nat) (s : State) : Host.Outcome State Fault Refusal :=
  whilePowered s (issueOp e (holdsOp 5 6) .clean .clean)

/-- L slot STM_S (08 R406). -/
def execStmS (e : Nat) (s : State) : Host.Outcome State Fault Refusal :=
  whilePowered s (issueOp e (holdsOp 5 7) .clean .clean)

/-- L slot LDM_S (08 R406). -/
def execLdmS (e : Nat) (s : State) : Host.Outcome State Fault Refusal :=
  whilePowered s (issueOp e (holdsOp 5 8) .clean .clean)

/-- L slot STM_V (08 R406). -/
def execStmV (e : Nat) (s : State) : Host.Outcome State Fault Refusal :=
  whilePowered s (issueOp e (holdsOp 5 9) .clean .clean)

/-- L slot LDM_V (08 R406). -/
def execLdmV (e : Nat) (s : State) : Host.Outcome State Fault Refusal :=
  whilePowered s (issueOp e (holdsOp 5 10) .clean .clean)

/-- L slot STM_P (08 R406). -/
def execStmP (e : Nat) (s : State) : Host.Outcome State Fault Refusal :=
  whilePowered s (issueOp e (holdsOp 5 11) .clean .clean)

/-- L slot LDM_P (08 R406). -/
def execLdmP (e : Nat) (s : State) : Host.Outcome State Fault Refusal :=
  whilePowered s (issueOp e (holdsOp 5 12) .clean .clean)

/-- L slot SAVEH_L (08 R410). -/
def execSavehL (e : Nat) (s : State) : Host.Outcome State Fault Refusal :=
  whilePowered s (issueOp e (holdsOp 5 13) .clean .clean)

/-- L slot SAVEH_U (08 R410). -/
def execSavehU (e : Nat) (s : State) : Host.Outcome State Fault Refusal :=
  whilePowered s (issueOp e (holdsOp 5 14) .clean .clean)

/-- L slot RESTH_L (08 R411). -/
def execResthL (e : Nat) (s : State) : Host.Outcome State Fault Refusal :=
  whilePowered s (issueOp e (holdsOp 5 15) .clean .clean)

/-- L slot RESTH_U (08 R411). -/
def execResthU (e : Nat) (s : State) : Host.Outcome State Fault Refusal :=
  whilePowered s (issueOp e (holdsOp 5 16) .clean .clean)

/-- L slot LDD (08 R384). -/
def execLdd (e : Nat) (s : State) : Host.Outcome State Fault Refusal :=
  whilePowered s (issueOp e (holdsOp 5 17) .clean .clean)

/-- L slot STD (08 R384). -/
def execStd (e : Nat) (s : State) : Host.Outcome State Fault Refusal :=
  whilePowered s (issueOp e (holdsOp 5 18) .clean .clean)

end Sys2Proof.Machine
end

