-- ==== Sys2Proof/Machine/Dispatch.lean ====
section
/-! DEFINITION. The command dispatch: one arm per constructor of `Instr`, each one call of its meaning. -/

namespace Sys2Proof.Machine

/-- The effect of one command on everything but the queue. -/
def exec (i : Instr) (s : State) : Host.Outcome State Fault Refusal :=
  match i with
  | .registerWrite rq addr size data => Sys2Proof.Machine.execRegisterWrite rq addr size data s
  | .nocRequest rq write addr len data poison => Sys2Proof.Machine.execNocRequest rq write addr len data poison s
  | .pcieEndpointAccess write offset len data => Sys2Proof.Machine.execPcieEndpointAccess write offset len data s
  | .cellarLocalAccess write addr len data => Sys2Proof.Machine.execCellarLocalAccess write addr len data s
  | .nocFlitRoute router inPort flit err => Sys2Proof.Machine.execNocFlitRoute router inPort flit err s
  | .nocFlitEject ni flit err => Sys2Proof.Machine.execNocFlitEject ni flit err s
  | .nocResponseArrival ni tag => Sys2Proof.Machine.execNocResponseArrival ni tag s
  | .nocReqTimeout ni tag => Sys2Proof.Machine.execNocReqTimeout ni tag s
  | .arbWindowStart arb => Sys2Proof.Machine.execArbWindowStart arb s
  | .memArbCommit rq data => Sys2Proof.Machine.execMemArbCommit rq data s
  | .nocArbCommit rq data => Sys2Proof.Machine.execNocArbCommit rq data s
  | .dramRead ctl ecc => Sys2Proof.Machine.execDramRead ctl ecc s
  | .dramWrite ctl ecc => Sys2Proof.Machine.execDramWrite ctl ecc s
  | .dramRefresh ch => Sys2Proof.Machine.execDramRefresh ch s
  | .mr4Poll ch temp => Sys2Proof.Machine.execMr4Poll ch temp s
  | .larderRead bank errs => Sys2Proof.Machine.execLarderRead bank errs s
  | .larderWrite bank errs => Sys2Proof.Machine.execLarderWrite bank errs s
  | .vddCelPowerGood => Sys2Proof.Machine.execVddCelPowerGood s
  | .vddCelLoss => Sys2Proof.Machine.execVddCelLoss s
  | .vddIo33Low => Sys2Proof.Machine.execVddIo33Low s
  | .vddIo33Restored => Sys2Proof.Machine.execVddIo33Restored s
  | .pornReset => Sys2Proof.Machine.execPornReset s
  | .watchdogExpiry => Sys2Proof.Machine.execWatchdogExpiry s
  | .wdogKick rq data => Sys2Proof.Machine.execWdogKick rq data s
  | .softwareColdReset rq data => Sys2Proof.Machine.execSoftwareColdReset rq data s
  | .softwareWarmReset rq data late => Sys2Proof.Machine.execSoftwareWarmReset rq data late s
  | .startUp => Sys2Proof.Machine.execStartUp s
  | .fllLock tjMin mfio63 => Sys2Proof.Machine.execFllLock tjMin mfio63 s
  | .warmEnd tjMin => Sys2Proof.Machine.execWarmEnd tjMin s
  | .warmLimitExpired tjMin => Sys2Proof.Machine.execWarmLimitExpired tjMin s
  | .coldWaitReading tjMin => Sys2Proof.Machine.execColdWaitReading tjMin s
  | .railChannelPowerGood ch => Sys2Proof.Machine.execRailChannelPowerGood ch s
  | .railFaultTimeout ch => Sys2Proof.Machine.execRailFaultTimeout ch s
  | .railFaultDrop ch => Sys2Proof.Machine.execRailFaultDrop ch s
  | .railFaultRetry => Sys2Proof.Machine.execRailFaultRetry s
  | .refclkDetected => Sys2Proof.Machine.execRefclkDetected s
  | .refclkAbsent => Sys2Proof.Machine.execRefclkAbsent s
  | .configStart pointer => Sys2Proof.Machine.execConfigStart pointer s
  | .configPass1Done image0 image1 => Sys2Proof.Machine.execConfigPass1Done image0 image1 s
  | .dramTrainingDone fail => Sys2Proof.Machine.execDramTrainingDone fail s
  | .configPass2Done image => Sys2Proof.Machine.execConfigPass2Done image s
  | .cfgSourceLost offset => Sys2Proof.Machine.execCfgSourceLost offset s
  | .cfgDone => Sys2Proof.Machine.execCfgDone s
  | .chainPassStart => Sys2Proof.Machine.execChainPassStart s
  | .chainFrameReceive frame => Sys2Proof.Machine.execChainFrameReceive frame s
  | .chainFrameGap => Sys2Proof.Machine.execChainFrameGap s
  | .cfgChainTimeout => Sys2Proof.Machine.execCfgChainTimeout s
  | .flashSvcEnable rq => Sys2Proof.Machine.execFlashSvcEnable rq s
  | .flashSvcDisable rq late => Sys2Proof.Machine.execFlashSvcDisable rq late s
  | .xspiReadCmd rq data din => Sys2Proof.Machine.execXspiReadCmd rq data din s
  | .xspiWriteCmd rq data => Sys2Proof.Machine.execXspiWriteCmd rq data s
  | .secKeyRevoke rq data => Sys2Proof.Machine.execSecKeyRevoke rq data s
  | .pwrReqCellar rq late => Sys2Proof.Machine.execPwrReqCellar rq late s
  | .pwrReqStandby rq late => Sys2Proof.Machine.execPwrReqStandby rq late s
  | .pwrReqRun rq late bad => Sys2Proof.Machine.execPwrReqRun rq late bad s
  | .pwrReqHoldover rq late => Sys2Proof.Machine.execPwrReqHoldover rq late s
  | .standbyWake source bad => Sys2Proof.Machine.execStandbyWake source bad s
  | .mainsLost late => Sys2Proof.Machine.execMainsLost late s
  | .mainsPresentDwell => Sys2Proof.Machine.execMainsPresentDwell s
  | .domainOnRequest rq mask => Sys2Proof.Machine.execDomainOnRequest rq mask s
  | .domainOffRequest rq mask => Sys2Proof.Machine.execDomainOffRequest rq mask s
  | .fenceAck dom => Sys2Proof.Machine.execFenceAck dom s
  | .fenceTimeout dom => Sys2Proof.Machine.execFenceTimeout dom s
  | .cellarClockMove => Sys2Proof.Machine.execCellarClockMove s
  | .xtalFail => Sys2Proof.Machine.execXtalFail s
  | .crystalRestored => Sys2Proof.Machine.execCrystalRestored s
  | .governorEvaluation tjMin tjMax => Sys2Proof.Machine.execGovernorEvaluation tjMin tjMax s
  | .thermalTrip tjMax => Sys2Proof.Machine.execThermalTrip tjMax s
  | .tripRestart tjMax => Sys2Proof.Machine.execTripRestart tjMax s
  | .avsSetPoint mv answer => Sys2Proof.Machine.execAvsSetPoint mv answer s
  | .clkModeReqAdaptive rq ticks => Sys2Proof.Machine.execClkModeReqAdaptive rq ticks s
  | .clkModeReqDeterministic rq floor => Sys2Proof.Machine.execClkModeReqDeterministic rq floor s
  | .clkModeFloorTimeout => Sys2Proof.Machine.execClkModeFloorTimeout s
  | .droopStretch island cycles => Sys2Proof.Machine.execDroopStretch island cycles s
  | .refclkLost => Sys2Proof.Machine.execRefclkLost s
  | .refclkRelock => Sys2Proof.Machine.execRefclkRelock s
  | .clkRateWrite rq data => Sys2Proof.Machine.execClkRateWrite rq data s
  | .clkStepWrite rq data => Sys2Proof.Machine.execClkStepWrite rq data s
  | .clkStepApply => Sys2Proof.Machine.execClkStepApply s
  | .ppsInEdge => Sys2Proof.Machine.execPpsInEdge s
  | .clkPpsMissing => Sys2Proof.Machine.execClkPpsMissing s
  | .ppsOutRise => Sys2Proof.Machine.execPpsOutRise s
  | .ppsOutFall => Sys2Proof.Machine.execPpsOutFall s
  | .ethFrameReceive port frame => Sys2Proof.Machine.execEthFrameReceive port frame s
  | .ethFrameTransmit port frame sync => Sys2Proof.Machine.execEthFrameTransmit port frame sync s
  | .synceSquelch out => Sys2Proof.Machine.execSynceSquelch out s
  | .synceUnsquelch out => Sys2Proof.Machine.execSynceUnsquelch out s
  | .clkRunArm rq data => Sys2Proof.Machine.execClkRunArm rq data s
  | .clkRunMark => Sys2Proof.Machine.execClkRunMark s
  | .hatchPost rq data => Sys2Proof.Machine.execHatchPost rq data s
  | .hatchLanePost port lo hi => Sys2Proof.Machine.execHatchLanePost port lo hi s
  | .shelfLoad => Sys2Proof.Machine.execShelfLoad s
  | .regionReload => Sys2Proof.Machine.execRegionReload s
  | .routeLoad => Sys2Proof.Machine.execRouteLoad s
  | .hatchLoadComplete cycles => Sys2Proof.Machine.execHatchLoadComplete cycles s
  | .regionReloaded cycles => Sys2Proof.Machine.execRegionReloaded cycles s
  | .strEnable rq data => Sys2Proof.Machine.execStrEnable rq data s
  | .poolAlloc rq pool => Sys2Proof.Machine.execPoolAlloc rq pool s
  | .crateFree rq handle => Sys2Proof.Machine.execCrateFree rq handle s
  | .crateGiveLatch rq handle => Sys2Proof.Machine.execCrateGiveLatch rq handle s
  | .crateGive rq data => Sys2Proof.Machine.execCrateGive rq data s
  | .crateReclaim rq data => Sys2Proof.Machine.execCrateReclaim rq data s
  | .queueEnable rq q data => Sys2Proof.Machine.execQueueEnable rq q data s
  | .queuePush rq q offset data => Sys2Proof.Machine.execQueuePush rq q offset data s
  | .queuePop rq q offset len => Sys2Proof.Machine.execQueuePop rq q offset len s
  | .queueSkip rq q => Sys2Proof.Machine.execQueueSkip rq q s
  | .queueFlush rq q => Sys2Proof.Machine.execQueueFlush rq q s
  | .queueClear rq q => Sys2Proof.Machine.execQueueClear rq q s
  | .eventArrival raised island code a0 a1 a2 => Sys2Proof.Machine.execEventArrival raised island code a0 a1 a2 s
  | .logIntakeWrite => Sys2Proof.Machine.execLogIntakeWrite s
  | .logStatus payload => Sys2Proof.Machine.execLogStatus payload s
  | .logRead payload => Sys2Proof.Machine.execLogRead payload s
  | .logAck payload => Sys2Proof.Machine.execLogAck payload s
  | .logBadRequest payload => Sys2Proof.Machine.execLogBadRequest payload s
  | .slotStrobe region shelf tick => Sys2Proof.Machine.execSlotStrobe region shelf tick s
  | .regionTimerArm rq region data => Sys2Proof.Machine.execRegionTimerArm rq region data s
  | .triggerCell region => Sys2Proof.Machine.execTriggerCell region s
  | .swReq rq region data => Sys2Proof.Machine.execSwReq rq region data s
  | .shelfSwitch region => Sys2Proof.Machine.execShelfSwitch region s
  | .spChannelConfig rq port ch data => Sys2Proof.Machine.execSpChannelConfig rq port ch data s
  | .spChannelRestart rq port ch => Sys2Proof.Machine.execSpChannelRestart rq port ch s
  | .spOutboundWord port ch word => Sys2Proof.Machine.execSpOutboundWord port ch word s
  | .cutPairsWrite rq data => Sys2Proof.Machine.execCutPairsWrite rq data s
  | .cutRelease lane sat => Sys2Proof.Machine.execCutRelease lane sat s
  | .br e => Sys2Proof.Machine.execBr e s
  | .jmp e => Sys2Proof.Machine.execJmp e s
  | .call e => Sys2Proof.Machine.execCall e s
  | .ret e => Sys2Proof.Machine.execRet e s
  | .loop e => Sys2Proof.Machine.execLoop e s
  | .waitall e => Sys2Proof.Machine.execWaitall e s
  | .waitst e => Sys2Proof.Machine.execWaitst e s
  | .halt e => Sys2Proof.Machine.execHalt e s
  | .evt e => Sys2Proof.Machine.execEvt e s
  | .brk e => Sys2Proof.Machine.execBrk e s
  | .nop e slot fetch => Sys2Proof.Machine.execNop e slot fetch s
  | .add e slot => Sys2Proof.Machine.execAdd e slot s
  | .sub e slot => Sys2Proof.Machine.execSub e slot s
  | .and e slot => Sys2Proof.Machine.execAnd e slot s
  | .or e slot => Sys2Proof.Machine.execOr e slot s
  | .xor e slot => Sys2Proof.Machine.execXor e slot s
  | .sll e slot => Sys2Proof.Machine.execSll e slot s
  | .srl e slot => Sys2Proof.Machine.execSrl e slot s
  | .sra e slot => Sys2Proof.Machine.execSra e slot s
  | .mul e slot => Sys2Proof.Machine.execMul e slot s
  | .mulh e slot => Sys2Proof.Machine.execMulh e slot s
  | .div e slot => Sys2Proof.Machine.execDiv e slot s
  | .rem e slot => Sys2Proof.Machine.execRem e slot s
  | .min e slot => Sys2Proof.Machine.execMin e slot s
  | .max e slot => Sys2Proof.Machine.execMax e slot s
  | .lih e slot => Sys2Proof.Machine.execLih e slot s
  | .cmpEq e slot => Sys2Proof.Machine.execCmpEq e slot s
  | .cmpLt e slot => Sys2Proof.Machine.execCmpLt e slot s
  | .cmpLtu e slot => Sys2Proof.Machine.execCmpLtu e slot s
  | .pand e slot => Sys2Proof.Machine.execPand e slot s
  | .por e slot => Sys2Proof.Machine.execPor e slot s
  | .pnot e slot => Sys2Proof.Machine.execPnot e slot s
  | .time e slot => Sys2Proof.Machine.execTime e slot s
  | .mloadb e => Sys2Proof.Machine.execMloadb e s
  | .mloadf e => Sys2Proof.Machine.execMloadf e s
  | .mmul e => Sys2Proof.Machine.execMmul e s
  | .mmula e => Sys2Proof.Machine.execMmula e s
  | .mconv e => Sys2Proof.Machine.execMconv e s
  | .mdrain e => Sys2Proof.Machine.execMdrain e s
  | .chainOp e => Sys2Proof.Machine.execChain e s
  | .vmov e => Sys2Proof.Machine.execVmov e s
  | .vzero e => Sys2Proof.Machine.execVzero e s
  | .ldv e ecc => Sys2Proof.Machine.execLdv e ecc s
  | .stv e => Sys2Proof.Machine.execStv e s
  | .lds e ecc => Sys2Proof.Machine.execLds e ecc s
  | .sts e => Sys2Proof.Machine.execSts e s
  | .dmain e => Sys2Proof.Machine.execDmain e s
  | .dmaout e => Sys2Proof.Machine.execDmaout e s
  | .stmS e => Sys2Proof.Machine.execStmS e s
  | .ldmS e => Sys2Proof.Machine.execLdmS e s
  | .stmV e => Sys2Proof.Machine.execStmV e s
  | .ldmV e => Sys2Proof.Machine.execLdmV e s
  | .stmP e => Sys2Proof.Machine.execStmP e s
  | .ldmP e => Sys2Proof.Machine.execLdmP e s
  | .savehL e => Sys2Proof.Machine.execSavehL e s
  | .savehU e => Sys2Proof.Machine.execSavehU e s
  | .resthL e => Sys2Proof.Machine.execResthL e s
  | .resthU e => Sys2Proof.Machine.execResthU e s
  | .ldd e => Sys2Proof.Machine.execLdd e s
  | .std e => Sys2Proof.Machine.execStd e s
  | .operationComplete e entry err => Sys2Proof.Machine.execOperationComplete e entry err s
  | .blockingTransferFault e bank done ue => Sys2Proof.Machine.execBlockingTransferFault e bank done ue s
  | .dmaFault e bank => Sys2Proof.Machine.execDmaFault e bank s
  | .spillBlockFetched e bank block => Sys2Proof.Machine.execSpillBlockFetched e bank block s
  | .budgetExceeded e bank => Sys2Proof.Machine.execBudgetExceeded e bank s
  | .doorbell e => Sys2Proof.Machine.execDoorbell e s
  | .jobStart e bank done => Sys2Proof.Machine.execJobStart e bank done s
  | .jobResume e bank done => Sys2Proof.Machine.execJobResume e bank done s
  | .bankSwitchComplete e => Sys2Proof.Machine.execBankSwitchComplete e s
  | .bankResume e done => Sys2Proof.Machine.execBankResume e done s
  | .bankResumeCmd rq e bank done => Sys2Proof.Machine.execBankResumeCmd rq e bank done s
  | .bankAbort rq e bank => Sys2Proof.Machine.execBankAbort rq e bank s
  | .bankEvict rq e bank done => Sys2Proof.Machine.execBankEvict rq e bank done s
  | .evictionComplete e bank => Sys2Proof.Machine.execEvictionComplete e bank s
  | .codeStoreWrite rq e offset data => Sys2Proof.Machine.execCodeStoreWrite rq e offset data s
  | .bankViewAccess rq e bank write offset data => Sys2Proof.Machine.execBankViewAccess rq e bank write offset data s
  | .clrSat rq e bank => Sys2Proof.Machine.execClrSat rq e bank s
  | .modelActivate rq e bank data => Sys2Proof.Machine.execModelActivate rq e bank data s
  | .modelLoadBegin e bank => Sys2Proof.Machine.execModelLoadBegin e bank s
  | .modelActive e bank => Sys2Proof.Machine.execModelActive e bank s
  | .modelLoadFail e bank cause addr => Sys2Proof.Machine.execModelLoadFail e bank cause addr s
  | .modelDrop rq e bank data => Sys2Proof.Machine.execModelDrop rq e bank data s
  | .radioRelease rq data => Sys2Proof.Machine.execRadioRelease rq data s
  | .radioReleased calOk => Sys2Proof.Machine.execRadioReleased calOk s
  | .radioWithdraw rq data => Sys2Proof.Machine.execRadioWithdraw rq data s
  | .backgroundCalibration chain param value inTolerance => Sys2Proof.Machine.execBackgroundCalibration chain param value inTolerance s
  | .frameBoundary carrier => Sys2Proof.Machine.execFrameBoundary carrier s
  | .slotBoundary carrier sats => Sys2Proof.Machine.execSlotBoundary carrier sats s
  | .beamCommit rq data => Sys2Proof.Machine.execBeamCommit rq data s
  | .fronthaulFrameReceive port msg => Sys2Proof.Machine.execFronthaulFrameReceive port msg s
  | .oneWayDelayMeasurement port id => Sys2Proof.Machine.execOneWayDelayMeasurement port id s
  | .paramRequest carrier => Sys2Proof.Machine.execParamRequest carrier s
  | .configRequest carrier tlvs => Sys2Proof.Machine.execConfigRequest carrier tlvs s
  | .startRequest carrier => Sys2Proof.Machine.execStartRequest carrier s
  | .stopRequest carrier => Sys2Proof.Machine.execStopRequest carrier s
  | .dlTtiRequest carrier sfn slot pdus => Sys2Proof.Machine.execDlTtiRequest carrier sfn slot pdus s
  | .ulTtiRequest carrier sfn slot pdus => Sys2Proof.Machine.execUlTtiRequest carrier sfn slot pdus s
  | .ulDciRequest carrier sfn slot pdus => Sys2Proof.Machine.execUlDciRequest carrier sfn slot pdus s
  | .txDataRequest carrier sfn slot crates => Sys2Proof.Machine.execTxDataRequest carrier sfn slot crates s
  | .fapiUnsupportedMessage carrier type => Sys2Proof.Machine.execFapiUnsupportedMessage carrier type s
  | .slotIndication carrier => Sys2Proof.Machine.execSlotIndication carrier s
  | .uciIndication carrier => Sys2Proof.Machine.execUciIndication carrier s
  | .tbCrcDeadline carrier => Sys2Proof.Machine.execTbCrcDeadline carrier s
  | .crcIndication carrier => Sys2Proof.Machine.execCrcIndication carrier s
  | .rachIndication carrier => Sys2Proof.Machine.execRachIndication carrier s
  | .allocationReady desc pdu => Sys2Proof.Machine.execAllocationReady desc pdu s
  | .classicalLlrComplete alloc => Sys2Proof.Machine.execClassicalLlrComplete alloc s
  | .learnedCompletion => Sys2Proof.Machine.execLearnedCompletion s
  | .guardInstant carrier => Sys2Proof.Machine.execGuardInstant carrier s
  | .engineOverdue engine => Sys2Proof.Machine.execEngineOverdue engine s
  | .radLrCommit rq data => Sys2Proof.Machine.execRadLrCommit rq data s
  | .ldpcBlockDone island iters good tbCrc data => Sys2Proof.Machine.execLdpcBlockDone island iters good tbCrc data s
  | .ldpcCutoff carrier => Sys2Proof.Machine.execLdpcCutoff carrier s
  | .radLdpcCommit rq data => Sys2Proof.Machine.execRadLdpcCommit rq data s
  | .streamEnable rq stream data => Sys2Proof.Machine.execStreamEnable rq stream data s
  | .accessUnit dec pic => Sys2Proof.Machine.execAccessUnit dec pic s
  | .frameOutput stream slot => Sys2Proof.Machine.execFrameOutput stream slot s
  | .compositionJobStart => Sys2Proof.Machine.execCompositionJobStart s
  | .compositionPassEnd => Sys2Proof.Machine.execCompositionPassEnd s
  | .compositionRelease => Sys2Proof.Machine.execCompositionRelease s
  | .visChCommit rq ch data => Sys2Proof.Machine.execVisChCommit rq ch data s
  | .visCoefCommit rq data => Sys2Proof.Machine.execVisCoefCommit rq data s
  | .visChReturn rq ch data => Sys2Proof.Machine.execVisChReturn rq ch data s
  | .visEnable rq data => Sys2Proof.Machine.execVisEnable rq data s
  | .pinCfgWrite rq pin data => Sys2Proof.Machine.execPinCfgWrite rq pin data s
  | .gpioOutWrite rq bank data => Sys2Proof.Machine.execGpioOutWrite rq bank data s
  | .pinqWord => Sys2Proof.Machine.execPinqWord s
  | .matcherHit m levels => Sys2Proof.Machine.execMatcherHit m levels s
  | .adcConversion ch uv => Sys2Proof.Machine.execAdcConversion ch uv s
  | .tachEdge t => Sys2Proof.Machine.execTachEdge t s
  | .tachTimeout t => Sys2Proof.Machine.execTachTimeout t s
  | .windowExit k uv => Sys2Proof.Machine.execWindowExit k uv s
  | .windowReturn k uv => Sys2Proof.Machine.execWindowReturn k uv s
  | .tripLatchClear rq data => Sys2Proof.Machine.execTripLatchClear rq data s
  | .pwmCommit rq data => Sys2Proof.Machine.execPwmCommit rq data s
  | .pwmPeriodStart ch => Sys2Proof.Machine.execPwmPeriodStart ch s
  | .pleSample l => Sys2Proof.Machine.execPleSample l s
  | .canFrameReceive n frame sof => Sys2Proof.Machine.execCanFrameReceive n frame sof s
  | .canTxRequest rq n data => Sys2Proof.Machine.execCanTxRequest rq n data s
  | .canTxDone n slot started => Sys2Proof.Machine.execCanTxDone n slot started s
  | .canRxPop rq n data => Sys2Proof.Machine.execCanRxPop rq n data s
  | .canBusOff n tec => Sys2Proof.Machine.execCanBusOff n tec s
  | .canBusOffRecovery n => Sys2Proof.Machine.execCanBusOffRecovery n s
  | .uartTxdWrite rq u data => Sys2Proof.Machine.execUartTxdWrite rq u data s
  | .uartFrameSent u => Sys2Proof.Machine.execUartFrameSent u s
  | .uartByteReceive u byte => Sys2Proof.Machine.execUartByteReceive u byte s
  | .uartFrameEnd u => Sys2Proof.Machine.execUartFrameEnd u s
  | .uartRxdPop rq u => Sys2Proof.Machine.execUartRxdPop rq u s
  | .i2cCommand rq n data => Sys2Proof.Machine.execI2cCommand rq n data s
  | .i2cCommandDone n done nack arb data => Sys2Proof.Machine.execI2cCommandDone n done nack arb data s
  | .i2cTimeout n done => Sys2Proof.Machine.execI2cTimeout n done s
  | .spiCommand rq n data => Sys2Proof.Machine.execSpiCommand rq n data s
  | .spiCommandDone n data => Sys2Proof.Machine.execSpiCommandDone n data s
  | .audioSample x0 x1 => Sys2Proof.Machine.execAudioSample x0 x1 s
  | .audioFrameBoundary => Sys2Proof.Machine.execAudioFrameBoundary s
  | .audioRingRead rq write offset len => Sys2Proof.Machine.execAudioRingRead rq write offset len s
  | .spotterScore => Sys2Proof.Machine.execSpotterScore s
  | .spotEnable rq data => Sys2Proof.Machine.execSpotEnable rq data s
  | .consoleTimeout => Sys2Proof.Machine.execConsoleTimeout s
  | .verifyRequest => Sys2Proof.Machine.execVerifyRequest s
  | .verifyCompletion => Sys2Proof.Machine.execVerifyCompletion s
  | .verifyTimeout => Sys2Proof.Machine.execVerifyTimeout s
  | .batteryCut => Sys2Proof.Machine.execBatteryCut s
  | .tetherFrameReceive port frame fec => Sys2Proof.Machine.execTetherFrameReceive port frame fec s
  | .tetherReplayTimeout port => Sys2Proof.Machine.execTetherReplayTimeout port s
  | .tetherTrained port => Sys2Proof.Machine.execTetherTrained port s
  | .tetherTrainRetry port => Sys2Proof.Machine.execTetherTrainRetry port s
  | .groupFormStart => Sys2Proof.Machine.execGroupFormStart s
  | .hello port groupId member peerPort epoch => Sys2Proof.Machine.execHello port groupId member peerPort epoch s
  | .manifest device manifest => Sys2Proof.Machine.execManifest device manifest s
  | .admitMsg members => Sys2Proof.Machine.execAdmit members s
  | .bench members => Sys2Proof.Machine.execBench members s
  | .yield late => Sys2Proof.Machine.execYield late s
  | .dissolve member reason => Sys2Proof.Machine.execDissolve member reason s
  | .joined => Sys2Proof.Machine.execJoined s
  | .resend => Sys2Proof.Machine.execResend s
  | .grpFormTimeout => Sys2Proof.Machine.execGrpFormTimeout s
  | .timeExchange child ok t1 t2 t3 t4 parentOfs => Sys2Proof.Machine.execTimeExchange child ok t1 t2 t3 t4 parentOfs s
  | .movePost rq data => Sys2Proof.Machine.execMovePost rq data s
  | .moveWrite remote => Sys2Proof.Machine.execMoveWrite remote s
  | .moveRead remote bytes => Sys2Proof.Machine.execMoveRead remote bytes s
  | .movePush remote => Sys2Proof.Machine.execMovePush remote s
  | .moveComplete => Sys2Proof.Machine.execMoveComplete s
  | .grpReset rq data => Sys2Proof.Machine.execGrpReset rq data s
  | .tetherGroupReset source late => Sys2Proof.Machine.execTetherGroupReset source late s
  | .tetherLockLost port => Sys2Proof.Machine.execTetherLockLost port s
  | .clkIslandUnlock island => Sys2Proof.Machine.execClkIslandUnlock island s
  | .matcherOutClear m levels => Sys2Proof.Machine.execMatcherOutClear m levels s
  | .spInboundWord port ch => Sys2Proof.Machine.execSpInboundWord port ch s
  | .ddcWordPresented chain stream word ovr => Sys2Proof.Machine.execDdcWordPresented chain stream word ovr s

end Sys2Proof.Machine
end

