-- ==== Sys2Proof/Machine/Tick.lean ====
section
/-! DEFINITION. What passes while no command waits: device time, beats, and the cycles of the fabric and the network (03 R122, R136,
R139-R141, 05 R240, 07 R336). -/

namespace Sys2Proof.Machine

/-- Device time advances by `n` × (1 + CLK_RATE × 2^−32), the fraction carried (03 R140); PPS_OUT falls due as it passes a second of
R151. -/
def advanceTime (s : State) (n : Nat) : State :=
  let t : Int := (s.now * 2 ^ 32 + s.ck.frac.toNat : Nat) + (n : Int) * (2 ^ 32 + sInt (s.rd Reg.CLK_RATE.RATE) 32)
  let u := { s with ck := { s.ck with time := BitVec.ofInt 64 (t / 2 ^ 32), frac := BitVec.ofInt 32 t } }
  { u with ck := { u.ck with ppsDue := u.ck.ppsDue || passedSecond u s.now } }

/-- A word with V = 1 on a port's hatch lane: the second of two makes a post (07 R352). -/
def hatchLane (s : State) (p : Nat) (w : Word) : State :=
  match Tbl.find s.hatch.lane p with
  | none => { s with hatch := { s.hatch with lane := Tbl.set s.hatch.lane p w.toNat } }
  | some lo =>
    let s := { s with hatch := { s.hatch with lane := Tbl.erase s.hatch.lane p } }
    lanePost s p (BitVec.ofNat 32 lo) w

/-- A word for the DUC stream of a port-7 lane, output after the latency of its rate code; a stream that is not in use outputs nothing
(11 R503, R505). -/
def ducTakes (s : State) (lane : Nat) (w : Word) : State :=
  if streamRuns s (4 + lane / 2) (lane % 2) then
    { s with fab := { s.fab with ducOut := s.fab.ducOut ++
        [(lane, w, s.fab.cycle + ducLatency (streamRate (radioBody s) (4 + lane / 2) (lane % 2)))] } }
  else s

/-- A word from the fabric reaches a stream-port lane; a port takes none of a region that is fenced or off (07 R346, R352-R355). -/
def portTakes (s : State) (p lane : Nat) (w : Word) : State :=
  if !s.domUp 16 ∨ !takesIn s (portRegion p) then s
  else if p = 7 ∧ bit (s.rd Reg.GFB_CUT_CFG.PAIRS) lane then cutArrives s lane w
  else if bit (s.rd (Reg.GFB_SP_CFG.CONV p)) lane then
    if p = 7 then ducTakes s lane w else s
  else if lane = 15 ∧ s.flag (Reg.GFB_SP_CFG.HATCH p) then hatchLane s p w
  else match (List.range 4).find? fun c => s.rd (Reg.GFB_CH_CFG.MODE p c) != 0 && bit (s.rd (Reg.GFB_CH_LANES.LANES p c)) lane with
    | some c => outboundWord s p c w
    | none => s

/-- The words that reach stream ports in this fabric cycle, each port's in ascending lane order (07 R346). -/
def portWords (s : State) : List Flight :=
  let due := s.fab.flights.filter fun f => f.at_ == s.fab.cycle && decide (96 ≤ f.island)
  (List.range 8).flatMap fun p => (List.range 16).flatMap fun k => due.filter fun f => f.island == 96 + p && f.lane == k

/-- One fabric cycle: held words try their crossings again, words reach the stream ports, the inbound channels deliver, then the
cells, and the words taken leave the crossings. -/
def fabricTick (s : State) : State :=
  let s := releaseHeld s
  let s := (portWords s).foldl (fun s f => portTakes s (f.island - 96) f.lane f.w.d) s
  let s := fabricCycle (inboundCycle s)
  { s with fab := { s.fab with flights := s.fab.flights.filter fun f => decide (s.fab.cycle ≤ f.at_) } }

/-- Three cycles of the network, while its routers are on (03 R117). -/
def nocTick (s : State) : State := if s.domOn 2 then nocCycle (nocCycle (nocCycle s)) else s

/-- Every second device tick is a beat (03 R122). -/
def beatTick (s : State) : State :=
  if s.ck.tickPhase = 0 then { s with ck := { s.ck with tickPhase := 1 } }
  else { s with ck := { s.ck with tickPhase := 0, beat := s.ck.beat + 1 } }

/-- Device time in a tick of the generators: from REFCLK one tick; from the cellar source ten at every tenth (03 R140, R141). -/
def tickTime (s : State) : State :=
  if s.ck.fromRefclk then advanceTime s 1
  else if s.ck.cellPhase = 9 then advanceTime { s with ck := { s.ck with cellPhase := 0 } } 10
  else { s with ck := { s.ck with cellPhase := s.ck.cellPhase + 1 } }

/-- One device tick while the generators run, locked or free, with the cycles that fall in it; else one cellar cycle of ten ticks (03
R136, R140, 07 R336). -/
def tick (s : State) : State :=
  if s.pw.off then s
  else if clockRuns s then ncoTick (nocTick (fabricTick (fabricTick (beatTick (tickTime s)))))
  else advanceTime s 10

end Sys2Proof.Machine
end

