-- ==== Sys2Proof/Safety.lean ====
section
/-! DEFINITION. What claims about the device are stated with: when commands act, the canonical form, what an entry of the
trouble log is, and what a command leaves as it was. -/

namespace Sys2Proof.Machine

/-- VDD_CEL is good and the cellar is out of reset: commands act (02 R70, 17 R771). -/
abbrev State.awake (s : State) : Prop := s.pw.off = false ∧ s.pw.held = false

/-- The memories and the tables of register fields are in their one canonical form. -/
abbrev State.canonical (s : State) : Prop :=
  Mem.wf s.mem.dram = true ∧ Mem.wf s.mem.larder = true ∧ Mem.wf s.mem.sram = true ∧
    Tbl.rising s.csr = true ∧ Tbl.rising s.shadow = true

/-- The command answers a next state, and `P` holds of it. -/
def Runs (c : Instr) (s : State) (P : State → Prop) : Prop := ∃ t, exec c s = .next t ∧ P t

/-- The parts of the state beside the register fields, the part and the queue. -/
inductive Area where
  | resp | log | pw | ck | cfg | hatch | noc | mem | str | fab | ie | rad | vis | cel | svc | grp | fresh | hiLatch | shadow | wl | yielded | pcieRoot
  deriving DecidableEq, Repr

/-- A part of the state stands as it was. -/
def Area.same : Area → State → State → Prop
  | .resp, s, t => t.resp = s.resp
  | .log, s, t => t.log = s.log
  | .pw, s, t => t.pw = s.pw
  | .ck, s, t => t.ck = s.ck
  | .cfg, s, t => t.cfg = s.cfg
  | .hatch, s, t => t.hatch = s.hatch
  | .noc, s, t => t.noc = s.noc
  | .mem, s, t => t.mem = s.mem
  | .str, s, t => t.str = s.str
  | .fab, s, t => t.fab = s.fab
  | .ie, s, t => t.ie = s.ie
  | .rad, s, t => t.rad = s.rad
  | .vis, s, t => t.vis = s.vis
  | .cel, s, t => t.cel = s.cel
  | .svc, s, t => t.svc = s.svc
  | .grp, s, t => t.grp = s.grp
  | .fresh, s, t => t.fresh = s.fresh
  | .hiLatch, s, t => t.hiLatch = s.hiLatch
  | .shadow, s, t => t.shadow = s.shadow
  | .wl, s, t => t.wl = s.wl
  | .yielded, s, t => t.yielded = s.yielded
  | .pcieRoot, s, t => t.pcieRoot = s.pcieRoot

/-- `t` is `s` but for the areas of `areas` and the register fields of `may`: the part and the queue are never touched. -/
structure Confined (areas : List Area) (may : Fld → Prop) (s t : State) : Prop where
  part : t.part = s.part
  pending : t.pending = s.pending
  area : ∀ a, a ∉ areas → a.same s t
  reg : ∀ f : Fld, ¬ may f → t.rd f = s.rd f

/-- The fields of a list. -/
def only (fs : List Fld) (f : Fld) : Prop := f.key ∈ fs.map Fld.key

/-- The fields whose register stands in [lo, hi). -/
def within (lo hi : Nat) (f : Fld) : Prop := 32 * lo ≤ f.key ∧ f.key < 32 * hi

/-- Between `s` and `t` one event was raised: with room it is the newest in the intake, and otherwise it is dropped and
counted (06 R311). -/
def Logs (s t : State) (island code a0 a1 a2 : Nat) : Prop :=
  (s.log.intake.length < 16 → t.log = { s.log with intake := s.log.intake ++
    [⟨s.ck.time, island, BitVec.ofNat 16 code, BitVec.ofNat 32 a0, BitVec.ofNat 32 a1, BitVec.ofNat 32 a2⟩] }) ∧
  (16 ≤ s.log.intake.length → t.log = { s.log with dropped := s.log.dropped + 1 } ∧
    t.rd Reg.LOG_LOST_DROP.COUNT = min (2 ^ 32 - 1) (s.rd Reg.LOG_LOST_DROP.COUNT + 1))

/-- The requester may issue a register access of 32 bits, its route is valid and the checks let it through (00 R7, R14,
01 R41-R46, 02 R115, 05 R231, R234, R241). -/
def allowed (s : State) (rq : Requester) (addr : Nat) (write : Bool) (data : Nat) : Bool :=
  mayRequest s rq && match routedAccess s rq addr 4 write data with
    | .ok _ => true
    | .err _ => false

/-- The register access that a command is: requester, address, whether it writes, and the word written; none for a command
that is no single register access. -/
def registerAccess : Instr → Option (Requester × Nat × Bool × Nat)
  | .memArbCommit rq data => some (rq, 0xF00400048, true, data)
  | .nocArbCommit rq data => some (rq, 0xF00300014, true, data)
  | .wdogKick rq data => some (rq, 0xF0000003C, true, data)
  | .softwareColdReset rq data => some (rq, 0xF00000034, true, data)
  | .softwareWarmReset rq data _ => some (rq, 0xF00000034, true, data)
  | .flashSvcEnable rq => some (rq, 0xF00000074, true, 1)
  | .flashSvcDisable rq _ => some (rq, 0xF00000074, true, 0)
  | .xspiReadCmd rq data _ => some (rq, 0xF00200060, true, data)
  | .xspiWriteCmd rq data => some (rq, 0xF00200060, true, data)
  | .secKeyRevoke rq data => some (rq, 0xF007000C4, true, data)
  | .pwrReqCellar rq _ => some (rq, 0xF00000008, true, 1)
  | .pwrReqStandby rq _ => some (rq, 0xF00000008, true, 2)
  | .pwrReqRun rq _ _ => some (rq, 0xF00000008, true, 3)
  | .pwrReqHoldover rq _ => some (rq, 0xF00000008, true, 4)
  | .domainOnRequest rq mask => some (rq, 0xF00000014, true, mask)
  | .domainOffRequest rq mask => some (rq, 0xF00000018, true, mask)
  | .clkModeReqAdaptive rq _ => some (rq, 0xF00100004, true, 1)
  | .clkModeReqDeterministic rq _ => some (rq, 0xF00100004, true, 2)
  | .clkRateWrite rq data => some (rq, 0xF00100030, true, data)
  | .clkStepWrite rq data => some (rq, 0xF0010003C, true, data)
  | .clkRunArm rq data => some (rq, 0xF00100088, true, data)
  | .hatchPost rq data => some (rq, 0xF00200054, true, data)
  | .strEnable rq data => some (rq, 0xF00500000, true, data)
  | .poolAlloc rq pool => some (rq, 0xF00500114 + 0x20 * (pool % 4), false, 0)
  | .crateFree rq handle => some (rq, 0xF00500040, true, handle.toNat)
  | .crateGiveLatch rq handle => some (rq, 0xF00500044, true, handle.toNat)
  | .crateGive rq data => some (rq, 0xF00500048, true, data)
  | .crateReclaim rq data => some (rq, 0xF0050004C, true, data)
  | .queueEnable rq q data => some (rq, 0xF00501000 + 0x40 * (q % 128), true, data)
  | .queueSkip rq q => some (rq, 0xF0050101C + 0x40 * (q % 128), true, 1)
  | .queueFlush rq q => some (rq, 0xF0050101C + 0x40 * (q % 128), true, 2)
  | .queueClear rq q => some (rq, 0xF0050101C + 0x40 * (q % 128), true, 4)
  | .regionTimerArm rq region data => some (rq, 0xF01001014 + 0x100 * (region % 6), true, data)
  | .swReq rq region data => some (rq, 0xF01001004 + 0x100 * (region % 6), true, data)
  | .spChannelConfig rq port ch data => some (rq, 0xF01002100 + 0x400 * (port % 8) + 0x40 * (ch % 8), true, data)
  | .spChannelRestart rq port ch => some (rq, 0xF01002100 + 0x400 * (port % 8) + 0x40 * (ch % 8), true, 2 ^ 31)
  | .cutPairsWrite rq data => some (rq, 0xF01000010, true, data)
  | .bankResumeCmd rq e bank _ => some (rq, bankAddr e bank 0, true, 1)
  | .bankAbort rq e bank => some (rq, bankAddr e bank 0, true, 2)
  | .bankEvict rq e bank _ => some (rq, bankAddr e bank 0, true, 4)
  | .codeStoreWrite rq e offset data => some (rq, ieAddr e (0x200000 + offset % 524288 / 4 * 4), true, data)
  | .bankViewAccess rq e bank write offset data =>
    some (rq, ieAddr e (0x100000 + 0x10000 * (bank % 4) + offset % 0x10000 / 4 * 4), write, data)
  | .clrSat rq e bank => some (rq, bankAddr e bank 0x40, true, 0x10000)
  | .modelActivate rq e bank data => some (rq, bankAddr e bank 0x60, true, setBit (data % 2 ^ 32) 31)
  | .modelDrop rq e bank data => some (rq, bankAddr e bank 0x60, true, setBit (data % 2 ^ 31) 30)
  | .radioRelease rq data => some (rq, 0xF03000000, true, setBit data 0)
  | .radioWithdraw rq data => some (rq, 0xF03000000, true, setBit data 1)
  | .beamCommit rq data => some (rq, 0xF03000070, true, data)
  | .radLrCommit rq data => some (rq, 0xF03001010, true, data)
  | .radLdpcCommit rq data => some (rq, 0xF03001204, true, data)
  | .streamEnable rq stream data => some (rq, 0xF03801000 + 0x40 * (stream % 32), true, data)
  | .visChCommit rq ch data => some (rq, 0xF0380200C + 0x40 * (ch % 8), true, data)
  | .visCoefCommit rq data => some (rq, 0xF03800060, true, data)
  | .visChReturn rq ch data => some (rq, 0xF03802010 + 0x40 * (ch % 8), true, data)
  | .visEnable rq data => some (rq, 0xF03800000, true, data)
  | .pinCfgWrite rq pin data => some (rq, 0xF04000000 + 4 * (pin % 160), true, data)
  | .gpioOutWrite rq bank data => some (rq, 0xF04000400 + 4 * (bank % 10), true, data)
  | .tripLatchClear rq data => some (rq, 0xF040011C0, true, data)
  | .pwmCommit rq data => some (rq, 0xF04001280, true, data)
  | .canTxRequest rq n data => some (rq, 0xF04004014 + 0x4000 * (n % 2), true, data)
  | .canRxPop rq n data => some (rq, 0xF04004024 + 0x4000 * (n % 2), true, data)
  | .uartTxdWrite rq u data => some (rq, 0xF04001808 + 0x40 * (u % 2), true, data)
  | .uartRxdPop rq u => some (rq, 0xF0400180C + 0x40 * (u % 2), false, 0)
  | .i2cCommand rq n data => some (rq, 0xF04001A04 + 0x80 * (n % 2), true, data)
  | .spiCommand rq n data => some (rq, 0xF04001B00 + 0x80 * (n % 2), true, data)
  | .spotEnable rq data => some (rq, 0xF04020100, true, data)
  | .movePost rq data => some (rq, 0xF04800034, true, data)
  | .grpReset rq data => some (rq, 0xF04800010, true, data)
  | _ => none

/-- The register access that a command is passes its checks. -/
def passes (c : Instr) (s : State) : Bool :=
  match registerAccess c with
  | some (rq, addr, write, data) => allowed s rq addr write data
  | none => true

/-- What a reset of the cellar core by cause `cause` leaves (02 R86, R102, R105, R106, 03 R163, 04 R216): start-up about to begin
with every channel down, every register field but those of `keptByCold` at its reset value, nothing pending, the units empty, the
cause waiting to be recorded; the written log, device time, the fuses and the part stand. -/
def AfterColdReset (s t : State) (cause : Nat) : Prop :=
  t.pw.off = false ∧ t.pw.step = 1 ∧ t.pw.chEn = 0 ∧ t.pw.chPg = 0 ∧ t.pw.raise = [] ∧ t.pw.fenceReq = 0 ∧
  (∃ m b, t.pw.rstPend = some (m, b) ∧ bit m cause = true) ∧
  (∀ f : Fld, keptByCold f.key = false → t.rd f = f.reset) ∧ t.shadow = [] ∧ t.wl = [] ∧
  t.hatch = {} ∧ t.noc = {} ∧ t.str = {} ∧ t.ie = [] ∧ t.vis = {} ∧ t.cel = {} ∧ t.svc = {} ∧ t.grp = {} ∧
  t.cfg.keyRevoked = s.cfg.keyRevoked ||| s.cfg.keyMarked ∧ t.cfg.svnFloor = s.cfg.svnFloor ∧
  t.log.ring = s.log.ring ∧ t.ck.time = s.ck.time ∧ t.part = s.part ∧ t.pending = s.pending

/-- A start-up or mode change in progress towards RUN that raises its Ground channels (02 R86 step 6). -/
def AtStep6 (t : State) : Prop :=
  t.pw.step = 6 ∧ t.pw.coldWait = false ∧ t.pw.tripped = false ∧ t.pw.railRetry = false ∧
  t.rd Reg.SYS_PWR_MODE.BUSY = 1 ∧ t.rd Reg.SYS_PWR_MODE.TARGET = 3 ∧ t.pw.raise = [0, 1, 2, 3, 4, 5] ∧ bit t.pw.chEn 0 = true

/-- No transition is in progress, and the mode and tier are these. -/
abbrev StandsIn (t : State) (mode tier : Nat) : Prop :=
  t.rd Reg.SYS_PWR_MODE.MODE = mode ∧ t.rd Reg.SYS_PWR_MODE.TIER = tier ∧ t.rd Reg.SYS_PWR_MODE.BUSY = 0 ∧
  t.rd Reg.SYS_PWR_MODE.TARGET = 0

/-- Every supply channel is down. -/
def ChannelsDown (t : State) : Prop := ∀ c, c < 8 → bit t.pw.chEn c = false ∧ bit t.pw.chPg c = false

/-- What a warm reset, a Tether group reset or a YIELD leaves (02 R86, R102, R106, 16 R744, R757): CELLAR with every channel down,
start-up about to begin at step 3, the cause recorded, the units of the main domains empty; the part and the queue stand. -/
def AfterWarmReset (s t : State) (cause : Nat) : Prop :=
  StandsIn t 1 1 ∧ t.pw.step = 3 ∧ ChannelsDown t ∧ t.pw.core0Retained = false ∧ bit (t.rd Reg.SYS_RST_CAUSE.CAUSE) cause = true ∧
  t.hatch = {} ∧ t.noc = {} ∧ t.str = {} ∧ t.ie = [] ∧ t.vis = {} ∧ t.rd Reg.CLK_MODE_STAT.REFCLK_OK = 0 ∧ t.part = s.part ∧
  t.pending = s.pending

/-- The issuing bank `b` of an engine with no operation in flight may issue the bundle at its PC, which is legal, holds `x` in slot
`i` and nothing in the others, and `x` takes effect; it does not wait on the pager (08 R375-R377, R389, 10 R491). -/
abbrev Alone (s : State) (e b i x : Nat) : Prop :=
  (s.eng e).active = b ∧ mayIssue s e b = true ∧ (s.bank e b).again = false ∧ (s.bank e b).ring.waitAt = none ∧
  (s.eng e).entries = [] ∧
  slotOfBundle (bundleAt s e (s.bank e b).pc) i = x ∧
  (∀ j, j < 6 → j ≠ i → slotOfBundle (bundleAt s e (s.bank e b).pc) j = 0) ∧
  bundleIllegal (bundleAt s e (s.bank e b).pc) = none ∧ guardOn (s.bank e b) x = true

/-- A bank after the issue of the bundle at its PC, going on at `pc`. -/
def stepped (k : Bank) (pc : Nat) : Bank :=
  { k with pc := pc, lastPc := k.pc, cycles := k.cycles + 1, waitAll := false, waitSt := false }

/-- An engine changed in one bank only; the other engines stand. -/
def OnlyBank (s t : State) (e b : Nat) : Prop :=
  (∀ f, f ≠ e → t.eng f = s.eng f) ∧ (∀ c, c ≠ b → t.bank e c = s.bank e c) ∧ (t.eng e).code = (s.eng e).code ∧
  (t.eng e).staging = (s.eng e).staging ∧ (t.eng e).active = (s.eng e).active ∧ (t.eng e).switching = (s.eng e).switching

/-- The exception record of a bank that has stopped (08 R414, R416). -/
def Stopped (t : State) (e b cause slot sub pc : Nat) (imprecise : Bool) : Prop :=
  (t.bank e b).state = 3 ∧ t.rd (Reg.IE_BANK_EXC.CAUSE e b) = cause ∧ t.rd (Reg.IE_BANK_EXC.SLOT e b) = slot ∧
  t.rd (Reg.IE_BANK_EXC.SUBCODE e b) = sub ∧ t.rd (Reg.IE_BANK_EXC.RESUMABLE e b) = b2n (causeResumable cause) ∧
  t.rd (Reg.IE_BANK_EXC.IMPRECISE e b) = b2n imprecise ∧ t.rd (Reg.IE_BANK_EXC_PC.PC e b) = pc % 2 ^ 19

/-- The fields of a bank's exception record. -/
def excFields (e b : Nat) : List Fld :=
  [Reg.IE_BANK_EXC.CAUSE e b, Reg.IE_BANK_EXC.SLOT e b, Reg.IE_BANK_EXC.SUBCODE e b, Reg.IE_BANK_EXC.RESUMABLE e b,
   Reg.IE_BANK_EXC.IMPRECISE e b, Reg.IE_BANK_EXC_PC.PC e b]

/-- Configuration has aborted with a code (04 R189): the code stands in CFG_ABORT, every domain and channel is down, start-up is
over, and of what configuration held only the fuses stand. -/
def Aborted (s t : State) (code : Nat) : Prop :=
  t.rd Reg.CFG_ABORT.CODE = code % 2 ^ 16 ∧ t.rd Reg.CFG_STAT.PHASE = 7 ∧ t.pw.step = 0 ∧ t.pw.cfgAborted = true ∧
  t.rd Reg.SYS_PWR_MODE.BUSY = 0 ∧ t.tier = 1 ∧ ChannelsDown t ∧ (∀ d, d < 23 → t.domOn d = false) ∧ t.cfg = fusesOnly s.cfg ∧
  t.part = s.part ∧ t.pending = s.pending

/-- Between `s` and `t` an event was raised that is logged at most once a second for its code and index (05 R253, 06 R277, R299). -/
def LogsLimited (s t : State) (ix island code a0 a1 a2 : Nat) : Prop :=
  if s.recent code ix then t.log = s.log
  else Logs { s with log := { s.log with limited := Tbl.set s.log.limited (65536 * code + ix) s.ck.time } } t
    island code a0 a1 a2

/-- A controller finds the line at a DRAM address uncorrectable: marked, or by the error it meets, with the kind that 0x0501
carries (05 R250, R252). -/
abbrev FindsBad (s : State) (a : Nat) (e : LineErr) (kind : Nat) : Prop :=
  s.badAt a 1 = true ∧ kind = 2 ∨ s.badAt a 1 = false ∧ (e = .double ∧ kind = 0 ∨ e = .parity ∧ kind = 1)

/-- A unit's read of memory passes its route and its checks, no access waits for the lines it reads, and none of them holds a bad
word: it gives the bytes that stand there and changes nothing. -/
def readsClean (s : State) (rq : Requester) (a n : Nat) : Bool :=
  (match routedAccess s rq a n false 0 with
    | .ok u => u == .dram || u == .larder
    | .err _ => false) &&
  (s.noc.queue.filter (onLines a n)).isEmpty && !s.badAt a n

/-- A unit's write to memory passes its route and its checks, and no access waits for the lines it writes. -/
def writesClear (s : State) (rq : Requester) (a : Nat) (bs : List Byte) : Bool :=
  (match routedAccess s rq a bs.length true (leNat (bs.take 4)) with
    | .ok u => u == .dram || u == .larder
    | .err _ => false) && (s.noc.queue.filter (onLines a bs.length)).isEmpty

/-- The management port sends a reply frame: OP, the number of entries, the newest sequence number, the two lost counts and the
entries, in the layout of 06 R316, and changes nothing else of the log. -/
def Replies (s t : State) (op : Nat) (es : List LogEntry) : Prop :=
  ∃ bs : List Byte, t.log = { s.log with reply := some bs } ∧ bs.length = 16 + 32 * es.length ∧ field bs 0 2 = op ∧
    field bs 2 2 = es.length % 2 ^ 16 ∧ field bs 4 4 = s.rd Reg.LOG_HEAD_SEQ.SEQ % 2 ^ 32 ∧
    field bs 8 4 = s.rd Reg.LOG_LOST_OVER.COUNT % 2 ^ 32 ∧ field bs 12 4 = s.rd Reg.LOG_LOST_DROP.COUNT % 2 ^ 32 ∧
    bs.drop 16 = es.flatMap LogEntry.bytes

/-- The fields of the storeroom, the lost count of the log, the count of uncorrectable larder words and those of a list: with memory
and the storeroom, all that pushes to queues and pops from them may change. -/
def queued (fs : List Fld) (f : Fld) : Prop :=
  (32 * 0xF00500000 ≤ f.key ∧ f.key < 32 * 0xF00600000) ∨
    f.key ∈ (Reg.LOG_LOST_DROP.COUNT :: Reg.MEM_LAR_UE.COUNT :: fs).map Fld.key

/-- The command leaves the radio at `rad` and sends L2 the messages `ms`. -/
def Says (c : Instr) (s : State) (rad : Radio) (ms : List FapiMsg) : Prop := Runs c s fun t =>
  t.rad = { rad with sent := rad.sent ++ ms } ∧ t.fresh = s.fresh + ms.length ∧
  Confined [.rad, .str, .mem, .log, .fresh] (queued []) s t

/-- The PDUs of a P7 message served and the number rejected, after those of its slot that stand (11 R514-R516, R542). -/
def served (s : State) (c type sfn slot : Nat) (pdus : List FapiPdu) : List FapiPdu × Nat :=
  servePdus (carrierMu (radioBody s) c) (s.rd Reg.RAD_STAT.MAX_LAYERS) type
    ((slotReqs s c (slotStart s c sfn slot)).flatMap (·.pdus)) pdus

/-- What comes of a P7 request for a slot due `lead` ticks before the slot's air boundary (11 R533, R534): an ERROR in a radio
not released, an ERROR and a count when it is late, and otherwise its PDUs served and an ERROR for each PDU rejected. -/
def P7Served (i : Instr) (c type sfn slot lead : Nat) (pdus : List FapiPdu) (crates : List (Nat × Nat)) (s : State) : Prop :=
  (s.flag Reg.RAD_STAT.RELEASED = false → Says i s s.rad [⟨c, 0x07, sfn, slot, 1, [type]⟩]) ∧
  (s.flag Reg.RAD_STAT.RELEASED = true → slotStart s c sfn slot - lead < (s.now : Int) → Runs i s fun t =>
    t.rad = { s.rad with sent := s.rad.sent ++ [⟨c, 0x07, sfn, slot, 6, [type]⟩] } ∧
    t.rd (Reg.RAD_FAPI_LATE.COUNT c) = min (2 ^ 32 - 1) (s.rd (Reg.RAD_FAPI_LATE.COUNT c) + 1) ∧
    Confined [.rad, .str, .mem, .log, .fresh] (queued [Reg.RAD_FAPI_LATE.COUNT c]) s t) ∧
  (s.flag Reg.RAD_STAT.RELEASED = true → (s.now : Int) ≤ slotStart s c sfn slot - lead →
    Says i s { s.rad with reqs := s.rad.reqs ++
        [⟨c, type, slotStart s c sfn slot, sfn, slot, (served s c type sfn slot pdus).1, crates⟩] }
      (List.replicate (served s c type sfn slot pdus).2 ⟨c, 0x07, sfn, slot, 2, [type]⟩))

/-- An indication of the slot timeline is sent for the slot `ago` ticks back (11 R533). -/
def Indicates (i : Instr) (c type : Nat) (ago : Int) (s : State) : Prop :=
  s.flag Reg.RAD_STAT.RELEASED = true → bit (s.rd Reg.RAD_STAT.STARTED) c = true →
  ((s.now : Int) - ago - frameOfs (radioBody s)) % slotTicks (radioBody s) c = 0 →
  Says i s s.rad [⟨c, type, (slotAt s c ((s.now : Int) - ago)).1, (slotAt s c ((s.now : Int) - ago)).2, 0, []⟩]

/-- The register fields that an access of a unit of the device may change: the lost count of the log, and the counts and the address
of what its controllers and banks find uncorrectable (05 R252, R261). -/
def busFields : List Fld :=
  [Reg.MEM_DRAM_UE.COUNT, Reg.MEM_UE_ADDR_LO.ADDR, Reg.MEM_UE_ADDR_HI.ADDR, Reg.MEM_LAR_UE.COUNT, Reg.LOG_LOST_DROP.COUNT]

/-- The gate has chosen for an allocation (12 R568, R572, R573, R576): the choice of its row of the fallback table stands in it, the
row is counted, and with the decoder free the first of its code blocks is in island 213. -/
def Chosen (s t : State) (a : Alloc) : Prop :=
  (allocOf t a.id).map (fun x => (x.chosen, x.engine, x.comp)) = some (some (rowChoice (fallbackRow a)), a.engine, a.comp) ∧
  t.rd (Reg.RAD_LR_CNT.COUNT a.carrier (rowCounter (fallbackRow a))) =
    min (2 ^ 32 - 1) (s.rd (Reg.RAD_LR_CNT.COUNT a.carrier (rowCounter (fallbackRow a))) + 1) ∧
  (rowChoice (fallbackRow a) ≠ 0 → a.pdu.blocks ≠ [] → s.rad.islands = [] → s.rad.blocks = [] →
    (Tbl.find t.rad.islands 0).map (fun r => (r.alloc, r.block, r.at_, r.maxIter)) = some (a.id, 0, s.now, maxIter s)) ∧
  Confined [.rad, .mem, .str, .log, .noc, .fresh]
    (queued (busFields ++ [Reg.RAD_LR_CNT.COUNT a.carrier (rowCounter (fallbackRow a)), Reg.RAD_LDPC_HARQ_FULL.COUNT])) s t

/-- The allocations with one of them replaced. -/
def allocsWith (s : State) (a : Alloc) : List Alloc := s.rad.allocs.map fun x => if x.id = a.id then a else x

/-- The fields whose register stands outside [lo, hi), and those of a list. -/
def outside (lo hi : Nat) (fs : List Fld) (f : Fld) : Prop :=
  f.key < 32 * lo ∨ 32 * hi ≤ f.key ∨ f.key ∈ fs.map Fld.key

end Sys2Proof.Machine
end

