-- ==== Sys2Proof/Certificates/Slice0/Obligations.lean ====
section
/-! DEFINITION. The statements for the provers, each with the rules of spec/ that it follows. -/

open Sys2Proof Sys2Proof.Machine

/-- Step statement: a step takes the command at the front of the queue and runs it with the queue's rest; with no command
waiting, a tick passes (the model's reading of time, log entry 1). -/
def Obligations.StepRunsTheFrontCommand : Prop :=
  (∀ (c : Instr) (rest : List Instr) (s : State), s.pending = c :: rest → step s = exec c { s with pending := rest }) ∧
  ∀ s : State, s.pending = [] → step s = .next (tick s)

/-- Right after reset: revision A1 (02 R116), mode CELLAR and tier Cellar with no transition in progress (02 R70, R116),
the power-on cause alone (02 R116), no domain on, watchdog off with a period of 2,000 ms, the clocks adaptive and device time
0 (03 R139), an empty log ring (06 R309) and no command waiting. -/
def Obligations.ResetState : Prop :=
  let s := State.reset
  s.rd Reg.SYS_ID.REV_LETTER = 0x41 ∧ s.rd Reg.SYS_ID.REV_DIGIT = 1 ∧ s.rd Reg.SYS_PWR_MODE.MODE = 1 ∧
  s.rd Reg.SYS_PWR_MODE.TIER = 1 ∧ s.rd Reg.SYS_PWR_MODE.BUSY = 0 ∧ s.rd Reg.SYS_RST_CAUSE.CAUSE = 1 ∧
  s.rd Reg.SYS_DOM_STATE.DOM = 0 ∧ s.rd Reg.SYS_WDOG_CFG.EN = 0 ∧ s.rd Reg.SYS_WDOG_CFG.PERIOD_MS = 2000 ∧
  s.rd Reg.SYS_WARM_CFG.WARM_EN = 1 ∧ s.rd Reg.SYS_WARM_CFG.LIMIT_MIN = 15 ∧ s.rd Reg.SYS_WARM_CFG.HEAT_DUTY = 100 ∧
  s.rd Reg.SYS_WARM_CFG.REGIONS = 6 ∧ s.now = 0 ∧ s.ck.frac = 0 ∧ s.log.ring = [] ∧ s.pending = [] ∧
  (∀ f : Fld, s.rd f = f.reset)

/-- The reset state is in canonical form. -/
def Obligations.ResetIsCanonical : Prop :=
 State.reset.canonical

/-- The invariant of every step: byte memories and field tables keep their one canonical form, the part never changes, and a
step takes exactly the front command off the queue. -/
def Obligations.EveryStepKeepsTheCanonicalForm : Prop :=
  ∀ s t : State, s.canonical → step s = .next t → t.canonical ∧ t.part = s.part ∧ t.pending = s.pending.tail

/-- Every command answers a next state: none faults, none is refused. -/
def Obligations.EveryCommandAnswers : Prop :=
 ∀ (c : Instr) (s : State), ∃ t, exec c s = .next t

/-- With VDD_CEL down or the cellar held in reset by VDD_IO33 (02 R70, 17 R771), every command but VDD_CEL_POWER_GOOD,
VDD_CEL_LOSS and VDD_IO33_RESTORED leaves the state as it is (the model's reading, log entry 3). -/
def Obligations.NothingActsWithoutPower : Prop :=
  ∀ (c : Instr) (s : State), s.pw.off = true ∨ s.pw.held = true →
    c ≠ .vddCelPowerGood → c ≠ .vddCelLoss → c ≠ .vddIo33Restored → exec c s = .next s

/-- A register command that has no valid route (05 R231) or that the checks of an access turn away (unit down 00 R14, 01 R44; write
right 02 R115) is answered with a bus error and logged, and does nothing else; one of a unit that is off, fused off or being
fenced is not made (05 R241), nor is one of an NI that has every TAG in use (the model's reading, log entry 121). -/
def Obligations.TurnedAwayRegisterCommands : Prop :=
  ∀ (c : Instr) (s : State) (rq : Requester) (a d : Nat) (w : Bool), s.awake → registerAccess c = some (rq, a, w, d) →
    (∀ e : State, mayRequest s rq = true → routedAccess s rq a 4 w d = .err e →
      exec c s = .next e ∧ e.resp.busError = true ∧ Confined [.resp, .log] (only [Reg.LOG_LOST_DROP.COUNT]) s e) ∧
    (mayRequest s rq = false → exec c s = .next s)

/-- R115: a write to SYS_PWR_REQ, SYS_DOM_ON_REQ, SYS_DOM_OFF_REQ, SYS_RESET, SYS_WARM_CFG, SYS_THERM_CFG or SYS_HOLD_CFG is
accepted from the cellar core, the service cluster and the debug port, and answered with a bus error and 0x0107 from any other
requester. -/
def Obligations.WritersOfThePowerRegisters : Prop :=
  ∀ (s : State) (rq : Requester) (a d : Nat),
    a ∈ [Reg.SYS_PWR_REQ.TARGET.addr, Reg.SYS_DOM_ON_REQ.DOM.addr, Reg.SYS_DOM_OFF_REQ.DOM.addr, Reg.SYS_RESET.KEY.addr,
      Reg.SYS_WARM_CFG.WARM_EN.addr, Reg.SYS_THERM_CFG.THROTTLE_DUTY.addr, Reg.SYS_HOLD_CFG.HOLD_DWELL_S.addr] →
    ((rq.ni = 44 ∨ rq.ni = 36 ∨ rq.ni = 45) → checkAccess s rq a 4 true d = .ok .sys) ∧
    (rq.ni ≠ 44 → rq.ni ≠ 36 → rq.ni ≠ 45 → ∃ e, checkAccess s rq a 4 true d = .err e ∧ e.resp.busError = true ∧
      Logs s e rq.island 0x0107 a (a / 2 ^ 32 % 16 + 256) rq.ni)

/-- REGISTER_WRITE to a register of one field that has no behaviour of its own (NOC, MEM and SYS): by the access code of 00 R6,
RW takes the bits, RO and WO take nothing, W1C clears the bits written 1, RWS takes them as its pending value only, and WL takes
the first write since cold reset alone; a reserved encoding (R17) leaves the field and logs 0x0102 as a second write of a WL
field (R21) logs 0x0103.  The access completes without a bus error, and nothing else changes.
REGISTER_WRITE that is no aligned write of 32 bits (00 R7, R8) or meets no register (R13): bus error, 0x0104 or 0x0101, and
nothing else. -/
def Obligations.RegisterWrites : Prop :=
  (∀ (s : State) (rq : Requester) (a data : Nat) (u : Target) (f : Fld), s.awake → data < 2 ^ 32 → a % 4 = 0 →
    mayRequest s rq = true → routedAccess s rq a 4 true data = .ok u → fieldsAt a = some [f] →
    (u = .noc ∧ a ≠ 0xF00300014 ∨ u = .mem ∧ a ≠ 0xF00400048 ∨
      u = .sys ∧ a ∉ [0xF00000008, 0xF00000014, 0xF00000018, 0xF00000034, 0xF00000038, 0xF0000003C, 0xF00000068, 0xF00000074]) →
    Runs (.registerWrite rq a 4 data) s fun t =>
      t.resp.busError = false ∧
      (f.reserved data = true → f.acc ≠ .ro → Logs s t u.island 0x0102 a data rq.ni ∧
        Confined [.resp, .log] (only [Reg.LOG_LOST_DROP.COUNT]) s t) ∧
      (f.reserved data = false → f.acc = .rw → t.rd f = bits data f.lo f.w ∧ Confined [.resp] (only [f]) s t) ∧
      (f.acc = .ro ∨ f.acc = .wo → f.reserved data = false → Confined [.resp] (only []) s t) ∧
      (f.reserved data = false → f.acc = .w1c → t.rd f = andNot (s.rd f) (bits data f.lo f.w) % 2 ^ f.w ∧
        Confined [.resp] (only [f]) s t) ∧
      (f.reserved data = false → f.acc = .rws → t.rdShadow f = bits data f.lo f.w ∧ Confined [.resp, .shadow] (only []) s t) ∧
      (f.reserved data = false → f.acc = .wl → f.key ∉ s.wl → t.rd f = bits data f.lo f.w ∧ f.key ∈ t.wl ∧
        Confined [.resp, .wl] (only [f]) s t) ∧
      (f.reserved data = false → f.acc = .wl → f.key ∈ s.wl → Logs s t u.island 0x0103 a data rq.ni ∧
        Confined [.resp, .log] (only [Reg.LOG_LOST_DROP.COUNT]) s t)) ∧
  (∀ (s : State) (rq : Requester) (a size data : Nat) (u : Target), s.awake → 0 < size → size ≤ 256 → data < 2 ^ (8 * size) →
    mayRequest s rq = true → routedAccess s rq a size true (data % 2 ^ 32) = .ok u → u = .noc ∨ u = .mem ∨ u = .sys ∨ u = .clk ∨ u = .cfg ∨ u = .log ∨ u = .sec →
    (size ≠ 4 ∨ a % 4 ≠ 0 → Runs (.registerWrite rq a size data) s fun t =>
      t.resp.busError = true ∧ Logs s t u.island 0x0104 a (data % 2 ^ 32) rq.ni ∧
      Confined [.resp, .log] (only [Reg.LOG_LOST_DROP.COUNT]) s t) ∧
    (size = 4 → a % 4 = 0 → fieldsAt a = none → Runs (.registerWrite rq a size data) s fun t =>
      t.resp.busError = true ∧ Logs s t u.island 0x0101 a data rq.ni ∧
      Confined [.resp, .log] (only [Reg.LOG_LOST_DROP.COUNT]) s t))

/-- NOC_REQUEST.  To DRAM or larder, with its routes, a free TAG and every check passed: one outstanding request under the lowest free
TAG, and one access and one flit per 64-byte line at its target, none of which crosses a line, in order and the last one marked
(05 R220, R222, R234); nothing else changes, and bytes are moved by the target's own commands.  With every TAG of its NI in use it
waits there (05 R234).  A service core's read of lines that its L2 holds is answered from there (01 R46; that the L2 keeps them is
the model's choice, log entry 85).  To a unit's window: a read of a plain register answers its fields (00 R6), and a write of a
word is REGISTER_WRITE. -/
def Obligations.MemoryRequestIsInjected : Prop :=
  (∀ (s : State) (rq : Requester) (w poison : Bool) (a len tag : Nat) (data : List Byte) (u : Target), s.awake →
    1 ≤ len → len ≤ 256 → mayRequest s rq = true → freeTag s rq.ni = some tag →
    routedAccess s rq a len w (field data 0 4) = .ok u → u = .dram ∨ u = .larder → rq.ni ≠ 36 ∨ s.mem.l2 = [] →
    Runs (.nocRequest rq w a len data poison) s fun t =>
      ∃ (o : Outstanding) (q : List LineReq), t.noc.out = s.noc.out ++ [o] ∧ t.noc.queue = s.noc.queue ++ q ∧
        t.noc.inj = s.noc.inj ++ q.map (fun r => (rq.ni, r.flit)) ∧
        o.ni = rq.ni ∧ o.tag = tag ∧ o.dst = targetNi a ∧ o.addr = a ∧ o.len = len ∧ o.write = w ∧ o.lines = q.length ∧
        o.done = 0 ∧ o.late = false ∧ o.at_ = s.now ∧ q.length = (a + len - 1) / 64 - a / 64 + 1 ∧
        q.map (·.seq) = List.range q.length ∧ (∀ r ∈ q, r.last = decide (r.seq + 1 = q.length)) ∧
        (∀ r ∈ q, r.ni = rq.ni ∧ r.tag = tag ∧ r.qclass = rq.qclass ∧ r.write = w ∧ r.poison = poison ∧ r.posted = false ∧
          r.data = slice data (r.addr - a) r.len ∧ 0 < r.len ∧ a ≤ r.addr ∧ r.addr + r.len ≤ a + len ∧
          (r.addr + r.len - 1) / 64 = r.addr / 64) ∧
        Confined [.noc] (only []) s t) ∧
  (∀ (s : State) (rq : Requester) (w poison : Bool) (a len : Nat) (data : List Byte), s.awake → 1 ≤ len → len ≤ 256 →
    requesterUp s rq = true → freeTag s rq.ni = none → Runs (.nocRequest rq w a len data poison) s fun t =>
      t.noc = { s.noc with wait := s.noc.wait ++ [⟨rq, w, a, len, data, poison⟩] } ∧ Confined [.noc] (only []) s t) ∧
  (∀ (s : State) (rq : Requester) (a len : Nat) (u : Target), s.awake → 1 ≤ len → len ≤ 256 → mayRequest s rq = true →
    rq.ni = 36 → routedAccess s rq a len false 0 = .ok u → u = .dram ∨ u = .larder → l2Holds s a len = true →
    Runs (.nocRequest rq false a len [] false) s fun t =>
      t.resp = { value := leNat (l2Bytes s a len) } ∧ Confined [.resp] (only []) s t) ∧
  (∀ (s : State) (rq : Requester) (a : Nat) (u : Target) (f : Fld), s.awake → a % 4 = 0 → mayRequest s rq = true →
    routedAccess s rq a 4 false 0 = .ok u → u = .noc ∨ u = .mem → fieldsAt a = some [f] → isPairLow a = false →
    s.latched rq.ni a = none → Runs (.nocRequest rq false a 4 [] false) s fun t =>
      t.resp = { value := (match f.acc with | .wo => 0 | .rws => s.rdShadow f | _ => s.rd f) * 2 ^ f.lo } ∧
      Confined [.resp] (only []) s t) ∧
  ∀ (s : State) (rq : Requester) (a d : Nat),
    exec (.nocRequest rq true a 4 (leBytes 4 d) false) s = exec (.registerWrite rq a 4 d) s

/-- R231: a request whose target entry has VALID 0 is not injected; it is answered with a bus error at the source and logs
0x0404 NOC_NO_ROUTE.  A target that is fused off is answered as absent before its route is looked up (00 and 01 "At the edges";
the order against a target that is off is the model's choice, log entry 80). -/
def Obligations.NoRouteNoRequest : Prop :=
  ∀ (s : State) (rq : Requester) (w poison : Bool) (a len : Nat) (data : List Byte), s.awake →
    1 ≤ len → len ≤ 256 → mayRequest s rq = true → 2 ≤ s.tier → s.domUp 2 = true → hasTarget s a len = true →
    fusedTarget s a = false → rq.ni ≠ targetNi a → bit (s.rd (Reg.NOC_RT.ENTRY rq.ni (targetNi a))) 31 = false →
    Runs (.nocRequest rq w a len data poison) s fun t =>
      t.resp.busError = true ∧ Logs s t (niIsland rq.ni) 0x0404 rq.ni (targetNi a) a ∧
      Confined [.resp, .log] (only [Reg.LOG_LOST_DROP.COUNT]) s t

/-- NOC_REQUEST and CELLAR_LOCAL_ACCESS outside the map: an address in a hole, in the PCIe window while the port is in endpoint
role, or past its window's end (01 R42, R43) and a local address in no range or past its range (01 R47) are answered with a bus error
and 0x0106, and do nothing else.
CELLAR_LOCAL_ACCESS to the cellar's SRAM (01 R47): a write stores its bytes from its offset and leaves every other byte, a
read returns the bytes, the first in bits [7:0]; a write to the boot ROM or the trouble-log SRAM is refused with 0x0107
(01 R47, R50).
PCIE_ENDPOINT_ACCESS (01 R51, R52): in endpoint role, which the spec gives no way to choose (log entry 79), an access at BAR0 offset
X below 64 GiB, with the PCIe domain up, is the request of NI 39 at device address X, and a bus error on it is answered with
Completer Abort; the QCLASS of the request is a free value (log entry 20). -/
def Obligations.LocalAndPcieAccess : Prop :=
  ((∀ (s : State) (rq : Requester) (w poison : Bool) (a len : Nat) (data : List Byte), s.awake → 1 ≤ len → len ≤ 256 →
    mayRequest s rq = true → hasTarget s a len = false →
    Runs (.nocRequest rq w a len data poison) s fun t =>
      t.resp.busError = true ∧ Logs s t rq.island 0x0106 a (a / 2 ^ 32 % 16 + 256 * b2n w) rq.ni ∧
      Confined [.resp, .log] (only [Reg.LOG_LOST_DROP.COUNT]) s t) ∧
  ∀ (s : State) (w : Bool) (a len : Nat) (data : List Byte), s.awake → 1 ≤ len → len ≤ 256 → a < 2 ^ 32 →
    (localRange a).all (fun r => decide (r.2.2 < a + len - 1)) = true →
    Runs (.cellarLocalAccess w a len data) s fun t =>
      t.resp.busError = true ∧ Logs s t 234 0x0106 a (512 + 256 * b2n w) 44 ∧
      Confined [.resp, .log] (only [Reg.LOG_LOST_DROP.COUNT]) s t) ∧
  ((∀ (s : State) (a len : Nat) (data : List Byte), s.awake → 1 ≤ len → len ≤ 256 → data.length = len → 0x10000000 ≤ a →
    a + len ≤ 0x10060000 →
    Runs (.cellarLocalAccess true a len data) s fun t =>
      (∀ i (h : i < data.length), Mem.read t.mem.sram (a - 0x10000000 + i) = data[i]) ∧
      (∀ j, j < a - 0x10000000 ∨ a - 0x10000000 + len ≤ j → Mem.read t.mem.sram j = Mem.read s.mem.sram j) ∧
      t.mem.dram = s.mem.dram ∧ t.mem.larder = s.mem.larder ∧ t.resp = {} ∧ Confined [.resp, .mem] (only []) s t) ∧
  (∀ (s : State) (a len : Nat), s.awake → 1 ≤ len → len ≤ 256 → 0x10000000 ≤ a → a + len ≤ 0x10060000 →
    Runs (.cellarLocalAccess false a len []) s fun t =>
      t.resp = { value := leNat (Mem.readN s.mem.sram (a - 0x10000000) len) } ∧ Confined [.resp] (only []) s t) ∧
  ∀ (s : State) (a len : Nat) (data : List Byte), s.awake → 1 ≤ len → len ≤ 256 →
    (a + len ≤ 0x10000 ∨ 0x10060000 ≤ a ∧ a + len ≤ 0x10080000) →
    Runs (.cellarLocalAccess true a len data) s fun t =>
      t.resp.busError = true ∧ Logs s t 234 0x0107 a (512 + 256) 44 ∧
      Confined [.resp, .log] (only [Reg.LOG_LOST_DROP.COUNT]) s t) ∧
  (∀ (s : State) (w : Bool) (x len : Nat) (data : List Byte), s.awake → x < 2 ^ 36 → s.domUp 20 = true →
    s.pcieRoot = false →
    Runs (.pcieEndpointAccess w x len data) s fun t => ∃ q u,
      exec (.nocRequest ⟨39, q⟩ w x len data false) { s.useFresh with resp := {} } = .next u ∧
      t = { u with resp := { u.resp with abort := u.resp.busError } })

/-- NOC_FLIT_ROUTE (05 R223-R225, R228, R233, R236): the oldest flit on its link, with no other flit buffered or on a wire and its
header intact or corrected, leaves the router through the port that its next turn code chooses, relative to its heading, with the code
taken off ROUTE and every other bit as it was; a correction counts in NOC_ERR_CE.  With an uncorrectable header the router drops it,
counts it and logs 0x0401. -/
def Obligations.RoutersForwardFlits : Prop :=
  ∀ (s : State) (router inPort : Nat) (f : Flit) (err : List Nat), s.awake → s.domOn 2 = true → router < 36 → inPort < 6 →
    s.noc.bufs = [] → s.noc.wires = [] → (onLink s router inPort (flitVn f)).head?.all (· == f) = true →
    (flitEcc err 1 ≠ .double → Runs (.nocFlitRoute router inPort f err) s fun t => ∃ (out : Nat) (f' : Flit),
      t.noc.wires = [(router, out, f')] ∧ t.noc.bufs = [] ∧ t.noc.delivered = s.noc.delivered ∧ t.noc.queue = s.noc.queue ∧
      t.noc.out = s.noc.out ∧ f'.data = f.data ∧ flitRoute f' = flitRoute f / 4 ∧ f'.hdr >>> 24 = f.hdr >>> 24 ∧
      (flitRoute f % 4 = 3 → out = 4 + flitPort f) ∧
      (flitRoute f % 4 = 0 → out = if inPort < 4 then (inPort + 2) % 4 else flitHead f) ∧
      (flitRoute f % 4 = 1 → out = ((if inPort < 4 then (inPort + 2) % 4 else flitHead f) + 1) % 4) ∧
      (flitRoute f % 4 = 2 → out = ((if inPort < 4 then (inPort + 2) % 4 else flitHead f) + 3) % 4) ∧
      (flitEcc err 1 = .single → t.rd Reg.NOC_ERR_CE.COUNT = min (2 ^ 32 - 1) (s.rd Reg.NOC_ERR_CE.COUNT + 1)) ∧
      Confined [.noc] (only (if flitEcc err 1 = .single then [Reg.NOC_ERR_CE.COUNT] else [])) s t) ∧
    (flitEcc err 1 = .double → Runs (.nocFlitRoute router inPort f err) s fun t =>
      t.noc.wires = [] ∧ t.noc.bufs = [] ∧ t.noc.delivered = s.noc.delivered ∧
      t.rd Reg.NOC_ERR_DROP.COUNT = min (2 ^ 32 - 1) (s.rd Reg.NOC_ERR_DROP.COUNT + 1) ∧
      Logs s t (132 + router) 0x0401 (132 + router) (flitVn f) (flitKind f) ∧
      Confined [.noc, .log] (only [Reg.NOC_ERR_DROP.COUNT, Reg.LOG_LOST_DROP.COUNT]) s t)

/-- NOC_FLIT_EJECT (05 R223, R224, R226, R235, log entry 82): the target NI is given the oldest flit on its link, with its corrections
counted, and with POISON set, the line or the answer it belongs to poisoned and 0x0402 logged where its data is uncorrectable; a
posted write to memory joins its target's queue; a flit whose header is uncorrectable is lost (the model's reading). -/
def Obligations.TargetsTakeFlits : Prop :=
  ∀ (s : State) (ni : Nat) (f : Flit) (err : List Nat), s.awake → s.domOn 2 = true → ni < 64 → s.noc.wires = [] →
    (flitEcc err 0 ≠ .double → flitEcc err 1 ≠ .double → flitKind f ≠ 5 → Runs (.nocFlitEject ni f err) s fun t =>
      t.noc = { s.noc with delivered := s.noc.delivered ++ [(ni, f)] } ∧
      t.rd Reg.NOC_ERR_CE.COUNT = min (2 ^ 32 - 1) (s.rd Reg.NOC_ERR_CE.COUNT +
        ((if flitEcc err 0 = .single then 1 else 0) + (if flitEcc err 1 = .single then 1 else 0))) ∧
      Confined [.noc] (only [Reg.NOC_ERR_CE.COUNT]) s t) ∧
    (flitEcc err 0 = .double → flitEcc err 1 ≠ .double → flitKind f ≠ 5 → Runs (.nocFlitEject ni f err) s fun t => ∃ f' : Flit,
      t.noc.delivered = s.noc.delivered ++ [(ni, f')] ∧ f'.data = (flipData f err).data ∧ hdrField f' 96 1 = 1 ∧
      (∀ lo w, lo + w ≤ 96 ∨ 97 ≤ lo → hdrField f' lo w = hdrField f lo w) ∧
      (flitKind f = 2 → t.noc.out = s.noc.out ∧ t.noc.queue = s.noc.queue.map fun r =>
        if (r.ni == flitSrc f && r.tag == flitTag f && r.seq == flitSeq f && !r.posted) then { r with poison := true } else r) ∧
      (flitKind f = 3 → t.noc.queue = s.noc.queue ∧ t.noc.out = s.noc.out.map fun o =>
        if (o.ni == flitDst f && o.tag == flitTag f) then { o with poisoned := true } else o) ∧
      Logs s t (niIsland ni) 0x0402 ni (flitSrc f) (flitAddr f) ∧
      Confined [.noc, .log] (only [Reg.NOC_ERR_CE.COUNT, Reg.LOG_LOST_DROP.COUNT]) s t) ∧
    (err = [] → flitKind f = 5 → ni < 24 → targetNi (flitAddr f) = ni → inMemory (flitAddr f) (flitBytes f) = true →
      Runs (.nocFlitEject ni f err) s fun t => ∃ r : LineReq, t.noc.queue = s.noc.queue ++ [r] ∧ r.write = true ∧ r.posted = true ∧
        r.addr = flitAddr f ∧ r.len = flitBytes f ∧ r.ni = flitSrc f ∧ r.data = leBytes (flitBytes f) f.data.toNat ∧
        r.poison = flitPoison f ∧ t.noc.delivered = s.noc.delivered ++ [(ni, f)] ∧
        Confined [.noc] (only [Reg.NOC_ERR_CE.COUNT]) s t) ∧
    (flitEcc err 1 = .double → Runs (.nocFlitEject ni f err) s fun t =>
      t.noc.delivered = s.noc.delivered ∧ Confined [.noc] (only []) s t)

/-- NOC_RESPONSE_ARRIVAL and NOC_REQ_TIMEOUT (05 R232, R234, R239, 02 R66), where no request waits for a TAG of the NI: a request whose
every line is served and whose targets have a route back completes with its bytes in order, STATUS 2 where one was uncorrectable,
and frees its TAG; a request not answered within NOC_TIMEOUT cycles completes with a bus error, with Completer Abort on the PCIe
link, is counted and logged 0x0403, and keeps its TAG; its later response is discarded with 0x0405 and frees the TAG, as a further
NOC_TIMEOUT does; a response to a unit that is off is discarded. -/
def Obligations.ResponsesAndTimeouts : Prop :=
  ∀ (s : State) (ni tag : Nat) (o : Outstanding), s.awake → outOf s ni tag = some o →
    (s.noc.wait.filter fun w => w.rq.ni == ni) = [] →
    (o.late = false → o.lines ≤ o.done → answerable s o = true → requesterUp s ⟨ni, 0⟩ = true →
      Runs (.nocResponseArrival ni tag) s fun t =>
        t.resp = { poisoned := o.poisoned, value := leNat (o.got.map (·.2)).flatten } ∧
        t.noc = { s.noc with out := s.noc.out.erase o } ∧ (ni ≠ 36 → t.mem = s.mem) ∧ t.mem = { s.mem with l2 := t.mem.l2 } ∧
        Confined [.resp, .noc, .mem] (only []) s t) ∧
    (o.late = true → o.lines ≤ o.done → answerable s o = true → requesterUp s ⟨ni, 0⟩ = true →
      Runs (.nocResponseArrival ni tag) s fun t =>
        t.noc = { s.noc with out := s.noc.out.erase o } ∧ Logs s t (niIsland ni) 0x0405 ni o.dst tag ∧
        Confined [.log, .noc] (only [Reg.LOG_LOST_DROP.COUNT]) s t) ∧
    (o.lines ≤ o.done → answerable s o = true → requesterUp s ⟨ni, 0⟩ = false → Runs (.nocResponseArrival ni tag) s fun t =>
      t.noc = { s.noc with out := s.noc.out.erase o } ∧ Confined [.noc] (only []) s t) ∧
    (o.late = false → timedOut s o = true → requesterUp s ⟨ni, 0⟩ = true → Runs (.nocReqTimeout ni tag) s fun t =>
      t.resp = { busError := true, abort := ni == 39 } ∧ Logs s t (niIsland ni) 0x0403 ni o.dst tag ∧
      t.noc = { s.noc with out := s.noc.out.map fun x => if x = o then { o with late := true, at_ := s.now } else x } ∧
      t.rd Reg.NOC_ERR_TIMEOUT.COUNT = min (2 ^ 32 - 1) (s.rd Reg.NOC_ERR_TIMEOUT.COUNT + 1) ∧
      Confined [.resp, .log, .noc] (only [Reg.NOC_ERR_TIMEOUT.COUNT, Reg.LOG_LOST_DROP.COUNT]) s t) ∧
    (o.late = true → timedOut s o = true → Runs (.nocReqTimeout ni tag) s fun t =>
      t.noc = { s.noc with out := s.noc.out.erase o } ∧ Confined [.noc] (only []) s t)

/-- ARB_WINDOW_START, MEM_ARB_COMMIT and NOC_ARB_COMMIT (05 R240, R243, R264, R265): at the end of its window an arbiter's counters are
refilled to their weights and a new window begins; a commit copies every shadow of its unit to the active value, leaves the counters
and every other register, and one written without its commit bit copies nothing. -/
def Obligations.ArbiterWindowsAndCommits : Prop :=
  (∀ (s : State) (a : ArbId), s.awake → windowOver s a = true → Runs (.arbWindowStart a) s fun t =>
    t.credit a = arbWeights s a ∧ (∀ b, arbKey b ≠ arbKey a → t.credit b = s.credit b) ∧
    Tbl.find t.noc.windows (arbKey a) = some s.now ∧ Confined [.noc] (only []) s t) ∧
  (∀ (s : State) (rq : Requester) (d : Nat), s.awake → passes (.memArbCommit rq d) s = true →
    Runs (.memArbCommit rq d) s fun t =>
      (bit d 0 = true → ∀ f ∈ memArbFields, t.rd f = s.rdShadow f % 2 ^ f.w) ∧ t.resp = {} ∧
      Confined [.resp] (only (if bit d 0 then memArbFields else [])) s t) ∧
  ∀ (s : State) (rq : Requester) (d : Nat), s.awake → passes (.nocArbCommit rq d) s = true →
    Runs (.nocArbCommit rq d) s fun t =>
      (bit d 0 = true → ∀ f ∈ nocArbFields, t.rd f = s.rdShadow f % 2 ^ f.w) ∧ t.resp = {} ∧
      Confined [.resp] (only (if bit d 0 then nocArbFields else [])) s t

/-- DRAM_READ and DRAM_WRITE of the access that the controller serves next (05 R240, R244, R250-R252): a read joins the line's
bytes to its request, and answers an uncorrectable line poisoned, counted in MEM_DRAM_UE with MEM_UE_ADDR and logged 0x0501; a
single-bit error is corrected, counted and logged 0x0502 at most once a second for its channel (05 R253); a write of a whole line,
or of part of a clean line, stores its bytes and no other; the access leaves the queue and is charged to its requester.  A patrol
read of the scrub that wins the controller advances its patrol and touches no data (05 R253).
DRAM_REFRESH and MR4_POLL (05 R254, R255, R265): a refresh that is due counts in its channel's MEM_REF_COUNT, holds the channel for
380 to 410 ns and falls due again one tREFI later; MR4 is read 16 ms after its last reading, and a changed rate stands in
MEM_STAT.REF_RATE and logs 0x0506 with the new and the old rate. -/
def Obligations.DramAccessAndRefresh : Prop :=
  (∀ (s : State) (ctl i : Nat) (r : LineReq), s.awake → dramLive s = true → ctl < 8 → r.addr < 0x7C0000000 →
    r.addr + r.len ≤ 0x7C0000000 → scrubWins s ctl = false → nextDram s ctl = some (r, i) →
    (r.write = false → s.badAt r.addr 1 = false → Runs (.dramRead ctl .clean) s fun t =>
      t.noc.queue = s.noc.queue.erase r ∧ t.credit (.dram ctl) = spend (s.credit (.dram ctl)) i 1 ∧
      (r.posted = false → ∀ o ∈ s.noc.out, o.ni = r.ni → o.tag = r.tag →
        { o with got := Tbl.set o.got r.seq (s.bytesAt r.addr r.len), done := o.done + 1 } ∈ t.noc.out) ∧
      Confined [.noc] (only []) s t) ∧
    (r.write = false → s.badAt r.addr 1 = false → Runs (.dramRead ctl .single) s fun t =>
      t.noc.queue = s.noc.queue.erase r ∧
      (r.posted = false → ∀ o ∈ s.noc.out, o.ni = r.ni → o.tag = r.tag →
        { o with got := Tbl.set o.got r.seq (s.bytesAt r.addr r.len), done := o.done + 1 } ∈ t.noc.out) ∧
      t.rd Reg.MEM_DRAM_CE.COUNT = min (2 ^ 32 - 1) (s.rd Reg.MEM_DRAM_CE.COUNT + 1) ∧
      LogsLimited s t (dramChannel r.addr) (168 + dramChannel r.addr / 2) 0x0502 r.addr (dramChannel r.addr)
        (t.rd Reg.MEM_DRAM_CE.COUNT) ∧
      Confined [.noc, .log] (only [Reg.MEM_DRAM_CE.COUNT, Reg.LOG_LOST_DROP.COUNT]) s t) ∧
    (∀ (e : LineErr) (k : Nat), FindsBad s r.addr e k → r.write = false → Runs (.dramRead ctl e) s fun t =>
      (r.posted = false → ∀ o ∈ s.noc.out, o.ni = r.ni → o.tag = r.tag →
        ∃ o' ∈ t.noc.out, o'.ni = o.ni ∧ o'.tag = o.tag ∧ o'.poisoned = true) ∧
      t.noc.queue = s.noc.queue.erase r ∧
      t.rd Reg.MEM_DRAM_UE.COUNT = min (2 ^ 32 - 1) (s.rd Reg.MEM_DRAM_UE.COUNT + 1) ∧
      t.rdPair Reg.MEM_UE_ADDR_LO.ADDR Reg.MEM_UE_ADDR_HI.ADDR = r.addr ∧
      Logs s t (168 + dramChannel r.addr / 2) 0x0501 r.addr (r.addr / 2 ^ 32) k ∧
      Confined [.noc, .log] (only [Reg.MEM_DRAM_UE.COUNT, Reg.MEM_UE_ADDR_LO.ADDR, Reg.MEM_UE_ADDR_HI.ADDR,
        Reg.LOG_LOST_DROP.COUNT]) s t) ∧
    (r.write = true → r.data.length = r.len → (r.len = 64 ∨ s.badAt r.addr 1 = false) → Runs (.dramWrite ctl .clean) s fun t =>
      (∀ j (h : j < r.data.length), t.byteAt (r.addr + j) = r.data[j]) ∧
      (∀ a, a < r.addr ∨ r.addr + r.len ≤ a → t.byteAt a = s.byteAt a) ∧
      (r.poison = true → r.addr / 64 ∈ t.mem.dramBad) ∧
      (r.poison = false → r.len = 64 → r.addr % 64 = 0 → r.addr / 64 ∉ t.mem.dramBad) ∧
      t.noc.queue = s.noc.queue.erase r ∧ t.credit (.dram ctl) = spend (s.credit (.dram ctl)) i 1 ∧
      Confined [.noc, .mem] (only []) s t) ∧
    (∀ (e : LineErr) (k : Nat), FindsBad s r.addr e k → r.write = true → r.len ≠ 64 → Runs (.dramWrite ctl e) s fun t =>
      t.mem = s.mem ∧ Logs s t (168 + dramChannel r.addr / 2) 0x0501 r.addr (r.addr / 2 ^ 32) k ∧
      t.noc.queue = s.noc.queue.erase r ∧ Confined [.noc, .log] (only [Reg.MEM_DRAM_UE.COUNT, Reg.MEM_UE_ADDR_LO.ADDR,
        Reg.MEM_UE_ADDR_HI.ADDR, Reg.LOG_LOST_DROP.COUNT]) s t)) ∧
  (∀ (s : State) (ctl k : Nat), s.awake → dramLive s = true → ctl < 8 → scrubWins s ctl = true → scrubDue s ctl = some k →
    k + 1 ≠ scrubLines → s.badAt (scrubAddr ctl k) 1 = false → Runs (.dramRead ctl .clean) s fun t =>
      Tbl.find t.noc.scrub ctl = some ((Tbl.get s.noc.scrub ctl (0, 0)).1, k + 1) ∧ t.noc.queue = s.noc.queue ∧
      t.noc.out = s.noc.out ∧ t.credit (.dram ctl) = spend (s.credit (.dram ctl)) 6 1 ∧ Confined [.noc] (only []) s t) ∧
  ∀ (s : State) (ch : Nat) (temp : Int), s.awake → dramLive s = true → ch < 16 →
    (refreshDue s ch = true → Runs (.dramRefresh ch) s fun t =>
      t.rd (Reg.MEM_REF_COUNT.COUNT ch) = (s.rd (Reg.MEM_REF_COUNT.COUNT ch) + 1) % 2 ^ 32 ∧
      s.now + 187 ≤ Tbl.get t.noc.refUntil ch 0 ∧ Tbl.get t.noc.refUntil ch 0 ≤ s.now + 201 ∧
      Tbl.get t.noc.refDue ch 0 = Tbl.get s.noc.refDue ch 0 + tRefi (s.rd Reg.MEM_STAT.REF_RATE) ∧
      Confined [.noc, .fresh] (only [Reg.MEM_REF_COUNT.COUNT ch]) s t) ∧
    (mr4Due s ch = true → refRate temp ≠ s.rd Reg.MEM_STAT.REF_RATE → Runs (.mr4Poll ch temp) s fun t =>
      t.rd Reg.MEM_STAT.REF_RATE = refRate temp ∧ Tbl.find t.noc.mr4At ch = some s.now ∧
      Logs s t (168 + ch / 2) 0x0506 (refRate temp) (s.rd Reg.MEM_STAT.REF_RATE) ch ∧
      Confined [.noc, .log] (only [Reg.MEM_STAT.REF_RATE, Reg.LOG_LOST_DROP.COUNT]) s t) ∧
    (mr4Due s ch = true → refRate temp = s.rd Reg.MEM_STAT.REF_RATE → Runs (.mr4Poll ch temp) s fun t =>
      t.noc = { s.noc with mr4At := Tbl.set s.noc.mr4At ch s.now } ∧ Confined [.noc] (only []) s t)

/-- LARDER_READ and LARDER_WRITE of the access that the bank's arbiter grants (05 R240, R261): with no marked word and no error
found, a read joins the line's bytes to its request, and a write stores its bytes and no other, and with POISON marks its words; a
read that finds an uncorrectable word, marked or struck, answers STATUS 2, and a write that covers such a word in part writes
nothing (the latter DEDUCED, log entry 81). -/
def Obligations.LarderAccess : Prop :=
  ∀ (s : State) (bank i : Nat) (r : LineReq), s.awake → s.domOn 5 = true → bank < 16 → 0x800000000 ≤ r.addr →
    0 < r.len → r.addr + r.len ≤ 0x804000000 →
    nextGrant s (.larder bank) (8 + bank) 7 (fun i => s.rd (Reg.MEM_ARB_LAR.PRIO i)) = some (r, i) →
    (s.mem.larderBad = [] → r.write = false → Runs (.larderRead bank []) s fun t =>
      t.noc.queue = s.noc.queue.erase r ∧
      (r.posted = false → ∀ o ∈ s.noc.out, o.ni = r.ni → o.tag = r.tag →
        { o with got := Tbl.set o.got r.seq (s.bytesAt r.addr r.len), done := o.done + 1 } ∈ t.noc.out) ∧
      Confined [.noc] (only []) s t) ∧
    (s.mem.larderBad = [] → r.write = true → r.data.length = r.len → Runs (.larderWrite bank []) s fun t =>
      (∀ j (h : j < r.data.length), t.byteAt (r.addr + j) = r.data[j]) ∧
      (∀ a, a < 0x7C0000000 ∨ 0x800000000 ≤ a → a < r.addr ∨ r.addr + r.len ≤ a → t.byteAt a = s.byteAt a) ∧
      (r.poison = true → ∀ w ∈ touchedWords r.addr r.len, w ∈ t.mem.larderBad) ∧
      t.noc.queue = s.noc.queue.erase r ∧ Confined [.noc, .mem] (only []) s t) ∧
    (r.write = false → s.badAt r.addr 1 = true → Runs (.larderRead bank []) s fun t =>
      (r.posted = false → ∀ o ∈ s.noc.out, o.ni = r.ni → o.tag = r.tag →
        ∃ o' ∈ t.noc.out, o'.ni = o.ni ∧ o'.tag = o.tag ∧ o'.poisoned = true) ∧
      t.noc.queue = s.noc.queue.erase r ∧ (s.rd Reg.MEM_LAR_UE.COUNT < 2 ^ 32 - 1 →
        s.rd Reg.MEM_LAR_UE.COUNT < t.rd Reg.MEM_LAR_UE.COUNT) ∧
      Confined [.noc, .log] (only [Reg.MEM_LAR_UE.COUNT, Reg.LOG_LOST_DROP.COUNT]) s t) ∧
    (r.write = true → r.addr % 8 ≠ 0 → s.badAt r.addr 1 = true → Runs (.larderWrite bank []) s fun t =>
      t.mem = s.mem ∧ t.noc.queue = s.noc.queue.erase r ∧
      Confined [.noc, .log] (only [Reg.MEM_LAR_UE.COUNT, Reg.LOG_LOST_DROP.COUNT]) s t)

/-- CLK_MODE_REQ_ADAPTIVE, CLK_MODE_REQ_DETERMINISTIC and CLK_MODE_FLOOR_TIMEOUT (03 R124, R128-R130): with radio not released, no
transition or change in progress and REFCLK in lock, a change to Adaptive completes and drops the VDD_CORE floor, and one to
Deterministic completes where the floor comes in time, with VDD_CORE at 800 mV or more, and waits where it does not; each change
made is logged 0x0202.  A request made while radio is released or busy is refused with 0x0203 and changes no mode, and a floor
that stays out 98,304 ticks abandons the change with 0x0203. -/
def Obligations.ClockingModeChanges : Prop :=
  (∀ (s : State) (rq : Requester) (ticks : Nat), s.awake → passes (.clkModeReqAdaptive rq ticks) s = true →
    s.radioReleased = false → s.busy = false → s.flag Reg.CLK_MODE_STAT.BUSY = false → s.flag Reg.CLK_MODE_STAT.REFCLK_OK = true →
    Runs (.clkModeReqAdaptive rq ticks) s fun t =>
      t.rd Reg.CLK_MODE.MODE = 1 ∧ t.ck.floorDet = false ∧ t.rd Reg.CLK_RUN_STAT.MODE = 1 ∧ t.rd Reg.CLK_RUN_STAT.ADAPTIVE = 1 ∧
      t.resp = {} ∧ Logs s t 132 0x0202 1 (s.rd Reg.CLK_MODE.MODE) ticks ∧
      Confined [.resp, .log, .ck] (only [Reg.CLK_MODE.MODE, Reg.CLK_MODE_STAT.BUSY, Reg.CLK_RUN_STAT.MODE,
        Reg.CLK_RUN_STAT.ADAPTIVE, Reg.LOG_LOST_DROP.COUNT]) s t) ∧
  (∀ (s : State) (rq : Requester) (floor : Option Nat), s.awake → passes (.clkModeReqDeterministic rq floor) s = true →
    s.radioReleased = false → s.busy = false → s.flag Reg.CLK_MODE_STAT.BUSY = false → s.flag Reg.CLK_MODE_STAT.REFCLK_OK = true →
    Runs (.clkModeReqDeterministic rq floor) s fun t => t.resp = {} ∧
      (∀ k, floor = some k → t.rd Reg.CLK_MODE.MODE = 2 ∧ t.ck.floorDet = true ∧ t.pw.avs = max 800 s.pw.avs ∧
        Logs s t 132 0x0202 2 (s.rd Reg.CLK_MODE.MODE) k) ∧
      (floor = none → t.rd Reg.CLK_MODE_STAT.BUSY = 1 ∧ t.ck.change = some 2 ∧ t.ck.changeAt = s.ck.time ∧
        t.ck.floorDet = true ∧ t.pw.avs = max 800 s.pw.avs ∧ t.rd Reg.CLK_MODE.MODE = s.rd Reg.CLK_MODE.MODE ∧ t.log = s.log) ∧
      Confined [.resp, .log, .ck, .pw] (only [Reg.CLK_MODE.MODE, Reg.CLK_MODE_STAT.BUSY, Reg.CLK_RUN_STAT.MODE,
        Reg.LOG_LOST_DROP.COUNT]) s t) ∧
  (∀ (s : State) (rq : Requester) (ticks : Nat) (floor : Option Nat), s.awake →
    s.radioReleased = true ∨ s.busy = true ∨ s.flag Reg.CLK_MODE_STAT.BUSY = true →
    (passes (.clkModeReqAdaptive rq ticks) s = true → Runs (.clkModeReqAdaptive rq ticks) s fun t =>
      Logs s t 132 0x0203 1 (s.rd Reg.CLK_MODE.MODE) 0 ∧ Confined [.resp, .log] (only [Reg.LOG_LOST_DROP.COUNT]) s t) ∧
    (passes (.clkModeReqDeterministic rq floor) s = true → Runs (.clkModeReqDeterministic rq floor) s fun t =>
      Logs s t 132 0x0203 2 (s.rd Reg.CLK_MODE.MODE) 0 ∧ Confined [.resp, .log] (only [Reg.LOG_LOST_DROP.COUNT]) s t)) ∧
  ∀ (s : State) (m : Nat), s.awake → s.ck.change = some m → 98304 ≤ (s.ck.time - s.ck.changeAt).toNat →
    Runs .clkModeFloorTimeout s fun t =>
      t.rd Reg.CLK_MODE_STAT.BUSY = 0 ∧ t.ck = { s.ck with change := none, floorDet := deterministic s } ∧
      Logs s t 132 0x0203 m (s.rd Reg.CLK_MODE.MODE) 1 ∧
      Confined [.ck, .log] (only [Reg.CLK_MODE_STAT.BUSY, Reg.LOG_LOST_DROP.COUNT]) s t

/-- DROOP_STRETCH, CLK_ISLAND_UNLOCK, REFCLK_RELOCK and REFCLK_LOST (03 R123, R126, R136-R138, 0x0201): a droop counts its
stretched cycles for its island, saturating, and in Deterministic Mode logs 0x0204 and sets CLK_RUN_STAT.DROOP; an island that
leaves lock is reported; REFCLK lost in RUN or HOLDOVER ends lock, leaves the generators free-running and the mode Adaptive with
CLK_RUN_STAT.REFCLK set, and its return locks again and leaves the mode Adaptive. -/
def Obligations.DroopsAndLossOfReference : Prop :=
  (∀ (s : State) (i n : Nat), s.awake → islandLive s i = true → islandDomain i ≠ none →
    Runs (.droopStretch i n) s fun t =>
      Tbl.get t.ck.stretch i 0 = min 0xFFFFFFFF (Tbl.get s.ck.stretch i 0 + n) ∧
      (∀ j, j ≠ i → Tbl.get t.ck.stretch j 0 = Tbl.get s.ck.stretch j 0) ∧
      (s.rd Reg.CLK_MODE.MODE = 2 → t.rd Reg.CLK_RUN_STAT.DROOP = 1 ∧ Logs s t 132 0x0204 i n s.mode) ∧
      (s.rd Reg.CLK_MODE.MODE ≠ 2 → s.ck.pinned.contains i = false → t.log = s.log) ∧
      Confined [.ck, .log] (only [Reg.CLK_RUN_STAT.DROOP, Reg.LOG_LOST_DROP.COUNT]) s t) ∧
  (∀ (s : State) (i : Nat), s.awake → islandLocked s i = true → islandDomain i ≠ none →
    Runs (.clkIslandUnlock i) s fun t =>
      t.ck = { s.ck with unlocked := i :: s.ck.unlocked } ∧ islandLocked t i = false ∧
      Logs s t 132 0x0201 i (islandRatio i) s.mode ∧ Confined [.ck, .log] (only [Reg.LOG_LOST_DROP.COUNT]) s t) ∧
  (∀ s : State, s.awake → s.rd Reg.SYS_PWR_MODE.MODE = 3 ∨ s.rd Reg.SYS_PWR_MODE.MODE = 4 →
    s.flag Reg.CLK_MODE_STAT.REFCLK_OK = false → Runs .refclkRelock s fun t =>
      t.rd Reg.CLK_MODE_STAT.REFCLK_OK = 1 ∧ t.rd Reg.CLK_MODE.MODE = s.rd Reg.CLK_MODE.MODE ∧ t.pw.refclk = true ∧
      t.ck.fromRefclk = true ∧ t.ck.beat = 0 ∧ t.ck.time = s.ck.time ∧
      Confined [.pw, .ck, .fab, .log] (only [Reg.CLK_MODE_STAT.REFCLK_OK, Reg.LOG_LOST_DROP.COUNT]) s t) ∧
  ∀ s : State, s.awake → s.rd Reg.SYS_PWR_MODE.MODE = 3 ∨ s.rd Reg.SYS_PWR_MODE.MODE = 4 →
    s.flag Reg.CLK_MODE_STAT.REFCLK_OK = true → s.flag Reg.RAD_STAT.RELEASED = false → s.flag Reg.RAD_STAT.CALIBRATING = false →
    Runs .refclkLost s fun t =>
      t.rd Reg.CLK_MODE_STAT.REFCLK_OK = 0 ∧ t.rd Reg.CLK_MODE.MODE = 1 ∧ t.rd Reg.CLK_RUN_STAT.REFCLK = 1 ∧
      t.rd Reg.CLK_RUN_STAT.ADAPTIVE = 1 ∧ (s.rd Reg.CLK_MODE.MODE ≠ 1 → t.rd Reg.CLK_RUN_STAT.MODE = 1) ∧
      t.pw.refclk = false ∧ t.pw.clk ≠ .refclk ∧ t.ck.floorDet = false ∧ t.ck.free = true ∧ t.ck.time = s.ck.time ∧
      Confined [.pw, .ck, .log, .svc] (only [Reg.CLK_MODE_STAT.REFCLK_OK, Reg.CLK_MODE_STAT.BUSY, Reg.CLK_MODE.MODE, Reg.CLK_RUN_STAT.REFCLK,
        Reg.CLK_RUN_STAT.ADAPTIVE, Reg.CLK_RUN_STAT.MODE, Reg.CEL_AUDIO_STAT.SRC, Reg.CEL_AUDIO_STAT.GLITCH, Reg.RAD_STAT.CALIBRATING,
        Reg.LOG_LOST_DROP.COUNT]) s t

/-- CLK_RATE_WRITE, CLK_STEP_WRITE and CLK_STEP_APPLY (03 R143-R145): CLK_RATE holds the offset clamped to ±858,993 and a clamped
write logs 0x0205; a write of CLK_STEP_HI arms the step of both halves, except that while radio is released a step beyond ±1 tick
is refused with 0x0206; an armed step is added to device time at an alignment mark and is armed no more. -/
def Obligations.RateAndStepOfDeviceTime : Prop :=
  (∀ (s : State) (rq : Requester) (v : Nat), s.awake → v < 2 ^ 32 → passes (.clkRateWrite rq v) s = true →
    Runs (.clkRateWrite rq v) s fun t =>
      sInt (t.rd Reg.CLK_RATE.RATE) 32 = max (-858993) (min 858993 (sInt v 32)) ∧ t.resp = {} ∧
      (-858993 ≤ sInt v 32 → sInt v 32 ≤ 858993 → t.log = s.log) ∧
      (sInt v 32 < -858993 ∨ 858993 < sInt v 32 → Logs s t 132 0x0205 v (t.rd Reg.CLK_RATE.RATE) rq.ni) ∧
      Confined [.resp, .log] (only [Reg.CLK_RATE.RATE, Reg.LOG_LOST_DROP.COUNT]) s t) ∧
  (∀ (s : State) (rq : Requester) (v : Nat), s.awake → v < 2 ^ 32 → passes (.clkStepWrite rq v) s = true →
    (s.radioReleased = false → Runs (.clkStepWrite rq v) s fun t =>
      t.ck = { s.ck with step := some (BitVec.ofNat 64 (s.ck.stepLo.toNat + 2 ^ 32 * v)) } ∧ Confined [.resp, .ck] (only []) s t) ∧
    (s.radioReleased = true → 1 < sInt (s.ck.stepLo.toNat + 2 ^ 32 * v) 64 ∨ sInt (s.ck.stepLo.toNat + 2 ^ 32 * v) 64 < -1 →
      Runs (.clkStepWrite rq v) s fun t =>
        Logs s t 132 0x0206 s.ck.stepLo.toNat v rq.ni ∧ Confined [.resp, .log] (only [Reg.LOG_LOST_DROP.COUNT]) s t)) ∧
  ∀ (s : State) (d : DWord), s.awake → s.ck.step = some d → atMark s = true → Runs .clkStepApply s fun t =>
    t.ck = { s.ck with time := s.ck.time + d, step := none, ppsDue := t.ck.ppsDue } ∧ (s.ck.ppsDue = true → t.ck.ppsDue = true) ∧
    Confined [.ck] (only []) s t

/-- PPS_IN_EDGE, CLK_PPS_MISSING, PPS_OUT_RISE and PPS_OUT_FALL (03 R148-R151): an edge captures device time to within 1 tick and
counts, and more than 1,000 ticks from a whole second sets JUMP and logs 0x0208; 1.1 s without an edge logs 0x0207 once; 1PPS_OUT
falls due as device time reaches or passes a whole second plus OFFSET, rises then, and falls after its width. -/
def Obligations.OnePulsePerSecond : Prop :=
  (∀ s : State, s.awake → 2 ≤ s.tier → Runs .ppsInEdge s fun t =>
    (∃ n : Nat, n ≤ 2 ∧
      t.rdPair Reg.CLK_PPS_IN_LO.CAP Reg.CLK_PPS_IN_HI.CAP = (s.ck.time + BitVec.ofNat 64 n - 1).toNat) ∧
    t.rd Reg.CLK_PPS_STAT.COUNT = (s.rd Reg.CLK_PPS_STAT.COUNT + 1) % 2 ^ 16 ∧ t.ck.ppsIn = some s.ck.time ∧
    (offSecond s.now < -1000 ∨ 1000 < offSecond s.now → t.rd Reg.CLK_PPS_STAT.JUMP = 1 ∧
      Logs s t 132 0x0208 (ofInt (offSecond s.now) 32) 0 0) ∧
    (-1000 ≤ offSecond s.now → offSecond s.now ≤ 1000 → t.log = s.log ∧ t.rd Reg.CLK_PPS_STAT.JUMP = s.rd Reg.CLK_PPS_STAT.JUMP) ∧
    Confined [.ck, .log, .fresh] (only [Reg.CLK_PPS_IN_LO.CAP, Reg.CLK_PPS_IN_HI.CAP, Reg.CLK_PPS_STAT.COUNT, Reg.CLK_PPS_STAT.JUMP,
      Reg.LOG_LOST_DROP.COUNT]) s t) ∧
  (∀ (s : State) (x : DWord), s.awake → 2 ≤ s.tier → s.flag Reg.CLK_PPS_STAT.EXPECT = true → s.ck.ppsMissing = false →
    s.ck.ppsIn = some x → 540672000 ≤ (s.ck.time - x).toNat → Runs .clkPpsMissing s fun t =>
      t.ck = { s.ck with ppsMissing := true } ∧ Logs s t 132 0x0207 (s.rd Reg.CLK_PPS_STAT.COUNT) 0 0 ∧
      Confined [.ck, .log] (only [Reg.LOG_LOST_DROP.COUNT]) s t) ∧
  (∀ (s : State) (n : Nat), (advanceTime s n).ck.ppsDue = true ↔ s.ck.ppsDue = true ∨
    s.flag Reg.CLK_PPS_OUT_CFG.EN = true ∧ ∃ k : Int,
      (s.now : Int) < 491520000 * k + sInt (s.rd Reg.CLK_PPS_OUT_OFS.OFFSET) 32 ∧
      491520000 * k + sInt (s.rd Reg.CLK_PPS_OUT_OFS.OFFSET) 32 ≤ (advanceTime s n).now) ∧
  (∀ s : State, s.awake → 2 ≤ s.tier → s.flag Reg.CLK_PPS_OUT_CFG.EN = true → s.ck.ppsDue = true → Runs .ppsOutRise s fun t =>
      t.ck = { s.ck with ppsOut := true, ppsDue := false, ppsRise := s.ck.time } ∧ Confined [.ck] (only []) s t) ∧
  ∀ s : State, s.awake → s.ck.ppsOut = true →
    491520 * min 999 (max 1 (s.rd Reg.CLK_PPS_OUT_CFG.WIDTH_MS)) ≤ (s.ck.time - s.ck.ppsRise).toNat → Runs .ppsOutFall s fun t =>
      t.ck = { s.ck with ppsOut := false } ∧ Confined [.ck] (only []) s t

/-- ETH_FRAME_RECEIVE, ETH_FRAME_TRANSMIT, SYNCE_SQUELCH and SYNCE_UNSQUELCH (03 R146, R147, R152, R153): a selected port stamps a
received frame with device time less its RX latency and a sent one with device time plus its TX latency, and a frame that is no
one-step Sync goes out as it is; a port that loses lock squelches its output, enabled or not, which is held low and logged 0x020B
until it is unsquelched; an enabled output carries the port's clock divided by 165, or by 66 at 10GBASE-R. -/
def Obligations.EthernetStampsAndRecoveredClock : Prop :=
  (∀ (s : State) (p : Nat) (f : List Byte), s.awake → s.domUp 19 = true → 3 ≤ s.tier → p < 4 →
    (Runs (.ethFrameReceive p f) s fun t =>
      Tbl.find t.ck.rxFrame p = some f ∧
      (bit (s.rd Reg.CLK_PTP_CFG.PORTS) p = true →
        Tbl.find t.ck.rxStamp p = some (s.ck.time - BitVec.ofNat 64 (s.rd (Reg.CLK_PTP_LAT.RX p)))) ∧
      (bit (s.rd Reg.CLK_PTP_CFG.PORTS) p = false → t.ck.rxStamp = s.ck.rxStamp) ∧ Confined [.ck] (only []) s t) ∧
    (Runs (.ethFrameTransmit p f none) s fun t =>
      Tbl.find t.ck.txFrame p = some f ∧
      (bit (s.rd Reg.CLK_PTP_CFG.PORTS) p = true →
        Tbl.find t.ck.txStamp p = some (s.ck.time + BitVec.ofNat 64 (s.rd (Reg.CLK_PTP_LAT.TX p)))) ∧
      (bit (s.rd Reg.CLK_PTP_CFG.PORTS) p = false → t.ck.txStamp = s.ck.txStamp) ∧ Confined [.ck] (only []) s t) ∧
    ∀ loc, bit (s.rd Reg.CLK_PTP_CFG.PORTS) p = true → s.flag Reg.CLK_PTP_CFG.ONE_STEP = true →
      Runs (.ethFrameTransmit p f (some loc)) s fun t =>
        Tbl.find t.ck.txFrame p = some (oneStep f loc (s.ck.time + BitVec.ofNat 64 (s.rd (Reg.CLK_PTP_LAT.TX p))).toNat) ∧
        Confined [.ck] (only []) s t) ∧
  ∀ (s : State) (o : Nat), s.awake → o < 2 →
    (2 ≤ s.tier → s.flag Reg.CLK_SYNCE_CFG.SQUELCH = true → bit s.ck.squelched o = false →
      Runs (.synceSquelch o) s fun t => bit t.ck.squelched o = true ∧ synceOut t o = none ∧ Logs s t 132 0x020B o (syncePort s o) 0 ∧
        Confined [.ck, .log] (only [Reg.LOG_LOST_DROP.COUNT]) s t) ∧
    Runs (.synceUnsquelch o) s fun t => bit t.ck.squelched o = false ∧
      (2 ≤ s.tier → synceOn s o = true → s.domUp 19 = true →
        (s.rd (Reg.RAD_ETH_CFG.SPEED (syncePort s o)) = 2 → synceOut t o = some (syncePort s o, 66)) ∧
        (s.rd (Reg.RAD_ETH_CFG.SPEED (syncePort s o)) ≠ 2 → synceOut t o = some (syncePort s o, 165))) ∧
      Confined [.ck] (only []) s t

/-- CLK_RUN_ARM, CLK_RUN_MARK and CELLAR_CLOCK_MOVE (03 R155, R163, 02 R71): ARM arms the run mark; armed, at an alignment mark at or
after CLK_RUN_AT with SRC 0, it falls once: CLK_RUN_STAT is cleared but for the conditions that still hold, and 0x020A carries
device time; a move of the cellar clock that is due waits for its frame boundary of the audio samples, if it has one, and takes
place then. -/
def Obligations.RunMarkAndCellarClock : Prop :=
  (∀ (s : State) (rq : Requester) (d : Nat), s.awake → d < 2 ^ 32 → passes (.clkRunArm rq d) s = true → bit d 0 = true →
    Runs (.clkRunArm rq d) s fun t => t.ck = { s.ck with runArmed := true, runPps := false } ∧
      t.rd Reg.CLK_RUN_CTRL.SRC = bits d 1 1 ∧ Confined [.resp, .ck] (only [Reg.CLK_RUN_CTRL.SRC, Reg.CLK_RUN_CTRL.ARM]) s t) ∧
  (∀ s : State, s.awake → s.ck.runArmed = true → atMark s = true → s.flag Reg.CLK_RUN_CTRL.SRC = false →
    s.rdPair Reg.CLK_RUN_AT_LO.AT Reg.CLK_RUN_AT_HI.AT ≤ s.now → Runs .clkRunMark s fun t =>
      t.ck = { s.ck with runArmed := false, runPps := false } ∧ t.rd Reg.CLK_RUN_STAT.MODE = 0 ∧ t.rd Reg.CLK_RUN_STAT.FENCE = 0 ∧
      t.rd Reg.CLK_RUN_STAT.DROOP = 0 ∧ t.rd Reg.CLK_RUN_STAT.REFCLK = 0 ∧
      t.rd Reg.CLK_RUN_STAT.ADAPTIVE = (if s.rd Reg.CLK_MODE.MODE = 2 then 0 else 1) ∧
      t.rd Reg.CLK_RUN_STAT.GOV = (if s.rd Reg.SYS_GOV_STAT.LEVEL = 0 then 0 else 1) ∧
      Logs s t 132 0x020A s.now (s.now / 2 ^ 32) (s.rd Reg.CLK_MODE.MODE) ∧
      Confined [.ck, .log] (only [Reg.CLK_RUN_STAT.GOV, Reg.CLK_RUN_STAT.MODE, Reg.CLK_RUN_STAT.FENCE, Reg.CLK_RUN_STAT.DROOP,
        Reg.CLK_RUN_STAT.REFCLK, Reg.CLK_RUN_STAT.ADAPTIVE, Reg.LOG_LOST_DROP.COUNT]) s t) ∧
  ∀ (s : State) (c : CellarClk), s.awake → s.pw.clkMove = some c →
    (∀ n, s.pw.clkDue = some n → s.svc.count < n → Runs .cellarClockMove s fun t => t = s) ∧
    (s.pw.clkDue.all (fun n => decide (n ≤ s.svc.count)) = true →
      Runs .cellarClockMove s fun t => t.pw = { s.pw with clk := c, clkMove := none, clkDue := none } ∧ t.ck.time = s.ck.time ∧
      t.ck.fromRefclk = (c == .refclk) ∧ t.rd Reg.CEL_AUDIO_STAT.SRC = (match c with | .fll => 1 | .refclk => 2 | .rc => 3) ∧
      Confined [.pw, .ck, .log] (only [Reg.CEL_AUDIO_STAT.SRC, Reg.LOG_LOST_DROP.COUNT]) s t)

/-- VDD_CEL_LOSS, VDD_CEL_POWER_GOOD, VDD_IO33_LOW and VDD_IO33_RESTORED (02 R72, R105, 17 R770-R774): without VDD_CEL the device is
OFF, its log, device time and registers lost; power-good from OFF brings it to CELLAR with 0x0116 in the log; VDD_IO33 holds the
cellar in reset until it returns.  Fuses stand, and so do the bytes of the memories (log entry 6). -/
def Obligations.SupplyEvents : Prop :=
  (∀ s : State, Runs .vddCelLoss s fun t =>
    t.pw.off = true ∧ t.log = {} ∧ t.ck = {} ∧ (∀ f, t.rd f = f.reset) ∧ t.mem.dram = s.mem.dram ∧ t.mem.larder = s.mem.larder ∧
    t.mem.sram = s.mem.sram ∧ t.cfg = { keyRevoked := s.cfg.keyRevoked, svnFloor := s.cfg.svnFloor } ∧ t.part = s.part ∧
    t.pending = s.pending) ∧
  (∀ s : State, s.pw.off = true → Runs .vddCelPowerGood s fun t =>
    t.pw = {} ∧ t.log = { intake := [⟨0, 234, 0x0116, 1, 0, 1⟩] } ∧ t.ck = {} ∧ (∀ f, t.rd f = f.reset) ∧
    t.mem.dram = s.mem.dram ∧ t.mem.larder = s.mem.larder ∧ t.mem.sram = s.mem.sram ∧
    t.cfg = { keyRevoked := s.cfg.keyRevoked, svnFloor := s.cfg.svnFloor } ∧ t.part = s.part ∧ t.pending = s.pending) ∧
  (∀ s : State, s.awake → Runs .vddIo33Low s fun t => t.pw.held = true ∧ AfterColdReset s t 0) ∧
  ∀ s : State, Runs .vddIo33Restored s fun t => t.pw = { s.pw with held := false } ∧ Confined [.pw] (only []) s t

/-- PORN_RESET, WATCHDOG_EXPIRY and SOFTWARE_COLD_RESET (02 R102, R105-R108): each resets the cellar core for its cause; the
watchdog only where it is enabled and has had no kick for PERIOD_MS, the software reset only with the key 0x5AC0 and COLD.
SOFTWARE_WARM_RESET (02 R86, R102, R106): with the key and WARM, not COLD, the main domains go, every channel is lowered, the
device stands in CELLAR about to begin start-up at step 3, the cause is recorded in SYS_RST_CAUSE, and the fuses stand.
WDOG_KICK (02 R107, R108): the key 0xA5C3 restarts the watchdog. -/
def Obligations.ResetsAndTheWatchdog : Prop :=
  ((∀ s : State, s.awake → Runs .pornReset s fun t => AfterColdReset s t 0 ∧ t.pw.held = false) ∧
  (∀ s : State, s.awake → s.flag Reg.SYS_WDOG_CFG.EN = true →
    491520 * max 1 (s.rd Reg.SYS_WDOG_CFG.PERIOD_MS) ≤ (s.ck.time - s.pw.kick).toNat →
    Runs .watchdogExpiry s fun t => AfterColdReset s t 1 ∧ t.pw.held = false) ∧
  ∀ (s : State) (rq : Requester) (d : Nat), s.awake → passes (.softwareColdReset rq d) s = true → bits d 16 16 = 0x5AC0 →
    bit d 0 = true → Runs (.softwareColdReset rq d) s fun t => AfterColdReset s t 4 ∧ t.resp = {}) ∧
  (∀ (s : State) (rq : Requester) (d late : Nat), s.awake → passes (.softwareWarmReset rq d late) s = true →
    bits d 16 16 = 0x5AC0 → bit d 0 = false → bit d 1 = true → Runs (.softwareWarmReset rq d late) s fun t =>
      AfterWarmReset s t 5 ∧ t.resp = {}) ∧
  (∀ (s : State) (rq : Requester) (d : Nat), s.awake → passes (.wdogKick rq d) s = true → bits d 0 16 = 0xA5C3 →
    Runs (.wdogKick rq d) s fun t => t.pw = { s.pw with kick := s.ck.time } ∧ t.resp = {} ∧ Confined [.resp, .pw] (only []) s t)

/-- R107: a write to SYS_RESET or SYS_WDOG_KICK whose key field does not match is ignored and logs 0x010C KEY_MISMATCH. -/
def Obligations.KeyMismatch : Prop :=
  ∀ (s : State) (rq : Requester) (d late : Nat), s.awake →
    (passes (.softwareColdReset rq d) s = true → bits d 16 16 ≠ 0x5AC0 → Runs (.softwareColdReset rq d) s fun t =>
      Logs s t 234 0x010C 0xF00000034 d rq.ni ∧ Confined [.resp, .log] (only [Reg.LOG_LOST_DROP.COUNT]) s t) ∧
    (passes (.softwareWarmReset rq d late) s = true → bits d 16 16 ≠ 0x5AC0 → Runs (.softwareWarmReset rq d late) s fun t =>
      Logs s t 234 0x010C 0xF00000034 d rq.ni ∧ Confined [.resp, .log] (only [Reg.LOG_LOST_DROP.COUNT]) s t) ∧
    (passes (.wdogKick rq d) s = true → bits d 0 16 ≠ 0xA5C3 → Runs (.wdogKick rq d) s fun t =>
      Logs s t 234 0x010C 0xF0000003C d rq.ni ∧ Confined [.resp, .log] (only [Reg.LOG_LOST_DROP.COUNT]) s t) ∧
    (d < 2 ^ 32 → passes (.softwareColdReset rq d) s = true → bits d 16 16 ≠ 0x5AC0 →
      Runs (.registerWrite rq 0xF00000034 4 d) s fun t =>
        Logs s t 234 0x010C 0xF00000034 d rq.ni ∧ Confined [.resp, .log, .fresh] (only [Reg.LOG_LOST_DROP.COUNT]) s t) ∧
    (d < 2 ^ 32 → passes (.wdogKick rq d) s = true → bits d 0 16 ≠ 0xA5C3 → Runs (.registerWrite rq 0xF0000003C 4 d) s fun t =>
      Logs s t 234 0x010C 0xF0000003C d rq.ni ∧ Confined [.resp, .log] (only [Reg.LOG_LOST_DROP.COUNT]) s t)

/-- START_UP and FLL_LOCK (02 R86 steps 1 to 4, R94, R106, R108): the cellar core starts on the RC oscillator with the watchdog on
and locked, and its reset causes recorded; once the FLL has locked, start-up raises the Ground channels with TJ_MIN at −25 °C or
above, warms below it, or waits cold with warming disabled.
REFCLK_DETECTED and REFCLK_ABSENT at step 7 (02 R86, R93, 03 R122): with REFCLK the generators lock, the beat count restarts and
the Ground domains switch on; without it the rails are lowered, start-up ends in CELLAR and 0x0117 is logged. -/
def Obligations.StartUpBegins : Prop :=
  ((∀ s : State, s.awake → s.pw.step = 1 → Runs .startUp s fun t =>
    t.pw.step = 2 ∧ t.pw.clk = .rc ∧ t.pw.kick = s.ck.time ∧ t.pw.rstPend = none ∧ t.rd Reg.SYS_WDOG_CFG.EN = 1 ∧
    Reg.SYS_WDOG_CFG.EN.key ∈ t.wl ∧ t.rd Reg.SYS_PWR_MODE.BUSY = 1 ∧ t.rd Reg.SYS_PWR_MODE.TARGET = 3 ∧
    (∀ m b, s.pw.rstPend = some (m, b) → t.rd Reg.SYS_RST_CAUSE.CAUSE = (s.rd Reg.SYS_RST_CAUSE.CAUSE ||| m) % 2 ^ 7) ∧
    t.mem = s.mem ∧ t.part = s.part ∧ t.pending = s.pending) ∧
  ∀ (s : State) (tj : BitVec 16), s.awake → s.pw.step = 2 → s.pw.xtalOk = true → s.pw.chPg = 0 →
    (-200 ≤ tj.toInt → Runs (.fllLock tj false) s fun t => AtStep6 t ∧ t.pw.clk = .fll ∧ t.rd Reg.SYS_TJ.TJ_MIN = tj.toNat) ∧
    (tj.toInt < -200 → s.flag Reg.SYS_WARM_CFG.WARM_EN = true → Runs (.fllLock tj false) s fun t =>
      t.pw.step = 5 ∧ t.pw.heater = true ∧ t.pw.raise = [0, 1] ∧ bit t.pw.chEn 0 = true ∧ t.rd Reg.SYS_WARM_STAT.ACTIVE = 1 ∧
      t.rd Reg.SYS_WARM_STAT.ATTEMPTS = min 255 (s.rd Reg.SYS_WARM_STAT.ATTEMPTS + 1) ∧ t.pw.warmStart = s.ck.time) ∧
    (tj.toInt < -200 → s.flag Reg.SYS_WARM_CFG.WARM_EN = false → Runs (.fllLock tj false) s fun t =>
      t.pw.step = 4 ∧ t.pw.coldWait = true ∧ ChannelsDown t ∧ t.rd Reg.SYS_PWR_MODE.BUSY = 0)) ∧
  (∀ s : State, s.awake → s.pw.step = 7 →
    (Runs .refclkDetected s fun t => t.pw.step = 8 ∧ t.pw.refclk = true ∧ t.rd Reg.CLK_MODE_STAT.REFCLK_OK = 1 ∧ t.ck.beat = 0 ∧
      (∀ d, d < 5 → t.domOn d = true) ∧ t.ck.time = s.ck.time ∧ t.mem = s.mem ∧ t.log = s.log) ∧
    Runs .refclkAbsent s fun t => t.pw.step = 0 ∧ ChannelsDown t ∧ t.rd Reg.SYS_PWR_MODE.BUSY = 0 ∧
      Logs s t 234 0x0117 4915200 0 0 ∧
      Confined [.pw, .log] (only [Reg.SYS_PWR_MODE.BUSY, Reg.SYS_PWR_MODE.TARGET, Reg.LOG_LOST_DROP.COUNT]) s t)

/-- WARM_END, WARM_LIMIT_EXPIRED and COLD_WAIT_READING (02 R86 step 5, R90, R91, R94): warming ends at −20 °C and start-up goes on to
its Ground channels; after LIMIT_MIN minutes below −20 °C it is expired and every channel is lowered; a device that waits cold goes on at
−20 °C, or warms once warming is enabled. -/
def Obligations.Warming : Prop :=
  (∀ (s : State) (tj : BitVec 16), s.awake → s.pw.step = 5 → s.pw.chPg = 0 → -160 ≤ tj.toInt → Runs (.warmEnd tj) s fun t =>
    AtStep6 t ∧ t.pw.heater = false ∧ t.pw.warmRegions = (if s.flag Reg.SYS_WARM_STAT.ACTIVE then 0 else s.pw.warmRegions) ∧
    t.rd Reg.SYS_WARM_STAT.ACTIVE = 0 ∧ t.rd Reg.SYS_TJ.TJ_MIN = tj.toNat) ∧
  (∀ (s : State) (tj : BitVec 16), s.awake → s.pw.step = 5 → tj.toInt < -160 → Runs (.warmEnd tj) s fun t =>
    t.rd Reg.SYS_TJ.TJ_MIN = tj.toNat ∧ Confined [] (only [Reg.SYS_TJ.TJ_MIN]) s t) ∧
  (∀ (s : State) (tj : BitVec 16), s.awake → s.pw.step = 5 → tj.toInt < -160 →
    491520000 * (60 * max 1 (s.rd Reg.SYS_WARM_CFG.LIMIT_MIN)) ≤ (s.ck.time - s.pw.warmStart).toNat →
    Runs (.warmLimitExpired tj) s fun t =>
      t.rd Reg.SYS_WARM_STAT.EXPIRED = 1 ∧ t.rd Reg.SYS_WARM_STAT.ACTIVE = 0 ∧ t.pw.step = 4 ∧ ChannelsDown t ∧
      t.rd Reg.SYS_PWR_MODE.BUSY = 0 ∧ t.mem = s.mem ∧ t.ck = s.ck) ∧
  ∀ (s : State) (tj : BitVec 16), s.awake → s.pw.coldWait = true → s.pw.chPg = 0 →
    (-160 ≤ tj.toInt → Runs (.coldWaitReading tj) s fun t => AtStep6 t) ∧
    (tj.toInt < -160 → s.flag Reg.SYS_WARM_CFG.WARM_EN = true → Runs (.coldWaitReading tj) s fun t =>
      t.pw.step = 5 ∧ t.pw.coldWait = false ∧ t.rd Reg.SYS_WARM_STAT.ACTIVE = 1) ∧
    (tj.toInt < -160 → s.flag Reg.SYS_WARM_CFG.WARM_EN = false → Runs (.coldWaitReading tj) s fun t =>
      Confined [] (only [Reg.SYS_TJ.TJ_MIN]) s t)

/-- RAIL_CHANNEL_POWER_GOOD, RAIL_FAULT_TIMEOUT, RAIL_FAULT_DROP and RAIL_FAULT_RETRY (02 R98-R101, R104): a channel's power-good
enables the next channel; a channel that never comes up or drops lowers every channel and leaves the device in CELLAR, with Floor's
one request due if the mode was RUN, HOLDOVER or STANDBY, which 10 s later begins start-up at step 6. -/
def Obligations.SupplyChannels : Prop :=
  (∀ (s : State) (c d : Nat) (rest : List Nat), s.awake → s.pw.raise = c :: d :: rest → bit s.pw.chEn c = true →
    Runs (.railChannelPowerGood c) s fun t =>
      t.pw.raise = d :: rest ∧ bit t.pw.chPg c = true ∧ bit t.pw.chEn d = true ∧ t.pw.step = s.pw.step ∧
      Confined [.pw] (only []) s t) ∧
  (∀ (s : State) (c : Nat), s.awake → s.pw.raise = [c] → bit s.pw.chEn c = true → s.pw.step = 6 →
    Runs (.railChannelPowerGood c) s fun t =>
      t.pw.raise = [] ∧ bit t.pw.chPg c = true ∧ t.pw.step = 7 ∧ Confined [.pw] (only []) s t) ∧
  (∀ (s : State) (c : Nat) (rest : List Nat), s.awake → s.pw.raise = c :: rest → bit s.pw.chEn c = true →
    Runs (.railFaultTimeout c) s fun t => StandsIn t 1 1 ∧ ChannelsDown t ∧ t.pw.railFaulted = true ∧ t.pw.step = 0 ∧
      t.pw.railRetry = decide (2 ≤ s.rd Reg.SYS_PWR_MODE.MODE) ∧ bit (t.rd Reg.SYS_RST_CAUSE.CAUSE) 6 = true) ∧
  (∀ (s : State) (c : Nat), s.awake → bit s.pw.chEn c = true → bit s.pw.chPg c = true →
    Runs (.railFaultDrop c) s fun t => StandsIn t 1 1 ∧ ChannelsDown t ∧ t.pw.railFaulted = true ∧ t.pw.step = 0 ∧
      t.pw.railRetry = decide (2 ≤ s.rd Reg.SYS_PWR_MODE.MODE) ∧ bit (t.rd Reg.SYS_RST_CAUSE.CAUSE) 6 = true) ∧
  ∀ s : State, s.awake → s.pw.railRetry = true → 4915200000 ≤ (s.ck.time - s.pw.railAt).toNat → StandsIn s 1 1 → s.pw.step = 0 →
    s.pw.coldWait = false → s.pw.chPg = 0 → s.flag Reg.SYS_FLASH_SVC.EN = false → s.flag Reg.CEL_HOLD_STAT.CUT = false →
    s.pw.tripped = false → Runs .railFaultRetry s fun t => AtStep6 t

/-- R72 to R74, R114 and 15 R726: a request for a mode while BUSY is 1 is refused with 0x0109, and one for any transition that the
table of R72 does not have, STANDBY with radio released, RUN after the battery cut or after a trip above 100 °C, with 0x0108; a
refusal changes nothing else. -/
def Obligations.PowerRequestsRefused : Prop :=
  ∀ (s : State) (rq : Requester) (late m : Nat) (bad : Option Nat) (c : Instr), s.awake → passes c s = true →
    (c = .pwrReqCellar rq late ∧ m = 1 ∨ c = .pwrReqStandby rq late ∧ m = 2 ∨ c = .pwrReqRun rq late bad ∧ m = 3 ∨
      c = .pwrReqHoldover rq late ∧ m = 4) →
    (s.busy = true → Runs c s fun t => t.resp = {} ∧ Logs s t 234 0x0109 s.mode (s.rd Reg.SYS_PWR_MODE.TARGET) m ∧
      Confined [.resp, .log] (only [Reg.LOG_LOST_DROP.COUNT]) s t) ∧
    (s.busy = false →
      (m = 1 ∧ s.mode = 1 ∨ m = 2 ∧ (s.mode ≠ 3 ∨ s.radioReleased = true) ∨
        m = 3 ∧ (s.mode = 3 ∨ s.flag Reg.CEL_HOLD_STAT.CUT = true ∨ s.mode = 1 ∧ s.pw.tripped = true ∧ 800 < tjMax s) ∨
        m = 4 ∧ s.mode ≠ 3) →
      Runs c s fun t => t.resp = {} ∧ Logs s t 234 0x0108 s.mode m rq.ni ∧
        Confined [.resp, .log] (only [Reg.LOG_LOST_DROP.COUNT]) s t)

/-- PWR_REQ_CELLAR, PWR_REQ_STANDBY, PWR_REQ_HOLDOVER and PWR_REQ_RUN (02 R72, R78, R83-R85, R91): a request that R72 allows is
carried out.  CELLAR has every domain and channel down; STANDBY keeps SYS, DRAM in self-refresh and VDD_CORE at 0.65 V; HOLDOVER
drops vision, PCIe and the engines and regions without radio work, and RUN brings them back; RUN from CELLAR raises the Ground
channels, and RUN from STANDBY resumes, or is a rail fault where a channel's power-good does not assert. -/
def Obligations.PowerModeChanges : Prop :=
  ∀ (s : State) (rq : Requester) (late : Nat) (bad : Option Nat), s.awake → s.busy = false →
    (s.mode ≠ 1 → passes (.pwrReqCellar rq late) s = true → Runs (.pwrReqCellar rq late) s fun t =>
      StandsIn t 1 1 ∧ (∀ d, d < 23 → t.domOn d = false) ∧ ChannelsDown t ∧ t.pw.core0Retained = false ∧ t.pw.step = 0 ∧
      t.rd Reg.MEM_STAT.TRAINED = 0 ∧ t.rd Reg.CLK_MODE_STAT.REFCLK_OK = 0 ∧ t.mem.sram = s.mem.sram ∧ t.part = s.part ∧
      t.pending = s.pending) ∧
    (s.mode = 3 → s.radioReleased = false → passes (.pwrReqStandby rq late) s = true → Runs (.pwrReqStandby rq late) s fun t =>
      StandsIn t 2 1 ∧ (∀ d, d < 23 → t.domOn d = (d == 0 && s.domOn 0)) ∧ t.rd Reg.MEM_STAT.SELF_REFRESH = 1 ∧
      t.pw.core0Retained = true ∧ t.pw.keptTier = s.tier ∧ t.pw.keptDom = s.rd Reg.SYS_DOM_STATE.DOM &&& 0x7FFFE0 ∧ t.pw.avs = 650 ∧
      (∀ c, c < 8 → bit t.pw.chEn c = (bit s.pw.chEn c && !(c == 2 || c == 6 || c == 7))) ∧ t.mem.sram = s.mem.sram ∧
      t.part = s.part ∧ t.pending = s.pending) ∧
    (s.mode = 3 → passes (.pwrReqHoldover rq late) s = true → Runs (.pwrReqHoldover rq late) s fun t =>
      StandsIn t 4 s.tier ∧ t.pw.keptDom = andNot (holdoverMask s) s.pw.fenceReq ∧ t.pw.chEn = s.pw.chEn ∧
      (∀ d, d < 23 → t.domOn d = (s.domOn d && !(d == 20 || d == 22 || (decide (6 ≤ d) && decide (d ≤ 15) && !s.domRadio d)))) ∧
      t.part = s.part ∧ t.pending = s.pending) ∧
    (s.mode = 4 → s.flag Reg.CEL_HOLD_STAT.CUT = false → passes (.pwrReqRun rq late bad) s = true → Runs (.pwrReqRun rq late bad) s fun t =>
      StandsIn t 3 s.tier ∧ (∀ d, d < 23 → t.domOn d = (s.domOn d || (bit s.pw.keptDom d && !bit s.part.fused d))) ∧
      t.mem = s.mem ∧ t.part = s.part ∧ t.pending = s.pending) ∧
    (s.mode = 1 → s.pw.step = 0 → s.pw.coldWait = false → s.pw.tripped = false → s.pw.chPg = 0 →
      s.flag Reg.CEL_HOLD_STAT.CUT = false → s.flag Reg.SYS_FLASH_SVC.EN = false → passes (.pwrReqRun rq late bad) s = true →
      Runs (.pwrReqRun rq late bad) s fun t => AtStep6 t ∧ t.resp = {} ∧ t.mem = s.mem ∧ t.part = s.part ∧ t.pending = s.pending) ∧
    (s.mode = 2 → s.flag Reg.CEL_HOLD_STAT.CUT = false → s.pw.keptTier = 2 → passes (.pwrReqRun rq late bad) s = true →
      (bad = none → s.cfg.resumeDigest = some (leNat (imageDigest (resumeImage s) s.cfg.hdr)) →
        Runs (.pwrReqRun rq late bad) s fun t => StandsIn t 3 2 ∧ t.resp = {} ∧ t.rd Reg.SYS_WAKE_CAUSE.SOURCES = 0 ∧
          (∀ d, d < 5 → t.domOn d = true) ∧ t.mem = s.mem ∧ t.part = s.part ∧ t.pending = s.pending) ∧
      (bad = some 2 → Runs (.pwrReqRun rq late bad) s fun t => StandsIn t 1 1 ∧ ChannelsDown t ∧ t.pw.railFaulted = true ∧
        t.pw.railRetry = true ∧ bit (t.rd Reg.SYS_RST_CAUSE.CAUSE) 6 = true))

/-- STANDBY_WAKE, MAINS_LOST, MAINS_PRESENT_DWELL and BATTERY_CUT (02 R72, R76, R79-R81, R83, R85, 15 R725): an enabled wake source
resumes RUN where the resume image still has its digest, and warm-resets the device where it has not; a channel that does not come
up in the resume is a rail fault (02 R100); the mains-loss trigger
enters HOLDOVER, or is latched during a transition; mains present for the dwell leaves it; the battery cut enters CELLAR. -/
def Obligations.WakeMainsAndBattery : Prop :=
  (∀ (s : State) (src : Nat), s.awake → s.mode = 2 → s.busy = false → src < 5 → bit (s.rd Reg.SYS_WAKE_EN.SOURCES) src = true →
    (s.cfg.resumeDigest = some (leNat (imageDigest (resumeImage s) s.cfg.hdr)) → s.pw.keptTier = 2 → Runs (.standbyWake src none) s fun t =>
      StandsIn t 3 2 ∧ t.rd Reg.SYS_WAKE_CAUSE.SOURCES = 2 ^ src ∧ (∀ d, d < 5 → t.domOn d = true) ∧
      t.rd Reg.MEM_STAT.SELF_REFRESH = 0 ∧ t.rd Reg.CLK_MODE_STAT.REFCLK_OK = 1 ∧ bit t.pw.chPg 2 = true ∧
      t.pw.core0Retained = false ∧ t.mem = s.mem ∧ t.part = s.part ∧ t.pending = s.pending) ∧
    (s.cfg.resumeDigest ≠ some (leNat (imageDigest (resumeImage s) s.cfg.hdr)) → Runs (.standbyWake src none) s fun t =>
      StandsIn t 1 1 ∧ t.pw.step = 3 ∧ ChannelsDown t ∧ bit (t.rd Reg.SYS_RST_CAUSE.CAUSE) 5 = true ∧
      t.rd Reg.SYS_WAKE_CAUSE.SOURCES = 2 ^ src ∧ t.part = s.part ∧ t.pending = s.pending) ∧
    (Runs (.standbyWake src (some 2)) s fun t => StandsIn t 1 1 ∧ ChannelsDown t ∧ t.pw.railFaulted = true ∧
      t.pw.railRetry = true ∧ bit (t.rd Reg.SYS_RST_CAUSE.CAUSE) 6 = true)) ∧
  (∀ (s : State) (late : Nat), s.awake → s.pw.mainsTrig = true →
    (s.busy = false → s.mode = 3 → Runs (.mainsLost late) s fun t =>
      StandsIn t 4 s.tier ∧ t.pw.keptDom = andNot (holdoverMask s) s.pw.fenceReq ∧ t.pw.mainsTrig = false ∧ t.part = s.part ∧ t.pending = s.pending) ∧
    (s.busy = true → Runs (.mainsLost late) s fun t =>
      t.rd Reg.SYS_PWR_STAT.MAINS_LOST = 1 ∧ t.pw = { s.pw with mainsTrig := false, mainsLatched := true } ∧
      Confined [.pw] (only [Reg.SYS_PWR_STAT.MAINS_LOST]) s t)) ∧
  (∀ s : State, s.awake → s.flag Reg.SYS_HOLD_CFG.SRC = true → s.pw.mainsLost = false → s.mode = 4 → s.busy = false →
    s.pw.mainsBack + 491520000 * max 1 (s.rd Reg.SYS_HOLD_CFG.HOLD_DWELL_S) ≤ s.now → Runs .mainsPresentDwell s fun t =>
      StandsIn t 3 s.tier ∧ t.rd Reg.CEL_HOLD_STAT.ON_BATTERY = 0 ∧
      (∀ d, d < 23 → t.domOn d = (s.domOn d || (bit s.pw.keptDom d && !bit s.part.fused d))) ∧ t.mem = s.mem ∧
      t.part = s.part ∧ t.pending = s.pending) ∧
  ∀ (s : State) (t0 : Nat), s.awake → s.cel.battLow = some t0 → s.flag Reg.CEL_HOLD_STAT.ON_BATTERY = true →
    s.flag Reg.CEL_HOLD_STAT.CUT = false → t0 + 491520000 * s.rd Reg.CEL_HOLD_CUT.DWELL_S ≤ s.now →
    (s.mode = 1 → Runs .batteryCut s fun t => t.rd Reg.CEL_HOLD_STAT.CUT = 1 ∧
      Logs s t 236 0x2014 (s.rd (Reg.CEL_ADC_RES.CODE (s.rd Reg.CEL_HOLD_CUT.BATT_CH))) (s.rd Reg.CEL_HOLD_CUT.CODE) 1 ∧
      Confined [.log] (only [Reg.CEL_HOLD_STAT.CUT, Reg.LOG_LOST_DROP.COUNT]) s t) ∧
    (s.mode ≠ 1 → s.busy = false → Runs .batteryCut s fun t => t.rd Reg.CEL_HOLD_STAT.CUT = 1 ∧ StandsIn t 1 1 ∧
      ChannelsDown t ∧ (∀ d, d < 23 → t.domOn d = false) ∧ t.part = s.part ∧ t.pending = s.pending)

/-- DOMAIN_ON_REQUEST, DOMAIN_OFF_REQUEST, FENCE_ACK and FENCE_TIMEOUT (02 R61-R65, R68, R69): an on request switches its domain
on, or waits for its fence; an off request fences, or waits for the fence before it, and requests that waited act in order; the acknowledgement sets SYS_FENCE_ACK, the time-out SYS_FENCE_TO and 0x010A,
and either opens the switch.  A refused bit changes nothing but the log. -/
def Obligations.DomainSwitching : Prop :=
  (∀ (s : State) (rq : Requester) (d : Nat), s.awake → passes (.domainOnRequest rq (2 ^ d)) s = true → d < 23 →
    (d < 5 ∨ bit s.part.fused d = true ∨ s.tier < 2 → Runs (.domainOnRequest rq (2 ^ d)) s fun t =>
      t.resp = {} ∧ Logs s t 234 0x010B (2 ^ d) 1 rq.ni ∧ Confined [.resp, .log] (only [Reg.LOG_LOST_DROP.COUNT]) s t) ∧
    (5 ≤ d → bit s.part.fused d = false → 2 ≤ s.tier → bit s.pw.fenceReq d = false → s.domOn d = false →
      Runs (.domainOnRequest rq (2 ^ d)) s fun t =>
        t.resp = {} ∧ (∀ e, e < 23 → t.domOn e = (s.domOn e || e == d)) ∧ bit (t.rd Reg.SYS_FENCE_ACK.DOM) d = false ∧
        t.mem = s.mem ∧ t.pw = s.pw ∧ t.log = s.log ∧ t.ck = s.ck ∧ t.part = s.part ∧ t.pending = s.pending) ∧
    (5 ≤ d → bit s.part.fused d = false → 2 ≤ s.tier → bit s.pw.fenceReq d = true → Runs (.domainOnRequest rq (2 ^ d)) s fun t =>
      t.pw = { s.pw with domPend := s.pw.domPend ++ [(d, true)] } ∧ t.resp = {} ∧ Confined [.resp, .pw] (only []) s t)) ∧
  (∀ (s : State) (rq : Requester) (d : Nat), s.awake → passes (.domainOffRequest rq (2 ^ d)) s = true → d < 23 →
    (d < 5 → Runs (.domainOffRequest rq (2 ^ d)) s fun t =>
      t.resp = {} ∧ Logs s t 234 0x010B (2 ^ d) 0 rq.ni ∧ Confined [.resp, .log] (only [Reg.LOG_LOST_DROP.COUNT]) s t) ∧
    (5 ≤ d → s.domUp d = true → Runs (.domainOffRequest rq (2 ^ d)) s fun t =>
      t.resp = {} ∧ t.pw = { s.pw with fenceReq := setBit s.pw.fenceReq d, fenceAt := Tbl.set s.pw.fenceAt d (s.now, s.fab.cycle) } ∧
      t.domUp d = false ∧ (d ≠ 22 → t.mem = s.mem ∧ t.log = s.log) ∧
      t.rd Reg.SYS_DOM_STATE.DOM = s.rd Reg.SYS_DOM_STATE.DOM ∧ t.part = s.part ∧ t.pending = s.pending) ∧
    (5 ≤ d → bit s.pw.fenceReq d = true → Runs (.domainOffRequest rq (2 ^ d)) s fun t =>
      t.pw = { s.pw with domPend := s.pw.domPend ++ [(d, false)] } ∧ t.resp = {} ∧ Confined [.resp, .pw] (only []) s t)) ∧
  (∀ (s : State) (d : Nat), s.awake → d < 23 → bit s.pw.fenceReq d = true → reloadFence s d = false → ackDue s d = true →
    bit s.part.fused d = false →
    ((s.pw.domPend.filter fun p => p.1 == d) = [(d, true)] → Runs (.fenceAck d) s fun t =>
      t.domOn d = true ∧ bit t.pw.fenceReq d = false ∧ bit (t.rd Reg.SYS_FENCE_ACK.DOM) d = false) ∧
    ((s.pw.domPend.filter fun p => p.1 == d) = [(d, true), (d, false)] → Runs (.fenceAck d) s fun t =>
      t.domOn d = true ∧ bit t.pw.fenceReq d = true ∧ (t.pw.domPend.filter fun p => p.1 == d) = [])) ∧
  ∀ (s : State) (d : Nat), s.awake → d < 23 → bit s.pw.fenceReq d = true → reloadFence s d = false →
    (s.pw.domPend.filter fun p => p.1 == d) = [] →
    (ackDue s d = true → Runs (.fenceAck d) s fun t =>
      (∀ e, e < 23 → t.domOn e = (s.domOn e && e != d)) ∧ bit t.pw.fenceReq d = false ∧
      (∀ e, e < 23 → bit (t.rd Reg.SYS_FENCE_ACK.DOM) e = (bit (s.rd Reg.SYS_FENCE_ACK.DOM) e || e == d)) ∧
      t.rd Reg.SYS_FENCE_TO.DOM = s.rd Reg.SYS_FENCE_TO.DOM ∧ t.mem.sram = s.mem.sram ∧ t.part = s.part ∧ t.pending = s.pending) ∧
    (fenceExpired s d = true → Runs (.fenceTimeout d) s fun t =>
      (∀ e, e < 23 → t.domOn e = (s.domOn e && e != d)) ∧ bit t.pw.fenceReq d = false ∧
      (∀ e, e < 23 → bit (t.rd Reg.SYS_FENCE_TO.DOM) e = (bit (s.rd Reg.SYS_FENCE_TO.DOM) e || e == d)) ∧
      t.rd Reg.SYS_FENCE_ACK.DOM = s.rd Reg.SYS_FENCE_ACK.DOM ∧ t.rd Reg.CLK_RUN_STAT.FENCE = 1 ∧ t.mem.sram = s.mem.sram ∧
      t.part = s.part ∧ t.pending = s.pending)

/-- XTAL_FAIL, CRYSTAL_RESTORED, GOVERNOR_EVALUATION, THERMAL_TRIP, TRIP_RESTART and AVS_SET_POINT (02 R109-R114, 17 R766-R768): the
cellar clock falls back to the RC oscillator; the governor enters and clears its levels in order; a trip ends in CELLAR, and
start-up follows at 100 °C where TRIP_RESTART is 1; the regulator takes a set point, one that it does not reach within 10 mV
is logged, and one read back at 800 mV or more completes a change to Deterministic that waits for the floor (03 R129). -/
def Obligations.CrystalTemperatureAndCoreSupply : Prop :=
  (∀ s : State, s.awake → s.pw.xtalOk = true → s.flag Reg.CEL_AUDIO_CFG.EN = false → Runs .xtalFail s fun t =>
    t.pw = { s.pw with xtalOk := false, clk := .rc, clkMove := none } ∧ t.rd Reg.CEL_AUDIO_STAT.SRC = 3 ∧
    Logs s t 234 0x0110 0 0 s.mode ∧ Confined [.pw, .log] (only [Reg.CEL_AUDIO_STAT.SRC, Reg.LOG_LOST_DROP.COUNT]) s t) ∧
  (∀ s : State, s.awake → Runs .crystalRestored s fun t => t.pw.xtalOk = true ∧ t.pw.clk = s.pw.clk ∧ Confined [.pw] (only []) s t) ∧
  (∀ (s : State) (lo hi : BitVec 16), s.awake →
    (s.rd Reg.SYS_GOV_STAT.LEVEL = 0 → hi.toInt < 880 → Runs (.governorEvaluation lo hi) s fun t =>
      t.rd Reg.SYS_TJ.TJ_MIN = lo.toNat ∧ t.rd Reg.SYS_TJ.TJ_MAX = hi.toNat ∧
      Confined [] (only [Reg.SYS_TJ.TJ_MIN, Reg.SYS_TJ.TJ_MAX]) s t) ∧
    (s.rd Reg.SYS_GOV_STAT.LEVEL = 0 → 880 ≤ hi.toInt → hi.toInt < 928 → Runs (.governorEvaluation lo hi) s fun t =>
      t.rd Reg.SYS_TJ.TJ_MIN = lo.toNat ∧ t.rd Reg.SYS_TJ.TJ_MAX = hi.toNat ∧ t.rd Reg.SYS_GOV_STAT.LEVEL = 1 ∧
      t.rd Reg.CLK_RUN_STAT.GOV = 1 ∧ Logs s t 234 0x0111 1 0 hi.toNat ∧
      Confined [.log] (only [Reg.SYS_TJ.TJ_MIN, Reg.SYS_TJ.TJ_MAX, Reg.SYS_GOV_STAT.LEVEL, Reg.CLK_RUN_STAT.GOV,
        Reg.LOG_LOST_DROP.COUNT]) s t) ∧
    (s.rd Reg.SYS_GOV_STAT.LEVEL = 1 → hi.toInt ≤ 848 → Runs (.governorEvaluation lo hi) s fun t =>
      t.rd Reg.SYS_TJ.TJ_MIN = lo.toNat ∧ t.rd Reg.SYS_TJ.TJ_MAX = hi.toNat ∧ t.rd Reg.SYS_GOV_STAT.LEVEL = 0 ∧
      Logs s t 234 0x0111 0 1 hi.toNat ∧
      Confined [.log] (only [Reg.SYS_TJ.TJ_MIN, Reg.SYS_TJ.TJ_MAX, Reg.SYS_GOV_STAT.LEVEL, Reg.LOG_LOST_DROP.COUNT]) s t)) ∧
  (∀ (s : State) (hi : BitVec 16), s.awake → 1000 ≤ hi.toInt → Runs (.thermalTrip hi) s fun t =>
    t.pw.tripped = true ∧ StandsIn t 1 1 ∧ ChannelsDown t ∧ (∀ d, d < 23 → t.domOn d = false) ∧ t.rd Reg.SYS_TJ.TJ_MAX = hi.toNat ∧
    bit (t.rd Reg.SYS_RST_CAUSE.CAUSE) 2 = true ∧ t.part = s.part ∧ t.pending = s.pending) ∧
  (∀ (s : State) (hi : BitVec 16), s.awake → s.pw.tripped = true → s.flag Reg.SYS_THERM_CFG.TRIP_RESTART = true →
    hi.toInt ≤ 800 → s.mode = 1 → s.busy = false → s.pw.chPg = 0 → Runs (.tripRestart hi) s fun t =>
      AtStep6 t ∧ t.rd Reg.SYS_TJ.TJ_MAX = hi.toNat) ∧
  ∀ (s : State) (mv v : Nat), s.awake → 650 ≤ mv → mv ≤ 850 → mv % 5 = 0 → (s.ck.floorDet = true → 800 ≤ mv) →
    bit s.pw.chPg 1 = true →
    (v ≤ mv + 10 → mv ≤ v + 10 → s.ck.change = none ∨ v < 800 → Runs (.avsSetPoint mv (some v)) s fun t =>
      t.pw = { s.pw with avs := mv, avsRead := v } ∧ Confined [.pw] (only []) s t) ∧
    (v ≤ mv + 10 → mv ≤ v + 10 → s.ck.change = some 2 → 800 ≤ v → Runs (.avsSetPoint mv (some v)) s fun t =>
      t.rd Reg.CLK_MODE.MODE = 2 ∧ t.rd Reg.CLK_MODE_STAT.BUSY = 0 ∧ t.ck.change = none ∧
      Logs s t 132 0x0202 2 (s.rd Reg.CLK_MODE.MODE) (s.ck.time - s.ck.changeAt).toNat ∧
      Confined [.pw, .ck, .log] (only [Reg.CLK_MODE.MODE, Reg.CLK_MODE_STAT.BUSY, Reg.CLK_RUN_STAT.MODE,
        Reg.LOG_LOST_DROP.COUNT]) s t) ∧
    (mv + 10 < v ∨ v + 10 < mv → s.ck.change = none → s.recent 0x0118 0 = false → Runs (.avsSetPoint mv (some v)) s fun t =>
      t.pw = { s.pw with avs := mv, avsRead := v } ∧
      (s.log.intake.length < 16 → t.log.intake = s.log.intake ++
        [⟨s.ck.time, 234, 0x0118, BitVec.ofNat 32 mv, BitVec.ofNat 32 v, BitVec.ofNat 32 s.mode⟩]) ∧
      Confined [.pw, .log] (only [Reg.LOG_LOST_DROP.COUNT]) s t)

/-- CONFIG_START, CONFIG_PASS1_DONE, DRAM_TRAINING_DONE, CONFIG_PASS2_DONE, CFG_SOURCE_LOST and CFG_DONE (02 R86 steps 8 to 13, 04
R181-R189, 05 R256): the pointer block chooses the flash or the chain; an image that pass 1 accepts goes on to DRAM training and
pass 2, with refresh begun on every channel (05 R254), and pass 2 ends in RUN or raises the Full channels; the Full load ends in RUN or in forming the group; any abort ends
start-up with its code in CFG_ABORT. -/
def Obligations.ConfigurationPasses : Prop :=
  (∀ (s : State) (p : Option (List Byte)), s.awake → s.pw.step = 8 → s.rd Reg.CFG_STAT.PHASE ≠ 2 → Runs (.configStart p) s fun t =>
    t.rd Reg.CFG_STAT.PHASE = 2 ∧ t.rd Reg.CFG_STAT.HOP = 0 ∧ t.cfg.chainT0 = s.ck.time ∧ t.cfg.hdr = {} ∧
    t.cfg.keyRevoked = s.cfg.keyRevoked ∧ t.cfg.keyMarked = s.cfg.keyMarked ∧ t.cfg.svnFloor = s.cfg.svnFloor ∧
    (∀ b, p = some b → pointerOk b = true → t.rd Reg.CFG_STAT.SOURCE = 0 ∧ t.log = s.log ∧
      t.cfg.pointer = some (readPointer b)) ∧
    (p.all (fun b => !pointerOk b) = true → t.rd Reg.CFG_STAT.SOURCE = 2 ∧ Logs s t 232 0x0301 0 0 0) ∧
    Confined [.cfg, .log] (only [Reg.CFG_STAT.PHASE, Reg.CFG_STAT.HOP, Reg.CFG_STAT.SOURCE, Reg.LOG_LOST_DROP.COUNT]) s t) ∧
  (∀ (s : State) (b b1 : List Byte), s.awake → s.pw.step = 8 → s.rd Reg.CFG_STAT.PHASE = 2 → s.rd Reg.CFG_STAT.SOURCE = 0 →
    -160 ≤ tjMin s → Runs (.configPass1Done b b1) s fun t =>
      (pass1Abort s b 0 = none → t.pw.step = 9 ∧ t.rd Reg.CFG_STAT.PHASE = 3 ∧ t.cfg.hdr = readHeader b ∧
        t.rd Reg.CFG_SVN.SVN = (readHeader b).svn ∧ t.cfg.digest = some (leNat (imageDigest b (readHeader b))) ∧
        t.mem = s.mem) ∧
      (∀ a, pass1Abort s b 0 = some a → (s.cfg.pointer.all fun p => p.count != 2) = true → Aborted s t a.code) ∧
      t.mem.sram = s.mem.sram ∧ t.part = s.part ∧ t.pending = s.pending) ∧
  (∀ (s : State) (fail : Nat), s.awake → s.pw.step = 9 → -160 ≤ tjMin s →
    (fail = 0 → Runs (.dramTrainingDone fail) s fun t =>
      t.pw = { s.pw with step := 10 } ∧ t.rd Reg.MEM_STAT.TRAINED = 1 ∧ t.rd Reg.CFG_STAT.PHASE = 4 ∧
      (∀ c, c < 16 → Tbl.get t.noc.refDue c 0 = s.now + tRefi (s.rd Reg.MEM_STAT.REF_RATE) + c * tRefi (s.rd Reg.MEM_STAT.REF_RATE) / 16) ∧
      Confined [.pw, .noc] (only [Reg.MEM_STAT.TRAINED, Reg.CFG_STAT.PHASE]) s t) ∧
    (fail ≠ 0 → Runs (.dramTrainingDone fail) s fun t => Aborted s t 0x0507)) ∧
  (∀ (s : State) (b : List Byte), s.awake → s.pw.step = 10 → s.rd Reg.CFG_STAT.SOURCE ≠ 2 →
    bit s.pw.chPg 6 = false → Runs (.configPass2Done b) s fun t =>
      (s.cfg.digest ≠ some (leNat (imageDigest b s.cfg.hdr)) → Aborted s t 0x030C) ∧
      (s.cfg.digest = some (leNat (imageDigest b s.cfg.hdr)) → bodiesAbort s.part s.cfg.map b s.cfg.hdr 5 8 false = none →
        mapAbort b s.cfg.hdr 8 = none → t.cfg.resumeDigest = s.cfg.digest ∧
        (s.cfg.hdr.tier = 2 → StandsIn t 3 2 ∧ t.pw.step = 0 ∧ t.rd Reg.CFG_STAT.PHASE = 6) ∧
        (s.cfg.hdr.tier ≠ 2 → t.tier = 2 ∧ t.pw.step = 11 ∧ t.rd Reg.CFG_STAT.PHASE = 5 ∧ bit t.pw.chEn 6 = true)) ∧
      t.part = s.part ∧ t.pending = s.pending) ∧
  (∀ (s : State) (offset : Nat), s.awake → s.pw.step = 10 → s.rd Reg.CFG_STAT.SOURCE < 2 →
    Runs (.cfgSourceLost offset) s fun t => Aborted s t 0x030D) ∧
  ∀ s : State, s.awake → s.pw.step = 11 → s.pw.raise = [] → Runs .cfgDone s fun t =>
    (∀ a, bodiesAbort s.part s.cfg.map (resumeImage s) s.cfg.hdr 8 16 false = some a → Aborted s t a.code) ∧
    (bodiesAbort s.part s.cfg.map (resumeImage s) s.cfg.hdr 8 16 false = none → mapAbort (resumeImage s) s.cfg.hdr 16 = none →
      t.rd Reg.CFG_STAT.PHASE = 6 ∧
      ((bodyOf (resumeImage s) s.cfg.hdr 15).isSome = true → t.pw.step = 12 ∧ t.rd Reg.SYS_PWR_MODE.MODE = s.rd Reg.SYS_PWR_MODE.MODE) ∧
      ((bodyOf (resumeImage s) s.cfg.hdr 15).isSome = false → StandsIn t 3 s.tier ∧ t.pw.step = 0)) ∧
    t.part = s.part ∧ t.pending = s.pending

/-- CHAIN_PASS_START, CHAIN_FRAME_RECEIVE, CHAIN_FRAME_GAP and CFG_CHAIN_TIMEOUT (04 R194-R198): a device with a CHAIN body sends its
next pass once GAP_MS have passed since the last, and CFG_DO carries its frames; a member takes the frames of a pass in order, keeps a whole first pass as pass 1, and discards a pass on a bad CRC or a
gap of 10 ms; without a pass by WAIT_S configuration aborts. -/
def Obligations.ChainOfDevices : Prop :=
  (∀ (s : State) (body : List Byte), s.awake → s.cfg.chainTx = some body → s.rd Reg.CFG_STAT.PHASE = 6 → s.cfg.chainStop = false →
    s.cfg.chainSent < max 1 (s.rd Reg.CFG_CHAIN_CFG.PASSES) → s.domUp 3 = true → gapOver s = true → Runs .chainPassStart s fun t =>
      t.cfg = { s.cfg with chainSent := s.cfg.chainSent + 1, chainEnd := s.now + passTicks body,
                           cfgDo := passBytes (s.cfg.chainSent + 1) (s.rd Reg.CFG_STAT.HOP + 1) body } ∧
      t.rd Reg.CFG_CHAIN_STAT.SENT = (s.cfg.chainSent + 1) % 2 ^ 16 ∧ (body ≠ [] → chainLine t = .frames t.cfg.cfgDo) ∧
      Confined [.cfg] (only [Reg.CFG_CHAIN_STAT.SENT]) s t) ∧
  (∀ (s : State) (b : List Byte), s.awake → onChain s = true → (readFrame b).crcOk = true → flagsAgree (readFrame b) = true →
    (s.cfg.chainRx = none → (readFrame b).seq = 0 → 1 < (readFrame b).total → Runs (.chainFrameReceive b) s fun t =>
      t.cfg = { s.cfg with chainRx := some ⟨(readFrame b).pass, (readFrame b).hop, 1, (readFrame b).total, (readFrame b).payload,
        s.pw.step == 10, s.ck.time⟩ } ∧ Confined [.cfg] (only []) s t) ∧
    ∀ r, s.cfg.chainRx = some r → (readFrame b).pass = r.pass → (readFrame b).seq = r.next → (readFrame b).total = r.total →
      (readFrame b).hop = r.hop →
      (4915200 < (s.ck.time - r.at_).toNat → Runs (.chainFrameReceive b) s fun t =>
        t.cfg = { s.cfg with chainRx := none } ∧ Logs s t 232 0x030E r.pass r.next 2 ∧
        Confined [.cfg, .log] (only [Reg.CFG_CHAIN_STAT.BAD, Reg.LOG_LOST_DROP.COUNT]) s t) ∧
      ((s.ck.time - r.at_).toNat ≤ 4915200 → (readFrame b).seq + 1 < (readFrame b).total → Runs (.chainFrameReceive b) s fun t =>
        t.cfg = { s.cfg with chainRx := some { r with next := r.next + 1, bytes := r.bytes ++ (readFrame b).payload, at_ := s.ck.time } } ∧
        Confined [.cfg] (only []) s t) ∧
      ((s.ck.time - r.at_).toNat ≤ 4915200 → (readFrame b).seq + 1 = (readFrame b).total → s.cfg.chainPass1 = none →
        Runs (.chainFrameReceive b) s fun t =>
          t.cfg = { s.cfg with chainRx := none, chainPass1 := some (r.bytes ++ (readFrame b).payload) } ∧
          t.rd Reg.CFG_STAT.HOP = r.hop % 2 ^ 8 ∧ Confined [.cfg] (only [Reg.CFG_STAT.HOP]) s t)) ∧
  (∀ (s : State) (b : List Byte) (r : ChainRx), s.awake → onChain s = true → s.cfg.chainRx = some r →
    ((readFrame b).crcOk = false → Runs (.chainFrameReceive b) s fun t =>
      t.cfg = { s.cfg with chainRx := none } ∧ t.rd Reg.CFG_CHAIN_STAT.BAD = min 65535 (s.rd Reg.CFG_CHAIN_STAT.BAD + 1) ∧
      Logs s t 232 0x030E (readFrame b).pass (readFrame b).seq 0 ∧
      Confined [.cfg, .log] (only [Reg.CFG_CHAIN_STAT.BAD, Reg.LOG_LOST_DROP.COUNT]) s t) ∧
    (4915200 < (s.ck.time - r.at_).toNat → Runs .chainFrameGap s fun t =>
      t.cfg = { s.cfg with chainRx := none } ∧ t.rd Reg.CFG_CHAIN_STAT.BAD = min 65535 (s.rd Reg.CFG_CHAIN_STAT.BAD + 1) ∧
      Logs s t 232 0x030E r.pass r.next 2 ∧
      Confined [.cfg, .log] (only [Reg.CFG_CHAIN_STAT.BAD, Reg.LOG_LOST_DROP.COUNT]) s t)) ∧
  ∀ s : State, s.awake → onChain s = true →
    491520000 * max 1 (s.rd Reg.CFG_CHAIN_CFG.WAIT_S) ≤ (s.ck.time - s.cfg.chainT0).toNat →
    Runs .cfgChainTimeout s fun t => Aborted s t 0x030F

/-- FLASH_SVC_ENABLE, FLASH_SVC_DISABLE, XSPI_READ_CMD, XSPI_WRITE_CMD and SEC_KEY_REVOKE (02 R96, R97, 04 R192, R215-R217): flash
service raises channels 0 to 2 after an abort or a rail fault, and goes active with REFCLK; its end, active or not yet, is logged and
leaves domains 2 and 3 off; an
xSPI command moves up to 64 data bytes while configuration is idle or complete; a revocation is marked, and refused for the slot
that signed the running image. -/
def Obligations.FlashServiceAndKeys : Prop :=
  (∀ (s : State) (rq : Requester), s.awake → passes (.flashSvcEnable rq) s = true → s.flag Reg.SYS_FLASH_SVC.EN = false →
    (s.mode = 1 → s.busy = false → s.pw.step = 0 → s.pw.cfgAborted = true ∨ s.pw.railFaulted = true → s.pw.chPg = 0 →
      Runs (.flashSvcEnable rq) s fun t =>
        t.resp = {} ∧ t.rd Reg.SYS_FLASH_SVC.EN = 1 ∧
        t.pw = { s.pw with flashWait := true, raise := [0, 1, 2], chEn := setBit s.pw.chEn 0 } ∧
        Confined [.resp, .pw] (only [Reg.SYS_FLASH_SVC.EN]) s t) ∧
    (s.mode ≠ 1 → s.pw.step ≠ 8 → Runs (.flashSvcEnable rq) s fun t =>
      t.resp = {} ∧ Logs s t 234 0x0108 s.mode 0 rq.ni ∧ Confined [.resp, .log] (only [Reg.LOG_LOST_DROP.COUNT]) s t)) ∧
  (∀ s : State, s.awake → s.pw.step ≠ 7 → s.pw.flashWait = true → s.pw.raise = [] → Runs .refclkDetected s fun t =>
    t.rd Reg.SYS_FLASH_SVC.ACTIVE = 1 ∧ t.domOn 2 = true ∧ t.domOn 3 = true ∧ t.pw.flashWait = false ∧ t.mem = s.mem ∧
    Logs s t 234 0x011A 1 (s.rd Reg.CFG_ABORT.CODE) 44) ∧
  (∀ (s : State) (rq : Requester) (late : Nat), s.awake → passes (.flashSvcDisable rq late) s = true →
    s.flag Reg.SYS_FLASH_SVC.EN = true → Runs (.flashSvcDisable rq late) s fun t =>
      t.resp = {} ∧ t.rd Reg.SYS_FLASH_SVC.EN = 0 ∧ t.rd Reg.SYS_FLASH_SVC.ACTIVE = 0 ∧ t.domOn 2 = false ∧ t.domOn 3 = false ∧
      (∀ c, c < 3 → bit t.pw.chEn c = false) ∧ (∀ c, 3 ≤ c → c < 8 → bit t.pw.chEn c = bit s.pw.chEn c) ∧
      (late = 0 → s.noc.queue = [] → Logs s t 234 0x011A 0 0 rq.ni) ∧ t.mem.sram = s.mem.sram ∧
      t.part = s.part ∧ t.pending = s.pending) ∧
  (∀ (s : State) (rq : Requester) (d : Nat) (din : List Byte), s.awake → passes (.xspiReadCmd rq d din) s = true →
    cfgPhase s = 0 ∨ cfgPhase s = 6 → Reg.CFG_XSPI_CMD.ADDR_BYTES.reserved d = false → bit d 24 = false →
    Runs (.xspiReadCmd rq d din) s fun t => t.resp = {} ∧
      (∀ k, k < 16 → t.rd (Reg.CFG_XSPI_DATA.DATA k) =
        field (slice din 0 (min 64 (bits d 16 7)) ++ (dataBytes s Reg.CFG_XSPI_DATA.DATA).drop (min 64 (bits d 16 7))) (4 * k) 4) ∧
      t.cfg = { s.cfg with xspiCmd := some ⟨bits d 0 8, bits d 8 3, bits d 11 5, min 64 (bits d 16 7), false,
        s.rd Reg.CFG_XSPI_ADDR.ADDR⟩ } ∧ Confined [.resp, .cfg] (within 0xF00200080 0xF002000C0) s t) ∧
  (∀ (s : State) (rq : Requester) (d : Nat), s.awake → passes (.xspiWriteCmd rq d) s = true →
    cfgPhase s = 0 ∨ cfgPhase s = 6 → Reg.CFG_XSPI_CMD.ADDR_BYTES.reserved d = false → bit d 24 = true →
    Runs (.xspiWriteCmd rq d) s fun t => t.resp = {} ∧
      t.cfg = { s.cfg with
        xspiCmd := some ⟨bits d 0 8, bits d 8 3, bits d 11 5, min 64 (bits d 16 7), true, s.rd Reg.CFG_XSPI_ADDR.ADDR⟩
        xspiOut := (dataBytes s Reg.CFG_XSPI_DATA.DATA).take (min 64 (bits d 16 7)) } ∧
      Confined [.resp, .cfg] (only []) s t) ∧
  ∀ (s : State) (rq : Requester) (d : Nat), s.awake → passes (.secKeyRevoke rq d) s = true →
    s.locked Reg.SEC_KEY_REVOKE.SLOT = false →
    (s.cfg.digest.isSome = true → bit (d % 16) s.cfg.hdr.keySlot = true → Runs (.secKeyRevoke rq d) s fun t =>
      t.resp = {} ∧ Logs s t 132 0x0315 (d % 16) s.cfg.hdr.keySlot rq.ni ∧
      Confined [.resp, .log] (only [Reg.LOG_LOST_DROP.COUNT]) s t) ∧
    (s.cfg.digest.isSome = false ∨ bit (d % 16) s.cfg.hdr.keySlot = false → Runs (.secKeyRevoke rq d) s fun t =>
      t.resp = {} ∧ t.cfg = { s.cfg with keyMarked := s.cfg.keyMarked ||| d % 16 } ∧ t.rd Reg.SEC_KEY_REVOKE.SLOT = d % 16 ∧
      t.locked Reg.SEC_KEY_REVOKE.SLOT = true ∧ Confined [.resp, .cfg, .wl] (only [Reg.SEC_KEY_REVOKE.SLOT]) s t)

/-- HATCH_POST, HATCH_LANE_POST, SHELF_LOAD, REGION_RELOAD, ROUTE_LOAD, HATCH_LOAD_COMPLETE and REGION_RELOADED (04 R202-R213, 07
R352): a post queues the descriptor at its address, up to eight of them; the hatch takes the descriptor at the front, and
with its checks passed writes the shelf, isolates the region and asserts its fence, or writes the route tables; a region in a reload
whose fence is acknowledged takes its image whole, every shelf valid (04 R212, FENCE_ACK); completion makes the shelf valid or ends
the isolation, and pushes the completion word where the descriptor names a queue (04 R209). -/
def Obligations.Hatch : Prop :=
  (∀ (s : State) (rq : Requester) (d a : Nat), s.awake → passes (.hatchPost rq d) s = true →
    a = s.rd Reg.CFG_HATCH_POST_LO.ADDR + 2 ^ 32 * (d % 2 ^ 32) → readsClean s controller a 32 = true →
    (s.hatch.queue.length < 8 → Runs (.hatchPost rq d) s fun t =>
      t.resp = {} ∧ t.hatch = { s.hatch with queue := s.hatch.queue ++ [readDesc (s.bytesAt a 32) rq.ni] } ∧
      Confined [.resp, .hatch] (only [Reg.CFG_HATCH_POST_HI.ADDR]) s t) ∧
    (8 ≤ s.hatch.queue.length → Runs (.hatchPost rq d) s fun t =>
      t.resp = {} ∧ t.rd Reg.CFG_HATCH_STAT.LAST = 1 ∧ Logs s t 232 0x0311 1 (field (s.bytesAt a 32) 0 1) rq.ni ∧
      Confined [.resp, .log] (only [Reg.CFG_HATCH_POST_HI.ADDR, Reg.CFG_HATCH_STAT.LAST, Reg.LOG_LOST_DROP.COUNT]) s t)) ∧
  (∀ (s : State) (p : Nat) (lo hi : Word), s.awake → p < 8 → cfgUp s = true → 3 ≤ s.tier → s.domUp 16 = true →
    s.flag (Reg.GFB_SP_CFG.HATCH p) = true → bit s.cfg.hdr.flags 2 = true →
    readsClean s controller (lo.toNat + 2 ^ 32 * (hi.toNat % 16)) 32 = true → s.hatch.queue.length < 8 → Runs (.hatchLanePost p lo hi) s fun t =>
      t.hatch = { s.hatch with queue := s.hatch.queue ++
        [readDesc (s.bytesAt (lo.toNat + 2 ^ 32 * (hi.toNat % 16)) 32) (28 + p)] } ∧ Confined [.hatch] (only []) s t) ∧
  (∀ (s : State) (d : HatchDesc) (rest : List HatchDesc), s.awake → s.hatch.cur = none → s.hatch.queue = d :: rest →
    cfgUp s = true → ∀ c : Instr, (d.op = 1 ∧ c = .shelfLoad ∨ d.op = 2 ∧ c = .regionReload ∨ d.op = 3 ∧ c = .routeLoad) →
      Runs c s fun t => t.part = s.part ∧ t.pending = s.pending ∧ t.hatch.queue = rest ∧
        ∀ (u : State) (b : List Byte), descSubcode { s with hatch := { s.hatch with queue := rest } } d = 0 → hatchBody { s with hatch := { s.hatch with queue := rest } } d = (u, .ok (b, true)) →
            b.length = opBytes d.op → hatchBodyOk s.part d.op b = true →
          t.hatch.cur = some (d, 0) ∧
          (d.op = 1 → t = setCur (loadingShelf u d b) d 0) ∧
          (d.op = 2 → (t.region d.region).isolated = true ∧ (t.region d.region).valid = 0 ∧
            (t.region d.region).reloading = true ∧ bit t.pw.fenceReq (10 + d.region) = true ∧ t.hatch.body = some b) ∧
          (d.op = 3 → t = setCur (writeRoutes u b) d 0)) ∧
  (∀ (s : State) (r : Nat) (b : List Byte), s.awake → r < 6 → bit s.pw.fenceReq (10 + r) = true → (s.region r).reloading = true →
    ackDue s (10 + r) = true → s.hatch.body = some b → (s.pw.domPend.filter fun p => p.1 == 10 + r) = [] →
    Runs (.fenceAck (10 + r)) s fun t =>
      t.region r = writeRegionImage { s.region r with valid := 255, active := 0, cells := [], pend := none } b ∧
      t.hatch = { s.hatch with body := none } ∧ bit t.pw.fenceReq (10 + r) = false ∧ t.domOn (10 + r) = s.domOn (10 + r) ∧
      bit (t.rd Reg.SYS_FENCE_ACK.DOM) (10 + r) = true ∧ t.part = s.part ∧ t.pending = s.pending) ∧
  (∀ (s : State) (d : HatchDesc) (cycles : Nat), s.awake → s.hatch.cur = some (d, 0) → d.op = 3 → d.queue < 128 →
    Runs (.hatchLoadComplete cycles) s fun t =>
      t = pushPacket { s with hatch := { s.hatch with cur := none } } d.queue
        (leBytes 8 (d.tag + 2 ^ 24 * (cycles % 2 ^ 32))) 43) ∧
  (∀ (s : State) (d : HatchDesc) (cycles : Nat), s.awake → s.hatch.cur = some (d, 0) → d.op = 1 → 128 ≤ d.queue →
    s.domOn (10 + d.region) = true → Runs (.hatchLoadComplete cycles) s fun t =>
      t.hatch = { s.hatch with cur := none } ∧
      (t.region d.region).valid = setBit (s.region d.region).valid d.shelf ∧ Confined [.hatch, .fab] (only []) s t) ∧
  ∀ (s : State) (d : HatchDesc) (cycles : Nat), s.awake → s.hatch.cur = some (d, 0) → d.op = 2 → 128 ≤ d.queue → d.region < 6 →
    s.domOn (10 + d.region) = true → atMark s = true → bit s.pw.fenceReq (10 + d.region) = false →
    Runs (.regionReloaded cycles) s fun t =>
      t.hatch = { s.hatch with cur := none } ∧ (t.region d.region).isolated = false ∧ (t.region d.region).reloading = false ∧
      bit (t.rd Reg.SYS_FENCE_ACK.DOM) (10 + d.region) = false ∧ Logs s t 232 0x0312 d.region 0 cycles ∧
      Confined [.hatch, .fab, .log] (only [Reg.SYS_FENCE_ACK.DOM, Reg.LOG_LOST_DROP.COUNT]) s t

/-- STR_ENABLE, POOL_ALLOC, CRATE_FREE, CRATE_GIVE_LATCH, CRATE_GIVE and CRATE_RECLAIM (06 R267-R283): enabling frees every crate;
an allocation takes the top crate and answers its handle; a free, a give and a reclaim act on a crate that the context owns, with
the next generation at a free; a failed check has its log entry and leaves the crate. -/
def Obligations.Crates : Prop :=
  (∀ (s : State) (rq : Requester) (d : Nat), s.awake → passes (.strEnable rq d) s = true → bit d 0 = true →
    s.flag Reg.STR_CTRL.EN = false →
    (storeroomOk s = true → Runs (.strEnable rq d) s fun t =>
      t.resp = {} ∧ t.rd Reg.STR_CTRL.EN = 1 ∧ t.str.crates = [] ∧ t.str.queues = s.str.queues ∧
      (∀ p, p < 4 → t.freeStack p = List.range (poolCount s p)) ∧ Confined [.resp, .str] (only [Reg.STR_CTRL.EN]) s t) ∧
    (storeroomOk s = false → Runs (.strEnable rq d) s fun t =>
      t.resp = {} ∧ Logs s t 147 0x0C07 0xF00500000 d rq.ni ∧ Confined [.resp, .log] (only [Reg.LOG_LOST_DROP.COUNT]) s t)) ∧
  (∀ (s : State) (rq : Requester) (p : Nat), s.awake → p < 4 → passes (.poolAlloc rq p) s = true →
    (∀ (i : Nat) (rest : List Nat), s.freeStack p = i :: rest → s.rd (Reg.STR_POOL_LOW.LOW p) < rest.length →
      Runs (.poolAlloc rq p) s fun t =>
        t.resp = { value := crateHandle p (s.crate p i).gen i } ∧ t.freeStack p = rest ∧
        t.crate p i = { s.crate p i with alloc := true, owner := rq.context } ∧
        (∀ q, q ≠ p → t.freeStack q = s.freeStack q) ∧
        (∀ q j, 1048576 * q + j ≠ 1048576 * p + i → t.crate q j = s.crate q j) ∧ t.str.queues = s.str.queues ∧
        Confined [.resp, .str] (only []) s t) ∧
    (s.freeStack p = [] → Runs (.poolAlloc rq p) s fun t =>
      t.resp = { value := 0 } ∧
      t.rd (Reg.STR_POOL_STAT.EMPTY p) = min (2 ^ 8 - 1) (s.rd (Reg.STR_POOL_STAT.EMPTY p) + 1) ∧
      Confined [.resp, .log] (only [Reg.STR_POOL_STAT.EMPTY p, Reg.LOG_LOST_DROP.COUNT]) s t)) ∧
  (∀ (s : State) (rq : Requester) (h : Word) (p g i : Nat), s.awake → passes (.crateFree rq h) s = true →
    p = h.toNat / 2 ^ 30 → g = h.toNat / 2 ^ 20 % 2 ^ 10 → i = h.toNat % 2 ^ 20 → i < poolCount s p →
    ((s.crate p i).alloc = true → (s.crate p i).gen = g → (s.crate p i).owner = rq.context → Runs (.crateFree rq h) s fun t =>
      t.resp = {} ∧ t.freeStack p = i :: s.freeStack p ∧
      t.crate p i = { alloc := false, gen := if g = 1023 then 1 else g + 1, owner := 0 } ∧
      (∀ q, q ≠ p → t.freeStack q = s.freeStack q) ∧
      (∀ q j, 1048576 * q + j ≠ 1048576 * p + i → t.crate q j = s.crate q j) ∧ t.str.queues = s.str.queues ∧
      Confined [.resp, .str] (only []) s t) ∧
    ((s.crate p i).alloc = false ∨ (s.crate p i).gen ≠ g → Runs (.crateFree rq h) s fun t =>
      t.resp = {} ∧ t.rd Reg.STR_DFREE_COUNT.COUNT = min (2 ^ 32 - 1) (s.rd Reg.STR_DFREE_COUNT.COUNT + 1) ∧
      Logs s t 147 0x0C01 h.toNat (s.crate p i).gen rq.context ∧
      Confined [.resp, .log] (only [Reg.STR_DFREE_COUNT.COUNT, Reg.LOG_LOST_DROP.COUNT]) s t) ∧
    ((s.crate p i).alloc = true → (s.crate p i).gen = g → (s.crate p i).owner ≠ rq.context → Runs (.crateFree rq h) s fun t =>
      t.resp = { busError := true } ∧ Logs s t 147 0x0C02 h.toNat (s.crate p i).owner rq.context ∧
      Confined [.resp, .log] (only [Reg.LOG_LOST_DROP.COUNT]) s t)) ∧
  (∀ (s : State) (rq : Requester) (h : Word), s.awake → passes (.crateGiveLatch rq h) s = true →
    Runs (.crateGiveLatch rq h) s fun t => t.resp = {} ∧ Tbl.get t.str.latch rq.ni 0 = h.toNat ∧
      t.str.crates = s.str.crates ∧ t.str.free = s.str.free ∧ t.str.queues = s.str.queues ∧ Confined [.resp, .str] (only []) s t) ∧
  (∀ (s : State) (rq : Requester) (d : Nat), s.awake → passes (.crateGive rq d) s = true → ∀ h p i : Nat, h = Tbl.get s.str.latch rq.ni 0 →
    p = h / 2 ^ 30 % 4 → i = h % 2 ^ 20 → i < poolCount s p → (s.crate p i).alloc = true →
    (s.crate p i).gen = h / 2 ^ 20 % 2 ^ 10 → (s.crate p i).owner = rq.context → Runs (.crateGive rq d) s fun t =>
      t.resp = {} ∧ t.crate p i = { s.crate p i with owner := d % 256 } ∧
      (∀ q j, 1048576 * q + j ≠ 1048576 * p + i → t.crate q j = s.crate q j) ∧ t.str.free = s.str.free ∧
      t.str.queues = s.str.queues ∧ Confined [.resp, .str] (only []) s t) ∧
  ∀ (s : State) (rq : Requester) (d : Nat), s.awake → passes (.crateReclaim rq d) s = true → Runs (.crateReclaim rq d) s fun t =>
    t.resp = {} ∧ (∀ e ∈ ownedBy s (d % 256), (t.crate e.1 e.2).alloc = false) ∧
    (∀ q j, (q, j) ∉ ownedBy s (d % 256) → j < 1048576 → t.crate q j = s.crate q j) ∧
    Logs s t 147 0x0C06 (d % 256) (ownedBy s (d % 256)).length rq.ni ∧ t.str.queues = s.str.queues ∧
    Confined [.resp, .str, .log] (only [Reg.LOG_LOST_DROP.COUNT]) s t

/-- QUEUE_ENABLE, QUEUE_PUSH, QUEUE_POP, QUEUE_SKIP, QUEUE_FLUSH and QUEUE_CLEAR (06 R286-R301): a word pushed to a queue with room is
stored at the tail of its ring in the larder; a disabled queue loses and counts it; a pop answers the oldest word with its status,
poisoned where the larder finds it uncorrectable, and takes it away; SKIP takes the head packet, FLUSH everything, CLEAR the loss counts. -/
def Obligations.StreamQueues : Prop :=
  (∀ (s : State) (rq : Requester) (n d : Nat), s.awake → n < 128 → passes (.queueEnable rq n d) s = true → bit d 0 = true →
    4 ≤ bits d 8 5 → bits d 8 5 ≤ 16 → s.flag (Reg.STR_Q_CFG.EN n) = false →
    (queueOk s n (bits d 8 5) = true → Runs (.queueEnable rq n d) s fun t =>
      t.resp = {} ∧ t.rd (Reg.STR_Q_CFG.EN n) = 1 ∧ t.rd (Reg.STR_Q_CFG.DEPTH_LOG2 n) = bits d 8 5 ∧
      Confined [.resp] (only [Reg.STR_Q_CFG.EN n, Reg.STR_Q_CFG.DEPTH_LOG2 n]) s t) ∧
    (queueOk s n (bits d 8 5) = false → Runs (.queueEnable rq n d) s fun t =>
      t.resp = {} ∧ t.rd (Reg.STR_Q_CFG.EN n) = 0 ∧ Logs s t 147 0x0C07 (0xF00501000 + 0x40 * n) d rq.ni ∧
      Confined [.resp, .log] (only [Reg.STR_Q_CFG.DEPTH_LOG2 n, Reg.LOG_LOST_DROP.COUNT]) s t)) ∧
  (∀ (s : State) (rq : Requester) (n o : Nat) (data : List Byte) (u : Target), s.awake → n < 128 → o < 0x80 → o % 8 = 0 →
    data.length = 8 → mayRequest s rq = true →
    routedAccess s rq (0xF00510000 + 0x100 * n + o) 8 true (leNat (data.take 4)) = .ok u →
    (s.flag (Reg.STR_Q_CFG.EN n) = true → (s.q n).skipping = false → (s.q n).dropping = false → (s.q n).total < qDepth s n →
      (s.q n).marks.length < qDepth s n → 0x800000000 ≤ qBase s n → Runs (.queuePush rq n o data) s fun t =>
        t.resp = {} ∧
        t.q n = { s.q n with marks := (s.q n).marks ++ [decide (0x40 ≤ o)], total := if 0x40 ≤ o then 0 else (s.q n).total + 1 } ∧
        (∀ m, m ≠ n → t.q m = s.q m) ∧
        (∀ i, i < 8 → t.byteAt (qBase s n + 8 * (((s.q n).head + (s.q n).marks.length) % qDepth s n) + i) = data.getD i 0) ∧
        (∀ a, 0x800000000 ≤ a → (a < qBase s n + 8 * (((s.q n).head + (s.q n).marks.length) % qDepth s n) ∨
          qBase s n + 8 * (((s.q n).head + (s.q n).marks.length) % qDepth s n) + 8 ≤ a) → t.byteAt a = s.byteAt a) ∧
        t.mem.dram = s.mem.dram ∧ t.mem.sram = s.mem.sram ∧
        Confined [.resp, .str, .mem] (only [Reg.STR_Q_PEND.PEND (n / 32)]) s t) ∧
    (s.flag (Reg.STR_Q_CFG.EN n) = false → Runs (.queuePush rq n o data) s fun t =>
      t.resp = {} ∧
      t.rd (Reg.STR_Q_LOST_WORDS.COUNT n) = min (2 ^ 32 - 1) (s.rd (Reg.STR_Q_LOST_WORDS.COUNT n) + 1) ∧
      (o < 0x40 → Confined [.resp, .log]
        (only [Reg.STR_Q_LOST_WORDS.COUNT n, Reg.STR_Q_LOST_PKTS.COUNT n, Reg.LOG_LOST_DROP.COUNT]) s t))) ∧
  (∀ (s : State) (rq : Requester) (n : Nat) (u : Target), s.awake → n < 128 → mayRequest s rq = true →
    routedAccess s rq (0xF00510000 + 0x100 * n + 0x80) 16 false 0 = .ok u → (s.q n).cut = false →
    (∀ (m : Bool) (rest : List Bool), (s.q n).marks = m :: rest → 0x800000000 ≤ qBase s n →
      s.badAt (qBase s n + 8 * (s.q n).head) 8 = true → Runs (.queuePop rq n 0x80 16) s fun t =>
        t.resp.poisoned = true ∧ t.q n = { s.q n with marks := rest, head := ((s.q n).head + 1) % qDepth s n, pinned := !m } ∧
        (∀ k, k ≠ n → t.q k = s.q k) ∧
        Confined [.resp, .str, .log] (only [Reg.MEM_LAR_UE.COUNT, Reg.LOG_LOST_DROP.COUNT]) s t) ∧
    (∀ (m : Bool) (rest : List Bool), (s.q n).marks = m :: rest → s.mem.larderBad = [] →
      Runs (.queuePop rq n 0x80 16) s fun t =>
        t.resp = { value := leNat (s.bytesAt (qBase s n + 8 * (s.q n).head) 8 ++ leBytes 8 (b2n m + 2 + 2 ^ 32 * rest.length)) } ∧
        t.q n = { s.q n with marks := rest, head := ((s.q n).head + 1) % qDepth s n, pinned := !m } ∧
        (∀ k, k ≠ n → t.q k = s.q k) ∧ Confined [.resp, .str] (only []) s t) ∧
    ((s.q n).marks = [] → Runs (.queuePop rq n 0x80 16) s fun t => t.resp = { value := 0 } ∧ Confined [.resp] (only []) s t)) ∧
  (∀ (s : State) (rq : Requester) (n : Nat), s.awake → n < 128 →
    (passes (.queueSkip rq n) s = true → (s.q n).marks.contains true = true → Runs (.queueSkip rq n) s fun t =>
      t.resp = {} ∧ (t.q n).marks = (s.q n).marks.drop (((s.q n).marks.takeWhile (!·)).length + 1) ∧ (t.q n).pinned = false ∧
      (t.q n).skipping = false ∧ (∀ m, m ≠ n → t.q m = s.q m) ∧ Confined [.resp, .str] (only []) s t) ∧
    (passes (.queueFlush rq n) s = true → Runs (.queueFlush rq n) s fun t =>
      t.resp = {} ∧ t.q n = { head := (s.q n).head } ∧ (∀ m, m ≠ n → t.q m = s.q m) ∧ Confined [.resp, .str] (only []) s t) ∧
    (passes (.queueClear rq n) s = true → Runs (.queueClear rq n) s fun t =>
      t.resp = {} ∧ t.rd (Reg.STR_Q_LOST_WORDS.COUNT n) = 0 ∧ t.rd (Reg.STR_Q_LOST_PKTS.COUNT n) = 0 ∧
      Confined [.resp] (only [Reg.STR_Q_LOST_WORDS.COUNT n, Reg.STR_Q_LOST_PKTS.COUNT n]) s t))

/-- EVENT_ARRIVAL, LOG_INTAKE_WRITE, LOG_STATUS, LOG_READ, LOG_ACK and LOG_BAD_REQUEST (06 R302, R307-R316): an event joins, with the
time at which it was raised, the intake of 16 or is dropped and counted; the intake writes the oldest to the ring under the next sequence number; the management
port answers its four kinds of request frame in the layout of 06 R316; READ gives entries from FROM_SEQ to the newest, none for a
number ahead of it (the order of numbers across the wrap is the model's, log entry 84). -/
def Obligations.TroubleLog : Prop :=
  (∀ (s : State) (raised : DWord) (island : Nat) (code : BitVec 16) (a0 a1 a2 : Word), s.awake →
    (s.log.intake.length < 16 → s.log.dropped = 0 → Runs (.eventArrival raised island code a0 a1 a2) s fun t =>
      t.log = { s.log with intake := s.log.intake ++ [⟨raised, island, code, a0, a1, a2⟩] } ∧ Confined [.log] (only []) s t) ∧
    (s.log.intake.length < 15 → s.log.dropped ≠ 0 → Runs (.eventArrival raised island code a0 a1 a2) s fun t =>
      t.log = { s.log with dropped := 0, intake := s.log.intake ++ [⟨s.ck.time, 234, 0x0C0F, BitVec.ofNat 32 s.log.dropped,
        BitVec.ofNat 32 (s.rd Reg.LOG_LOST_DROP.COUNT), 0⟩, ⟨raised, island, code, a0, a1, a2⟩] } ∧
      Confined [.log] (only []) s t) ∧
    (16 ≤ s.log.intake.length → Runs (.eventArrival raised island code a0 a1 a2) s fun t =>
      t.log = { s.log with dropped := s.log.dropped + 1 } ∧
      t.rd Reg.LOG_LOST_DROP.COUNT = min (2 ^ 32 - 1) (s.rd Reg.LOG_LOST_DROP.COUNT + 1) ∧
      Confined [.log] (only [Reg.LOG_LOST_DROP.COUNT]) s t)) ∧
  (∀ (s : State) (ev : LogEv) (rest : List LogEv) (n : Nat), s.awake → s.log.intake = ev :: rest → s.log.dropped = 0 →
    n = nextSeq (s.rd Reg.LOG_HEAD_SEQ.SEQ) → s.tier < 3 ∨ s.flag Reg.STR_CTRL.EN = false → Runs .logIntakeWrite s fun t =>
      t.log.intake = rest ∧ t.log.ring = (s.log.ring.filter fun o => (o.seq - 1) % 4096 != (n - 1) % 4096) ++ [⟨n, ev⟩] ∧
      t.rd Reg.LOG_HEAD_SEQ.SEQ = n % 2 ^ 32 ∧ t.log.dropped = 0 ∧ t.log.reply = s.log.reply ∧
      t.rd Reg.LOG_LOST_OVER.COUNT = (match s.log.ring.find? fun o => (o.seq - 1) % 4096 == (n - 1) % 4096 with
        | some o => if s.rd Reg.LOG_ACK_SEQ.SEQ < o.seq then min (2 ^ 32 - 1) (s.rd Reg.LOG_LOST_OVER.COUNT + 1)
          else s.rd Reg.LOG_LOST_OVER.COUNT
        | none => s.rd Reg.LOG_LOST_OVER.COUNT) ∧
      Confined [.log] (only [Reg.LOG_HEAD_SEQ.SEQ, Reg.LOG_LOST_OVER.COUNT]) s t) ∧
  ∀ (s : State) (p : List Byte), s.awake →
    (logOp p = 1 → Runs (.logStatus p) s fun t => Replies s t 0x81 [] ∧ Confined [.log] (only []) s t) ∧
    (logOp p = 2 → 1 ≤ logCount p → logCount p ≤ 44 → Runs (.logRead p) s fun t => ∃ es : List LogEntry,
      (logFrom p = 0 ∨ seqAge s (logFrom p) < 2 ^ 31 → es =
        (s.log.ring.filter fun e => logFrom p == 0 || decide (seqAge s e.seq ≤ seqAge s (logFrom p))).take (logCount p)) ∧
      (logFrom p ≠ 0 → 2 ^ 31 ≤ seqAge s (logFrom p) → es = []) ∧ Replies s t 0x82 es ∧ Confined [.log] (only []) s t) ∧
    (logOp p = 3 → Runs (.logAck p) s fun t => t.rd Reg.LOG_ACK_SEQ.SEQ = logFrom p ∧ Replies s t 0x83 [] ∧
      Confined [.log] (only [Reg.LOG_ACK_SEQ.SEQ]) s t) ∧
    (logOp p ≠ 1 → logOp p ≠ 3 → (logOp p = 2 → logCount p = 0 ∨ 44 < logCount p) → Runs (.logBadRequest p) s fun t =>
      Replies s t 0xFF [] ∧ Confined [.log] (only []) s t)

/-- SLOT_STROBE, REGION_TIMER_ARM, TRIGGER_CELL, SW_REQ and SHELF_SWITCH (07 R337-R344): in a running region without a pending
switch each source makes its own request, with its rank, shelf and instant; over a pending one of higher rank it is discarded
and counted; at the instant the shelf becomes active, in every island at once in Deterministic Clocking Mode or with all of them
pinned, and else within 4 fabric cycles, or it is refused with 0x0313 where it is not valid. -/
def Obligations.ShelfSwitching : Prop :=
  (∀ (s : State) (r : Nat), s.awake → r < 6 → regionRuns s r = true → s.domUp (10 + r) = true → (s.region r).pend = none →
    (∀ shelf tick, s.flag (Reg.GFB_REG_SW_CFG.STROBE_EN r) = true → Runs (.slotStrobe r shelf tick) s fun t =>
      t.region r = { s.region r with pend := some ⟨3, shelf % 8, tick⟩ } ∧ (∀ q, q ≠ r → t.region q = s.region q) ∧
      Confined [.fab] (only []) s t) ∧
    (∀ (rq : Requester) (d : Nat), passes (.regionTimerArm rq r d) s = true → Runs (.regionTimerArm rq r d) s fun t =>
      t.resp = {} ∧ t.rd (Reg.GFB_REG_SW_AT_HI.AT r) = d % 2 ^ 32 ∧
      t.region r = { s.region r with pend := some ⟨2, s.rd (Reg.GFB_REG_SW_CFG.AT_SHELF r),
        max (s.rd (Reg.GFB_REG_SW_AT_LO.AT r) + 2 ^ 32 * (d % 2 ^ 32)) (s.now + 64)⟩ } ∧
      (∀ q, q ≠ r → t.region q = s.region q) ∧ Confined [.resp, .fab] (only [Reg.GFB_REG_SW_AT_HI.AT r]) s t) ∧
    (∀ o : Word, s.flag (Reg.GFB_REG_SW_CFG.CELL_EN r) = true →
      (Tbl.get (s.region r).cells (s.rd (Reg.GFB_REG_SW_CFG.TRIG_CELL r)) {}).o = ⟨o, true⟩ → bit o.toNat 31 = true →
      Runs (.triggerCell r) s fun t =>
      t.region r = { s.region r with pend := some ⟨1, o.toNat % 8, s.now + 16⟩ } ∧ (∀ q, q ≠ r → t.region q = s.region q) ∧
      Confined [.fab] (only []) s t) ∧
    ∀ (rq : Requester) (d : Nat), passes (.swReq rq r d) s = true → Runs (.swReq rq r d) s fun t =>
      t.resp = {} ∧ t.region r = { s.region r with pend := some ⟨0, d % 8, s.now + 64⟩ } ∧
      (∀ q, q ≠ r → t.region q = s.region q) ∧ Confined [.resp, .fab] (only []) s t) ∧
  (∀ (s : State) (rq : Requester) (r d : Nat) (p : Pend), s.awake → r < 6 → regionRuns s r = true → s.domUp (10 + r) = true →
    (s.region r).pend = some p → 0 < p.rank → passes (.swReq rq r d) s = true → Runs (.swReq rq r d) s fun t =>
      t.resp = {} ∧ t.region r = s.region r ∧
      t.rd (Reg.GFB_REG_SW_COLLIDE.COUNT r) = min (2 ^ 32 - 1) (s.rd (Reg.GFB_REG_SW_COLLIDE.COUNT r) + 1) ∧
      Confined [.resp, .log] (only [Reg.GFB_REG_SW_COLLIDE.COUNT r, Reg.LOG_LOST_DROP.COUNT]) s t) ∧
  ∀ (s : State) (r : Nat) (p : Pend), s.awake → r < 6 → regionRuns s r = true → (s.region r).pend = some p → p.at_ ≤ s.now →
    (bit (s.region r).valid p.target = true → Runs (.shelfSwitch r) s fun t =>
      (t.region r).active = p.target ∧ (t.region r).pend = none ∧ (t.region r).img = (s.region r).img ∧
      (t.region r).valid = (s.region r).valid ∧ (∀ q, q ≠ r → t.region q = s.region q) ∧
      t.rd (Reg.GFB_REG_SW_COUNT.COUNT r) = (s.rd (Reg.GFB_REG_SW_COUNT.COUNT r) + 1) % 2 ^ 32 ∧
      (switchTogether s r = true → ∀ m c, m < 16 → shelfIn (t.region r) c m = p.target) ∧
      (∀ m c, m < 16 → s.fab.cycle + 4 ≤ c → shelfIn (t.region r) c m = p.target) ∧
      Confined [.fab, .fresh] (only [Reg.GFB_REG_SW_COUNT.COUNT r]) s t) ∧
    (bit (s.region r).valid p.target = false → Runs (.shelfSwitch r) s fun t =>
      t.region r = { s.region r with pend := none } ∧ (∀ q, q ≠ r → t.region q = s.region q) ∧
      Logs s t 148 0x0313 r p.target (s.region r).active ∧ Confined [.fab, .log] (only [Reg.LOG_LOST_DROP.COUNT]) s t)

/-- SP_CHANNEL_CONFIG, SP_CHANNEL_RESTART, SP_OUTBOUND_WORD and SP_INBOUND_WORD (07 R346-R351): a channel with a valid ring and
lanes takes its mode, and is refused without; ERR clears at a restart, and a line that waited is written to the ring; an outbound
ring channel packs its words into lines of 64 bytes; an inbound one reads a line of its ring, whose words then wait for its lanes,
and advances PTR. -/
def Obligations.StreamPorts : Prop :=
  (∀ (s : State) (rq : Requester) (p c d : Nat), s.awake → p < 8 → c < 8 → passes (.spChannelConfig rq p c d) s = true →
    bits d 0 2 ≠ 3 →
    (channelOk s p c = true ∨ bits d 0 2 = 0 → bit d 31 = false → Runs (.spChannelConfig rq p c d) s fun t =>
      t.resp = {} ∧ t.rd (Reg.GFB_CH_CFG.MODE p c) = bits d 0 2 ∧ t.rd (Reg.GFB_CH_CFG.CLASS p c) = bits d 2 2 ∧
      t.rd (Reg.GFB_CH_CFG.QUEUE p c) = bits d 16 7 ∧
      Confined [.resp] (only [Reg.GFB_CH_CFG.MODE p c, Reg.GFB_CH_CFG.CLASS p c, Reg.GFB_CH_CFG.QUEUE p c]) s t) ∧
    (channelOk s p c = false → bits d 0 2 ≠ 0 → Runs (.spChannelConfig rq p c d) s fun t =>
      t.resp = {} ∧ Logs s t (96 + p) 0x1406 (0xF01002100 + 0x400 * p + 0x40 * c) d rq.ni ∧
      Confined [.resp, .log] (only [Reg.LOG_LOST_DROP.COUNT]) s t)) ∧
  (∀ (s : State) (rq : Requester) (p c : Nat), s.awake → p < 8 → c < 8 → passes (.spChannelRestart rq p c) s = true →
    (4 ≤ c ∨ s.rd (Reg.GFB_CH_CFG.MODE p c) ≠ 1 ∨ (s.chan p c).fifo = [] → Runs (.spChannelRestart rq p c) s fun t =>
      t.resp = {} ∧ t.rd (Reg.GFB_CH_CFG.ERR p c) = 0 ∧ Confined [.resp] (only [Reg.GFB_CH_CFG.ERR p c]) s t) ∧
    ∀ (a : Nat) (l : List Byte), c < 4 → s.rd (Reg.GFB_CH_CFG.MODE p c) = 1 → (s.chan p c).fifo = [l] → l.length = 64 →
      a = chBase s p c + s.rd (Reg.GFB_CH_PTR.OFFSET p c) → a % 64 = 0 → writesClear s (chRequester s p c) a l = true →
      (s.rd (Reg.GFB_CH_PTR.OFFSET p c) + 64) % s.rd (Reg.GFB_CH_SIZE.BYTES p c) ≠
        s.rd (Reg.GFB_CH_FPTR.OFFSET p c) % s.rd (Reg.GFB_CH_SIZE.BYTES p c) → Runs (.spChannelRestart rq p c) s fun t =>
        t.resp = {} ∧ t.rd (Reg.GFB_CH_CFG.ERR p c) = 0 ∧ t.chan p c = { s.chan p c with fifo := [] } ∧
        t.rd (Reg.GFB_CH_PTR.OFFSET p c) =
          (s.rd (Reg.GFB_CH_PTR.OFFSET p c) + 64) % s.rd (Reg.GFB_CH_SIZE.BYTES p c) % 2 ^ 32 ∧
        (∀ j (h : j < l.length), t.byteAt (a + j) = l[j]) ∧
        (∀ x, x < 0x7C0000000 ∨ 0x800000000 ≤ x → x < a ∨ a + 64 ≤ x → t.byteAt x = s.byteAt x) ∧
        Confined [.resp, .fab, .mem] (only [Reg.GFB_CH_CFG.ERR p c, Reg.GFB_CH_PTR.OFFSET p c]) s t) ∧
  (∀ (s : State) (p c : Nat) (w : Word), s.awake → p < 8 → c < 4 → s.domUp 16 = true → regionRuns s (portRegion p) = true →
    (s.rd (Reg.GFB_CH_CFG.MODE p c) = 1 → s.flag (Reg.GFB_CH_CFG.ERR p c) = false → (s.chan p c).fifo.length < 64 →
      (s.chan p c).line.length < 60 → Runs (.spOutboundWord p c w) s fun t =>
        t.chan p c = { s.chan p c with line := (s.chan p c).line ++ leBytes 4 w.toNat } ∧
        (∀ q e, 8 * q + e ≠ 8 * p + c → t.chan q e = s.chan q e) ∧ t.fab.regions = s.fab.regions ∧ Confined [.fab] (only []) s t) ∧
    (s.rd (Reg.GFB_CH_CFG.MODE p c) ≠ 0 → s.flag (Reg.GFB_CH_CFG.ERR p c) = true → Runs (.spOutboundWord p c w) s fun t =>
      t.rd (Reg.GFB_CH_DROP.COUNT p c) = min (2 ^ 32 - 1) (s.rd (Reg.GFB_CH_DROP.COUNT p c) + 1) ∧
      Confined [.log] (only [Reg.GFB_CH_DROP.COUNT p c, Reg.LOG_LOST_DROP.COUNT]) s t)) ∧
  ∀ (s : State) (p c : Nat), s.awake → p < 8 → 4 ≤ c → c < 8 → s.domUp 16 = true →
    s.flag (Reg.GFB_CH_CFG.ERR p c) = false → s.rd (Reg.GFB_CH_CFG.MODE p c) = 1 →
    s.rd (Reg.GFB_CH_PTR.OFFSET p c) ≠ s.rd (Reg.GFB_CH_FPTR.OFFSET p c) →
    readsClean s ⟨28 + p, s.rd (Reg.GFB_CH_CFG.CLASS p c)⟩ (chBase s p c + s.rd (Reg.GFB_CH_PTR.OFFSET p c)) 64 = true →
    Runs (.spInboundWord p (c - 4)) s fun t =>
      t.rd (Reg.GFB_CH_PTR.OFFSET p c) = (s.rd (Reg.GFB_CH_PTR.OFFSET p c) + 64) % s.rd (Reg.GFB_CH_SIZE.BYTES p c) % 2 ^ 32 ∧
      t.chan p c = { s.chan p c with
        inq := (s.chan p c).inq ++ words4 16 (s.bytesAt (chBase s p c + s.rd (Reg.GFB_CH_PTR.OFFSET p c)) 64) } ∧
      (∀ q e, 8 * q + e ≠ 8 * p + c → t.chan q e = s.chan q e) ∧
      t.fab.regions = s.fab.regions ∧ t.fab.flights = s.fab.flights ∧
      Confined [.fab] (only [Reg.GFB_CH_PTR.OFFSET p c]) s t

/-- CUT_PAIRS_WRITE, CUT_RELEASE and DDC_WORD_PRESENTED (07 R355-R358, 11 R504, R505): cut pairs are taken with the cut-through path
in the clock plan, radio not released and both lanes in CONV, and refused with 0x1403 otherwise; at its release instant, 31 fabric
cycles after its presentation and 70 before its DAC output, a pair sends the word that waits, and data 0 for one that is late, which is counted; a word from a chain that runs counts its samples
out of range. -/
def Obligations.CutThroughPath : Prop :=
  (∀ (s : State) (rq : Requester) (d m : Nat), s.awake → passes (.cutPairsWrite rq d) s = true → m = d % 2 ^ 16 →
    (m = 0 ∨ s.ck.cut = true ∧ s.radioReleased = false ∧
      andNot m (s.rd (Reg.GFB_SP_CFG.CONV 6) &&& s.rd (Reg.GFB_SP_CFG.CONV 7)) = 0 → Runs (.cutPairsWrite rq d) s fun t =>
      t.resp = {} ∧ t.rd Reg.GFB_CUT_CFG.PAIRS = m ∧ t.fab = { s.fab with cuts := [] } ∧
      Confined [.resp, .fab] (only [Reg.GFB_CUT_CFG.PAIRS]) s t) ∧
    (m ≠ 0 → s.ck.cut = false → Runs (.cutPairsWrite rq d) s fun t =>
      t.resp = {} ∧ Logs s t 103 0x1403 m 0 rq.ni ∧ Confined [.resp, .log] (only [Reg.LOG_LOST_DROP.COUNT]) s t)) ∧
  (∀ (s : State) (l : Nat) (sat : Bool), s.awake → l < 16 → s.domUp 16 = true → bit (s.rd Reg.GFB_CUT_CFG.PAIRS) l = true →
    (s.cut l).released < (s.cut l).presented →
    (s.fab.cycle < releaseAt (s.cut l) (s.cut l).released → Runs (.cutRelease l sat) s fun t => t = s) ∧
    (releaseAt (s.cut l) (s.cut l).released ≤ s.fab.cycle → ∀ w, Tbl.find (s.cut l).waiting (s.cut l).released = some w → Runs (.cutRelease l sat) s fun t =>
      t.fab.cutOut = s.fab.cutOut ++ [(l, w, releaseAt (s.cut l) (s.cut l).released + 70)] ∧ (t.cut l).released = (s.cut l).released + 1 ∧
      (t.cut l).presented = (s.cut l).presented ∧ t.fab.flights = s.fab.flights ∧
      t.rd (Reg.RAD_DAC_SAT.COUNT (l / 2)) = min (2 ^ 32 - 1) (s.rd (Reg.RAD_DAC_SAT.COUNT (l / 2)) + b2n sat) ∧
      Confined [.fab] (only [Reg.RAD_DAC_SAT.COUNT (l / 2)]) s t) ∧
    (releaseAt (s.cut l) (s.cut l).released ≤ s.fab.cycle → Tbl.find (s.cut l).waiting (s.cut l).released = none →
      Runs (.cutRelease l sat) s fun t =>
      t.fab.cutOut = s.fab.cutOut ++ [(l, 0, releaseAt (s.cut l) (s.cut l).released + 70)] ∧ (t.cut l).released = (s.cut l).released + 1 ∧
      t.rd Reg.GFB_CUT_LATE.COUNT = min (2 ^ 32 - 1) (s.rd Reg.GFB_CUT_LATE.COUNT + 1) ∧
      Confined [.fab, .log] (only [Reg.RAD_DAC_SAT.COUNT (l / 2), Reg.GFB_CUT_LATE.COUNT, Reg.LOG_LOST_DROP.COUNT]) s t)) ∧
  ∀ (s : State) (chain stream : Nat) (w : Word) (ovr : Nat), s.awake → chain < 4 → stream < 2 → ddcRuns s chain stream = true →
    Runs (.ddcWordPresented chain stream w ovr) s fun t =>
      t.rd (Reg.RAD_ADC_OVR.COUNT chain) = min (2 ^ 32 - 1) (s.rd (Reg.RAD_ADC_OVR.COUNT chain) + ovr) ∧
      t.fab = (ddcWord s chain stream w).fab ∧
      (s.domUp 16 = true → bit (s.rd (Reg.GFB_SP_CFG.CONV 6)) (2 * chain + stream) = true →
        bit (s.rd Reg.GFB_CUT_CFG.PAIRS) (2 * chain + stream) = true →
        (t.cut (2 * chain + stream)).presented = (s.cut (2 * chain + stream)).presented + 1 ∧
        releaseAt (t.cut (2 * chain + stream)) (s.cut (2 * chain + stream)).presented = s.fab.cycle + 31) ∧ Confined [.fab] (only [Reg.RAD_ADC_OVR.COUNT chain]) s t

/-- BR, JMP, CALL, RET, LOOP, WAITALL, WAITST, HALT, EVT, BRK and NOP (08 R376, R379, R392, R393, R399, R414): where each goes, what a
CALL saves, the loop a LOOP opens and how the bundle at its end returns, the waits, the end of a job, the event, and the
breakpoint's exception. -/
def Obligations.EngineControlFlow : Prop :=
  (∀ (s : State) (e b x : Nat), s.awake → Alone s e b 0 x → ∀ k : Bank, k = s.bank e b →
    (opc x = 1 → Runs (.br e) s fun t => t.bank e b = stepped k (codeAddr (k.pc + 64 * cImm x)) ∧ OnlyBank s t e b ∧
      (t.eng e).entries = [] ∧ Confined [.ie] (only []) s t) ∧
    (opc x = 2 → k.sc (cSA x) % 64 = 0 → Runs (.jmp e) s fun t => t.bank e b = stepped k (k.sc (cSA x) % 524288) ∧
      OnlyBank s t e b ∧ (t.eng e).entries = [] ∧ Confined [.ie] (only []) s t) ∧
    (opc x = 3 → Runs (.call e) s fun t => t.bank e b = (stepped k (codeAddr (k.pc + 64 * cImm x))).setS 63 (k.pc + 64) ∧
      OnlyBank s t e b ∧ (t.eng e).entries = [] ∧ Confined [.ie] (only []) s t) ∧
    (opc x = 4 → k.sc 63 % 64 = 0 → Runs (.ret e) s fun t => t.bank e b = stepped k (k.sc 63 % 524288) ∧
      OnlyBank s t e b ∧ (t.eng e).entries = [] ∧ Confined [.ie] (only []) s t) ∧
    (opc x = 5 → (∀ l ∈ k.loops.head?, l.last ≠ k.pc) →
      (k.sc (cSA x) ≠ 0 → ofInt (cImm x) 16 ≠ 0 → k.loops.length < 4 → Runs (.loop e) s fun t =>
        t.bank e b = { stepped k ((k.pc + 64) % 524288) with loops := ⟨k.sc (cSA x), (k.pc + 64) % 524288,
          ((k.pc + 64) % 524288 + 64 * (ofInt (cImm x) 16 - 1)) % 524288⟩ :: k.loops } ∧
        OnlyBank s t e b ∧ (t.eng e).entries = [] ∧ Confined [.ie] (only []) s t) ∧
      (k.sc (cSA x) = 0 ∨ ofInt (cImm x) 16 = 0 → Runs (.loop e) s fun t =>
        t.bank e b = stepped k ((k.pc + 64 * (ofInt (cImm x) 16 + 1)) % 524288) ∧
        OnlyBank s t e b ∧ (t.eng e).entries = [] ∧ Confined [.ie] (only []) s t) ∧
      (k.sc (cSA x) ≠ 0 → ofInt (cImm x) 16 ≠ 0 → 4 ≤ k.loops.length → b ≠ 0 → Runs (.loop e) s fun t =>
        Stopped t e b 8 0 0 k.pc false ∧ t.bank e b = { k with state := 3 } ∧ OnlyBank s t e b ∧
        Confined [.ie, .log] (only (Reg.LOG_LOST_DROP.COUNT :: excFields e b)) s t)) ∧
    (k.loops = [] →
      (opc x = 6 → Runs (.waitall e) s fun t => t.bank e b = { stepped k ((k.pc + 64) % 524288) with waitAll := true } ∧
        OnlyBank s t e b ∧ Confined [.ie] (only []) s t) ∧
      (opc x = 7 → Runs (.waitst e) s fun t => t.bank e b = { stepped k ((k.pc + 64) % 524288) with waitSt := true } ∧
        OnlyBank s t e b ∧ Confined [.ie] (only []) s t) ∧
      (opc x = 8 → s.flag (Reg.IE_CTRL.EN e) = false → Runs (.halt e) s fun t =>
        (t.bank e b).state = 0 ∧ (t.bank e b).job = none ∧ (t.bank e b).pc = (k.pc + 64) % 524288 ∧ (t.bank e b).s = k.s ∧
        (t.bank e b).halting = false ∧ OnlyBank s t e b ∧ t.part = s.part ∧ t.pending = s.pending) ∧
      (opc x = 9 → Runs (.evt e) s fun t => t.bank e b = stepped k ((k.pc + 64) % 524288) ∧
        Logs s t (109 + 7 * e) 0x1010 (4 * e + b) (ofInt (cImm x) 32) k.pc ∧ OnlyBank s t e b ∧
        Confined [.ie, .log] (only [Reg.LOG_LOST_DROP.COUNT]) s t) ∧
      (opc x = 10 → b ≠ 0 → Runs (.brk e) s fun t => Stopped t e b 10 0 0 k.pc false ∧ (t.bank e b).pc = (k.pc + 64) % 524288 ∧
        (t.bank e b).s = k.s ∧ OnlyBank s t e b ∧ Confined [.ie, .log] (only (Reg.LOG_LOST_DROP.COUNT :: excFields e b)) s t))) ∧
  ∀ (s : State) (e b i : Nat), s.awake → i < 6 → Alone s e b i 0 → ∀ k : Bank, k = s.bank e b →
    (k.loops = [] → Runs (.nop e i .clean) s fun t => t.bank e b = stepped k ((k.pc + 64) % 524288) ∧ OnlyBank s t e b ∧
      Confined [.ie] (only []) s t) ∧
    ∀ (l : LoopFrame) (rest : List LoopFrame), k.loops = l :: rest → l.last = k.pc → 1 < l.count → Runs (.nop e i .clean) s fun t =>
      t.bank e b = { stepped k l.start with loops := { l with count := l.count - 1 } :: rest } ∧ OnlyBank s t e b ∧
      Confined [.ie] (only []) s t

/-- The scalar operations of slots S0 and S1 (08 R368, R380-R382): ADD to LIH and TIME write their 64-bit result to SD, and CMP_EQ to
PNOT all bits of a predicate, with the corners of division; S0 and P0 discard; the bundle goes on at the next. -/
def Obligations.EngineScalars : Prop :=
  ∀ (s : State) (e b sl x : Nat), s.awake → sl < 2 → Alone s e b (1 + sl) x → (s.bank e b).loops = [] → ∀ k : Bank,
    k = s.bank e b → ∀ A : Nat, A = k.sc (sSA x) → ∀ B : Nat, B = (if sImmF x then ofInt (sImm x) 64 else k.sc (sSB x)) →
    (∀ (c : Instr) (R : Nat), (opc x = 0x01 ∧ c = .add e sl ∧ R = (A + B) % 2 ^ 64 ∨
        opc x = 0x02 ∧ c = .sub e sl ∧ R = (A + 2 ^ 64 - B) % 2 ^ 64 ∨
        opc x = 0x03 ∧ c = .and e sl ∧ R = A &&& B ∨ opc x = 0x04 ∧ c = .or e sl ∧ R = A ||| B ∨
        opc x = 0x05 ∧ c = .xor e sl ∧ R = A ^^^ B ∨ opc x = 0x06 ∧ c = .sll e sl ∧ R = A * 2 ^ (B % 64) % 2 ^ 64 ∨
        opc x = 0x07 ∧ c = .srl e sl ∧ R = A / 2 ^ (B % 64) ∨
        opc x = 0x08 ∧ c = .sra e sl ∧ R = ofInt (sInt A 64 / (2 ^ (B % 64) : Nat)) 64 ∨
        opc x = 0x09 ∧ c = .mul e sl ∧ R = A * B % 2 ^ 64 ∨
        opc x = 0x0A ∧ c = .mulh e sl ∧ R = ofInt (sInt A 64 * sInt B 64 / (2 ^ 64 : Nat)) 64 ∨
        opc x = 0x0B ∧ c = .div e sl ∧ B = 0 ∧ R = 2 ^ 64 - 1 ∨
        opc x = 0x0B ∧ c = .div e sl ∧ A = 2 ^ 63 ∧ B = 2 ^ 64 - 1 ∧ R = 2 ^ 63 ∨
        opc x = 0x0B ∧ c = .div e sl ∧ B ≠ 0 ∧ ¬ (A = 2 ^ 63 ∧ B = 2 ^ 64 - 1) ∧ R = ofInt (Int.tdiv (sInt A 64) (sInt B 64)) 64 ∨
        opc x = 0x0C ∧ c = .rem e sl ∧ B = 0 ∧ R = A ∨ opc x = 0x0C ∧ c = .rem e sl ∧ A = 2 ^ 63 ∧ B = 2 ^ 64 - 1 ∧ R = 0 ∨
        opc x = 0x0C ∧ c = .rem e sl ∧ B ≠ 0 ∧ ¬ (A = 2 ^ 63 ∧ B = 2 ^ 64 - 1) ∧ R = ofInt (Int.tmod (sInt A 64) (sInt B 64)) 64 ∨
        opc x = 0x0D ∧ c = .min e sl ∧ R = (if sInt A 64 ≤ sInt B 64 then A else B) ∨
        opc x = 0x0E ∧ c = .max e sl ∧ R = (if sInt A 64 ≤ sInt B 64 then B else A) ∨
        opc x = 0x0F ∧ c = .lih e sl ∧ R = k.sc (sSD x) % 2 ^ 32 + 2 ^ 32 * bits x 32 32) →
      Runs c s fun t => t.bank e b = (stepped k ((k.pc + 64) % 524288)).setS (sSD x) R ∧ OnlyBank s t e b ∧
        (t.eng e).entries = [] ∧ Confined [.ie] (only []) s t) ∧
    (∀ (c : Instr) (R : Nat), (opc x = 0x10 ∧ c = .cmpEq e sl ∧ R = (if A = B then 2 ^ 256 - 1 else 0) ∨
        opc x = 0x11 ∧ c = .cmpLt e sl ∧ R = (if sInt A 64 < sInt B 64 then 2 ^ 256 - 1 else 0) ∨
        opc x = 0x12 ∧ c = .cmpLtu e sl ∧ R = (if A < B then 2 ^ 256 - 1 else 0) ∨
        opc x = 0x13 ∧ c = .pand e sl ∧ R = k.pr (sSA x) &&& k.pr (sSB x) ∨
        opc x = 0x14 ∧ c = .por e sl ∧ R = k.pr (sSA x) ||| k.pr (sSB x) ∨
        opc x = 0x15 ∧ c = .pnot e sl ∧ R = 2 ^ 256 - 1 - k.pr (sSA x)) →
      Runs c s fun t => t.bank e b = (stepped k ((k.pc + 64) % 524288)).setP (sSD x) R ∧ OnlyBank s t e b ∧
        (t.eng e).entries = [] ∧ Confined [.ie] (only []) s t) ∧
    (opc x = 0x16 → engExact s e = true → Runs (.time e sl) s fun t =>
      t.bank e b = (stepped k ((k.pc + 64) % 524288)).setS (sSD x) s.now ∧ OnlyBank s t e b ∧ Confined [.ie] (only []) s t) ∧
    (opc x = 0x16 → engExact s e = false → Runs (.time e sl) s fun t => ∃ v, s.now ≤ v + 2 ∧ v ≤ s.now ∧
      t.bank e b = (stepped k ((k.pc + 64) % 524288)).setS (sSD x) v ∧ t.fresh = s.fresh + 1 ∧ OnlyBank s t e b ∧
      Confined [.ie, .fresh] (only []) s t)

/-- The M, V and L slots at issue (08 R383-R387, R406, 09 R432-R457): each operation takes an entry with its opcode and its result as
formed from the registers and staging of this instant, MLOADB and MLOADF change the weight set at once, DMA and STD keep their
addresses, and a blocking operation is captured as the bank's transfer. -/
def Obligations.EngineOperationsIssue : Prop :=
  (∀ (s : State) (e b x : Nat) (c : Instr), s.awake → Alone s e b 3 x → (s.bank e b).loops = [] → spilled s e b = false →
    mFault s e b (s.bank e b) x = none → ((mSpan s e b (s.bank e b) x).all fun r => readOk s e b r.1 r.2) = true → ∀ k : Bank,
    k = s.bank e b →
    (opc x = 1 ∧ c = .mloadb e ∨ opc x = 2 ∧ c = .mloadf e → Runs c s fun t =>
      t.bank e b = { stepped k ((k.pc + 64) % 524288) with weights := loadWeights s e b x k } ∧
      ((t.eng e).entries.map fun n => (n.bank, n.slot, n.op, n.stage)) = [(b, 3, opc x, [])] ∧ OnlyBank s t e b ∧
      Confined [.ie] (only []) s t) ∧
    (opc x = 3 ∧ c = .mmul e ∨ opc x = 4 ∧ c = .mmula e ∨ opc x = 5 ∧ c = .mconv e → k.weights.serves (mFmt x) = true →
      Runs c s fun t => t.bank e b = stepped k ((k.pc + 64) % 524288) ∧
        ((t.eng e).entries.map fun n => (n.bank, n.slot, n.op, n.stage)) =
          [(b, 3, opc x, (streamRows s e b x k (convDesc (stageRead s e b (k.sc (mSB x)) 64))).out)] ∧
        OnlyBank s t e b ∧ Confined [.ie] (only []) s t) ∧
    (opc x = 6 ∧ c = .mdrain e → Runs c s fun t => t.bank e b = stepped k ((k.pc + 64) % 524288) ∧
      ((t.eng e).entries.map fun n => (n.bank, n.slot, n.op, n.stage)) = [(b, 3, 6, (drainRows s e b x k).out)] ∧
      OnlyBank s t e b ∧ Confined [.ie] (only []) s t)) ∧
  (∀ (s : State) (e b x : Nat) (c : Instr), s.awake → Alone s e b 4 x → (s.bank e b).loops = [] → ∀ k : Bank, k = s.bank e b → ∀ R : Nat,
    (opc x = 1 ∧ c = .chainOp e ∧ R = (chainResult k x (Config.freeValue s.fresh)).1 ∨
      opc x = 2 ∧ c = .vmov e ∧ R = laneMerge k x (k.vec (vVA x)) ∨ opc x = 3 ∧ c = .vzero e ∧ R = laneMerge k x 0) →
    Runs c s fun t => t.bank e b = stepped k ((k.pc + 64) % 524288) ∧
      ((t.eng e).entries.map fun n => (n.bank, n.slot, n.op, n.vOut)) = [(b, 4, opc x, [(vVD x, BitVec.ofNat 2048 R)])] ∧
      OnlyBank s t e b ∧ Confined [.ie, .fresh] (only []) s t) ∧
  ∀ (s : State) (e b x : Nat) (c : Instr), s.awake → Alone s e b 5 x → (s.bank e b).loops = [] → spilled s e b = false →
    lFault s e b (s.bank e b) x = none → ∀ k : Bank, k = s.bank e b →
    (opc x = 1 ∧ c = .ldv e .clean ∨ opc x = 3 ∧ c = .lds e .clean ∨ opc x = 2 ∧ c = .stv e ∨ opc x = 4 ∧ c = .sts e ∨
        opc x = 5 ∧ c = .dmain e ∨ opc x = 6 ∧ c = .dmaout e ∨ opc x = 0x12 ∧ c = .std e → Runs c s fun t =>
      t.bank e b = stepped k ((k.pc + 64) % 524288) ∧
      ((t.eng e).entries.map fun n => (n.bank, n.slot, n.op)) = [(b, 5, opc x)] ∧
      (∀ n ∈ (t.eng e).entries,
        n.vOut = (if opc x = 1 then [(lRX x, BitVec.ofNat 2048 (leNat (stageRead s e b (lAddr k x) 256)))] else []) ∧
        n.sOut = (if opc x = 3 then [(lRX x, BitVec.ofNat 64 (leNat (stageRead s e b (lAddr k x) 8)))] else []) ∧
        n.stage = (if opc x = 2 then [(lAddr k x, leBytes 256 (k.vec (lRX x)))]
          else if opc x = 4 then [(lAddr k x, leBytes 8 (k.sc (lRX x)))] else []) ∧
        n.dev = (if opc x = 5 ∨ opc x = 6 then k.sc (lSA x) % 2 ^ 36 else if opc x = 0x12 then lAddr k x % 2 ^ 36 else 0) ∧
        n.len = (if opc x = 5 ∨ opc x = 6 then k.sc (lSB x) else if opc x = 0x12 then 8 else 0) ∧
        n.off = (if opc x = 5 ∨ opc x = 6 then k.sc (lRX x) else 0)) ∧
      OnlyBank s t e b ∧ Confined [.ie] (only []) s t) ∧
    (opc x = 7 ∧ c = .stmS e ∨ opc x = 8 ∧ c = .ldmS e ∨ opc x = 9 ∧ c = .stmV e ∨ opc x = 0x0A ∧ c = .ldmV e ∨
        opc x = 0x0B ∧ c = .stmP e ∨ opc x = 0x0C ∧ c = .ldmP e → multiMask k x ≠ 0 → Runs c s fun t => ∃ tr : Transfer, tr.op = opc x ∧
        tr.addr = k.sc (lSA x) % 2 ^ 36 ∧ tr.mask = multiMask k x ∧ tr.pc = k.pc ∧
        t.bank e b = { stepped k ((k.pc + 64) % 524288) with transfer := some tr, again := false } ∧
        ((t.eng e).entries.map fun n => (n.bank, n.slot, n.op)) = [(b, 5, opc x)] ∧ OnlyBank s t e b ∧
        Confined [.ie] (only []) s t) ∧
    (opc x = 0x0D ∧ c = .savehL e ∨ opc x = 0x0E ∧ c = .savehU e ∨ opc x = 0x0F ∧ c = .resthL e ∨ opc x = 0x10 ∧ c = .resthU e ∨
        opc x = 0x11 ∧ c = .ldd e → Runs c s fun t =>
      t.bank e b = { stepped k ((k.pc + 64) % 524288) with
        transfer := some (captureTransfer k b x k.pc ((k.pc + 64) % 524288) []), again := false } ∧
      ((t.eng e).entries.map fun n => (n.bank, n.slot, n.op)) = [(b, 5, opc x)] ∧ OnlyBank s t e b ∧
      Confined [.ie] (only []) s t)

/-- OPERATION_COMPLETE, BLOCKING_TRANSFER_FAULT, DMA_FAULT, SPILL_BLOCK_FETCHED and BUDGET_EXCEEDED (08 R387, R407, R414, R416,
R417, 10 R488, R492): a completing M, V or staging operation writes its results and releases its entry; a faulted transfer keeps
what is left; a DMA fault and an exceeded budget stop the bank with causes 11 and 9; a fetched block is complete in its slot. -/
def Obligations.EngineCompletionsAndFaults : Prop :=
  (∀ (s : State) (e : Nat) (n : Entry), s.awake → engUp s e = true → (s.eng e).entries = [n] → n.drop = false →
    (n.slot = 3 ∨ n.slot = 4 ∨ n.slot = 5 ∧ 1 ≤ n.op ∧ n.op ≤ 4) → (s.bank e n.bank).halting = false →
    (s.bank e n.bank).ring.wait = [] → n.sats = [] → entryDue s n = true → Runs (.operationComplete e n.id 0) s fun t =>
      (t.eng e).entries = [] ∧
      (t.eng e).staging = n.stage.foldl (fun m p => Mem.writeN m (winBase s e n.bank + p.1) p.2) (s.eng e).staging ∧
      t.bank e n.bank = n.vOut.foldl (fun k p => k.setV p.1 p.2.toNat)
        (n.sOut.foldl (fun k p => k.setS p.1 p.2.toNat) (s.bank e n.bank)) ∧
      (∀ c, c ≠ n.bank → t.bank e c = s.bank e c) ∧ (∀ f, f ≠ e → t.eng f = s.eng f) ∧
      Confined [.ie] (only [Reg.IE_BANK_SAT_V.COUNT e n.bank, Reg.IE_BANK_SAT_M.COUNT e n.bank]) s t) ∧
  (∀ (s : State) (e b : Nat) (ue : Bool), s.awake → b ≠ 0 → (s.bank e b).again = false → ∀ tr : Transfer,
    (s.bank e b).transfer = some tr → 7 ≤ tr.op → tr.op ≤ 12 → tr.mask ≠ 0 → tr.mask < 2 ^ 64 →
    Runs (.blockingTransferFault e b 0 ue) s fun t =>
      Stopped t e b (if ue then 6 else 5) 5 0 tr.pc false ∧ (t.bank e b).transfer = some tr ∧ (t.bank e b).again = true ∧
      (t.bank e b).progress = tr.mask ∧ (t.bank e b).s = (s.bank e b).s ∧ OnlyBank s t e b ∧
      Confined [.ie, .log] (only (Reg.LOG_LOST_DROP.COUNT :: excFields e b)) s t) ∧
  (∀ (s : State) (e b : Nat), s.awake → b ≠ 0 → issuing s e b = true → (s.bank e b).transfer = none →
    ((s.bank e b).dmaFault = true → Runs (.dmaFault e b) s fun t =>
      Stopped t e b 11 5 0 (issuePc (s.bank e b)) true ∧ t.bank e b = { s.bank e b with state := 3, dmaFault := false } ∧
      OnlyBank s t e b ∧ Confined [.ie, .log] (only (Reg.LOG_LOST_DROP.COUNT :: excFields e b)) s t) ∧
    ∀ j : Job, (s.bank e b).job = some j → j.budget ≠ 0 → (s.bank e b).noBudget = false →
      64 * j.budget < (s.bank e b).cycles → (s.bank e b).halting = false → Runs (.budgetExceeded e b) s fun t =>
        Stopped t e b 9 0 0 (s.bank e b).lastPc false ∧ t.bank e b = { s.bank e b with state := 3 } ∧
        OnlyBank s t e b ∧ Confined [.ie, .log] (only (Reg.LOG_LOST_DROP.COUNT :: excFields e b)) s t) ∧
  ∀ (s : State) (e b j slot : Nat), s.awake → engUp s e = true → slotOf (s.bank e b).ring j = some slot →
    ringReady (s.bank e b).ring j = false → (s.bank e b).state ≠ 2 → Runs (.spillBlockFetched e b j) s fun t =>
      ∀ (u : State) (bs : List Byte), devReadLines s (bankRq e b) (sliceBase s e b + 65536 * j) 1024 = (u, bs, 0) →
        Tbl.find (t.bank e b).ring.slots slot = some (j, true) ∧ t.log = u.log ∧ t.str = u.str ∧
        (t.eng e).staging = Mem.writeN (u.eng e).staging
          (winBase u e b + ((s.bank e b).model.work + (s.bank e b).model.res + 65536 * slot)) bs

/-- DOORBELL, JOB_START, JOB_RESUME, BANK_SWITCH_COMPLETE, BANK_RESUME, BANK_RESUME_CMD, BANK_ABORT, BANK_EVICT,
EVICTION_COMPLETE, CODE_STORE_WRITE, BANK_VIEW_ACCESS and CLR_SAT (08 R374, R394-R404, R413, R418-R423, 09 R468): how a job comes
to a bank, starts and resumes, how the engine turns to a bank, how a stopped or evicted job ends, and what the windows write. -/
def Obligations.EngineJobsAndBanks : Prop :=
  (∀ (s : State) (e : Nat), s.awake → s.flag (Reg.IE_CTRL.EN e) = false → Runs (.doorbell e) s fun t =>
    (t.eng e).doorbell = (engUp s e && eventLine s (9 + e)) ∧ (t.eng e).banks = (s.eng e).banks ∧
    (∀ f, f ≠ e → t.eng f = s.eng f) ∧ Confined [.ie] (only []) s t) ∧
  (∀ (s : State) (e b : Nat), s.awake → e < 4 → b < 4 → engUp s e = true → eventLine s (9 + e) = true → (s.eng e).doorbell = false →
    s.flag (Reg.IE_CTRL.EN e) = true → (∀ c, c < 4 → s.flag (Reg.IE_BANK_JOBQ.EN e c) = (c == b)) → ∀ n : Nat,
    n = s.rd (Reg.IE_BANK_JOBQ.QUEUE e b) → s.flag (Reg.STR_Q_CFG.EN n) = true → (s.q n).marks = [false, false, false, true] →
    (s.q n).cut = false → s.mem.larderBad = [] → (s.bank e b).state = 0 → (s.bank e b).ready = none → (s.bank e b).job = none →
    (s.bank e b).loading = none → ∀ j : Job,
    parseJob ((List.range 4).map fun i => s.bytesAt (qBase s n + 8 * (((s.q n).head + i) % qDepth s n)) 8) = some j →
    (s.q n).head < qDepth s n → Runs (.doorbell e) s fun t =>
      t.bank e b = { s.bank e b with ready := some j } ∧ (t.q n).marks = [] ∧
      bit (t.rd (Reg.STR_Q_PEND.PEND (n / 32))) (n % 32) = false ∧
      Confined [.ie, .str] (only [Reg.STR_Q_PEND.PEND (n / 32)]) s t) ∧
  (∀ (s : State) (e b : Nat), s.awake → b < 4 → mayStart s e b = true → (s.eng e).active = b → spilled s e b = false →
    ∀ j : Job, (s.bank e b).ready = some j →
    (j.resume = false → Runs (.jobStart e b 0) s fun t =>
      (t.bank e b).state = 1 ∧ (t.bank e b).job = some j ∧ (t.bank e b).ready = none ∧ (t.bank e b).pc = j.entry ∧
      (∀ i, (t.bank e b).sc i = if i = 1 then j.arg0.toNat else if i = 2 then j.arg1.toNat else 0) ∧ (t.bank e b).v = [] ∧
      (t.bank e b).p = [] ∧ (t.bank e b).loops = [] ∧ (t.bank e b).cycles = 0 ∧ (t.bank e b).weights = {} ∧ OnlyBank s t e b ∧
      Confined [.ie] (only [Reg.IE_BANK_WIN_OUT.COUNT e b, Reg.IE_BANK_WIN_SAT.COUNT e b]) s t) ∧
    (j.resume = true → Runs (.jobResume e b 0) s fun t => t.part = s.part ∧ t.pending = s.pending ∧
      ∀ (u : State) (c : ChainLink) (low : List Byte),
        restoreChain (freshJob s e b j) (bankRq e b) j.arg1.toNat ((freshJob s e b j).bank e b) = (u, .inr c) →
        c.low = some low → field low 8 8 % 64 = 0 → bit (field low 6 2) 0 = false → (u.eng e).active = b →
        (t.bank e b).state = 1 ∧ (t.bank e b).pc = field low 8 8 % 524288 ∧ (t.bank e b).s = c.bank.s ∧
        (t.bank e b).v = c.bank.v ∧ (t.bank e b).p = c.bank.p ∧ (t.bank e b).loops = areaLoops low)) ∧
  (∀ (s : State) (e b : Nat), s.awake → (s.eng e).switching = some b → (s.eng e).entries = [] → (s.bank e b).evict = false →
    Runs (.bankSwitchComplete e) s fun t => (t.eng e).active = b ∧ (t.eng e).switching = none ∧
      (t.eng e).banks = (s.eng e).banks ∧ (∀ f, f ≠ e → t.eng f = s.eng f) ∧ Confined [.ie] (only []) s t) ∧
  (∀ (s : State) (e b : Nat), s.awake → b < 4 → engUp s e = true → (s.eng e).active = b → (s.eng e).switching = none →
    higherWork s e b = false → (s.bank e b).state = 2 → Runs (.bankResume e 0) s fun t =>
      t.bank e b = { s.bank e b with state := 1 } ∧ OnlyBank s t e b ∧ Confined [.ie] (only []) s t) ∧
  (∀ (s : State) (rq : Requester) (e b : Nat), s.awake → e < 4 → b < 4 → (s.bank e b).state = 3 →
    (passes (.bankResumeCmd rq e b 0) s = true → s.flag (Reg.IE_BANK_EXC.RESUMABLE e b) = true → (s.eng e).active = b →
      (s.eng e).switching = none → higherWork s e b = false → Runs (.bankResumeCmd rq e b 0) s fun t =>
        t.resp = {} ∧ (t.bank e b).state = 1 ∧ (t.bank e b).s = (s.bank e b).s ∧ (t.bank e b).pc = (s.bank e b).pc ∧
        OnlyBank s t e b ∧ Confined [.resp, .ie] (only []) s t) ∧
    (passes (.bankAbort rq e b) s = true → s.flag (Reg.IE_CTRL.EN e) = false → Runs (.bankAbort rq e b) s fun t =>
      t.resp = {} ∧ (t.bank e b).state = 0 ∧ (t.bank e b).job = none ∧ (t.bank e b).s = (s.bank e b).s ∧ OnlyBank s t e b ∧
      t.part = s.part ∧ t.pending = s.pending)) ∧
  (∀ (s : State) (rq : Requester) (e b : Nat), s.awake → e < 4 → b < 4 →
    (passes (.bankEvict rq e b 0) s = true → issuing s e b = true → (s.bank e b).transfer = none →
      Runs (.bankEvict rq e b 0) s fun t =>
        t.resp = {} ∧ t.bank e b = { s.bank e b with state := 4, evict := true } ∧ OnlyBank s t e b ∧
        Confined [.resp, .ie] (only []) s t) ∧
    (engUp s e = true → (s.bank e b).state = 4 → (s.eng e).entries = [] → s.flag (Reg.IE_CTRL.EN e) = false →
      Runs (.evictionComplete e b) s fun t =>
        (t.bank e b).state = 0 ∧ (t.bank e b).job = none ∧ (t.bank e b).evict = false ∧ OnlyBank s t e b ∧
        t.part = s.part ∧ t.pending = s.pending)) ∧
  (∀ (s : State) (rq : Requester) (e o d : Nat), s.awake → e < 4 → o < 524288 → o % 4 = 0 →
    passes (.codeStoreWrite rq e o d) s = true →
    (o % 64 ≠ 0x3C → Runs (.codeStoreWrite rq e o d) s fun t =>
      t.resp = {} ∧ Tbl.find (t.eng e).collect o = some (d % 2 ^ 32) ∧ (t.eng e).code = (s.eng e).code ∧
      (t.eng e).banks = (s.eng e).banks ∧ (∀ f, f ≠ e → t.eng f = s.eng f) ∧ Confined [.resp, .ie] (only []) s t) ∧
    (o % 64 = 0x3C → (s.eng e).collect = [] → Runs (.codeStoreWrite rq e o d) s fun t =>
      t.resp = {} ∧ (t.eng e).collect = [] ∧ (t.eng e).code = Mem.writeN (s.eng e).code o (leBytes 4 (d % 2 ^ 32)) ∧
      (t.eng e).banks = (s.eng e).banks ∧ (∀ f, f ≠ e → t.eng f = s.eng f) ∧ Confined [.resp, .ie] (only []) s t)) ∧
  (∀ (s : State) (rq : Requester) (e b o d : Nat), s.awake → e < 4 → b < 4 → o < 0x200 → o % 4 = 0 →
    (s.bank e b).state = 0 ∨ (s.bank e b).state = 2 ∨ (s.bank e b).state = 3 →
    (passes (.bankViewAccess rq e b false o d) s = true → Runs (.bankViewAccess rq e b false o d) s fun t =>
      t.resp = { value := bits ((s.bank e b).sc (o / 8)) (32 * (o / 4 % 2)) 32 } ∧ Confined [.resp] (only []) s t) ∧
    (passes (.bankViewAccess rq e b true o d) s = true → rq.ni = 45 → 8 ≤ o → Runs (.bankViewAccess rq e b true o d) s fun t =>
      t.resp = {} ∧ bits ((t.bank e b).sc (o / 8)) (32 * (o / 4 % 2)) 32 = d % 2 ^ 32 ∧
      bits ((t.bank e b).sc (o / 8)) (32 * (1 - o / 4 % 2)) 32 = bits ((s.bank e b).sc (o / 8)) (32 * (1 - o / 4 % 2)) 32 ∧
      (∀ i, i ≠ o / 8 → (t.bank e b).sc i = (s.bank e b).sc i) ∧ OnlyBank s t e b ∧ Confined [.resp, .ie] (only []) s t) ∧
    (passes (.bankViewAccess rq e b true o d) s = true → rq.ni ≠ 45 → Runs (.bankViewAccess rq e b true o d) s fun t =>
      t.resp = { busError := true } ∧
      Logs s t (109 + 7 * e) 0x1005 (0xF02100000 + 0x400000 * e + 0x10000 * b + o) (s.bank e b).state rq.ni ∧
      Confined [.resp, .log] (only [Reg.LOG_LOST_DROP.COUNT]) s t)) ∧
  ∀ (s : State) (rq : Requester) (e b : Nat), s.awake → e < 4 → b < 4 → passes (.clrSat rq e b) s = true →
    Runs (.clrSat rq e b) s fun t => t.resp = {} ∧ t.rd (Reg.IE_BANK_SAT_M.COUNT e b) = 0 ∧ t.rd (Reg.IE_BANK_SAT_V.COUNT e b) = 0 ∧
      Confined [.resp] (only [Reg.IE_BANK_SAT_M.COUNT e b, Reg.IE_BANK_SAT_V.COUNT e b]) s t

/-- MODEL_ACTIVATE, MODEL_LOAD_BEGIN, MODEL_ACTIVE, MODEL_LOAD_FAIL and MODEL_DROP (10 R472-R485): an activation is refused while one is
under way, and otherwise by the first check that its package fails; an accepted one loads when the bank is idle, ends with the
model active, spilled where it does not fit, or fails with its cause; a model is dropped unless a load is under way. -/
def Obligations.ModelsInBanks : Prop :=
  (∀ (s : State) (rq : Requester) (e b d : Nat), s.awake → e < 4 → b < 4 → d < 2 ^ 30 → passes (.modelActivate rq e b d) s = true →
    (s.flag (Reg.IE_BANK_MODEL_STAT.BUSY e b) = true → Runs (.modelActivate rq e b d) s fun t =>
      t.resp = {} ∧ t.rd (Reg.IE_BANK_MODEL_STAT.REASON e b) = 1 ∧ t.rd (Reg.IE_BANK_MODEL_STAT.BUSY e b) = 1 ∧
      Logs s t (109 + 7 * e) 0x1020 (4 * e + b) 1 (modelAddr s e b) ∧
      Confined [.resp, .log] (only [Reg.IE_BANK_MODEL_ACT.CODE_AT e b, Reg.IE_BANK_MODEL_STAT.REASON e b,
        Reg.IE_BANK_MODEL_STAT.BUSY e b, Reg.LOG_LOST_DROP.COUNT]) s t) ∧
    (s.flag (Reg.IE_BANK_MODEL_STAT.BUSY e b) = false → modelAddr s e b % 64 ≠ 0 ∨ inMemory (modelAddr s e b) 128 = false →
      Runs (.modelActivate rq e b d) s fun t =>
        t.resp = {} ∧ t.rd (Reg.IE_BANK_MODEL_STAT.REASON e b) = 2 ∧ t.rd (Reg.IE_BANK_MODEL_STAT.BUSY e b) = 0 ∧
        Logs s t (109 + 7 * e) 0x1020 (4 * e + b) 2 (modelAddr s e b) ∧
        Confined [.resp, .log] (only [Reg.IE_BANK_MODEL_ACT.CODE_AT e b, Reg.IE_BANK_MODEL_STAT.REASON e b,
          Reg.IE_BANK_MODEL_STAT.BUSY e b, Reg.LOG_LOST_DROP.COUNT]) s t) ∧
    (s.flag (Reg.IE_BANK_MODEL_STAT.BUSY e b) = false → modelAddr s e b % 64 = 0 → inMemory (modelAddr s e b) 128 = true →
      Runs (.modelActivate rq e b d) s fun t => t.resp = {} ∧ t.part = s.part ∧ t.pending = s.pending ∧
        t.rd (Reg.IE_BANK_MODEL_ACT.CODE_AT e b) = d % 2 ^ 19 ∧
        ∀ (u : State) (bs : List Byte) (p : Package), devReadLines ((s.wr (Reg.IE_BANK_MODEL_ACT.CODE_AT e b) d).wr
            (Reg.IE_BANK_MODEL_STAT.BUSY e b) 1) (bankRq e b) (modelAddr s e b) 2 = (u, bs, 0) →
          modelReason u e b (some bs) = .inr p →
          t.rd (Reg.IE_BANK_MODEL_STAT.BUSY e b) = 1 ∧ OnlyBank u t e b ∧ t.mem = u.mem ∧ ∃ l : Loading,
            (t.bank e b).loading = some l ∧ l.addr = modelAddr s e b ∧ l.codeLen = p.codeLen ∧ l.w = p.w ∧ l.work = p.work ∧
            l.codeAt = d % 2 ^ 19 ∧ l.begun = false)) ∧
  (∀ (s : State) (e b : Nat), s.awake → ∀ l : Loading, (s.bank e b).loading = some l → engUp s e = true →
    ((s.bank e b).state = 0 → (s.bank e b).ready = none → l.begun = false → Runs (.modelLoadBegin e b) s fun t =>
      t.rd (Reg.IE_BANK_MODEL_STAT.STATE e b) = 1 ∧ t.part = s.part ∧ t.pending = s.pending ∧
      ((t.bank e b).loading.map (·.begun)) = some true ∧
      (∀ u : State, loadCopies (s.wr (Reg.IE_BANK_MODEL_STAT.STATE e b) 1) e b l = (u, none) →
        (t.bank e b).loading = some { l with begun := true, done := true, err := none } ∧ (t.eng e).code = (u.eng e).code ∧
        (t.eng e).staging = (u.eng e).staging ∧ t.mem = u.mem)) ∧
    (l.begun = true → l.done = true → copiesRun s e b = true → s.flag (Reg.IE_CTRL.EN e) = false → Runs (.modelActive e b) s fun t =>
      t.rd (Reg.IE_BANK_MODEL_STAT.STATE e b) = (if l.spill then 3 else 2) ∧ t.rd (Reg.IE_BANK_MODEL_STAT.BUSY e b) = 0 ∧
      t.rd (Reg.IE_BANK_MODEL_ENTRY.ENTRY e b) = (l.codeAt + l.entry) % 2 ^ 19 ∧
      t.bank e b = { s.bank e b with
        loading := none, ring := {},
        model := { work := l.work, w := l.w, res := l.res (winBytes s e b), codeAt := l.codeAt, codeLen := l.codeLen } } ∧
      Logs s t (109 + 7 * e) 0x1021 (4 * e + b) l.w (l.w - l.res (winBytes s e b)) ∧ OnlyBank s t e b ∧
      Confined [.ie, .log] (only [Reg.IE_BANK_MODEL_STAT.STATE e b, Reg.IE_BANK_MODEL_STAT.BUSY e b,
        Reg.IE_BANK_MODEL_ENTRY.ENTRY e b, Reg.IE_BANK_SPILL_BYTES.BYTES e b, Reg.IE_BANK_SPILL_WAIT.CYCLES e b,
        Reg.IE_BANK_SPILL_MISS.COUNT e b, Reg.LOG_LOST_DROP.COUNT]) s t) ∧
    ∀ cause a, l.begun = true → l.err = none → cause ≤ 1 → Runs (.modelLoadFail e b cause a) s fun t =>
      t.rd (Reg.IE_BANK_MODEL_STAT.STATE e b) = 0 ∧ t.rd (Reg.IE_BANK_MODEL_STAT.BUSY e b) = 0 ∧
      t.bank e b = { s.bank e b with loading := none, model := {}, ring := {} } ∧
      Logs s t (109 + 7 * e) 0x1022 (4 * e + b) cause a ∧ OnlyBank s t e b ∧
      Confined [.ie, .log] (only [Reg.IE_BANK_MODEL_STAT.STATE e b, Reg.IE_BANK_MODEL_STAT.BUSY e b,
        Reg.LOG_LOST_DROP.COUNT]) s t) ∧
  ∀ (s : State) (rq : Requester) (e b d : Nat), s.awake → e < 4 → b < 4 → d < 2 ^ 30 → passes (.modelDrop rq e b d) s = true →
    s.flag (Reg.IE_BANK_MODEL_STAT.BUSY e b) = false → Runs (.modelDrop rq e b d) s fun t =>
      t.resp = {} ∧ t.rd (Reg.IE_BANK_MODEL_STAT.STATE e b) = 0 ∧ t.bank e b = { s.bank e b with model := {}, ring := {} } ∧
      OnlyBank s t e b ∧ Confined [.resp, .ie] (only [Reg.IE_BANK_MODEL_ACT.CODE_AT e b, Reg.IE_BANK_MODEL_STAT.STATE e b]) s t

/-- RADIO_RELEASE, RADIO_RELEASED, RADIO_WITHDRAW, BACKGROUND_CALIBRATION, FRAME_BOUNDARY, SLOT_BOUNDARY, BEAM_COMMIT,
FRONTHAUL_FRAME_RECEIVE and ONE_WAY_DELAY_MEASUREMENT (11 R512, R519-R524, R529-R531, R535-R538, R542): a release is refused by its
first failing check and otherwise calibrates, at a frame boundary with the calibration good radio is released, a withdrawal stops each
carrier at its next slot boundary and the last one ends the release, a slot takes its number, the beam table committed in time and the
layer limit, and a fronthaul message is judged against its window. -/
def Obligations.RadioReleaseAndSlots : Prop :=
  (∀ (s : State) (rq : Requester) (d : Nat), s.awake → passes (.radioRelease rq d) s = true → bit d 1 = false →
    (releaseReason s = 0 → Runs (.radioRelease rq d) s fun t =>
      t.resp = {} ∧ t.rad = { s.rad with calAt := s.ck.time, requester := rq.ni } ∧ t.rd Reg.RAD_STAT.CALIBRATING = 1 ∧
      Confined [.resp, .rad] (only [Reg.RAD_STAT.CALIBRATING]) s t) ∧
    (releaseReason s ≠ 0 → Runs (.radioRelease rq d) s fun t =>
      t.resp = {} ∧ t.rd Reg.RAD_STAT.REASON = releaseReason s ∧ t.rd Reg.RAD_STAT.CALIBRATING = 0 ∧
      Logs s t 141 0x1802 (releaseReason s) s.mode rq.ni ∧
      Confined [.resp, .log] (only [Reg.RAD_STAT.REASON, Reg.RAD_STAT.CALIBRATING, Reg.LOG_LOST_DROP.COUNT]) s t)) ∧
  (∀ (s : State) (ok : Bool), s.awake → radUp s = true → s.flag Reg.RAD_STAT.CALIBRATING = true → radioTime s % 4915200 = 0 →
    s.now ≤ s.rad.calAt.toNat + 14745600 →
    (s.flag Reg.CLK_MODE_STAT.REFCLK_OK = true → ok = true → Runs (.radioReleased ok) s fun t =>
      t.rd Reg.RAD_STAT.CALIBRATING = 0 ∧ t.rd Reg.RAD_STAT.RELEASED = 1 ∧ t.rd Reg.SYS_PWR_STAT.RADIO_RELEASED = 1 ∧
      t.rad = { s.rad with raw := true, streams := 2 ^ radioCarriers (radioBody s) - 1, harq := [], harqHeld := [], freeAt := [],
                           reqs := [], stopMask := 0, gatePend := [], gatePrev := [], cplane := [], uplane := [],
                           gate := (List.range (radioCarriers (radioBody s))).map fun c => (c, gateCommitted s c) } ∧
      Logs s t 141 0x1801 1 0 s.rad.requester ∧
      Confined [.rad, .log] (only [Reg.RAD_STAT.CALIBRATING, Reg.RAD_STAT.RELEASED, Reg.SYS_PWR_STAT.RADIO_RELEASED,
        Reg.LOG_LOST_DROP.COUNT]) s t) ∧
    (s.flag Reg.CLK_MODE_STAT.REFCLK_OK = false ∨ ok = false → Runs (.radioReleased ok) s fun t =>
      t.rd Reg.RAD_STAT.CALIBRATING = 0 ∧
      t.rd Reg.RAD_STAT.REASON = (if s.flag Reg.CLK_MODE_STAT.REFCLK_OK = false then 4 else 5) ∧
      Logs s t 141 0x1802 (if s.flag Reg.CLK_MODE_STAT.REFCLK_OK = false then 4 else 5) s.mode s.rad.requester ∧
      Confined [.log] (only [Reg.RAD_STAT.CALIBRATING, Reg.RAD_STAT.REASON, Reg.LOG_LOST_DROP.COUNT]) s t)) ∧
  (∀ (s : State) (rq : Requester) (d : Nat), s.awake → passes (.radioWithdraw rq d) s = true → bit d 0 = false →
    s.flag Reg.RAD_STAT.RELEASED = true → Runs (.radioWithdraw rq d) s fun t =>
      t.resp = {} ∧ t.rad = { s.rad with stopMask := 2 ^ radioCarriers (radioBody s) - 1, stopCause := 1, stopRq := rq.ni } ∧
      Confined [.resp, .rad] (only []) s t) ∧
  (∀ (s : State) (chain p v : Nat), s.awake → radUp s = true → s.flag Reg.RAD_STAT.RELEASED = true → chain < 4 → p < 256 →
    (Runs (.backgroundCalibration chain p v true) s fun t =>
      Tbl.get t.rad.cal (256 * chain + p) 0 = v ∧
      (∀ k, k ≠ 256 * chain + p → Tbl.get t.rad.cal k 0 = Tbl.get s.rad.cal k 0) ∧
      t.rad = { s.rad with cal := t.rad.cal } ∧ Confined [.rad] (only []) s t) ∧
    Runs (.backgroundCalibration chain p v false) s fun t =>
      LogsLimited s t chain 141 0x1806 chain p 0 ∧ Confined [.log] (only [Reg.LOG_LOST_DROP.COUNT]) s t) ∧
  (∀ (s : State) (c : Nat), s.awake → radUp s = true → s.flag Reg.RAD_STAT.RELEASED = true → carrierOn s c = true → c < 2 →
    (radioTime s % 4915200 = 0 → Runs (.frameBoundary c) s fun t =>
      Tbl.get t.rad.sfn c 0 = ((radioTime s / 4915200 - 364) % 1024).toNat ∧ t.rad = { s.rad with sfn := t.rad.sfn } ∧
      Confined [.rad] (only []) s t) ∧
    (atSlot s c = true → s.rad.gatePend = [] → bit s.rad.fapiStop c = false → s.rad.uplane = [] →
      (bit s.rad.stopMask c = false → s.rad.beamPend = [] → (s.rd Reg.SYS_GOV_STAT.LEVEL < 3 ∨ configLayers (radioBody s) ≤ 2) →
        s.rd Reg.RAD_STAT.MAX_LAYERS = configLayers (radioBody s) →
        (s.rad.reqs = [] → s.rad.cplane = [] → Runs (.slotBoundary c []) s fun t =>
          t.rad = { s.rad with
            slot := Tbl.put s.rad.slot c (slotAt s c s.now).2 0, limited := decide (3 ≤ s.rd Reg.SYS_GOV_STAT.LEVEL),
            tx := s.rad.tx ++ (if fapiOn s c = true ∧ slotHasDl s c = true then
              [⟨c, s.now, txStages (radioRole (radioBody s)), 0⟩] else []) } ∧
          t.rd (Reg.RAD_DL_EMPTY.COUNT c) = (if fapiOn s c = true ∧ slotHasDl s c = true then
            min (2 ^ 32 - 1) (s.rd (Reg.RAD_DL_EMPTY.COUNT c) + 1) else s.rd (Reg.RAD_DL_EMPTY.COUNT c)) ∧
          Confined [.rad] (only [Reg.RAD_DL_EMPTY.COUNT c]) s t) ∧
        (∀ r : SlotReq, s.rad.reqs = [r] → r.carrier = c → r.type = 0x80 → r.boundary = s.now → r.crates = [] →
          (∀ p ∈ r.pdus, p.layers ≤ configLayers (radioBody s)) → s.rad.cplane = [] → radioRole (radioBody s) = 3 →
          slotHasDl s c = true → Runs (.slotBoundary c []) s fun t =>
          t.rad.tx = s.rad.tx ++ [⟨c, s.now, txStages 3,
            runStages s c (leNat (r.pdus.flatMap (·.bytes))) (txStages 3)⟩] ∧
          t.rad.reqs = [r] ∧ t.rd (Reg.RAD_DL_EMPTY.COUNT c) = s.rd (Reg.RAD_DL_EMPTY.COUNT c) ∧
          Confined [.rad] (only []) s t) ∧
        (∀ x : FhSection, s.rad.reqs = [] → radioRole (radioBody s) = 1 → s.rad.cplane = [x] → x.plane = 1 → bits x.eaxc 4 4 = c →
          windowEnded s 1 x.symbol = true → Runs (.slotBoundary c []) s fun t =>
          t.rad.symbols = s.rad.symbols ++ [(x, List.replicate x.count 0)] ∧ t.rad.cplane = [] ∧
          t.rad.tx = s.rad.tx ++ [⟨c, x.symbol, txStages 1, 0⟩] ∧ Confined [.rad] (only []) s t)) ∧
      (bit s.rad.stopMask c = false → s.rad.reqs = [] → s.rad.cplane = [] → 3 ≤ s.rd Reg.SYS_GOV_STAT.LEVEL → 2 < configLayers (radioBody s) →
        s.rd Reg.RAD_STAT.MAX_LAYERS ≠ 2 → ∀ (at_ : Nat) (bs : List Byte), s.rad.beamPend = [(c, at_, bs)] →
        at_ + 4096 ≤ s.now → Runs (.slotBoundary c []) s fun t =>
          Tbl.find t.rad.beams c = some bs ∧ t.rad.beamPend = [] ∧ t.rad.limited = true ∧ t.rd Reg.RAD_STAT.MAX_LAYERS = 2 ∧
          Logs s t 141 0x1805 2 (s.rd Reg.RAD_STAT.MAX_LAYERS) (s.rd Reg.SYS_TJ.TJ_MAX) ∧
          Confined [.rad, .log] (only [Reg.RAD_DL_EMPTY.COUNT c, Reg.RAD_STAT.MAX_LAYERS, Reg.LOG_LOST_DROP.COUNT]) s t) ∧
      (bit s.rad.stopMask c = true → s.rad.reqs = [] →
        (clrBit s.rad.stopMask c ≠ 0 → Runs (.slotBoundary c []) s fun t =>
          t.rad.stopMask = clrBit s.rad.stopMask c ∧ t.rad.streams = clrBit s.rad.streams c ∧ Tbl.get t.rad.fapi c 0 = 1 ∧
          bit (t.rd Reg.RAD_STAT.STARTED) c = false ∧
          t.rad.sent = s.rad.sent ++ (if fapiOn s c = true then [⟨c, 0x06, 0, 0, 0, []⟩] else []) ∧
          Confined [.rad, .str, .mem, .log, .fresh] (queued [Reg.RAD_STAT.STARTED]) s t) ∧
        (clrBit s.rad.stopMask c = 0 → Runs (.slotBoundary c []) s fun t =>
          t.rd Reg.RAD_STAT.RELEASED = 0 ∧ t.rd Reg.SYS_PWR_STAT.RADIO_RELEASED = 0 ∧
          t.rd Reg.RAD_STAT.CAUSE = s.rad.stopCause % 256 ∧ t.rad.streams = 0 ∧ t.rad.raw = false ∧
          (fapiOn s c = false → Logs s t 141 0x1801 0 s.rad.stopCause s.rad.stopRq) ∧
          Confined [.rad, .str, .mem, .log, .fresh] (queued [Reg.RAD_STAT.RELEASED, Reg.SYS_PWR_STAT.RADIO_RELEASED,
            Reg.RAD_STAT.CAUSE, Reg.RAD_STAT.STARTED]) s t)))) ∧
  (∀ (s : State) (rq : Requester) (c d : Nat), s.awake → c < 2 → d % 4 = 2 ^ c → passes (.beamCommit rq d) s = true →
    readsClean s radioRq (s.rdPair (Reg.RAD_BEAM_BASE_LO.ADDR c) (Reg.RAD_BEAM_BASE_HI.ADDR c)) 4096 = true →
    Runs (.beamCommit rq d) s fun t => t.resp = {} ∧
      t.rad = { s.rad with beamPend := s.rad.beamPend ++
        [(c, s.now, s.bytesAt (s.rdPair (Reg.RAD_BEAM_BASE_LO.ADDR c) (Reg.RAD_BEAM_BASE_HI.ADDR c)) 4096)] } ∧
      Confined [.resp, .rad] (only []) s t) ∧
  ∀ (s : State) (p : Nat), s.awake → radUp s = true → s.domUp 19 = true → p < 4 → s.flag (Reg.RAD_ETH_CFG.EN p) = true →
    bit (fhPorts s) p = true →
    (∀ id, Runs (.oneWayDelayMeasurement p id) s fun t =>
      t.rad = { s.rad with owd := Tbl.set s.rad.owd p (id, s.now) } ∧ Confined [.rad] (only []) s t) ∧
    ∀ m : FhMsg, s.cfg.radioBody.isSome = true → radioRole (radioBody s) ≠ 3 →
      (9216 < m.octets → Runs (.fronthaulFrameReceive p m) s fun t => t = s) ∧
      (m.octets ≤ 9216 → m.overEthernet = true → m.headerOk = true → m.type = 5 → Runs (.fronthaulFrameReceive p m) s fun t =>
        t.rad = { s.rad with owd := Tbl.set s.rad.owd p (m.eaxc, s.now) } ∧ Confined [.rad] (only []) s t) ∧
      (m.octets ≤ 9216 → m.type ≠ 5 ∨ m.overEthernet = false ∨ m.headerOk = false → fhSupported m = false ∨ eaxcOk s m.eaxc = false ∨ fhPlaneOk s m = false ∨
          (radioRole (radioBody s) = 1 ∧ m.plane = 0 ∧ s.rad.limited = true ∧ 2 ≤ m.eaxc % 16) →
        Runs (.fronthaulFrameReceive p m) s fun t =>
        t.rd (Reg.RAD_ETH_DROP.COUNT p) = min (2 ^ 32 - 1) (s.rd (Reg.RAD_ETH_DROP.COUNT p) + 1) ∧
        LogsLimited s t p (219 + p) 0x1807 p m.type (t.rd (Reg.RAD_ETH_DROP.COUNT p)) ∧
        Confined [.log] (only [Reg.RAD_ETH_DROP.COUNT p, Reg.LOG_LOST_DROP.COUNT]) s t) ∧
      (m.octets ≤ 9216 → fhSupported m = true → eaxcOk s m.eaxc = true → fhPlaneOk s m = true →
        (radioRole (radioBody s) ≠ 1 ∨ m.plane ≠ 0 ∨ s.rad.limited = false ∨ m.eaxc % 16 < 2) →
        (fhWindow s m = 1 → Runs (.fronthaulFrameReceive p m) s fun t =>
          t.rd (Reg.RAD_ETH_EARLY.COUNT p) = min (2 ^ 32 - 1) (s.rd (Reg.RAD_ETH_EARLY.COUNT p) + 1) ∧
          LogsLimited s t p (219 + p) 0x1804 p 0 m.eaxc ∧
          Confined [.log] (only [Reg.RAD_ETH_EARLY.COUNT p, Reg.LOG_LOST_DROP.COUNT]) s t) ∧
        (fhWindow s m = 2 → Runs (.fronthaulFrameReceive p m) s fun t =>
          t.rd (Reg.RAD_ETH_LATE.COUNT p) = min (2 ^ 32 - 1) (s.rd (Reg.RAD_ETH_LATE.COUNT p) + 1) ∧
          LogsLimited s t p (219 + p) 0x1804 p 1 m.eaxc ∧
          Confined [.log] (only [Reg.RAD_ETH_LATE.COUNT p, Reg.LOG_LOST_DROP.COUNT]) s t) ∧
        (fhWindow s m = 0 → m.type = 2 ∨ radioRole (radioBody s) ≠ 1 ∨ hasSection s m = true →
          Runs (.fronthaulFrameReceive p m) s fun t =>
            t.rd (Reg.RAD_ETH_ON_TIME.COUNT p) = min (2 ^ 32 - 1) (s.rd (Reg.RAD_ETH_ON_TIME.COUNT p) + 1) ∧
            t.rad = (if m.type = 2 then
                { s.rad with cplane := s.rad.cplane ++ [⟨m.eaxc, m.plane, m.symbol, m.first, m.count, m.beam⟩] }
              else { s.rad with uplane := s.rad.uplane ++ [decompress m] }) ∧
            Confined [.rad] (only [Reg.RAD_ETH_ON_TIME.COUNT p]) s t) ∧
        (fhWindow s m = 0 → m.type ≠ 2 → radioRole (radioBody s) = 1 → hasSection s m = false →
          Runs (.fronthaulFrameReceive p m) s fun t =>
            t.rd (Reg.RAD_ETH_DROP.COUNT p) = min (2 ^ 32 - 1) (s.rd (Reg.RAD_ETH_DROP.COUNT p) + 1) ∧
            Confined [.log] (only [Reg.RAD_ETH_ON_TIME.COUNT p, Reg.RAD_ETH_DROP.COUNT p, Reg.LOG_LOST_DROP.COUNT]) s t))

/-- PARAM_REQUEST, CONFIG_REQUEST, START_REQUEST, STOP_REQUEST, DL_TTI_REQUEST, UL_TTI_REQUEST, UL_DCI_REQUEST, TX_DATA_REQUEST,
FAPI_UNSUPPORTED_MESSAGE, SLOT_INDICATION, UCI_INDICATION, RACH_INDICATION and TB_CRC_DEADLINE (11 R533, R534, R546-R548): what each
request of L2 is answered with and does, and the indications of the slot timeline. -/
def Obligations.FapiMessages : Prop :=
  (∀ (s : State) (c : Nat), s.awake → fapiUp s c = true → c < 2 →
    Says (.paramRequest c) s s.rad [⟨c, 0x01, 0, 0, 0, []⟩] ∧
    (∀ type, Says (.fapiUnsupportedMessage c type) s s.rad [⟨c, 0x07, 0, 0, 1, [type]⟩]) ∧
    (∀ tlvs : List ConfigTlv, tlvs.filter (badTlv s c) = [] →
      Says (.configRequest c tlvs) s { s.rad with fapi := Tbl.put s.rad.fapi c (max 1 (Tbl.get s.rad.fapi c 0)) 0 }
        [⟨c, 0x03, 0, 0, 0, []⟩]) ∧
    (∀ tlvs : List ConfigTlv, tlvs.filter (badTlv s c) ≠ [] →
      Says (.configRequest c tlvs) s s.rad [⟨c, 0x03, 0, 0, 2, (tlvs.filter (badTlv s c)).map (·.tag)⟩]) ∧
    (s.flag Reg.RAD_STAT.RELEASED = true → Runs (.startRequest c) s fun t =>
      t.rad = { s.rad with fapi := Tbl.put s.rad.fapi c 2 0 } ∧
      t.rd Reg.RAD_STAT.STARTED = (s.rd Reg.RAD_STAT.STARTED ||| 2 ^ c) % 4 ∧
      Confined [.rad, .str, .mem, .log] (queued [Reg.RAD_STAT.STARTED]) s t) ∧
    (s.flag Reg.RAD_STAT.RELEASED = false → Says (.startRequest c) s s.rad [⟨c, 0x07, 0, 0, 1, [0x04]⟩]) ∧
    (bit (s.rd Reg.RAD_STAT.STARTED) c = true → Runs (.stopRequest c) s fun t =>
      t.rad = { s.rad with fapiStop := setBit s.rad.fapiStop c } ∧ Confined [.rad, .str, .mem, .log] (queued []) s t) ∧
    (bit (s.rd Reg.RAD_STAT.STARTED) c = false → Says (.stopRequest c) s s.rad [⟨c, 0x07, 0, 0, 1, [0x05]⟩])) ∧
  (∀ (s : State) (c sfn slot : Nat), s.awake → fapiUp s c = true → c < 2 →
    (∀ pdus, P7Served (.dlTtiRequest c sfn slot pdus) c 0x80 sfn slot 122880 pdus [] s ∧
      P7Served (.ulTtiRequest c sfn slot pdus) c 0x81 sfn slot 49152 pdus [] s ∧
      P7Served (.ulDciRequest c sfn slot pdus) c 0x83 sfn slot 122880 pdus [] s) ∧
    ∀ crates, P7Served (.txDataRequest c sfn slot crates) c 0x84 sfn slot 122880 [] crates s) ∧
  ∀ (s : State) (c : Nat), s.awake → fapiOn s c = true →
    Indicates (.slotIndication c) c 0x82 (-(2 * slotTicks (radioBody s) c : Nat)) s ∧
    Indicates (.uciIndication c) c 0x87 (49152 + slotTicks (radioBody s) c) s ∧
    Indicates (.rachIndication c) c 0x89 (491520 + slotTicks (radioBody s) c) s ∧
    (radUp s = false ∨ s.rad.allocs = [] ∧ s.rad.blocks = [] ∧ s.rd Reg.RAD_LDPC_CUT.COUNT < 2 ^ 32 →
      Indicates (.tbCrcDeadline c) c 0x88 (122880 + slotTicks (radioBody s) c) s)

/-- ALLOCATION_READY, CLASSICAL_LLR_COMPLETE, LEARNED_COMPLETION, GUARD_INSTANT, ENGINE_OVERDUE, RAD_LR_COMMIT, LDPC_BLOCK_DONE,
LDPC_CUTOFF, CRC_INDICATION and RAD_LDPC_COMMIT (12 R555-R582, 11 R533, R544): an allocation enters the gate with its guard instant and,
where the gate admits it, its learned job on the best engine; the gate waits for what is to come or chooses, at the guard instant at
the latest; blocks end one by one, at the cut-off at the latest, and a transport block ends with its CRC, which L2 is told. -/
def Obligations.ReceiverGateAndDecoder : Prop :=
  (∀ (s : State) (h : Nat) (p : PuschInfo) (c : Nat) (b : Int), s.awake → radUp s = true → s.flag Reg.RAD_STAT.RELEASED = true →
    readyInTime s p = true → readsClean s radioRq (crateAddr s h) 256 = true → c < 2 →
    c = field (s.bytesAt (crateAddr s h) 256) 2 1 → carrierOn s c = true →
    b = slotStart s c (field (s.bytesAt (crateAddr s h) 256) 4 2) (field (s.bytesAt (crateAddr s h) 256) 6 1) →
    2 * llrCrates (field (s.bytesAt (crateAddr s h) 256) 12 4) ≤ (s.freeStack 3).length → Runs (.allocationReady h p) s fun t =>
      t.rad.nextId = s.rad.nextId + 1 ∧
      t.rd (Reg.RAD_LR_CNT.COUNT c 0) = min (2 ^ 32 - 1) (s.rd (Reg.RAD_LR_CNT.COUNT c 0) + 1) ∧
      t.rad.allocs.getLast?.map (fun a => (a.id, a.tag, a.carrier, a.desc, a.pdu, a.noCl)) = some (s.rad.nextId,
        field (s.bytesAt (crateAddr s h) 256) 0 2, c, h, p, false) ∧
      t.rad.allocs.getLast?.map (fun a => (a.slotEnd, a.guardAt, a.cl.length, a.left)) = some
        (b + slotTicks (radioBody s) c, b + slotTicks (radioBody s) c + (gateFor s c b).guard_,
          llrCrates (field (s.bytesAt (crateAddr s h) 256) 12 4), p.blocks.length) ∧
      (gatedPusch p = false ∨ (gateFor s c b).mode = 1 →
        (t.rad.allocs.getLast?.bind (·.engine)) = none ∧ t.rad.freeAt = s.rad.freeAt) ∧
      (gatedPusch p = true → (gateFor s c b).mode ≠ 1 →
        bestEngine s (gateFor s c b) (field (s.bytesAt (crateAddr s h) 256) 7 1) = none →
        (t.rad.allocs.getLast?.bind (·.engine)) = none ∧ t.rad.freeAt = s.rad.freeAt) ∧
      (gatedPusch p = true → (gateFor s c b).mode ≠ 1 → ∀ q : Nat × Nat,
        bestEngine s (gateFor s c b) (field (s.bytesAt (crateAddr s h) 256) 7 1) = some q →
        ((q.2 + budgetTicks (jobBudget (gateFor s c b) (field (s.bytesAt (crateAddr s h) 256) 16 4)) : Nat) : Int) ≤
          b + slotTicks (radioBody s) c + (gateFor s c b).guard_ →
        (t.rad.allocs.getLast?.bind (·.engine)) = some q.1 ∧
        t.rad.freeAt = Tbl.set s.rad.freeAt q.1
          (q.2 + budgetTicks (jobBudget (gateFor s c b) (field (s.bytesAt (crateAddr s h) 256) 16 4)))) ∧
      Confined [.rad, .mem, .str, .log, .noc, .fresh] (queued (busFields ++ [Reg.RAD_LR_CNT.COUNT c 0])) s t) ∧
  (∀ (s : State) (id : Nat) (a : Alloc), s.awake → radUp s = true → allocOf s id = some a → a.chosen = none → a.noCl = false →
    classicalInTime s a.pdu = true →
    (a.engine.isSome = true ∧ a.comp = none → Runs (.classicalLlrComplete id) s fun t =>
      t.rad = { s.rad with allocs := allocsWith s { a with clDone := true } } ∧ Confined [.rad] (only []) s t) ∧
    (a.engine = none ∨ a.comp.isSome = true → a.reported = false → a.pdu.blocks ≠ [] → a.carrier < 2 →
      Runs (.classicalLlrComplete id) s fun t => Chosen s t { a with clDone := true })) ∧
  (∀ (s : State) (n w : Nat) (a : Alloc), s.awake → radUp s = true → n = s.rd Reg.RAD_LR_CFG.CQ →
    (s.q n).marks = [true] → (s.q n).cut = false → s.mem.larderBad = [] →
    w = leNat (s.bytesAt (qBase s n + 8 * (s.q n).head) 8) →
    (s.rad.allocs.find? fun x => x.tag == bits w 0 16 && x.engine.isSome && x.comp.isNone) = some a → allocOf s a.id = some a →
    readsClean s radioRq (crateAddr s a.desc) 12 = true → bits w 16 8 = 0 → a.chosen = none →
    (a.clDone = false → Runs .learnedCompletion s fun t =>
      (t.q n).marks = [] ∧ t.rad = { s.rad with
        allocs := allocsWith s { a with comp := some (0, s.now, field (s.bytesAt (crateAddr s a.desc) 12) 10 2) } } ∧
      Confined [.rad, .str] (only []) s t) ∧
    (a.clDone = true → a.reported = false → a.pdu.blocks ≠ [] → a.carrier < 2 → Runs .learnedCompletion s fun t =>
      (t.q n).marks = [] ∧ Chosen s t { a with comp := some (0, s.now, field (s.bytesAt (crateAddr s a.desc) 12) 10 2) })) ∧
  (∀ (s : State) (c : Nat) (a : Alloc), s.awake → radUp s = true →
    (s.rad.allocs.filter fun x => x.carrier == c && x.chosen.isNone && decide (x.guardAt ≤ (s.now : Int))) = [a] →
    allocOf s a.id = some a → a.reported = false → a.pdu.blocks ≠ [] → a.carrier < 2 →
    Runs (.guardInstant c) s fun t => Chosen s t a) ∧
  (∀ (s : State) (e : Nat), s.awake → radUp s = true → engOverdue s e = true → Runs (.engineOverdue e) s fun t =>
    LogsLimited s t e 218 0x1814 e (((outstandingJobs s e).head?.map (·.tag)).getD 0) 0 ∧
    Confined [.log] (only [Reg.LOG_LOST_DROP.COUNT]) s t) ∧
  (∀ (s : State) (rq : Requester) (d : Nat), s.awake → bit d 0 = true →
    (passes (.radLrCommit rq d) s = true → Runs (.radLrCommit rq d) s fun t =>
      t.resp = {} ∧ (∀ f ∈ gateFields, t.rd f = s.rdShadow f % 2 ^ f.w) ∧
      t.rad = { s.rad with gatePend := s.rad.gatePend ++ [(s.now, 2 ^ radioCarriers (radioBody s) - 1,
        (List.range (radioCarriers (radioBody s))).map fun c => (c, gateCommitted t c))] } ∧
      Confined [.resp, .rad] (only gateFields) s t) ∧
    (passes (.radLdpcCommit rq d) s = true → Runs (.radLdpcCommit rq d) s fun t =>
      t.resp = {} ∧ (∀ f ∈ ldpcFields, t.rd f = s.rdShadow f % 2 ^ f.w) ∧ Confined [.resp] (only ldpcFields) s t)) ∧
  (∀ (s : State) (i iters : Nat) (good ok : Bool) (bs : List Byte) (r : LdpcRun) (a : Alloc), s.awake → radUp s = true → i < 2 →
    Tbl.find s.rad.islands i = some r → s.rad.blocks = [] → allocOf s r.alloc = some a → blockStops s r iters good = true →
    (1 < a.left → Runs (.ldpcBlockDone i iters good ok bs) s fun t =>
      t.rad = { s.rad with islands := Tbl.erase s.rad.islands i,
                           allocs := allocsWith s { a with left := a.left - 1, payload := a.payload ++ bs } } ∧
      Confined [.rad] (only []) s t) ∧
    (a.left = 1 → a.reported = false → a.carrier < 2 → Runs (.ldpcBlockDone i iters good ok bs) s fun t =>
      t.rad.islands = Tbl.erase s.rad.islands i ∧
      (allocOf t r.alloc).map (fun x => (x.crc, x.payload, x.left)) = some (some ok, a.payload ++ bs, 0) ∧
      (ok = true → ∀ k : Nat, harqOf s (harqKey a) = some k → Tbl.find t.rad.harq k = none) ∧
      Confined [.rad, .str, .log]
        (queued [Reg.RAD_LR_CNT.COUNT a.carrier 9, Reg.RAD_LR_CNT.COUNT a.carrier 10]) s t)) ∧
  (∀ (s : State) (c n : Nat) (r : LdpcRun) (a : Alloc), s.awake → radUp s = true → c < 2 → allocOf s a.id = some a → a.carrier = c →
    a.slotEnd + 120832 ≤ (s.now : Int) → a.reported = false →
    (s.rad.islands = [(0, r)] ∧ r.alloc = a.id ∧ s.rad.blocks = [] ∨ s.rad.islands = [] ∧ s.rad.blocks = [(a.id, n)]) →
    Runs (.ldpcCutoff c) s fun t =>
      t.rad.islands = [] ∧ t.rad.blocks = [] ∧
      t.rd Reg.RAD_LDPC_CUT.COUNT = min (2 ^ 32 - 1) (s.rd Reg.RAD_LDPC_CUT.COUNT + 1) ∧
      ((allocOf t a.id).map fun x => x.crc.isSome) = some true ∧
      (s.rad.islands = [] → (allocOf t a.id).map (·.crc) = some (some false)) ∧
      Confined [.rad, .str, .log, .fresh] (queued
        [Reg.RAD_LDPC_CUT.COUNT, Reg.RAD_LR_CNT.COUNT c 9, Reg.RAD_LR_CNT.COUNT c 10]) s t) ∧
  ∀ (s : State) (c : Nat) (a : Alloc) (ok : Bool) (p : Nat × Nat), s.awake → radUp s = true → fapiOn s c = true →
    s.flag Reg.RAD_STAT.RELEASED = true → bit (s.rd Reg.RAD_STAT.STARTED) c = true →
    ((s.now : Int) - (126976 + slotTicks (radioBody s) c) - frameOfs (radioBody s)) % slotTicks (radioBody s) c = 0 →
    s.rad.allocs = [a] → a.carrier = c → a.reported = false → a.crc = some ok → a.slotEnd + 126976 ≤ (s.now : Int) →
    p = slotAt s c ((s.now : Int) - (126976 + slotTicks (radioBody s) c)) →
    (ok = false → Runs (.crcIndication c) s fun t =>
      t.rad.sent = s.rad.sent ++ [⟨c, 0x86, p.1, p.2, 0, [a.tag, 0]⟩, ⟨c, 0x85, p.1, p.2, 0, [a.tag, 0, 0]⟩,
        ⟨c, 0x87, p.1, p.2, 0, []⟩] ∧
      t.rad.allocs.map (·.reported) = (if a.engine = none ∨ a.comp.isSome = true then [] else [true]) ∧
      Confined [.rad, .str, .mem, .log, .fresh] (queued []) s t) ∧
    (ok = true → ∀ i : Nat, (s.freeStack (poolFor a.payload.length)).head? = some i →
      crateHandle (poolFor a.payload.length) (s.crate (poolFor a.payload.length) i).gen i ≠ 0 → Runs (.crcIndication c) s fun t =>
      t.rad.sent = s.rad.sent ++ [⟨c, 0x86, p.1, p.2, 0, [a.tag, 1]⟩,
        ⟨c, 0x85, p.1, p.2, 0, [a.tag, crateHandle (poolFor a.payload.length) (s.crate (poolFor a.payload.length) i).gen i,
          a.payload.length]⟩, ⟨c, 0x87, p.1, p.2, 0, []⟩] ∧
      Confined [.rad, .str, .mem, .log, .noc, .fresh] (queued busFields) s t)

/-- VIS_ENABLE, STREAM_ENABLE, ACCESS_UNIT, FRAME_OUTPUT, VIS_CH_COMMIT, VIS_COEF_COMMIT, VIS_CH_RETURN, COMPOSITION_JOB_START,
COMPOSITION_PASS_END and COMPOSITION_RELEASE (13 R589-R600, R605, R610-R613, R616, R620-R625): what enables vision and a stream, the slot
that an access unit is decoded into or the reason that stops its stream, the jobs that a frame output queues, and a job's start, its
pass, which leaves the output in the proof buffer and withholds it when the proof fails, and its release. -/
def Obligations.VisionStreamsAndJobs : Prop :=
  (∀ (s : State) (rq : Requester) (d : Nat), s.awake → passes (.visEnable rq d) s = true →
    (bit d 0 = true → s.cfg.visionBody = none → Runs (.visEnable rq d) s fun t =>
      t.resp = {} ∧ Logs s t 230 0x1C05 0xF03800000 d rq.ni ∧ Confined [.resp, .log] (only [Reg.LOG_LOST_DROP.COUNT]) s t) ∧
    (bit d 0 = false ∨ s.cfg.visionBody.isSome = true → Runs (.visEnable rq d) s fun t =>
      t.resp = {} ∧ t.rd Reg.VIS_CTRL.EN = d % 2 ∧ Confined [.resp] (only [Reg.VIS_CTRL.EN]) s t)) ∧
  (∀ (s : State) (rq : Requester) (m d : Nat), s.awake → m < 32 → passes (.streamEnable rq m d) s = true →
    s.flag (Reg.VIS_STR_CFG.EN m) = false → bit d 0 = true →
    ∀ ok : Bool, ok = streamOkToEnable (s.wr (Reg.VIS_STR_CFG.MAX_FPS m) (bits d 16 8)) m (bits d 1 2) →
    (ok = true → Runs (.streamEnable rq m d) s fun t =>
      t.resp = {} ∧ t.rd (Reg.VIS_STR_CFG.EN m) = 1 ∧ t.rd (Reg.VIS_STR_CFG.CODEC m) = bits d 1 2 ∧
      t.rd (Reg.VIS_STR_CFG.INQ m) = bits d 8 7 ∧ t.rd (Reg.VIS_STR_CFG.MAX_FPS m) = bits d 16 8 ∧ t.rd (Reg.VIS_STR_STAT.STATE m) = 1 ∧
      t.rd (Reg.VIS_STR_STAT.REASON m) = 0 ∧ (t.stream m).last = none ∧ (∀ n, n ≠ m → t.stream n = s.stream n) ∧
      Confined [.resp, .vis] (only [Reg.VIS_STR_CFG.EN m, Reg.VIS_STR_CFG.CODEC m, Reg.VIS_STR_CFG.INQ m,
        Reg.VIS_STR_CFG.MAX_FPS m, Reg.VIS_STR_STAT.STATE m, Reg.VIS_STR_STAT.REASON m]) s t) ∧
    (ok = false → Runs (.streamEnable rq m d) s fun t =>
      t.resp = {} ∧ t.rd (Reg.VIS_STR_CFG.EN m) = s.rd (Reg.VIS_STR_CFG.EN m) ∧ t.rd (Reg.VIS_STR_CFG.INQ m) = bits d 8 7 ∧
      t.rd (Reg.VIS_STR_CFG.MAX_FPS m) = bits d 16 8 ∧
      (bits d 1 2 = 1 ∨ bits d 1 2 = 2 → t.rd (Reg.VIS_STR_CFG.CODEC m) = bits d 1 2 ∧
        Logs s t 230 0x1C05 (0xF03801000 + 0x40 * m) d rq.ni) ∧
      (bits d 1 2 = 0 ∨ bits d 1 2 = 3 → t.rd (Reg.VIS_STR_CFG.CODEC m) = s.rd (Reg.VIS_STR_CFG.CODEC m) ∧
        ∃ u : State, Logs s u 230 0x0102 (0xF03801000 + 0x40 * m) d rq.ni ∧ u.ck = s.ck ∧
          Logs u t 230 0x1C05 (0xF03801000 + 0x40 * m) d rq.ni) ∧
      Confined [.resp, .log] (only [Reg.VIS_STR_CFG.CODEC m, Reg.VIS_STR_CFG.INQ m, Reg.VIS_STR_CFG.MAX_FPS m,
        Reg.LOG_LOST_DROP.COUNT]) s t)) ∧
  (∀ (s : State) (dec : Nat) (p : VisDecode) (m : Nat), s.awake → visOn s = true → dec < 2 → nextStream s dec = some m →
    ∀ n : Nat, n = s.rd (Reg.VIS_STR_CFG.INQ m) → (s.q n).cut = false → (s.q n).head < qDepth s n →
    ∀ ws : List (List Byte), ws = ((List.range (headWords (s.q n).marks)).map fun i =>
      s.bytesAt (qBase s n + 8 * (((s.q n).head + i) % qDepth s n)) 8) → ∀ slot : Nat, freeSlot s m = some slot →
    slotBase s m + slot * slotSize s m + frameBytes p.w p.h p.ten ≤ 0xF00000000 →
    Runs (.accessUnit dec p) s fun t =>
      (t.q n).marks = (s.q n).marks.drop (headWords (s.q n).marks) ∧ Tbl.get t.vis.served dec 15 = m % 16 ∧
      (∀ k, k ≠ m → t.stream k = s.stream k) ∧ t.vis.jobs = s.vis.jobs ∧
      (∀ au : List (Nat × Nat) × Nat, parseAu s ws = some au →
        (stopReason s m p ≠ 0 → t.rd (Reg.VIS_STR_STAT.STATE m) = 2 ∧ t.rd (Reg.VIS_STR_STAT.REASON m) = stopReason s m p ∧
          t.stream m = s.stream m) ∧
        (stopReason s m p = 0 → t.rd (Reg.VIS_STR_STAT.STATE m) = s.rd (Reg.VIS_STR_STAT.STATE m) ∧
          t.rd (Reg.VIS_STR_CONCEALED.COUNT m) = (if p.bad = true then
            min (2 ^ 32 - 1) (s.rd (Reg.VIS_STR_CONCEALED.COUNT m) + 1) else s.rd (Reg.VIS_STR_CONCEALED.COUNT m)) ∧
          (t.stream m).pics = (((s.stream m).pics.map fun q => ({ q with ref := p.refs.contains q.slot } : VisPic)) ++
            [⟨slot, au.2, p.w, p.h, p.ten, p.bad, p.ref, p.shown || p.bad, 0⟩] : List VisPic).filter
              fun q => q.ref || q.wait || q.jobs != 0)) ∧
      (parseAu s ws = none → t.rd (Reg.VIS_STR_CONCEALED.COUNT m) = min (2 ^ 32 - 1) (s.rd (Reg.VIS_STR_CONCEALED.COUNT m) + 1) ∧
        t.rd (Reg.VIS_STR_STAT.STATE m) = s.rd (Reg.VIS_STR_STAT.STATE m) ∧
        (t.stream m).pics = (((s.stream m).pics.map fun q => ({ q with ref := p.refs.contains q.slot } : VisPic)) ++
          [⟨slot, leNat (ws.getLastD []), p.w, p.h, p.ten, true, p.ref, true, 0⟩] : List VisPic).filter
            fun q => q.ref || q.wait || q.jobs != 0) ∧
      Confined [.vis, .str, .mem, .log, .noc] (queued
        (busFields ++ [Reg.VIS_STR_STAT.STATE m, Reg.VIS_STR_STAT.REASON m, Reg.VIS_STR_CONCEALED.COUNT m])) s t) ∧
  (∀ (s : State) (m slot : Nat) (p : VisPic), s.awake → m < 32 → visOn s = true → s.rd (Reg.VIS_STR_STAT.STATE m) = 1 →
    ((s.stream m).pics.find? fun q => q.slot == slot && q.wait) = some p → p.bad = false →
    readsClean s visDecoder (slotBase s m + slot * slotSize s m) (frameBytes p.w p.h p.ten) = true → Runs (.frameOutput m slot) s fun t =>
      t.rd (Reg.VIS_STR_FRAMES.COUNT m) = min (2 ^ 32 - 1) (s.rd (Reg.VIS_STR_FRAMES.COUNT m) + 1) ∧
      t.vis.jobs = s.vis.jobs ++ (((List.range 8).filter fun n => s.flag (Reg.VIS_CH_CFG.EN n) &&
        s.rd (Reg.VIS_CH_CFG.STREAM n) == m).map fun n =>
          { ch := n, stream := m, slot := slot, pts := p.pts, frame := t.rd (Reg.VIS_STR_FRAMES.COUNT m) % 65536,
            w := p.w, h := p.h, ten := p.ten }) ∧
      (t.stream m).last = some (p.w, p.h, p.ten,
        s.bytesAt (slotBase s m + slot * slotSize s m) (frameBytes p.w p.h p.ten)) ∧
      (∀ k, k ≠ m → t.stream k = s.stream k) ∧ Confined [.vis] (only [Reg.VIS_STR_FRAMES.COUNT m]) s t) ∧
  (∀ (s : State) (rq : Requester) (n d : Nat), s.awake → n < 8 → bit d 0 = true →
    (passes (.visChCommit rq n d) s = true → Runs (.visChCommit rq n d) s fun t =>
      t.resp = {} ∧ Tbl.find t.vis.descNext n =
        some (s.rdShadow (Reg.VIS_CH_DESC_LO.ADDR n) + 2 ^ 32 * s.rdShadow (Reg.VIS_CH_DESC_HI.ADDR n)) ∧
      Tbl.get t.vis.sigValid (2 * n) 0 = 0 ∧ Tbl.get t.vis.sigValid (2 * n + 1) 0 = 0 ∧ t.vis.jobs = s.vis.jobs ∧
      Confined [.resp, .vis] (only []) s t) ∧
    (passes (.visCoefCommit rq d) s = true → Runs (.visCoefCommit rq d) s fun t =>
      t.resp = {} ∧ t.vis = { s.vis with coefNext := some s.vis.coefPend } ∧ Confined [.resp, .vis] (only []) s t)) ∧
  (∀ (s : State) (rq : Requester) (n d : Nat), s.awake → n < 8 → passes (.visChReturn rq n d) s = true →
    Runs (.visChReturn rq n d) s fun t =>
      t.resp = {} ∧ t.vis = { s.vis with lent := andNot s.vis.lent (bits d 0 2 * 2 ^ (2 * n)) } ∧
      Confined [.resp, .vis] (only []) s t) ∧
  (∀ (s : State) (j : VisJob) (rest : List VisJob), s.awake → s.vis.jobs = j :: rest → visUp s = true → j.ch < 8 →
    (s.flag Reg.VIS_CTRL.EN = true → j.phase = 0 → ∀ c : State, c = takeDesc (takeCoef s) j.ch →
      ∀ a : Nat, a = c.rdPair (Reg.VIS_CH_DESC_LO.ADDR j.ch) (Reg.VIS_CH_DESC_HI.ADDR j.ch) →
      (a % 64 ≠ 0 ∨ inMemory a 1024 = false → Runs .compositionJobStart s fun t =>
        t.vis.jobs = rest ∧
        t.rd (Reg.VIS_CH_OTHER.COUNT j.ch) = min (2 ^ 32 - 1) (c.rd (Reg.VIS_CH_OTHER.COUNT j.ch) + 1) ∧
        Confined [.vis, .str, .mem, .log, .fresh] (queued [Reg.VIS_CH_DESC_LO.ADDR j.ch, Reg.VIS_CH_DESC_HI.ADDR j.ch,
          Reg.VIS_CH_OTHER.COUNT j.ch]) s t) ∧
      ∀ d : List Byte, a % 64 = 0 → inMemory a 1024 = true →
        overlap a 1024 s.cfg.map.frameBase s.cfg.map.frameSize = false →
        readsClean c visCompositor a 1024 = true → d = c.bytesAt a 1024 → descFault d j.w j.h s.cfg.map.frameBase s.cfg.map.frameSize = none →
        outBytes d ≤ s.rd Reg.VIS_PROOF_SIZE.BYTES → (dMode d ≠ 0 ∨ cratesNeeded d ≤ 60) → Runs .compositionJobStart s fun t =>
          t.vis = { c.vis with jobs := (⟨j.ch, j.stream, j.slot, j.pts, j.frame, j.w, j.h, j.ten, 1, d,
            s.now + (2 * (((dOutW d + 1) / 2 + 32) * dOutH d) + 2) / 3, j.crates, j.list, j.tiles⟩ : VisJob) :: rest } ∧
          Confined [.vis] (only [Reg.VIS_CH_DESC_LO.ADDR j.ch, Reg.VIS_CH_DESC_HI.ADDR j.ch]) s t) ∧
    (j.phase = 1 → j.endAt ≤ s.now → (∀ i, i < 4 → field (dMask j.desc i) 0 1 = 0) →
      ∀ b n : Nat, b = slotBase s j.stream + j.slot * slotSize s j.stream → n = frameBytes j.w j.h j.ten →
      readsClean s visCompositor b n = true →
      ∀ f : Frame, f = frameOfBytes j.w j.h j.ten (fun o => (s.bytesAt b n).getD o 0) →
      ∀ img : Bool → Nat → Nat → Pix, img = (fun b => composePix s.vis.coef f j.desc [[], [], [], []] b) →
      ∀ u : State, u = (s.busWrite visCompositor (s.rdPair Reg.VIS_PROOF_BASE_LO.ADDR Reg.VIS_PROOF_BASE_HI.ADDR)
        (outputBytes (cscOf s) j.desc (img false))).1 →
      (failingRegions (cscOf s) j.desc (img false) (img true) ≠ 0 ∨ declaredRegions j.desc < field j.desc 20 1 →
        Runs .compositionPassEnd s fun t => t.vis.jobs = rest ∧
          t.rd (Reg.VIS_CH_WITHHELD.COUNT j.ch) = min (2 ^ 32 - 1) (s.rd (Reg.VIS_CH_WITHHELD.COUNT j.ch) + 1) ∧
          t.vis.lent = s.vis.lent ∧
          Confined [.vis, .str, .mem, .log, .noc] (queued (busFields ++ [Reg.VIS_CH_WITHHELD.COUNT j.ch])) s t) ∧
      (failingRegions (cscOf s) j.desc (img false) (img true) = 0 → field j.desc 20 1 ≤ declaredRegions j.desc →
        (dMode j.desc = 1 → bit s.vis.lent (2 * j.ch + nextBuf s j.ch) = false → Runs .compositionPassEnd s fun t =>
          (∃ l, t.vis = { s.vis with jobs := { j with phase := 2, tiles := l } :: rest }) ∧ t.mem = u.mem ∧
          Confined [.vis, .mem, .str, .log, .noc] (queued busFields) s t) ∧
        (dMode j.desc ≠ 1 → ∀ (v : State) (hs : List Nat × Nat), allocOutput u (cratesNeeded j.desc) = (v, some hs) →
          Runs .compositionPassEnd s fun t =>
            (∃ l, t.vis = { s.vis with jobs := { j with phase := 2, tiles := l, crates := hs.1, list := hs.2 } :: rest }) ∧
            t.mem = u.mem ∧ t.str = v.str ∧ Confined [.vis, .mem, .str, .log, .noc] (queued busFields) s t))) ∧
    (j.phase = 2 → Runs .compositionRelease s fun t => t.vis.jobs = rest ∧
      t.rd (Reg.VIS_CH_RELEASED.COUNT j.ch) = min (2 ^ 32 - 1) (s.rd (Reg.VIS_CH_RELEASED.COUNT j.ch) + 1) ∧
      (dMode j.desc = 1 → t.vis.lent = setBit s.vis.lent (2 * j.ch + nextBuf s j.ch) ∧
        nextBuf t j.ch = 1 - nextBuf s j.ch) ∧
      (dMode j.desc ≠ 1 → (∀ h ∈ j.crates ++ [j.list], validHandle s h = true ∧
          (s.crate (bits h 30 2) (bits h 0 20)).owner = visCompositor.context) → ∀ h ∈ j.crates ++ [j.list],
        (t.crate (bits h 30 2) (bits h 0 20)).owner = s.rd (Reg.VIS_CH_CFG.CONSUMER j.ch) % 256) ∧
      Confined [.vis, .str, .mem, .log, .noc, .fresh] (queued (busFields ++ [Reg.VIS_CH_RELEASED.COUNT j.ch])) s t))

/-- PIN_CFG_WRITE, GPIO_OUT_WRITE, PINQ_WORD, MATCHER_HIT, MATCHER_OUT_CLEAR, ADC_CONVERSION, TACH_EDGE, TACH_TIMEOUT, WINDOW_EXIT,
WINDOW_RETURN, TRIP_LATCH_CLEAR, PWM_COMMIT, PWM_PERIOD_START and PLE_SAMPLE (14 R628-R663, R666, R684-R688): who may write a pin and what
a switch records, which output bits a write changes, what a matcher, a conversion, a tachometer and a comparator leave, the trip latch
and its clearing, when committed PWM values act, and a loop's sample by the procedure of R685. -/
def Obligations.PlantIo : Prop :=
  (∀ (s : State) (rq : Requester) (i d : Nat), s.awake → i < 160 → passes (.pinCfgWrite rq i d) s = true →
    (pinWriter s rq i = false → Runs (.pinCfgWrite rq i d) s fun t =>
      t.resp = { busError := true } ∧ Logs s t 236 0x2001 (0xF04000000 + 4 * i) d rq.ni ∧
      Confined [.resp, .log] (only [Reg.LOG_LOST_DROP.COUNT]) s t) ∧
    (pinWriter s rq i = true → pinFuncOk i (bits d 8 4) (bits d 12 4) = true → bits d 16 3 ≤ 3 → bits d 20 2 ≤ 2 →
      bits d 24 3 ≤ 4 → Runs (.pinCfgWrite rq i d) s fun t =>
        t.resp = {} ∧ t.rd (Reg.CEL_PIN_CFG.FUNC i) = bits d 8 4 ∧ t.rd (Reg.CEL_PIN_CFG.SIG i) = bits d 12 4 ∧
        t.rd (Reg.CEL_PIN_CFG.DRIVE i) = bits d 0 4 ∧ t.rd (Reg.CEL_PIN_CFG.HYST i) = bits d 4 1 ∧
        t.rd (Reg.CEL_PIN_CFG.TTL i) = bits d 5 1 ∧ t.rd (Reg.CEL_PIN_CFG.ANALOG i) = bits d 6 1 ∧
        t.rd (Reg.CEL_PIN_CFG.OE i) = bits d 7 1 ∧ t.rd (Reg.CEL_PIN_CFG.PARK i) = bits d 16 3 ∧
        t.rd (Reg.CEL_PIN_CFG.PULL i) = bits d 20 2 ∧
        t.rd (Reg.CEL_PIN_CFG.OWNER i) = (if rq.ni = 44 then bits d 24 3 else s.rd (Reg.CEL_PIN_CFG.OWNER i)) ∧
        (s.rd (Reg.CEL_PIN_CFG.FUNC i) = bits d 8 4 ∧ s.rd (Reg.CEL_PIN_CFG.SIG i) = bits d 12 4 ∧
            s.rd (Reg.CEL_PIN_CFG.ANALOG i) = bits d 6 1 → t.cel = s.cel) ∧
        (s.rd (Reg.CEL_PIN_CFG.FUNC i) ≠ bits d 8 4 ∨ s.rd (Reg.CEL_PIN_CFG.SIG i) ≠ bits d 12 4 ∨
            s.rd (Reg.CEL_PIN_CFG.ANALOG i) ≠ bits d 6 1 → ∀ k : Option Nat,
              k = (if s.rd (Reg.CEL_PIN_CFG.FUNC i) = 1 ∧ s.flag (Reg.CEL_PIN_CFG.ANALOG i) = false then
                some (s.rd (Reg.CEL_PIN_CFG.SIG i)) else none) →
              t.cel = { s.cel with parks := Tbl.set s.cel.parks i ⟨s.now, (padOf s i).hold, k⟩ }) ∧
        Confined [.resp, .cel] (only [Reg.CEL_PIN_CFG.FUNC i, Reg.CEL_PIN_CFG.SIG i, Reg.CEL_PIN_CFG.DRIVE i,
          Reg.CEL_PIN_CFG.HYST i, Reg.CEL_PIN_CFG.TTL i, Reg.CEL_PIN_CFG.ANALOG i, Reg.CEL_PIN_CFG.OE i,
          Reg.CEL_PIN_CFG.PARK i, Reg.CEL_PIN_CFG.PULL i, Reg.CEL_PIN_CFG.OWNER i]) s t)) ∧
  (∀ (s : State) (rq : Requester) (b d : Nat), s.awake → b < 10 → passes (.gpioOutWrite rq b d) s = true →
    Runs (.gpioOutWrite rq b d) s fun t => t.resp = {} ∧
      (∀ j, j < 16 → bit (t.rd (Reg.CEL_GPIO_OUT.DATA b)) j =
        if s.rd (Reg.CEL_PIN_CFG.FUNC (16 * b + j)) = 0 ∧ dataWriter s (some rq) (16 * b + j) = true then bit d j
        else bit (s.rd (Reg.CEL_GPIO_OUT.DATA b)) j) ∧
      t.cel = { s.cel with outWas := Tbl.set s.cel.outWas b (outPads s b, s.now) } ∧ (∀ u : State, u.cel = t.cel → u.now < s.now + 10 →
        outPads u b = outPads s b) ∧
      Confined [.resp, .cel] (only [Reg.CEL_GPIO_OUT.DATA b]) s t) ∧
  (∀ (s : State) (n b : Nat) (w : Nat), s.awake → n = s.rd Reg.CEL_PINQ_CFG.QUEUE → s.flag Reg.CEL_PINQ_CFG.EN = true → 3 ≤ s.tier →
    s.flag Reg.STR_CTRL.EN = true → (s.q n).marks ≠ [] → (s.q n).cut = false → s.mem.larderBad = [] →
    (∀ p ∈ s.cel.pinqAt, p + 40 ≤ s.now) → w = leNat (s.bytesAt (qBase s n + 8 * (s.q n).head) 8) →
    (b < 10 → bits w 0 4 = b → bits w 4 12 = 0 → bits w 32 32 = 0 → Runs .pinqWord s fun t =>
      t.cel.pinqAt = some s.now ∧ (t.q n).marks = (s.q n).marks.drop 1 ∧
      (∀ j, j < 16 → bit (t.rd (Reg.CEL_GPIO_OUT.DATA b)) j =
        if s.rd (Reg.CEL_PIN_CFG.FUNC (16 * b + j)) = 0 ∧ s.rd (Reg.CEL_PIN_CFG.OWNER (16 * b + j)) = 3 then bit w (16 + j)
        else bit (s.rd (Reg.CEL_GPIO_OUT.DATA b)) j) ∧
      Confined [.cel, .str] (only [Reg.CEL_GPIO_OUT.DATA b]) s t) ∧
    (10 ≤ bits w 0 4 ∨ bits w 4 12 ≠ 0 ∨ bits w 32 32 ≠ 0 → Runs .pinqWord s fun t =>
      t.cel.pinqAt = some s.now ∧ (t.q n).marks = (s.q n).marks.drop 1 ∧
      t.rd Reg.CEL_PINQ_BAD.COUNT = min (2 ^ 32 - 1) (s.rd Reg.CEL_PINQ_BAD.COUNT + 1) ∧
      LogsLimited s t 0 236 0x2009 n w (w / 2 ^ 32) ∧
      Confined [.cel, .str, .log] (only [Reg.CEL_PINQ_BAD.COUNT, Reg.LOG_LOST_DROP.COUNT]) s t)) ∧
  (∀ (s : State) (m : Nat) (lv : BitVec 16) (v : Nat) (a : Tbl Nat), s.awake → m < 16 → matcherIsMains s m = false →
    v = matchVector s m lv.toNat →
    a = (if aBegins s m v = true then Tbl.set s.cel.matchA m s.now else s.cel.matchA) →
    (hitAllowed s m v = true → Runs (.matcherHit m lv) s fun t =>
      t.rd (Reg.CEL_PM_STAT.VEC m) = v % 2 ^ 16 ∧ t.rd (Reg.CEL_PM_STAT.HIT m) = 1 ∧
      t.rd (Reg.CEL_PM_STAT.OUT m) = (if s.rd (Reg.CEL_PM_CFG.MODE m) = 1 then 1 else s.rd (Reg.CEL_PM_STAT.OUT m)) ∧
      (s.flag (Reg.CEL_PM_STAT.HIT m) = true → t.cel = { s.cel with matchA := a } ∧ t.str = s.str) ∧
      (s.flag (Reg.CEL_PM_STAT.HIT m) = false → t.cel = { s.cel with
        matchA := a, plantIrq := true,
        wake := if s.flag (Reg.CEL_PM_CFG.WAKE m) = true then setBit s.cel.wake 1 else s.cel.wake }) ∧
      Confined [.cel, .str, .mem, .log]
        (queued [Reg.CEL_PM_STAT.VEC m, Reg.CEL_PM_STAT.HIT m, Reg.CEL_PM_STAT.OUT m]) s t) ∧
    (hitAllowed s m v = false → Runs (.matcherHit m lv) s fun t =>
      t.rd (Reg.CEL_PM_STAT.VEC m) = v % 2 ^ 16 ∧ t.cel = { s.cel with matchA := a } ∧
      Confined [.cel] (only [Reg.CEL_PM_STAT.VEC m]) s t) ∧
    (s.rd (Reg.CEL_PM_CFG.MODE m) = 1 → patA s m v = false → Runs (.matcherOutClear m lv) s fun t =>
      t.rd (Reg.CEL_PM_STAT.VEC m) = v % 2 ^ 16 ∧ t.rd (Reg.CEL_PM_STAT.OUT m) = 0 ∧
      Confined [] (only [Reg.CEL_PM_STAT.VEC m, Reg.CEL_PM_STAT.OUT m]) s t)) ∧
  (∀ (s : State) (c : Nat) (uv : Int), s.awake → c < 16 → c ≠ s.rd Reg.CEL_HOLD_CUT.BATT_CH → c ≠ 2 → ∀ left : List Nat,
    left = (ones (s.rd Reg.CEL_ADC_CFG.CH_EN) 16).filter (fun x => !bit s.cel.adcDone x) →
    (if left = [] then (ones (s.rd Reg.CEL_ADC_CFG.CH_EN) 16).head? else left.head?) = some c →
    ∀ n done : Nat, n = (ones (s.rd Reg.CEL_ADC_CFG.CH_EN) 16).length → done = n - left.length →
    (adcDue s n done ≤ s.now → Runs (.adcConversion c uv) s fun t =>
      t.rd (Reg.CEL_ADC_RES.CODE c) = adcCode uv ∧ t.rd (Reg.CEL_ADC_RES.SCAN c) = t.cel.adcScans % 256 ∧
      t.cel = { s.cel with adcDone := (if left = [] then 2 ^ c else setBit s.cel.adcDone c),
                           adcScans := (if left = [] ∨ s.cel.adcScans = 0 then s.cel.adcScans + 1 else s.cel.adcScans),
                           adcAt := adcScanStart s n done } ∧
      Confined [.cel] (only [Reg.CEL_ADC_RES.CODE c, Reg.CEL_ADC_RES.SCAN c]) s t) ∧
    (s.now < adcDue s n done → Runs (.adcConversion c uv) s fun t => t = s)) ∧
  (∀ (s : State) (k last : Nat), s.awake → k < 8 → Tbl.find s.cel.tachEdge k = some last →
    (inputOn s 6 k = true → Runs (.tachEdge k) s fun t =>
      t.rd (Reg.CEL_TACH.FREQ k) = min 65535 (786432000 / max 1 ((s.now - last) / 10)) ∧
      t.cel = { s.cel with tachEdge := Tbl.set s.cel.tachEdge k s.now } ∧ Confined [.cel] (only [Reg.CEL_TACH.FREQ k]) s t) ∧
    (last + 491520000 ≤ s.now → Runs (.tachTimeout k) s fun t =>
      t.rd (Reg.CEL_TACH.FREQ k) = 0 ∧ Confined [] (only [Reg.CEL_TACH.FREQ k]) s t)) ∧
  (∀ (s : State) (k : Nat) (uv : Int), s.awake → k < 8 → compIsMains s k = false →
    (insideWindow s k uv 0 = false → s.flag (Reg.CEL_CMP_STAT.OUT k) = false →
      (s.flag (Reg.CEL_CMP_CFG.EN k) = true → s.flag (Reg.CEL_CMP_CFG.TRIP_EN k) = true →
        andNot (s.rd (Reg.CEL_CMP_CFG.TRIP_MASK k)) (s.rd Reg.CEL_TRIP_STAT.LATCHED) ≠ 0 → Runs (.windowExit k uv) s fun t =>
          t.rd (Reg.CEL_CMP_STAT.OUT k) = 1 ∧ t.rd Reg.CEL_TRIP_STAT.LATCHED = (s.rd Reg.CEL_TRIP_STAT.LATCHED |||
            andNot (s.rd (Reg.CEL_CMP_CFG.TRIP_MASK k)) (s.rd Reg.CEL_TRIP_STAT.LATCHED)) % 256 ∧
          Logs s t 236 0x2002 k (andNot (s.rd (Reg.CEL_CMP_CFG.TRIP_MASK k)) (s.rd Reg.CEL_TRIP_STAT.LATCHED)) s.mode ∧
          Confined [.log] (only [Reg.CEL_CMP_STAT.OUT k, Reg.CEL_TRIP_STAT.LATCHED, Reg.LOG_LOST_DROP.COUNT]) s t) ∧
      (s.flag (Reg.CEL_CMP_CFG.EN k) = false ∨ s.flag (Reg.CEL_CMP_CFG.TRIP_EN k) = false → Runs (.windowExit k uv) s fun t =>
        t.rd (Reg.CEL_CMP_STAT.OUT k) = 1 ∧ Confined [] (only [Reg.CEL_CMP_STAT.OUT k]) s t)) ∧
    (s.flag (Reg.CEL_CMP_STAT.OUT k) = true → insideWindow s k uv (s.rd (Reg.CEL_CMP_CFG.HYS k)) = true →
      Runs (.windowReturn k uv) s fun t =>
        t.rd (Reg.CEL_CMP_STAT.OUT k) = 0 ∧ Confined [] (only [Reg.CEL_CMP_STAT.OUT k]) s t)) ∧
  (∀ (s : State) (rq : Requester) (d : Nat), s.awake → passes (.tripLatchClear rq d) s = true →
    Runs (.tripLatchClear rq d) s fun t => t.resp = {} ∧
      (∀ c, c < 8 → bit (t.rd Reg.CEL_TRIP_STAT.LATCHED) c =
        (bit (s.rd Reg.CEL_TRIP_STAT.LATCHED) c && !(bit d c && (tripsHeld s c).isEmpty))) ∧
      (∀ c, c < 8 → bit d c = true → pwmLatched s c = true → (tripsHeld s c).isEmpty = true →
        (t.pwm c).wait = s.flag (Reg.CEL_PWM_CFG.EN c)) ∧
      Confined [.resp, .cel, .log] (only [Reg.CEL_TRIP_STAT.LATCHED, Reg.LOG_LOST_DROP.COUNT]) s t) ∧
  (∀ (s : State) (rq : Requester) (c d : Nat), s.awake → c < 8 → d % 256 = 2 ^ c → passes (.pwmCommit rq d) s = true →
    (s.flag (Reg.CEL_PWM_CFG.EN c) = true → Runs (.pwmCommit rq d) s fun t => t.resp = {} ∧
      (t.pwm c).take = some (s.rdShadow (Reg.CEL_PWM_PERIOD.COUNT c), s.rdShadow (Reg.CEL_PWM_DUTY.COUNT c),
        s.rdShadow (Reg.CEL_PWM_DEAD.COUNT c)) ∧
      (∀ e, e ≠ c → t.pwm e = s.pwm e) ∧ Confined [.resp, .cel] (only []) s t) ∧
    (s.flag (Reg.CEL_PWM_CFG.EN c) = false → Runs (.pwmCommit rq d) s fun t => t.resp = {} ∧
      t.rd (Reg.CEL_PWM_PERIOD.COUNT c) = s.rdShadow (Reg.CEL_PWM_PERIOD.COUNT c) % 2 ^ 16 ∧
      t.rd (Reg.CEL_PWM_DUTY.COUNT c) = s.rdShadow (Reg.CEL_PWM_DUTY.COUNT c) % 2 ^ 16 ∧
      t.rd (Reg.CEL_PWM_DEAD.COUNT c) = s.rdShadow (Reg.CEL_PWM_DEAD.COUNT c) % 2 ^ 10 ∧ (t.pwm c).take = none ∧
      Confined [.resp, .cel] (only [Reg.CEL_PWM_PERIOD.COUNT c, Reg.CEL_PWM_DUTY.COUNT c, Reg.CEL_PWM_DEAD.COUNT c]) s t)) ∧
  (∀ (s : State) (c : Nat), s.awake → c < 8 → atPeriod s c = true → Runs (.pwmPeriodStart c) s fun t =>
    (t.pwm c).start = s.now ∧ (t.pwm c).wait = false ∧ (t.pwm c).take = none ∧ (∀ e, e ≠ c → t.pwm e = s.pwm e) ∧
    (∀ v : Nat × Nat × Nat, (s.pwm c).take = some v → t.rd (Reg.CEL_PWM_PERIOD.COUNT c) = v.1 % 2 ^ 16 ∧
      t.rd (Reg.CEL_PWM_DUTY.COUNT c) = v.2.1 % 2 ^ 16 ∧ t.rd (Reg.CEL_PWM_DEAD.COUNT c) = v.2.2 % 2 ^ 10) ∧
    Confined [.cel] (only [Reg.CEL_PWM_PERIOD.COUNT c, Reg.CEL_PWM_DUTY.COUNT c, Reg.CEL_PWM_DEAD.COUNT c]) s t) ∧
  ∀ (s : State) (l c : Nat), s.awake → l < 8 → atPleSample s l = true → c = s.rd (Reg.CEL_PLE_CFG.PWM l) → c < 8 →
    (pleNoSource s l = true → s.flag (Reg.CEL_PLE_STAT.NOSRC l) = false → Runs (.pleSample l) s fun t =>
      t.rd (Reg.CEL_PLE_STAT.NOSRC l) = 1 ∧
      Logs s t 236 0x2008 l (s.rd (Reg.CEL_PLE_CFG.SRC_KIND l)) (s.rd (Reg.CEL_PLE_CFG.SRC l)) ∧
      Confined [.log] (only [Reg.CEL_PLE_STAT.NOSRC l, Reg.LOG_LOST_DROP.COUNT]) s t) ∧
    (pleNoSource s l = false → ∀ r : Int × Int × Int,
      r = pleCompute (s.rd (Reg.CEL_PLE_SP.SP l)) (plePv s l) (s.rd (Reg.CEL_PLE_GAIN.KP l)) (s.rd (Reg.CEL_PLE_GAIN.KI l))
        (sInt (s.rd (Reg.CEL_PLE_INTEG.INTEG l)) 32) (s.ple l).prev (s.rd (Reg.CEL_PLE_LIM.OUT_MIN l)) (pleMax s l)
        (s.rd (Reg.CEL_PLE_SLEW.SLEW l)) (s.flag (Reg.CEL_PLE_CFG.INV l))
        (s.flag (Reg.CEL_PLE_CFG.OUT_EN l) && (pwmLatched s c || !s.flag (Reg.CEL_PWM_CFG.EN c))) →
      Runs (.pleSample l) s fun t =>
        t.rd (Reg.CEL_PLE_OUT.OUT l) = ofInt r.1 16 ∧ t.rd (Reg.CEL_PLE_OUT.PV l) = plePv s l % 2 ^ 16 ∧
        t.rd (Reg.CEL_PLE_INTEG.INTEG l) = ofInt r.2.1 32 ∧ t.rd (Reg.CEL_PLE_STAT.LIMITED l) = (if r.2.2 = 0 then 0 else 1) ∧
        (t.ple l).prev = r.1 ∧ (t.ple l).enAt = (s.ple l).enAt ∧ (∀ k, k ≠ l → t.ple k = s.ple k) ∧
        (s.flag (Reg.CEL_PLE_CFG.OUT_EN l) = false → Confined [.cel] (only [Reg.CEL_PLE_OUT.OUT l, Reg.CEL_PLE_OUT.PV l,
          Reg.CEL_PLE_INTEG.INTEG l, Reg.CEL_PLE_STAT.LIMITED l]) s t) ∧
        (s.flag (Reg.CEL_PLE_CFG.OUT_EN l) = true → t.rdShadow (Reg.CEL_PWM_DUTY.COUNT c) = ofInt r.1 16 ∧
          (s.flag (Reg.CEL_PWM_CFG.EN c) = true → ((t.pwm c).take.map fun v => v.2.1) = some (ofInt r.1 16)) ∧
          (s.flag (Reg.CEL_PWM_CFG.EN c) = false → t.rd (Reg.CEL_PWM_DUTY.COUNT c) = ofInt r.1 16)))

/-- CAN_FRAME_RECEIVE, CAN_TX_REQUEST, CAN_TX_DONE, CAN_RX_POP, CAN_BUS_OFF, CAN_BUS_OFF_RECOVERY, UART_TXD_WRITE, UART_FRAME_SENT,
UART_BYTE_RECEIVE, UART_FRAME_END, UART_RXD_POP, I2C_COMMAND, I2C_COMMAND_DONE, I2C_TIMEOUT, SPI_COMMAND and SPI_COMMAND_DONE (14
R668-R683, R690): a received frame goes to the slot behind the last one or is lost, the first pending slot is sent, bus-off and its end,
the UART's two byte queues and its Modbus frames, and I²C and SPI commands, refused while one runs, with what their end leaves. -/
def Obligations.SerialControllers : Prop :=
  (∀ (s : State) (n : Nat), s.awake → n < 2 → canLive s n = true →
    (∀ (fr : CanFrame) (sof : DWord) (f : Nat), inputOn s 2 (2 * n + 1) = true → fr.fdf = false ∨ s.flag (Reg.CEL_CAN_CTRL.FD n) = true →
      (List.range 32).find? (canMatch s n fr) = some f →
      (s.rd (Reg.CEL_CAN_RX_STAT.COUNT n) < 64 → Runs (.canFrameReceive n fr sof) s fun t =>
        t.rd (Reg.CEL_CAN_RX_STAT.COUNT n) = s.rd (Reg.CEL_CAN_RX_STAT.COUNT n) + 1 ∧
        (t.can n).slots = Mem.writeN (s.can n).slots
          (0x800 + 80 * ((s.rd (Reg.CEL_CAN_RX_STAT.HEAD n) + s.rd (Reg.CEL_CAN_RX_STAT.COUNT n)) % 64)) (canSlot fr f sof) ∧
        (∀ k, k ≠ n → t.can k = s.can k) ∧
        t.cel.wake = (if s.flag (Reg.CEL_CAN_MASK.WAKE n f) = true then setBit s.cel.wake 2 else s.cel.wake) ∧
        Confined [.cel] (only [Reg.CEL_CAN_RX_STAT.COUNT n]) s t) ∧
      (64 ≤ s.rd (Reg.CEL_CAN_RX_STAT.COUNT n) → Runs (.canFrameReceive n fr sof) s fun t =>
        t.rd (Reg.CEL_CAN_RX_LOST.COUNT n) = min (2 ^ 32 - 1) (s.rd (Reg.CEL_CAN_RX_LOST.COUNT n) + 1) ∧
        t.cel.can = s.cel.can ∧ LogsLimited s t n 236 0x2004 n (t.rd (Reg.CEL_CAN_RX_LOST.COUNT n)) 0 ∧
        Confined [.cel, .log] (only [Reg.CEL_CAN_RX_LOST.COUNT n, Reg.LOG_LOST_DROP.COUNT]) s t)) ∧
    (∀ slot started : Nat, slot < 16 → started < 65536 → s.flag (Reg.CEL_CAN_CTRL.LISTEN n) = false →
      bit (s.rd (Reg.CEL_CAN_TX_PEND.SLOTS n)) slot = true → bit started slot = true →
      andNot started (s.rd (Reg.CEL_CAN_TX_PEND.SLOTS n)) = 0 → canFirst s n slot started = true →
      Runs (.canTxDone n slot started) s fun t =>
        t.rd (Reg.CEL_CAN_TX_PEND.SLOTS n) = andNot (s.rd (Reg.CEL_CAN_TX_PEND.SLOTS n)) (2 ^ slot) % 65536 ∧
        t.rd (Reg.CEL_CAN_TX_DONE.SLOTS n) = (s.rd (Reg.CEL_CAN_TX_DONE.SLOTS n) ||| 2 ^ slot) % 65536 ∧
        t.can n = { s.can n with sent := Mem.readN (s.can n).slots (80 * slot) 80 } ∧
        Confined [.cel] (only [Reg.CEL_CAN_TX_PEND.SLOTS n, Reg.CEL_CAN_TX_DONE.SLOTS n]) s t) ∧
    (∀ tec, Runs (.canBusOff n tec) s fun t =>
      t.rd (Reg.CEL_CAN_STAT.STATE n) = 2 ∧ t.rd (Reg.CEL_CAN_STAT.TEC n) = tec % 256 ∧
      Logs s t 236 0x2005 n tec (s.rd (Reg.CEL_CAN_CTRL.AUTO_REC n)) ∧
      Confined [.log] (only [Reg.CEL_CAN_STAT.STATE n, Reg.CEL_CAN_STAT.TEC n, Reg.LOG_LOST_DROP.COUNT]) s t)) ∧
  (∀ (s : State) (n : Nat), s.awake → n < 2 → s.rd (Reg.CEL_CAN_STAT.STATE n) = 2 → s.flag (Reg.CEL_CAN_CTRL.AUTO_REC n) = true →
    s.flag (Reg.CEL_CAN_CTRL.EN n) = true → canClocked s = true → Runs (.canBusOffRecovery n) s fun t =>
      t.rd (Reg.CEL_CAN_STAT.STATE n) = 0 ∧ t.rd (Reg.CEL_CAN_STAT.TEC n) = 0 ∧ t.rd (Reg.CEL_CAN_STAT.REC n) = 0 ∧
      Confined [] (only [Reg.CEL_CAN_STAT.STATE n, Reg.CEL_CAN_STAT.TEC n, Reg.CEL_CAN_STAT.REC n]) s t) ∧
  (∀ (s : State) (rq : Requester) (n d : Nat), s.awake → n < 2 →
    (passes (.canTxRequest rq n d) s = true → Runs (.canTxRequest rq n d) s fun t => t.resp = {} ∧
      t.rd (Reg.CEL_CAN_TX_PEND.SLOTS n) = (s.rd (Reg.CEL_CAN_TX_PEND.SLOTS n) ||| d % 65536) % 65536 ∧
      Confined [.resp] (only [Reg.CEL_CAN_TX_PEND.SLOTS n]) s t) ∧
    (passes (.canRxPop rq n d) s = true → bit d 0 = true → s.rd (Reg.CEL_CAN_RX_STAT.COUNT n) ≠ 0 →
      Runs (.canRxPop rq n d) s fun t => t.resp = {} ∧
        t.rd (Reg.CEL_CAN_RX_STAT.COUNT n) = (s.rd (Reg.CEL_CAN_RX_STAT.COUNT n) - 1) % 128 ∧
        t.rd (Reg.CEL_CAN_RX_STAT.HEAD n) = (s.rd (Reg.CEL_CAN_RX_STAT.HEAD n) + 1) % 64 ∧
        Confined [.resp] (only [Reg.CEL_CAN_RX_STAT.COUNT n, Reg.CEL_CAN_RX_STAT.HEAD n]) s t) ∧
    (passes (.uartTxdWrite rq n d) s = true →
      ((s.uart n).tx.length < 256 → Runs (.uartTxdWrite rq n d) s fun t => t.resp = {} ∧
        (t.uart n).tx = (s.uart n).tx ++ [d % 512] ∧ (t.uart n).rx = (s.uart n).rx ∧
        (s.flag (Reg.CEL_UART_CFG.EN n) = false → (t.uart n).sending = (s.uart n).sending) ∧
        (s.flag (Reg.CEL_UART_CFG.EN n) = true → bit d 8 = true → ((t.uart n).sending).isSome = true) ∧
        (∀ k, k ≠ n → t.uart k = s.uart k) ∧ Confined [.resp, .cel] (only []) s t) ∧
      (256 ≤ (s.uart n).tx.length → Runs (.uartTxdWrite rq n d) s fun t => t.resp = {} ∧
        Logs s t 236 0x200A (0xF04001808 + 0x40 * n) d rq.ni ∧ Confined [.resp, .log] (only [Reg.LOG_LOST_DROP.COUNT]) s t)) ∧
    (passes (.uartRxdPop rq n) s = true → Runs (.uartRxdPop rq n) s fun t =>
      t.resp = { value := (s.uart n).rx.headD 0 } ∧ t.uart n = { s.uart n with rx := (s.uart n).rx.drop 1 } ∧
      (∀ k, k ≠ n → t.uart k = s.uart k) ∧ Confined [.resp, .cel] (only []) s t) ∧
    (passes (.i2cCommand rq n d) s = true →
      (s.flag (Reg.CEL_I2C_STAT.BUSY n) = false → s.flag (Reg.CEL_I2C_CFG.EN n) = true → Runs (.i2cCommand rq n d) s fun t =>
        t.resp = {} ∧ t.rd (Reg.CEL_I2C_STAT.BUSY n) = 1 ∧ t.rd (Reg.CEL_I2C_STAT.NACK n) = 0 ∧
        t.rd (Reg.CEL_I2C_STAT.ARB_LOST n) = 0 ∧ t.rd (Reg.CEL_I2C_STAT.TIMEOUT n) = 0 ∧ t.rd (Reg.CEL_I2C_STAT.DONE n) = 0 ∧
        t.cel = { s.cel with i2cCmd := Tbl.set s.cel.i2cCmd n (d % 65536), cmdAt := Tbl.set s.cel.cmdAt n s.now } ∧
        Confined [.resp, .cel] (only [Reg.CEL_I2C_STAT.BUSY n, Reg.CEL_I2C_STAT.NACK n, Reg.CEL_I2C_STAT.ARB_LOST n,
          Reg.CEL_I2C_STAT.TIMEOUT n, Reg.CEL_I2C_STAT.DONE n]) s t) ∧
      (s.flag (Reg.CEL_I2C_STAT.BUSY n) = true → Runs (.i2cCommand rq n d) s fun t => t.resp = {} ∧
        Logs s t 236 0x200A (0xF04001A04 + 0x80 * n) d rq.ni ∧ Confined [.resp, .log] (only [Reg.LOG_LOST_DROP.COUNT]) s t)) ∧
    (passes (.spiCommand rq n d) s = true →
      (s.flag (Reg.CEL_SPI_STAT.BUSY n) = false → Runs (.spiCommand rq n d) s fun t =>
        t.resp = {} ∧ t.rd (Reg.CEL_SPI_STAT.BUSY n) = 1 ∧
        t.cel = { s.cel with spiCmd := Tbl.set s.cel.spiCmd n (d % 2 ^ 25), cmdAt := Tbl.set s.cel.cmdAt (2 + n) s.now,
                             spiCs := Tbl.set s.cel.spiCs n (bits d 8 2 + 1) } ∧
        Confined [.resp, .cel] (only [Reg.CEL_SPI_STAT.BUSY n]) s t) ∧
      (s.flag (Reg.CEL_SPI_STAT.BUSY n) = true → Runs (.spiCommand rq n d) s fun t => t.resp = {} ∧
        Logs s t 236 0x200A (0xF04001B00 + 0x80 * n) d rq.ni ∧ Confined [.resp, .log] (only [Reg.LOG_LOST_DROP.COUNT]) s t))) ∧
  (∀ (s : State) (u : Nat) (b : Byte), s.awake → u < 2 →
    (s.flag (Reg.CEL_UART_CFG.EN u) = true → uartDe s u = false → inputOn s 3 (4 * u + 1) = true →
      ((s.uart u).dropping = false → (s.uart u).rx.length < 256 → Runs (.uartByteReceive u b) s fun t =>
        (t.uart u).rx = (s.uart u).rx ++ [(if s.flag (Reg.CEL_UART_FMT.SEVEN u) = true then b.toNat % 128 else b.toNat) + 0x800] ∧
        (t.uart u).frame = (if s.flag (Reg.CEL_UART_FMT.MODBUS u) = true then (s.uart u).frame ++ [b] else []) ∧ (t.uart u).lastRx = s.now ∧ (t.uart u).tx = (s.uart u).tx ∧
        (∀ k, k ≠ u → t.uart k = s.uart k) ∧ Confined [.cel] (only []) s t) ∧
      (256 ≤ (s.uart u).rx.length → Runs (.uartByteReceive u b) s fun t =>
        (t.uart u).rx = (s.uart u).rx ∧ (t.uart u).dropping = s.flag (Reg.CEL_UART_FMT.MODBUS u) ∧
        t.rd (Reg.CEL_UART_RX_LOST.COUNT u) = min (2 ^ 32 - 1) (s.rd (Reg.CEL_UART_RX_LOST.COUNT u) + 1) ∧
        LogsLimited s t u 236 0x2006 u (t.rd (Reg.CEL_UART_RX_LOST.COUNT u)) 0 ∧
        Confined [.cel, .log] (only [Reg.CEL_UART_RX_LOST.COUNT u, Reg.LOG_LOST_DROP.COUNT]) s t)) ∧
    (s.flag (Reg.CEL_UART_FMT.MODBUS u) = true → (s.uart u).frame ≠ [] → (s.uart u).lastRx + uartT35 s u ≤ s.now →
      (s.uart u).dropping = false → Runs (.uartFrameEnd u) s fun t =>
        (t.uart u).rx = ((s.uart u).rx.dropLast ++ ((s.uart u).rx.getLast?.toList.map fun x => x + (0x100 +
          0x200 * b2n (crc16 (s.uart u).frame == 0) + 0x400 * b2n (s.uart u).gap))) ∧
        (t.uart u).frame = [] ∧ (t.uart u).gap = false ∧ Confined [.cel] (only []) s t) ∧
    (uartFrameOut s u = true → Runs (.uartFrameSent u) s fun t =>
      (t.uart u).lastTx = s.now ∧ (t.uart u).deUntil = s.now + uartBits s u (s.rd (Reg.CEL_UART_FMT.DE_HOLD u)) ∧
      (t.uart u).tx = (s.uart u).tx.drop (((s.uart u).tx.takeWhile fun x => !bit x 8).length + 1) ∧
      (s.flag (Reg.CEL_UART_FMT.SEVEN u) = false → s.flag (Reg.CEL_UART_FMT.MODBUS u) = false →
        (t.uart u).sent = ((s.uart u).tx.take (((s.uart u).tx.takeWhile fun x => !bit x 8).length + 1)).map (BitVec.ofNat 8 ·)) ∧
      (s.flag (Reg.CEL_UART_FMT.SEVEN u) = false → s.flag (Reg.CEL_UART_FMT.MODBUS u) = true → ∀ bs : List Byte,
        bs = ((s.uart u).tx.take (((s.uart u).tx.takeWhile fun x => !bit x 8).length + 1)).map (BitVec.ofNat 8 ·) →
        (t.uart u).sent = bs ++ leBytes 2 (crc16 bs)) ∧
      Confined [.cel] (only []) s t)) ∧
  ∀ (s : State) (n done : Nat), s.awake → n < 2 →
    (s.flag (Reg.CEL_I2C_STAT.BUSY n) = true →
      (∀ (nack arb : Bool) (bs : List Byte), ∀ cmd : Nat, cmd = Tbl.get s.cel.i2cCmd n 0 → inputOn s 4 (2 * n + 1) = true →
        bit cmd 7 = false → ∀ k : Nat, k = min done (min 64 (bits cmd 8 7)) → 9 * (k + 1) ≤ i2cBits s n ∨ arb = true →
        Runs (.i2cCommandDone n done nack arb bs) s fun t =>
          t.rd (Reg.CEL_I2C_STAT.BUSY n) = 0 ∧ t.rd (Reg.CEL_I2C_STAT.NACK n) = b2n nack ∧
          t.rd (Reg.CEL_I2C_STAT.ARB_LOST n) = b2n arb ∧ t.rd (Reg.CEL_I2C_STAT.DONE n) = k ∧
          t.cel = { s.cel with cmdSent := (Tbl.set s.cel.cmdSent n
            (BitVec.ofNat 8 (2 * bits cmd 0 7) :: slice (dataBytes s (Reg.CEL_I2C_DATA.DATA n)) 0 k)) } ∧
          Confined [.cel] (only [Reg.CEL_I2C_STAT.BUSY n, Reg.CEL_I2C_STAT.NACK n, Reg.CEL_I2C_STAT.ARB_LOST n,
            Reg.CEL_I2C_STAT.DONE n]) s t) ∧
      (∀ (nack arb : Bool) (bs : List Byte), ∀ cmd : Nat, cmd = Tbl.get s.cel.i2cCmd n 0 → inputOn s 4 (2 * n + 1) = true →
        bit cmd 7 = true → ∀ k : Nat, k = min done (min 64 (bits cmd 8 7)) → 9 * (k + 1) ≤ i2cBits s n ∨ arb = true →
        Runs (.i2cCommandDone n done nack arb bs) s fun t =>
          t.rd (Reg.CEL_I2C_STAT.BUSY n) = 0 ∧ t.rd (Reg.CEL_I2C_STAT.DONE n) = k ∧
          (∀ i, i < k → (dataBytes t (Reg.CEL_I2C_DATA.DATA n))[i]? = some ((slice bs 0 k).getD i 0)) ∧
          t.cel = { s.cel with cmdSent := Tbl.set s.cel.cmdSent n [BitVec.ofNat 8 (2 * bits cmd 0 7 + 1)] } ∧
          Confined [.cel] (only ([Reg.CEL_I2C_STAT.BUSY n, Reg.CEL_I2C_STAT.NACK n, Reg.CEL_I2C_STAT.ARB_LOST n,
            Reg.CEL_I2C_STAT.DONE n] ++ (List.range 16).map (Reg.CEL_I2C_DATA.DATA n))) s t) ∧
      (inputOn s 4 (2 * n) = true → Runs (.i2cTimeout n done) s fun t =>
        t.rd (Reg.CEL_I2C_STAT.BUSY n) = 0 ∧ t.rd (Reg.CEL_I2C_STAT.TIMEOUT n) = 1 ∧
        t.rd (Reg.CEL_I2C_STAT.DONE n) = min done (min 64 (bits (Tbl.get s.cel.i2cCmd n 0) 8 7)) ∧
        Logs s t 236 0x2007 n (bits (Tbl.get s.cel.i2cCmd n 0) 0 7) (min done (min 64 (bits (Tbl.get s.cel.i2cCmd n 0) 8 7))) ∧
        Confined [.log] (only [Reg.CEL_I2C_STAT.BUSY n, Reg.CEL_I2C_STAT.TIMEOUT n, Reg.CEL_I2C_STAT.DONE n,
          Reg.LOG_LOST_DROP.COUNT]) s t)) ∧
    (s.flag (Reg.CEL_SPI_STAT.BUSY n) = true → ∀ bs : List Byte, ∀ cmd : Nat, cmd = Tbl.get s.cel.spiCmd n 0 →
      Tbl.get s.cel.cmdAt (2 + n) 0 + spiTicks cmd ≤ s.now → Runs (.spiCommandDone n bs) s fun t =>
        t.rd (Reg.CEL_SPI_STAT.BUSY n) = 0 ∧
        t.cel = { s.cel with
          cmdSent := Tbl.set s.cel.cmdSent (2 + n) (slice (dataBytes s (Reg.CEL_SPI_DATA.DATA n)) 0 (min 64 (bits cmd 0 7))),
          spiCs := if bit cmd 24 = true then s.cel.spiCs else Tbl.erase s.cel.spiCs n } ∧
        (∀ i, i < min 64 (bits cmd 0 7) → (dataBytes t (Reg.CEL_SPI_DATA.DATA n))[i]? =
          some (if inputOn s 5 (8 * n + 2) = true then (slice bs 0 (min 64 (bits cmd 0 7))).getD i 0 else 0)) ∧
        Confined [.cel] (only (Reg.CEL_SPI_STAT.BUSY n :: (List.range 16).map (Reg.CEL_SPI_DATA.DATA n))) s t)

/-- AUDIO_SAMPLE, AUDIO_FRAME_BOUNDARY, AUDIO_RING_READ, SPOTTER_SCORE, SPOT_ENABLE, CONSOLE_TIMEOUT, VERIFY_REQUEST, VERIFY_COMPLETION
and VERIFY_TIMEOUT (15 R692-R695, R702-R707, R710-R716): samples with their gain in the rings, the features taken at a frame boundary,
the scores and what a detection records, the check before the spotter is enabled, and how a verification is asked for and ends. -/
def Obligations.CellarServices : Prop :=
  (∀ (s : State) (x0 x1 : Int), s.awake → s.flag Reg.CEL_AUDIO_CFG.EN = true → sampleDue s = true →
    Runs (.audioSample x0 x1) s fun t =>
    t.svc.count = s.svc.count + 1 ∧
    t.svc.sampleAt = (if s.pw.clk = CellarClk.rc then s.now else s.svc.sampleAt + sampleTicks s) ∧ t.rd Reg.CEL_AUDIO_SAMPLES.SAMPLE_CNT = (s.svc.count + 1) % 2 ^ 32 ∧
    (∀ y0 : Int, y0 = clampI (-32768) 32767 (x0 * (2 ^ micGain s 0 : Nat)) →
      ∀ y1 : Int, y1 = clampI (-32768) 32767 (x1 * (2 ^ micGain s 1 : Nat)) →
      (bit (s.rd Reg.CEL_AUDIO_CFG.MIC_EN) 0 = true → bit (s.rd Reg.CEL_AUDIO_CFG.MIC_EN) 1 = true →
        t.svc.rings = Mem.writeN (Mem.writeN s.svc.rings (2 * (s.svc.count % 32768)) (leBytes 2 (ofInt y0 16)))
          (0x10000 + 2 * (s.svc.count % 32768)) (leBytes 2 (ofInt y1 16))) ∧
      (bit (s.rd Reg.CEL_AUDIO_CFG.MIC_EN) 0 = false → bit (s.rd Reg.CEL_AUDIO_CFG.MIC_EN) 1 = false → t.svc.rings = s.svc.rings) ∧
      (t.rd (Reg.CEL_AUDIO_CLIP.COUNT 0) = if bit (s.rd Reg.CEL_AUDIO_CFG.MIC_EN) 0 = true ∧ y0 ≠ x0 * (2 ^ micGain s 0 : Nat) then
        min (2 ^ 32 - 1) (s.rd (Reg.CEL_AUDIO_CLIP.COUNT 0) + 1) else s.rd (Reg.CEL_AUDIO_CLIP.COUNT 0)) ∧
      (t.rd (Reg.CEL_AUDIO_CLIP.COUNT 1) = if bit (s.rd Reg.CEL_AUDIO_CFG.MIC_EN) 1 = true ∧ y1 ≠ x1 * (2 ^ micGain s 1 : Nat) then
        min (2 ^ 32 - 1) (s.rd (Reg.CEL_AUDIO_CLIP.COUNT 1) + 1) else s.rd (Reg.CEL_AUDIO_CLIP.COUNT 1))) ∧
    (s.svc.ver = none → t.svc.ver = none ∧ t.rd Reg.CEL_WAKE_REC.VSTATE = s.rd Reg.CEL_WAKE_REC.VSTATE) ∧
    (∀ v : Verify, s.svc.ver = some v →
      (32769 - verLen s < ((s.svc.count + 1) % 2 ^ 32 + 2 ^ 32 - v.sample) % 2 ^ 32 →
        t.svc.ver = none ∧ t.rd Reg.CEL_WAKE_REC.VSTATE = 5) ∧
      (((s.svc.count + 1) % 2 ^ 32 + 2 ^ 32 - v.sample) % 2 ^ 32 ≤ 32769 - verLen s →
        t.svc.ver = some v ∧ t.rd Reg.CEL_WAKE_REC.VSTATE = s.rd Reg.CEL_WAKE_REC.VSTATE)) ∧
    Confined [.svc, .log] (only [Reg.CEL_AUDIO_SAMPLES.SAMPLE_CNT, Reg.CEL_AUDIO_CLIP.COUNT 0, Reg.CEL_AUDIO_CLIP.COUNT 1,
      Reg.CEL_WAKE_REC.VSTATE, Reg.CEL_WAKE_REC.VSCORE, Reg.LOG_LOST_DROP.COUNT]) s t) ∧
  (∀ s : State, s.awake → s.flag Reg.CEL_AUDIO_CFG.EN = true → s.svc.count % 160 = 0 → s.svc.frames < s.svc.count / 160 →
    Runs .audioFrameBoundary s fun t => t.svc.frames = s.svc.count / 160 ∧
      t.svc.feats = (if s.flag Reg.CEL_SPOT_CFG.EN = true then
        (s.svc.feats ++ [features s]).drop (s.svc.feats.length + 1 - 100) else s.svc.feats) ∧
      t.svc.lastDet = s.svc.lastDet.map (· + 1) ∧
      t.svc.rings = s.svc.rings ∧ t.svc.count = s.svc.count ∧ Confined [.svc] (only []) s t) ∧
  (∀ (s : State) (rq : Requester) (o n : Nat), s.awake → o < 0x20000 →
    (o % 4 = 0 → n % 4 = 0 → 4 ≤ n → n ≤ 256 → o / 0x10000 = (o + n - 1) / 0x10000 → Runs (.audioRingRead rq false o n) s fun t =>
      t.resp = { value := leNat (Mem.readN s.svc.rings o n) } ∧ Confined [.resp] (only []) s t) ∧
    Runs (.audioRingRead rq true o n) s fun t => t.resp = { busError := true } ∧
      Logs s t 235 0x2016 (0x40000 + o) 1 rq.ni ∧ Confined [.resp, .log] (only [Reg.LOG_LOST_DROP.COUNT]) s t) ∧
  (∀ (s : State) (sc : Nat), s.awake → s.flag Reg.CEL_SPOT_CFG.EN = true → s.svc.scored < s.svc.frames →
    modelNum s 5 1 ≤ s.svc.feats.length → sc = spotScore s →
    (sc < s.rd Reg.CEL_SPOT_CFG.THRESH ∨ (∃ d, s.svc.lastDet = some d ∧ d < s.rd Reg.CEL_SPOT_CFG.REFRACT) → Runs .spotterScore s fun t =>
      t.svc = { s.svc with scored := s.svc.frames } ∧ t.rd Reg.CEL_SPOT_STAT.SCORE = sc % 256 ∧
      Confined [.svc] (only [Reg.CEL_SPOT_STAT.SCORE]) s t) ∧
    (s.rd Reg.CEL_SPOT_CFG.THRESH ≤ sc → (∀ d ∈ s.svc.lastDet, s.rd Reg.CEL_SPOT_CFG.REFRACT ≤ d) → s.svc.ver = none →
      (s.flag Reg.CEL_VER_CFG.EN = false ∨ (s.rd Reg.CEL_AUDIO_SAMPLES.SAMPLE_CNT + 2 ^ 32 - (160 * s.svc.frames - 1) % 2 ^ 32) %
        2 ^ 32 ≤ 32769 - verLen s) → Runs .spotterScore s fun t =>
      t.rd Reg.CEL_SPOT_STAT.SCORE = sc % 256 ∧ t.rd Reg.CEL_WAKE_REC.SCORE = sc % 256 ∧
      t.rd Reg.CEL_WAKE_SEQ.SEQ = min (2 ^ 32 - 1) (s.rd Reg.CEL_WAKE_SEQ.SEQ + 1) ∧
      t.rd Reg.CEL_WAKE_SAMPLE.SAMPLE = (160 * s.svc.frames - 1) % 2 ^ 32 ∧ t.rd Reg.CEL_WAKE_REC.MODE = s.mode % 8 ∧
      t.rd Reg.CEL_WAKE_REC.VSTATE = (if s.flag Reg.CEL_VER_CFG.EN = true then 1 else 0) ∧ t.rd Reg.CEL_WAKE_REC.VSCORE = 0 ∧
      t.svc.lastDet = some 0 ∧ t.svc.scored = s.svc.frames ∧
      t.svc.console = some (s.now + seconds (60 * max 1 (s.rd Reg.CEL_WAKE_CFG.CONSOLE_MIN))) ∧
      t.svc.ver = (if s.flag Reg.CEL_VER_CFG.EN = true then some ⟨(160 * s.svc.frames - 1) % 2 ^ 32,
        s.rd Reg.CEL_SPOT_CFG.MIC_SEL, none, s.mode == 3⟩ else none) ∧
      t.cel = { s.cel with audioIrq := true, wake := (if s.mode = 2 ∧ bit (s.rd Reg.SYS_WAKE_EN.SOURCES) 0 = true then
        setBit s.cel.wake 0 else s.cel.wake) } ∧
      Logs s t 235 0x2010 (t.rd Reg.CEL_WAKE_SEQ.SEQ) ((160 * s.svc.frames - 1) % 2 ^ 32) (sc + 256 * s.mode) ∧
      Confined [.svc, .cel, .log] (only [Reg.CEL_SPOT_STAT.SCORE, Reg.CEL_WAKE_REC.SCORE, Reg.CEL_WAKE_SEQ.SEQ,
        Reg.CEL_WAKE_SAMPLE.SAMPLE, Reg.CEL_WAKE_REC.MODE, Reg.CEL_WAKE_REC.VSTATE, Reg.CEL_WAKE_REC.VSCORE,
        Reg.LOG_LOST_DROP.COUNT]) s t)) ∧
  (∀ (s : State) (rq : Requester) (d : Nat), s.awake → passes (.spotEnable rq d) s = true → bits d 1 2 ≤ 2 →
    (bit d 0 = true → s.flag Reg.CEL_SPOT_CFG.EN = false → keywordReason s ≠ 0 → Runs (.spotEnable rq d) s fun t =>
      t.resp = {} ∧ t.rd Reg.CEL_SPOT_CFG.EN = s.rd Reg.CEL_SPOT_CFG.EN ∧ t.rd Reg.CEL_SPOT_STAT.REASON = keywordReason s ∧
      Logs s t 235 0x2015 (keywordReason s) (modelNum s 0 4) rq.ni ∧
      Confined [.resp, .log] (only [Reg.CEL_SPOT_CFG.MIC_SEL, Reg.CEL_SPOT_CFG.THRESH, Reg.CEL_SPOT_CFG.REFRACT,
        Reg.CEL_SPOT_STAT.REASON, Reg.LOG_LOST_DROP.COUNT]) s t) ∧
    (bit d 0 = false ∨ s.flag Reg.CEL_SPOT_CFG.EN = true ∨ keywordReason s = 0 → Runs (.spotEnable rq d) s fun t =>
      t.resp = {} ∧ t.rd Reg.CEL_SPOT_CFG.EN = bits d 0 1 ∧ t.rd Reg.CEL_SPOT_CFG.MIC_SEL = bits d 1 2 ∧
      t.rd Reg.CEL_SPOT_CFG.THRESH = bits d 8 8 ∧ t.rd Reg.CEL_SPOT_CFG.REFRACT = bits d 16 16 ∧
      Confined [.resp] (only [Reg.CEL_SPOT_CFG.EN, Reg.CEL_SPOT_CFG.MIC_SEL, Reg.CEL_SPOT_CFG.THRESH,
        Reg.CEL_SPOT_CFG.REFRACT]) s t)) ∧
  (∀ (s : State) (e : Nat), s.awake → s.svc.console = some e → e ≤ s.now → Runs .consoleTimeout s fun t =>
    t.svc = { s.svc with console := none } ∧ Confined [.svc] (only []) s t) ∧
  (∀ (s : State), s.awake → ∀ v : Verify, s.svc.ver = some v →
    (v.request = none → s.mode = 3 → 3 ≤ s.tier → s.flag Reg.STR_CTRL.EN = true → s.flag Reg.CEL_VER_CFG.READY = true →
      Runs .verifyRequest s fun t => t.svc = { s.svc with ver := some { v with request := some s.now, seenRun := true } } ∧
        Confined [.svc, .str, .mem, .log] (queued []) s t) ∧
    ∀ at_ : Nat, v.request = some at_ →
      (at_ + 491520 * max 1 (s.rd Reg.CEL_VER_LEN.TIMEOUT_MS) ≤ s.now → Runs .verifyTimeout s fun t =>
        t.svc = { s.svc with ver := none } ∧ t.rd Reg.CEL_WAKE_REC.VSTATE = 6 ∧ t.rd Reg.CEL_WAKE_REC.VSCORE = 0 ∧
        Logs s t 235 0x2011 (s.rd Reg.CEL_WAKE_SEQ.SEQ) 6 0 ∧
        Confined [.svc, .log] (only [Reg.CEL_WAKE_REC.VSTATE, Reg.CEL_WAKE_REC.VSCORE, Reg.LOG_LOST_DROP.COUNT]) s t) ∧
      ∀ q : Nat, q = s.rd Reg.CEL_VER_CFG.CQ → s.flag Reg.CEL_VER_CFG.EN = true → 3 ≤ s.tier → s.mem.larderBad = [] →
        (s.q q).marks ≠ [] → (s.q q).cut = false → ∀ w : List Byte, w = s.bytesAt (qBase s q + 8 * (s.q q).head) 8 →
        field w 0 2 = s.rd Reg.CEL_WAKE_SEQ.SEQ % 65536 →
        (field w 2 1 ≠ 0 → Runs .verifyCompletion s fun t =>
          (t.q q).marks = (s.q q).marks.drop 1 ∧ t.svc = { s.svc with ver := none } ∧ t.rd Reg.CEL_WAKE_REC.VSTATE = 6 ∧
          Logs s t 235 0x2011 (s.rd Reg.CEL_WAKE_SEQ.SEQ) 6 0 ∧
          Confined [.svc, .str, .log] (only [Reg.CEL_WAKE_REC.VSTATE, Reg.CEL_WAKE_REC.VSCORE, Reg.LOG_LOST_DROP.COUNT]) s t) ∧
        (field w 2 1 = 0 → ∀ (u : State) (bs : List Byte), (popSlot s q).1.busRead cellarCore
            (s.rdPair Reg.CEL_VER_ADDR_LO.ADDR Reg.CEL_VER_ADDR_HI.ADDR) 8 = (u, some (bs, false)) →
          leNat bs % 65536 = s.rd Reg.CEL_WAKE_SEQ.SEQ % 65536 → u.rd Reg.CEL_WAKE_SEQ.SEQ = s.rd Reg.CEL_WAKE_SEQ.SEQ →
          Runs .verifyCompletion s fun t =>
            t.rd Reg.CEL_WAKE_REC.VSTATE = (if bit (leNat bs) 16 = true then 2 else 3) ∧
            t.rd Reg.CEL_WAKE_REC.VSCORE = bits (leNat bs) 24 8 ∧ t.svc.ver = none ∧
            t.svc.console = (if bit (leNat bs) 16 = true then u.svc.console else none)))

/-- TETHER_FRAME_RECEIVE, TETHER_REPLAY_TIMEOUT, TETHER_TRAINED, TETHER_TRAIN_RETRY, TETHER_LOCK_LOST, MOVE_POST, MOVE_WRITE,
MOVE_READ, MOVE_PUSH and MOVE_COMPLETE (16 R729-R733, R754-R756): frames accepted in sequence or counted and answered by NAK, replays
and the sixteenth that takes the link down, training, and how a mover descriptor is taken, carried out and completed. -/
def Obligations.TetherLinksAndMover : Prop :=
  (∀ (s : State) (p fec : Nat) (f : List Byte), s.awake → p < 4 → 2 ≤ portState s p → f.length = 88 → 1 ≤ bits (field f 0 2) 12 4 →
    bits (field f 0 2) 12 4 ≤ 3 →
    ∀ x : Tether, x = s.tether p → ∀ fl : List Fld, fl = [Reg.GRP_TETHER_FEC_CE.COUNT p, Reg.GRP_TETHER_CRC.COUNT p] →
    ∀ rx : List TetherIn, rx = x.rx ++ [⟨bits (field f 0 2) 12 4, bits (field f 2 2) 12 2, slice f 4 80⟩] →
    (field f 84 4 = crc32 (slice f 0 84) → bits (field f 0 2) 0 12 = x.next → bit (field f 2 2) 14 = false →
      Runs (.tetherFrameReceive p f fec) s fun t =>
        t.tether p = takeAck s.ck.time { x with next := (x.next + 1) % 4096, nak := false, nakSent := false, rx := rx }
          (bits (field f 2 2) 0 12) ∧
        (∀ q, q < 4 → q ≠ p → t.tether q = s.tether q) ∧ t.grp = { s.grp with ports := t.grp.ports } ∧
        t.rd (Reg.GRP_TETHER_FEC_CE.COUNT p) = min (2 ^ 32 - 1) (s.rd (Reg.GRP_TETHER_FEC_CE.COUNT p) + fec) ∧
        t.rd (Reg.GRP_TETHER_CRC.COUNT p) = s.rd (Reg.GRP_TETHER_CRC.COUNT p) ∧ Confined [.grp] (only fl) s t) ∧
    (field f 84 4 ≠ crc32 (slice f 0 84) ∨ bits (field f 0 2) 0 12 ≠ x.next → Runs (.tetherFrameReceive p f fec) s fun t =>
      t.tether p = { x with nak := x.nak || !x.nakSent, nakSent := true } ∧
      (∀ q, q < 4 → q ≠ p → t.tether q = s.tether q) ∧ t.grp = { s.grp with ports := t.grp.ports } ∧
      t.rd (Reg.GRP_TETHER_CRC.COUNT p) = min (2 ^ 32 - 1) (s.rd (Reg.GRP_TETHER_CRC.COUNT p) + 1) ∧
      Confined [.grp] (only fl) s t)) ∧
  (∀ (s : State) (p : Nat), s.awake → p < 4 → ∀ x : Tether, x = s.tether p → 2 ≤ portState s p →
    (983 ≤ (s.ck.time - x.ackAt).toNat → x.unacked ≠ [] → x.replays < 15 → Runs (.tetherReplayTimeout p) s fun t =>
      t.tether p = { x with replays := x.replays + 1, replayed := x.unacked, nak := false, ackAt := s.ck.time } ∧
      (∀ q, q < 4 → q ≠ p → t.tether q = s.tether q) ∧
      t.rd (Reg.GRP_TETHER_RETRY.COUNT p) = min (2 ^ 32 - 1) (s.rd (Reg.GRP_TETHER_RETRY.COUNT p) + 1) ∧
      Confined [.grp] (only [Reg.GRP_TETHER_RETRY.COUNT p]) s t) ∧
    (983 ≤ (s.ck.time - x.ackAt).toNat → x.unacked ≠ [] → 15 ≤ x.replays → isLeader s = false →
      Runs (.tetherReplayTimeout p) s fun t =>
        t.tether p = { rx := x.rx, ackAt := s.ck.time } ∧ portState t p = 1 ∧
        t.grp.moves = s.grp.moves.map (fun m =>
          if m.status.isNone && routeTo s m.member == p then { m with status := some 4 } else m) ∧
        t.rd (Reg.GRP_TETHER_DOWN.COUNT p) = min (2 ^ 32 - 1) (s.rd (Reg.GRP_TETHER_DOWN.COUNT p) + 1) ∧
        Logs s t (224 + p) 0x2402 p (t.rd (Reg.GRP_TETHER_RETRY.COUNT p)) 0 ∧
        Confined [.grp, .log] (only [Reg.GRP_TETHER_RETRY.COUNT p, Reg.GRP_TETHER_DOWN.COUNT p, Reg.GRP_TETHER_STAT.STATE p,
          Reg.LOG_LOST_DROP.COUNT]) s t) ∧
    (isLeader s = false → Runs (.tetherLockLost p) s fun t =>
      t.tether p = { rx := x.rx, ackAt := s.ck.time } ∧ (∀ q, q < 4 → q ≠ p → t.tether q = s.tether q) ∧ portState t p = 1 ∧
      t.grp.moves = s.grp.moves.map (fun m =>
        if m.status.isNone && routeTo s m.member == p then { m with status := some 4 } else m) ∧
      t.rd (Reg.GRP_TETHER_DOWN.COUNT p) = min (2 ^ 32 - 1) (s.rd (Reg.GRP_TETHER_DOWN.COUNT p) + 1) ∧
      Logs s t (224 + p) 0x2402 p (s.rd (Reg.GRP_TETHER_RETRY.COUNT p)) 1 ∧
      Confined [.grp, .log] (only [Reg.GRP_TETHER_DOWN.COUNT p, Reg.GRP_TETHER_STAT.STATE p, Reg.LOG_LOST_DROP.COUNT]) s t)) ∧
  (∀ (s : State) (p : Nat), s.awake → p < 4 → portState s p = 1 →
    ∀ h : GrpMsg, h = .hello (slice (groupBody s) 0 48) s.ownMember p →
    (inGroup s = true → Runs (.tetherTrained p) s fun t =>
      t.tether p = { seq := 1, ackAt := s.ck.time, rx := (s.tether p).rx, unacked := [{ seq := 0, type := 2, member := 8, msg := h }] } ∧ portState t p = 2 ∧
      (∀ q, q < 4 → q ≠ p → t.tether q = s.tether q) ∧ Confined [.grp] (only [Reg.GRP_TETHER_STAT.STATE p]) s t) ∧
    (24576000 ≤ (s.ck.time - (s.tether p).ackAt).toNat → Runs (.tetherTrainRetry p) s fun t =>
      t.tether p = { s.tether p with ackAt := s.ck.time } ∧ (∀ q, q < 4 → q ≠ p → t.tether q = s.tether q) ∧
      Confined [.grp] (only []) s t)) ∧
  (∀ (s : State) (rq : Requester) (d : Nat), s.awake → passes (.movePost rq d) s = true →
    ∀ v : State, v = s.wr Reg.GRP_MOVE_POST_HI.ADDR d → ∀ (u : State) (bs : List Byte) (bad : Bool),
    v.busRead ⟨40, 0⟩ (v.rdPair Reg.GRP_MOVE_POST_LO.ADDR Reg.GRP_MOVE_POST_HI.ADDR) 32 = (u, some (bs, bad)) →
    ∀ st : Option Nat, st = (if moveOk s.ownMember bs (readMove bs) = true ∧ moveAllowed s (readMove bs) = true then none else some 1) →
    Runs (.movePost rq d) s fun t =>
      t.grp = { u.grp with moves := u.grp.moves ++ [{ readMove bs with status := st }] } ∧
      t.resp = {} ∧ t.rd Reg.GRP_MOVE_POST_HI.ADDR = d % 2 ^ Reg.GRP_MOVE_POST_HI.ADDR.w ∧
      Confined [.grp, .resp] (only []) u t) ∧
  (∀ (s : State) (rq : Requester) (d : Nat), s.awake → passes (.movePost rq d) s = true →
    ∀ v : State, v = s.wr Reg.GRP_MOVE_POST_HI.ADDR d → ∀ u : State,
    v.busRead ⟨40, 0⟩ (v.rdPair Reg.GRP_MOVE_POST_LO.ADDR Reg.GRP_MOVE_POST_HI.ADDR) 32 = (u, none) →
    Runs (.movePost rq d) s fun t => t.resp = {} ∧ Logs u t 224 0x240F 0 3 0 ∧
      Confined [.log, .resp] (only [Reg.LOG_LOST_DROP.COUNT]) u t) ∧
  (∀ (s u : State) (m : Move) (bs : List Byte) (remote : Nat), s.awake → nextMove s 1 = some m →
    s.busRead ⟨40, m.qclass⟩ m.local_ m.length = (u, some (bs, false)) → Runs (.moveWrite remote) s fun t =>
      t.grp.moves = setMove 1 (fun m => { m with status := some (remoteStatus remote), data := bs }) 16 u.grp.moves ∧
      (∀ p : Nat, p = routeTo u m.member → p < 4 → (u.tether p).hello = true → t.tether p =
        launch u.ck.time (u.tether p) { seq := 0, type := 1, member := m.member, msg := .request true m.qclass m.remote bs }) ∧
      Confined [.grp] (only []) u t) ∧
  (∀ (s u : State) (m : Move) (bs : List Byte) (remote : Nat), s.awake → nextMove s 3 = some m →
    s.busRead ⟨40, m.qclass⟩ m.local_ m.length = (u, some (bs, false)) → Runs (.movePush remote) s fun t =>
      t.grp.moves = setMove 3 (fun m => { m with status := some (remoteStatus remote), data := bs }) 16 u.grp.moves ∧
      (∀ p : Nat, p = routeTo u m.member → p < 4 → (u.tether p).hello = true → t.tether p =
        launch u.ck.time (u.tether p) { seq := 0, type := 1, member := m.member, msg := .push m.qclass m.queue bs }) ∧
      Confined [.grp] (only []) u t) ∧
  (∀ (s : State) (m : Move) (bytes : List Byte) (remote : Nat), s.awake → nextMove s 2 = some m →
    (remote = 2 ∨ remote = 4 → Runs (.moveRead remote bytes) s fun t =>
      t.grp.moves = setMove 2 (fun m => { m with status := some remote, data := [] }) 16 s.grp.moves ∧
      Confined [.grp] (only []) s t) ∧
    (remote ≠ 2 → remote ≠ 4 → ∀ v : State, v = sendMember s m.member 1 (.request false m.qclass m.remote []) →
      ∀ (u : State) (ok : Bool), v.busWrite ⟨40, m.qclass⟩ m.local_ (slice bytes 0 m.length) = (u, ok) → ∀ st n : Nat, st = (if ok then 0 else 3) →
      n = m.length → Runs (.moveRead remote bytes) s fun t =>
        t.grp.moves = setMove 2 (fun m => { m with status := some st, data := slice bytes 0 n }) 16 u.grp.moves ∧
        Confined [.grp] (only []) u t)) ∧
  ∀ (s : State) (m : Move) (st : Nat) (ms : List Move), s.awake → takeDone s.grp.moves = some (m, st, ms) →
    Runs .moveComplete s fun t => t.grp = { s.grp with moves := ms } ∧
      (st = 0 → t = pushPacket { s with grp := { s.grp with moves := ms } } (m.cq % 128) (leBytes 8 (m.tag + 65536 * st)) 40) ∧
      (st ≠ 0 → Logs (pushPacket { s with grp := { s.grp with moves := ms } } (m.cq % 128) (leBytes 8 (m.tag + 65536 * st)) 40) t
        224 0x240F m.tag st m.member) ∧
      Confined [.grp, .str, .mem, .log] (queued []) s t

/-- GROUP_FORM_START, HELLO, MANIFEST, ADMIT, BENCH, YIELD, DISSOLVE, JOINED, RESEND, GRP_FORM_TIMEOUT, TIME_EXCHANGE, GRP_RESET and
TETHER_GROUP_RESET (16 R737-R753, R757, R758): forming a group, what the leader judges and what its answer does at a member, group
time and the exclusion of a member out of its limit, and the group's resets. -/
def Obligations.GroupFormingAndReset : Prop :=
  (∀ s : State, s.awake → s.pw.step = 12 → inGroup s = true → grpState s = 0 → isMember s = true ∨
      (∃ k ∈ declared s, k ∉ s.grp.answered) → Runs .groupFormStart s fun t =>
    grpState t = (if s.ownMember = 0 then 2 else 1) ∧ t.rd Reg.GRP_STAT.INCLUDED = (if s.ownMember = 0 then 1 else 0) ∧
    t.rd Reg.GRP_STAT.ROLE = groupRole (groupBody s) s.ownMember % 2 ^ Reg.GRP_STAT.ROLE.w ∧
    t.rd Reg.GRP_STAT.MEMBER = s.ownMember % 2 ^ Reg.GRP_STAT.MEMBER.w ∧ t.grp = { s.grp with formAt := s.ck.time } ∧
    Confined [.grp] (only [Reg.GRP_STAT.STATE, Reg.GRP_STAT.INCLUDED, Reg.GRP_STAT.ROLE, Reg.GRP_STAT.MEMBER]) s t) ∧
  (∀ (s : State) (p h q e : Nat) (id : List Byte), s.awake → p < 4 → h < 8 → q < 4 → 2 ≤ portState s p → inGroup s = true →
    ∀ fl : List Fld, fl = [Reg.GRP_TETHER_STAT.STATE p, Reg.GRP_TETHER_STAT.PEER_MEMBER p, Reg.GRP_TETHER_STAT.PEER_PORT p,
      Reg.LOG_LOST_DROP.COUNT] →
    (id ≠ slice (groupBody s) 0 48 → Runs (.hello p id h q e) s fun t =>
      portState t p = 3 ∧ t.tether p = { s.tether p with hello := false } ∧ Logs s t (224 + p) 0x2403 p 1 h ∧
      Confined [.grp, .log] (only fl) s t) ∧
    (id = slice (groupBody s) 0 48 → h = 0 → s.ownMember = 0 → Runs (.hello p id h q e) s fun t =>
      portState t p = 3 ∧ t.tether p = { s.tether p with hello := false } ∧
      Logs s t (224 + p) 0x240B p (field (groupBody s) 48 4) e ∧ Confined [.grp, .log] (only fl) s t) ∧
    (id = slice (groupBody s) 0 48 → h ≠ 0 ∨ s.ownMember ≠ 0 → groupPort (groupBody s) s.ownMember p ≠ 128 + 16 * h + q →
      Runs (.hello p id h q e) s fun t =>
        portState t p = 3 ∧ t.tether p = { s.tether p with hello := false } ∧ Logs s t (224 + p) 0x2403 p 2 h ∧
        Confined [.grp, .log] (only fl) s t) ∧
    (id = slice (groupBody s) 0 48 → h ≠ 0 ∨ s.ownMember ≠ 0 → groupPort (groupBody s) s.ownMember p = 128 + 16 * h + q →
      Runs (.hello p id h q e) s fun t =>
        portState t p = 2 ∧ t.rd (Reg.GRP_TETHER_STAT.PEER_MEMBER p) = h ∧ t.rd (Reg.GRP_TETHER_STAT.PEER_PORT p) = q ∧
        (isMember s = false ∨ routeTo s 0 ≠ p → t.tether p = { s.tether p with hello := true }) ∧
        (isMember s = true → routeTo s 0 = p → t.tether p = launch s.ck.time { s.tether p with hello := true }
          { seq := 0, type := 2, member := 0, msg := .manifest (ownManifest s) }) ∧
        Logs s t (224 + p) 0x2401 p h q ∧ Confined [.grp, .log] (only fl) s t)) ∧
  (∀ (s : State) (dev h row : Nat) (m : List Byte), s.awake → isLeader s = true → grpState s = 2 → h = manifestMember m → h < 8 →
    row = verdict s dev m →
    (row = 1 → Runs (.manifest dev m) s fun t => t.rd (Reg.GRP_MEMBER.VERDICT h) = 1 ∧ Logs s t 224 0x240A h (field m 0 4) 0 ∧
      Confined [.log] (only [Reg.GRP_MEMBER.VERDICT h, Reg.LOG_LOST_DROP.COUNT]) s t) ∧
    (s.pw.step ≠ 12 ∨ (∃ k ∈ declared s, k ≠ h ∧ k ∉ s.grp.answered) →
      ∀ fl : List Fld, fl = [Reg.GRP_MEMBER.VERDICT h, Reg.GRP_MEMBER.YIELDS h, Reg.GRP_MEMBERS.ADMITTED, Reg.GRP_MEMBERS.BENCHED,
        Reg.GRP_MEMBERS.LOST, Reg.GRP_STAT.BEHIND, Reg.CFG_CHAIN_STAT.SENT, Reg.LOG_LOST_DROP.COUNT] →
      (row = 8 → Runs (.manifest dev m) s fun t =>
        t.rd (Reg.GRP_MEMBER.VERDICT h) = 8 ∧ t.rd Reg.GRP_MEMBERS.ADMITTED = (s.rd Reg.GRP_MEMBERS.ADMITTED ||| 2 ^ h) % 2 ^ 8 ∧
        bit (t.rd Reg.GRP_MEMBERS.BENCHED) h = false ∧ bit (t.rd Reg.GRP_MEMBERS.LOST) h = false ∧
        Logs s t 224 0x2404 h (groupRole (groupBody s) h) (field m 16 4) ∧ Confined [.grp, .cfg, .log] (only fl) s t) ∧
      (row = 3 → Runs (.manifest dev m) s fun t =>
        t.rd (Reg.GRP_MEMBER.YIELDS h) = min (2 ^ (Reg.GRP_MEMBER.YIELDS h).w - 1) (s.rd (Reg.GRP_MEMBER.YIELDS h) + 1) ∧
        t.rd Reg.GRP_MEMBERS.ADMITTED = s.rd Reg.GRP_MEMBERS.ADMITTED ∧
        Logs s t 224 0x2406 h (field m 16 4) (t.rd (Reg.GRP_MEMBER.YIELDS h)) ∧ Confined [.grp, .cfg, .log] (only fl) s t) ∧
      (row = 4 ∨ row = 5 → Runs (.manifest dev m) s fun t =>
        t.rd Reg.GRP_MEMBERS.BENCHED = (s.rd Reg.GRP_MEMBERS.BENCHED ||| 2 ^ h) % 2 ^ 8 ∧
        bit (t.rd Reg.GRP_MEMBERS.ADMITTED) h = false ∧ (row = 5 → t.rd Reg.GRP_STAT.BEHIND = 1) ∧
        Logs s t 224 0x2405 h (row - 2) (field m 16 4) ∧ Confined [.grp, .cfg, .log] (only fl) s t)) ∧
    (row = 8 → s.pw.step = 12 → (∀ k ∈ declared s, k = h ∨ k ∈ s.grp.answered) → Runs (.manifest dev m) s fun t =>
      bit (t.rd Reg.GRP_MEMBERS.ADMITTED) h = true ∧ t.pw.step = 0 ∧ t.rd Reg.SYS_PWR_MODE.MODE = 3)) ∧
  (∀ (s : State) (w : Nat), s.awake → isMember s = true → ∀ fl : List Fld, fl = [Reg.GRP_STAT.STATE, Reg.GRP_MEMBERS.ADMITTED,
      Reg.GRP_MEMBERS.BENCHED, Reg.GRP_MEMBERS.LOST] →
    ∀ P : Nat → State → Prop, P = (fun st t => grpState t = st ∧ t.rd Reg.GRP_MEMBERS.ADMITTED = bits w 0 8 ∧
      t.rd Reg.GRP_MEMBERS.BENCHED = bits w 8 8 ∧ t.rd Reg.GRP_MEMBERS.LOST = bits w 16 8 ∧
      (s.pw.step ≠ 12 → Confined [.rad] (only fl) s t) ∧ (s.pw.step = 12 → t.pw.step = 0 ∧ t.rd Reg.SYS_PWR_MODE.MODE = 3)) →
    Runs (.admitMsg w) s (P 2) ∧ Runs (.bench w) s (P 3)) ∧
  (∀ (s : State) (late : Nat), s.awake → isMember s = true →
    (Runs (.yield late) s fun t => AfterWarmReset s t 3 ∧ t.yielded = true) ∧
    Runs (.tetherGroupReset 0 late) s fun t => AfterWarmReset s t 3 ∧ t.yielded = s.yielded) ∧
  (∀ (s : State) (k r : Nat), s.awake → isMember s = true → s.pw.step ≠ 12 → Runs (.dissolve k r) s fun t =>
    grpState t = 5 ∧ Logs s t 224 0x2407 k r s.ownMember ∧ (s.flag Reg.RAD_STAT.RELEASED = false → t.rad = s.rad) ∧
    Confined [.rad, .log] (only [Reg.GRP_STAT.STATE, Reg.LOG_LOST_DROP.COUNT]) s t) ∧
  (∀ s : State, s.awake → inGroup s = true →
    (Runs .joined s fun t => t.cfg = { s.cfg with chainStop := true } ∧ Confined [.cfg] (only []) s t) ∧
    Runs .resend s fun t => t.cfg = { s.cfg with chainSent := 0, chainStop := false } ∧ t.rd Reg.CFG_CHAIN_STAT.SENT = 0 ∧
      Confined [.cfg] (only [Reg.CFG_CHAIN_STAT.SENT]) s t) ∧
  (∀ s : State, s.awake → s.pw.step = 12 → inGroup s = true →
    seconds (field (groupBody s) 62 2) ≤ (s.ck.time - s.grp.formAt).toNat →
    isLeader s = true ∨ grpState s = 1 → Runs .grpFormTimeout s fun t =>
      grpState t = (if isLeader s then grpState s else 4) ∧ t.pw.step = 0 ∧ t.rd Reg.SYS_PWR_MODE.MODE = 3) ∧
  (∀ (s : State) (t1 t2 t3 t4 : DWord) (pOfs : Int), s.awake → isMember s = true →
    ∀ offs : List Int, offs = (s.grp.offs ++ [(t2 - t1).toInt - (t4 - t3).toInt]).drop (s.grp.offs.length - 15) →
    ∀ o : Int, o = (if offs.length = 16 then 2048 * offs.sum + pOfs else 0) →
    Runs (.timeExchange none true t1 t2 t3 t4 pOfs) s fun t =>
      (∀ p : Nat, p = routeTo s 0 → p < 4 → (s.tether p).hello = true → t.tether p = launch s.ck.time (s.tether p)
        { seq := 0, type := 3, member := s.rd (Reg.GRP_TETHER_STAT.PEER_MEMBER p), msg := .time (groupOffset s) }) ∧
      t.grp.offs = offs ∧ t.grp.fails = 0 ∧ t.rdPair Reg.GRP_TIME_OFS_LO.OFS Reg.GRP_TIME_OFS_HI.OFS = ofInt o 64 ∧
      t.rd Reg.GRP_TIME_DELAY.TICKS = ofInt (((t2 - t1).toInt + (t4 - t3).toInt) / 2) 32 ∧
      (grpState s = 2 → t.flag Reg.GRP_TIME_STAT.LOCKED = true) ∧
      (s.flag Reg.GRP_STAT.INCLUDED = true → withinLimit (sInt (ofInt o 64) 64) = true → t.rd Reg.GRP_STAT.INCLUDED =
        s.rd Reg.GRP_STAT.INCLUDED ∧ t.log = s.log ∧ t.rad = s.rad) ∧
      (s.flag Reg.GRP_STAT.INCLUDED = true → withinLimit (sInt (ofInt o 64) 64) = false → t.rd Reg.GRP_STAT.INCLUDED = 0 ∧
        Logs s t 224 0x2408 0 (ofInt (sInt (ofInt o 64) 64 / 65536) 32) 0) ∧
      (s.flag Reg.GRP_TIME_CFG.HW_SERVO = false → t.ck = s.ck ∧ t.rd Reg.CLK_RATE.RATE = s.rd Reg.CLK_RATE.RATE ∧ t.fresh = s.fresh) ∧
      Confined [.grp, .ck, .rad, .log, .fresh] (only [Reg.GRP_TIME_OFS_LO.OFS, Reg.GRP_TIME_OFS_HI.OFS, Reg.GRP_TIME_DELAY.TICKS,
        Reg.GRP_TIME_STAT.LOCKED, Reg.GRP_STAT.INCLUDED, Reg.CLK_RATE.RATE, Reg.LOG_LOST_DROP.COUNT]) s t) ∧
  (∀ (s : State) (p : Nat) (ok : Bool) (t1 t2 t3 t4 : DWord) (pOfs : Int), s.awake → inGroup s = true → p < 4 →
    (s.tether p).hello = true → Runs (.timeExchange (some p) ok t1 t2 t3 t4 pOfs) s fun t =>
      t.tether p = launch s.ck.time (s.tether p)
        { seq := 0, type := 3, member := s.rd (Reg.GRP_TETHER_STAT.PEER_MEMBER p), msg := .time (groupOffset s) } ∧
      (∀ q, q < 4 → q ≠ p → t.tether q = s.tether q) ∧ t.grp = { s.grp with ports := t.grp.ports } ∧
      Confined [.grp] (only []) s t) ∧
  (∀ (s : State) (t1 t2 t3 t4 : DWord) (pOfs : Int), s.awake → isMember s = true →
    Runs (.timeExchange none false t1 t2 t3 t4 pOfs) s fun t => t.grp.fails = s.grp.fails + 1 ∧
      (s.grp.fails < 15 → t.grp = { s.grp with fails := s.grp.fails + 1 } ∧ Confined [.grp] (only []) s t) ∧
      (15 ≤ s.grp.fails → s.flag Reg.GRP_STAT.INCLUDED = true → t.rd Reg.GRP_STAT.INCLUDED = 0 ∧
        Logs s t 224 0x2408 0 (ofInt (groupOffset s / 65536) 32) 1)) ∧
  ∀ (s : State) (rq : Requester) (d : Nat), s.awake → passes (.grpReset rq d) s = true →
    (bits d 16 16 ≠ 0x6B71 → Runs (.grpReset rq d) s fun t => t.resp = {} ∧ Logs s t 224 0x010C 0xF04800010 d rq.ni ∧
      Confined [.resp, .log] (only [Reg.LOG_LOST_DROP.COUNT]) s t) ∧
    (bits d 16 16 = 0x6B71 → isLeader s = false ∨ grpState s ≠ 2 → Runs (.grpReset rq d) s fun t =>
      t.resp = {} ∧ Logs s t 224 0x240D 0xF04800010 d rq.ni ∧ Confined [.resp, .log] (only [Reg.LOG_LOST_DROP.COUNT]) s t) ∧
    (bits d 16 16 = 0x6B71 → isLeader s = true → grpState s = 2 → Runs (.grpReset rq d) s fun t =>
      t.resp = {} ∧ t.grp.resetAt = (if bit d 0 = true then some s.ck.time else s.grp.resetAt) ∧
      Logs s t 224 0x240C (bits d 0 8) 0 rq.ni ∧
      Confined [.resp, .log, .grp, .cfg] (only [Reg.LOG_LOST_DROP.COUNT, Reg.CFG_CHAIN_STAT.SENT]) s t)
end

