-- ==== Sys2Proof/Laws/State.lean ====
section
/-! SUPPORT. What each update of the state leaves in each field: one lemma a field and update, so that no proof unfolds a
record update. -/

namespace Sys2Proof.Machine

variable (s : State)

@[simp] theorem State.wr_part (f : Fld) (v : Nat) : (s.wr f v).part = s.part := rfl
@[simp] theorem State.wr_pending (f : Fld) (v : Nat) : (s.wr f v).pending = s.pending := rfl
@[simp] theorem State.wr_shadow (f : Fld) (v : Nat) : (s.wr f v).shadow = s.shadow := rfl
@[simp] theorem State.wr_wl (f : Fld) (v : Nat) : (s.wr f v).wl = s.wl := rfl
@[simp] theorem State.wr_hiLatch (f : Fld) (v : Nat) : (s.wr f v).hiLatch = s.hiLatch := rfl
@[simp] theorem State.wr_resp (f : Fld) (v : Nat) : (s.wr f v).resp = s.resp := rfl
@[simp] theorem State.wr_fresh (f : Fld) (v : Nat) : (s.wr f v).fresh = s.fresh := rfl
@[simp] theorem State.wr_log (f : Fld) (v : Nat) : (s.wr f v).log = s.log := rfl
@[simp] theorem State.wr_pw (f : Fld) (v : Nat) : (s.wr f v).pw = s.pw := rfl
@[simp] theorem State.wr_ck (f : Fld) (v : Nat) : (s.wr f v).ck = s.ck := rfl
@[simp] theorem State.wr_cfg (f : Fld) (v : Nat) : (s.wr f v).cfg = s.cfg := rfl
@[simp] theorem State.wr_hatch (f : Fld) (v : Nat) : (s.wr f v).hatch = s.hatch := rfl
@[simp] theorem State.wr_noc (f : Fld) (v : Nat) : (s.wr f v).noc = s.noc := rfl
@[simp] theorem State.wr_mem (f : Fld) (v : Nat) : (s.wr f v).mem = s.mem := rfl
@[simp] theorem State.wr_str (f : Fld) (v : Nat) : (s.wr f v).str = s.str := rfl
@[simp] theorem State.wr_fab (f : Fld) (v : Nat) : (s.wr f v).fab = s.fab := rfl
@[simp] theorem State.wr_ie (f : Fld) (v : Nat) : (s.wr f v).ie = s.ie := rfl
@[simp] theorem State.wr_rad (f : Fld) (v : Nat) : (s.wr f v).rad = s.rad := rfl
@[simp] theorem State.wr_vis (f : Fld) (v : Nat) : (s.wr f v).vis = s.vis := rfl
@[simp] theorem State.wr_cel (f : Fld) (v : Nat) : (s.wr f v).cel = s.cel := rfl
@[simp] theorem State.wr_svc (f : Fld) (v : Nat) : (s.wr f v).svc = s.svc := rfl
@[simp] theorem State.wr_grp (f : Fld) (v : Nat) : (s.wr f v).grp = s.grp := rfl
@[simp] theorem State.wr_yielded (f : Fld) (v : Nat) : (s.wr f v).yielded = s.yielded := rfl
@[simp] theorem State.wr_pcieRoot (f : Fld) (v : Nat) : (s.wr f v).pcieRoot = s.pcieRoot := rfl
@[simp] theorem State.wrShadow_part (f : Fld) (v : Nat) : (s.wrShadow f v).part = s.part := rfl
@[simp] theorem State.wrShadow_pending (f : Fld) (v : Nat) : (s.wrShadow f v).pending = s.pending := rfl
@[simp] theorem State.wrShadow_csr (f : Fld) (v : Nat) : (s.wrShadow f v).csr = s.csr := rfl
@[simp] theorem State.wrShadow_wl (f : Fld) (v : Nat) : (s.wrShadow f v).wl = s.wl := rfl
@[simp] theorem State.wrShadow_hiLatch (f : Fld) (v : Nat) : (s.wrShadow f v).hiLatch = s.hiLatch := rfl
@[simp] theorem State.wrShadow_resp (f : Fld) (v : Nat) : (s.wrShadow f v).resp = s.resp := rfl
@[simp] theorem State.wrShadow_fresh (f : Fld) (v : Nat) : (s.wrShadow f v).fresh = s.fresh := rfl
@[simp] theorem State.wrShadow_log (f : Fld) (v : Nat) : (s.wrShadow f v).log = s.log := rfl
@[simp] theorem State.wrShadow_pw (f : Fld) (v : Nat) : (s.wrShadow f v).pw = s.pw := rfl
@[simp] theorem State.wrShadow_ck (f : Fld) (v : Nat) : (s.wrShadow f v).ck = s.ck := rfl
@[simp] theorem State.wrShadow_cfg (f : Fld) (v : Nat) : (s.wrShadow f v).cfg = s.cfg := rfl
@[simp] theorem State.wrShadow_hatch (f : Fld) (v : Nat) : (s.wrShadow f v).hatch = s.hatch := rfl
@[simp] theorem State.wrShadow_noc (f : Fld) (v : Nat) : (s.wrShadow f v).noc = s.noc := rfl
@[simp] theorem State.wrShadow_mem (f : Fld) (v : Nat) : (s.wrShadow f v).mem = s.mem := rfl
@[simp] theorem State.wrShadow_str (f : Fld) (v : Nat) : (s.wrShadow f v).str = s.str := rfl
@[simp] theorem State.wrShadow_fab (f : Fld) (v : Nat) : (s.wrShadow f v).fab = s.fab := rfl
@[simp] theorem State.wrShadow_ie (f : Fld) (v : Nat) : (s.wrShadow f v).ie = s.ie := rfl
@[simp] theorem State.wrShadow_rad (f : Fld) (v : Nat) : (s.wrShadow f v).rad = s.rad := rfl
@[simp] theorem State.wrShadow_vis (f : Fld) (v : Nat) : (s.wrShadow f v).vis = s.vis := rfl
@[simp] theorem State.wrShadow_cel (f : Fld) (v : Nat) : (s.wrShadow f v).cel = s.cel := rfl
@[simp] theorem State.wrShadow_svc (f : Fld) (v : Nat) : (s.wrShadow f v).svc = s.svc := rfl
@[simp] theorem State.wrShadow_grp (f : Fld) (v : Nat) : (s.wrShadow f v).grp = s.grp := rfl
@[simp] theorem State.wrShadow_yielded (f : Fld) (v : Nat) : (s.wrShadow f v).yielded = s.yielded := rfl
@[simp] theorem State.wrShadow_pcieRoot (f : Fld) (v : Nat) : (s.wrShadow f v).pcieRoot = s.pcieRoot := rfl
@[simp] theorem State.commit_part (f : Fld) : (s.commit f).part = s.part := rfl
@[simp] theorem State.commit_pending (f : Fld) : (s.commit f).pending = s.pending := rfl
@[simp] theorem State.commit_shadow (f : Fld) : (s.commit f).shadow = s.shadow := rfl
@[simp] theorem State.commit_wl (f : Fld) : (s.commit f).wl = s.wl := rfl
@[simp] theorem State.commit_hiLatch (f : Fld) : (s.commit f).hiLatch = s.hiLatch := rfl
@[simp] theorem State.commit_resp (f : Fld) : (s.commit f).resp = s.resp := rfl
@[simp] theorem State.commit_fresh (f : Fld) : (s.commit f).fresh = s.fresh := rfl
@[simp] theorem State.commit_log (f : Fld) : (s.commit f).log = s.log := rfl
@[simp] theorem State.commit_pw (f : Fld) : (s.commit f).pw = s.pw := rfl
@[simp] theorem State.commit_ck (f : Fld) : (s.commit f).ck = s.ck := rfl
@[simp] theorem State.commit_cfg (f : Fld) : (s.commit f).cfg = s.cfg := rfl
@[simp] theorem State.commit_hatch (f : Fld) : (s.commit f).hatch = s.hatch := rfl
@[simp] theorem State.commit_noc (f : Fld) : (s.commit f).noc = s.noc := rfl
@[simp] theorem State.commit_mem (f : Fld) : (s.commit f).mem = s.mem := rfl
@[simp] theorem State.commit_str (f : Fld) : (s.commit f).str = s.str := rfl
@[simp] theorem State.commit_fab (f : Fld) : (s.commit f).fab = s.fab := rfl
@[simp] theorem State.commit_ie (f : Fld) : (s.commit f).ie = s.ie := rfl
@[simp] theorem State.commit_rad (f : Fld) : (s.commit f).rad = s.rad := rfl
@[simp] theorem State.commit_vis (f : Fld) : (s.commit f).vis = s.vis := rfl
@[simp] theorem State.commit_cel (f : Fld) : (s.commit f).cel = s.cel := rfl
@[simp] theorem State.commit_svc (f : Fld) : (s.commit f).svc = s.svc := rfl
@[simp] theorem State.commit_grp (f : Fld) : (s.commit f).grp = s.grp := rfl
@[simp] theorem State.commit_yielded (f : Fld) : (s.commit f).yielded = s.yielded := rfl
@[simp] theorem State.commit_pcieRoot (f : Fld) : (s.commit f).pcieRoot = s.pcieRoot := rfl
@[simp] theorem State.bump_part (f : Fld) (n : Nat) : (s.bump f n).part = s.part := rfl
@[simp] theorem State.bump_pending (f : Fld) (n : Nat) : (s.bump f n).pending = s.pending := rfl
@[simp] theorem State.bump_shadow (f : Fld) (n : Nat) : (s.bump f n).shadow = s.shadow := rfl
@[simp] theorem State.bump_wl (f : Fld) (n : Nat) : (s.bump f n).wl = s.wl := rfl
@[simp] theorem State.bump_hiLatch (f : Fld) (n : Nat) : (s.bump f n).hiLatch = s.hiLatch := rfl
@[simp] theorem State.bump_resp (f : Fld) (n : Nat) : (s.bump f n).resp = s.resp := rfl
@[simp] theorem State.bump_fresh (f : Fld) (n : Nat) : (s.bump f n).fresh = s.fresh := rfl
@[simp] theorem State.bump_log (f : Fld) (n : Nat) : (s.bump f n).log = s.log := rfl
@[simp] theorem State.bump_pw (f : Fld) (n : Nat) : (s.bump f n).pw = s.pw := rfl
@[simp] theorem State.bump_ck (f : Fld) (n : Nat) : (s.bump f n).ck = s.ck := rfl
@[simp] theorem State.bump_cfg (f : Fld) (n : Nat) : (s.bump f n).cfg = s.cfg := rfl
@[simp] theorem State.bump_hatch (f : Fld) (n : Nat) : (s.bump f n).hatch = s.hatch := rfl
@[simp] theorem State.bump_noc (f : Fld) (n : Nat) : (s.bump f n).noc = s.noc := rfl
@[simp] theorem State.bump_mem (f : Fld) (n : Nat) : (s.bump f n).mem = s.mem := rfl
@[simp] theorem State.bump_str (f : Fld) (n : Nat) : (s.bump f n).str = s.str := rfl
@[simp] theorem State.bump_fab (f : Fld) (n : Nat) : (s.bump f n).fab = s.fab := rfl
@[simp] theorem State.bump_ie (f : Fld) (n : Nat) : (s.bump f n).ie = s.ie := rfl
@[simp] theorem State.bump_rad (f : Fld) (n : Nat) : (s.bump f n).rad = s.rad := rfl
@[simp] theorem State.bump_vis (f : Fld) (n : Nat) : (s.bump f n).vis = s.vis := rfl
@[simp] theorem State.bump_cel (f : Fld) (n : Nat) : (s.bump f n).cel = s.cel := rfl
@[simp] theorem State.bump_svc (f : Fld) (n : Nat) : (s.bump f n).svc = s.svc := rfl
@[simp] theorem State.bump_grp (f : Fld) (n : Nat) : (s.bump f n).grp = s.grp := rfl
@[simp] theorem State.bump_yielded (f : Fld) (n : Nat) : (s.bump f n).yielded = s.yielded := rfl
@[simp] theorem State.bump_pcieRoot (f : Fld) (n : Nat) : (s.bump f n).pcieRoot = s.pcieRoot := rfl
@[simp] theorem State.count_part (f : Fld) : (s.count f).part = s.part := rfl
@[simp] theorem State.count_pending (f : Fld) : (s.count f).pending = s.pending := rfl
@[simp] theorem State.count_shadow (f : Fld) : (s.count f).shadow = s.shadow := rfl
@[simp] theorem State.count_wl (f : Fld) : (s.count f).wl = s.wl := rfl
@[simp] theorem State.count_hiLatch (f : Fld) : (s.count f).hiLatch = s.hiLatch := rfl
@[simp] theorem State.count_resp (f : Fld) : (s.count f).resp = s.resp := rfl
@[simp] theorem State.count_fresh (f : Fld) : (s.count f).fresh = s.fresh := rfl
@[simp] theorem State.count_log (f : Fld) : (s.count f).log = s.log := rfl
@[simp] theorem State.count_pw (f : Fld) : (s.count f).pw = s.pw := rfl
@[simp] theorem State.count_ck (f : Fld) : (s.count f).ck = s.ck := rfl
@[simp] theorem State.count_cfg (f : Fld) : (s.count f).cfg = s.cfg := rfl
@[simp] theorem State.count_hatch (f : Fld) : (s.count f).hatch = s.hatch := rfl
@[simp] theorem State.count_noc (f : Fld) : (s.count f).noc = s.noc := rfl
@[simp] theorem State.count_mem (f : Fld) : (s.count f).mem = s.mem := rfl
@[simp] theorem State.count_str (f : Fld) : (s.count f).str = s.str := rfl
@[simp] theorem State.count_fab (f : Fld) : (s.count f).fab = s.fab := rfl
@[simp] theorem State.count_ie (f : Fld) : (s.count f).ie = s.ie := rfl
@[simp] theorem State.count_rad (f : Fld) : (s.count f).rad = s.rad := rfl
@[simp] theorem State.count_vis (f : Fld) : (s.count f).vis = s.vis := rfl
@[simp] theorem State.count_cel (f : Fld) : (s.count f).cel = s.cel := rfl
@[simp] theorem State.count_svc (f : Fld) : (s.count f).svc = s.svc := rfl
@[simp] theorem State.count_grp (f : Fld) : (s.count f).grp = s.grp := rfl
@[simp] theorem State.count_yielded (f : Fld) : (s.count f).yielded = s.yielded := rfl
@[simp] theorem State.count_pcieRoot (f : Fld) : (s.count f).pcieRoot = s.pcieRoot := rfl
@[simp] theorem State.orBits_part (f : Fld) (m : Nat) : (s.orBits f m).part = s.part := rfl
@[simp] theorem State.orBits_pending (f : Fld) (m : Nat) : (s.orBits f m).pending = s.pending := rfl
@[simp] theorem State.orBits_shadow (f : Fld) (m : Nat) : (s.orBits f m).shadow = s.shadow := rfl
@[simp] theorem State.orBits_wl (f : Fld) (m : Nat) : (s.orBits f m).wl = s.wl := rfl
@[simp] theorem State.orBits_hiLatch (f : Fld) (m : Nat) : (s.orBits f m).hiLatch = s.hiLatch := rfl
@[simp] theorem State.orBits_resp (f : Fld) (m : Nat) : (s.orBits f m).resp = s.resp := rfl
@[simp] theorem State.orBits_fresh (f : Fld) (m : Nat) : (s.orBits f m).fresh = s.fresh := rfl
@[simp] theorem State.orBits_log (f : Fld) (m : Nat) : (s.orBits f m).log = s.log := rfl
@[simp] theorem State.orBits_pw (f : Fld) (m : Nat) : (s.orBits f m).pw = s.pw := rfl
@[simp] theorem State.orBits_ck (f : Fld) (m : Nat) : (s.orBits f m).ck = s.ck := rfl
@[simp] theorem State.orBits_cfg (f : Fld) (m : Nat) : (s.orBits f m).cfg = s.cfg := rfl
@[simp] theorem State.orBits_hatch (f : Fld) (m : Nat) : (s.orBits f m).hatch = s.hatch := rfl
@[simp] theorem State.orBits_noc (f : Fld) (m : Nat) : (s.orBits f m).noc = s.noc := rfl
@[simp] theorem State.orBits_mem (f : Fld) (m : Nat) : (s.orBits f m).mem = s.mem := rfl
@[simp] theorem State.orBits_str (f : Fld) (m : Nat) : (s.orBits f m).str = s.str := rfl
@[simp] theorem State.orBits_fab (f : Fld) (m : Nat) : (s.orBits f m).fab = s.fab := rfl
@[simp] theorem State.orBits_ie (f : Fld) (m : Nat) : (s.orBits f m).ie = s.ie := rfl
@[simp] theorem State.orBits_rad (f : Fld) (m : Nat) : (s.orBits f m).rad = s.rad := rfl
@[simp] theorem State.orBits_vis (f : Fld) (m : Nat) : (s.orBits f m).vis = s.vis := rfl
@[simp] theorem State.orBits_cel (f : Fld) (m : Nat) : (s.orBits f m).cel = s.cel := rfl
@[simp] theorem State.orBits_svc (f : Fld) (m : Nat) : (s.orBits f m).svc = s.svc := rfl
@[simp] theorem State.orBits_grp (f : Fld) (m : Nat) : (s.orBits f m).grp = s.grp := rfl
@[simp] theorem State.orBits_yielded (f : Fld) (m : Nat) : (s.orBits f m).yielded = s.yielded := rfl
@[simp] theorem State.orBits_pcieRoot (f : Fld) (m : Nat) : (s.orBits f m).pcieRoot = s.pcieRoot := rfl
@[simp] theorem State.clearBits_part (f : Fld) (m : Nat) : (s.clearBits f m).part = s.part := rfl
@[simp] theorem State.clearBits_pending (f : Fld) (m : Nat) : (s.clearBits f m).pending = s.pending := rfl
@[simp] theorem State.clearBits_shadow (f : Fld) (m : Nat) : (s.clearBits f m).shadow = s.shadow := rfl
@[simp] theorem State.clearBits_wl (f : Fld) (m : Nat) : (s.clearBits f m).wl = s.wl := rfl
@[simp] theorem State.clearBits_hiLatch (f : Fld) (m : Nat) : (s.clearBits f m).hiLatch = s.hiLatch := rfl
@[simp] theorem State.clearBits_resp (f : Fld) (m : Nat) : (s.clearBits f m).resp = s.resp := rfl
@[simp] theorem State.clearBits_fresh (f : Fld) (m : Nat) : (s.clearBits f m).fresh = s.fresh := rfl
@[simp] theorem State.clearBits_log (f : Fld) (m : Nat) : (s.clearBits f m).log = s.log := rfl
@[simp] theorem State.clearBits_pw (f : Fld) (m : Nat) : (s.clearBits f m).pw = s.pw := rfl
@[simp] theorem State.clearBits_ck (f : Fld) (m : Nat) : (s.clearBits f m).ck = s.ck := rfl
@[simp] theorem State.clearBits_cfg (f : Fld) (m : Nat) : (s.clearBits f m).cfg = s.cfg := rfl
@[simp] theorem State.clearBits_hatch (f : Fld) (m : Nat) : (s.clearBits f m).hatch = s.hatch := rfl
@[simp] theorem State.clearBits_noc (f : Fld) (m : Nat) : (s.clearBits f m).noc = s.noc := rfl
@[simp] theorem State.clearBits_mem (f : Fld) (m : Nat) : (s.clearBits f m).mem = s.mem := rfl
@[simp] theorem State.clearBits_str (f : Fld) (m : Nat) : (s.clearBits f m).str = s.str := rfl
@[simp] theorem State.clearBits_fab (f : Fld) (m : Nat) : (s.clearBits f m).fab = s.fab := rfl
@[simp] theorem State.clearBits_ie (f : Fld) (m : Nat) : (s.clearBits f m).ie = s.ie := rfl
@[simp] theorem State.clearBits_rad (f : Fld) (m : Nat) : (s.clearBits f m).rad = s.rad := rfl
@[simp] theorem State.clearBits_vis (f : Fld) (m : Nat) : (s.clearBits f m).vis = s.vis := rfl
@[simp] theorem State.clearBits_cel (f : Fld) (m : Nat) : (s.clearBits f m).cel = s.cel := rfl
@[simp] theorem State.clearBits_svc (f : Fld) (m : Nat) : (s.clearBits f m).svc = s.svc := rfl
@[simp] theorem State.clearBits_grp (f : Fld) (m : Nat) : (s.clearBits f m).grp = s.grp := rfl
@[simp] theorem State.clearBits_yielded (f : Fld) (m : Nat) : (s.clearBits f m).yielded = s.yielded := rfl
@[simp] theorem State.clearBits_pcieRoot (f : Fld) (m : Nat) : (s.clearBits f m).pcieRoot = s.pcieRoot := rfl
@[simp] theorem State.wrPair_part (lo hi : Fld) (v : Nat) : (s.wrPair lo hi v).part = s.part := rfl
@[simp] theorem State.wrPair_pending (lo hi : Fld) (v : Nat) : (s.wrPair lo hi v).pending = s.pending := rfl
@[simp] theorem State.wrPair_shadow (lo hi : Fld) (v : Nat) : (s.wrPair lo hi v).shadow = s.shadow := rfl
@[simp] theorem State.wrPair_wl (lo hi : Fld) (v : Nat) : (s.wrPair lo hi v).wl = s.wl := rfl
@[simp] theorem State.wrPair_hiLatch (lo hi : Fld) (v : Nat) : (s.wrPair lo hi v).hiLatch = s.hiLatch := rfl
@[simp] theorem State.wrPair_resp (lo hi : Fld) (v : Nat) : (s.wrPair lo hi v).resp = s.resp := rfl
@[simp] theorem State.wrPair_fresh (lo hi : Fld) (v : Nat) : (s.wrPair lo hi v).fresh = s.fresh := rfl
@[simp] theorem State.wrPair_log (lo hi : Fld) (v : Nat) : (s.wrPair lo hi v).log = s.log := rfl
@[simp] theorem State.wrPair_pw (lo hi : Fld) (v : Nat) : (s.wrPair lo hi v).pw = s.pw := rfl
@[simp] theorem State.wrPair_ck (lo hi : Fld) (v : Nat) : (s.wrPair lo hi v).ck = s.ck := rfl
@[simp] theorem State.wrPair_cfg (lo hi : Fld) (v : Nat) : (s.wrPair lo hi v).cfg = s.cfg := rfl
@[simp] theorem State.wrPair_hatch (lo hi : Fld) (v : Nat) : (s.wrPair lo hi v).hatch = s.hatch := rfl
@[simp] theorem State.wrPair_noc (lo hi : Fld) (v : Nat) : (s.wrPair lo hi v).noc = s.noc := rfl
@[simp] theorem State.wrPair_mem (lo hi : Fld) (v : Nat) : (s.wrPair lo hi v).mem = s.mem := rfl
@[simp] theorem State.wrPair_str (lo hi : Fld) (v : Nat) : (s.wrPair lo hi v).str = s.str := rfl
@[simp] theorem State.wrPair_fab (lo hi : Fld) (v : Nat) : (s.wrPair lo hi v).fab = s.fab := rfl
@[simp] theorem State.wrPair_ie (lo hi : Fld) (v : Nat) : (s.wrPair lo hi v).ie = s.ie := rfl
@[simp] theorem State.wrPair_rad (lo hi : Fld) (v : Nat) : (s.wrPair lo hi v).rad = s.rad := rfl
@[simp] theorem State.wrPair_vis (lo hi : Fld) (v : Nat) : (s.wrPair lo hi v).vis = s.vis := rfl
@[simp] theorem State.wrPair_cel (lo hi : Fld) (v : Nat) : (s.wrPair lo hi v).cel = s.cel := rfl
@[simp] theorem State.wrPair_svc (lo hi : Fld) (v : Nat) : (s.wrPair lo hi v).svc = s.svc := rfl
@[simp] theorem State.wrPair_grp (lo hi : Fld) (v : Nat) : (s.wrPair lo hi v).grp = s.grp := rfl
@[simp] theorem State.wrPair_yielded (lo hi : Fld) (v : Nat) : (s.wrPair lo hi v).yielded = s.yielded := rfl
@[simp] theorem State.wrPair_pcieRoot (lo hi : Fld) (v : Nat) : (s.wrPair lo hi v).pcieRoot = s.pcieRoot := rfl
@[simp] theorem State.useFresh_part : (s.useFresh).part = s.part := rfl
@[simp] theorem State.useFresh_pending : (s.useFresh).pending = s.pending := rfl
@[simp] theorem State.useFresh_csr : (s.useFresh).csr = s.csr := rfl
@[simp] theorem State.useFresh_shadow : (s.useFresh).shadow = s.shadow := rfl
@[simp] theorem State.useFresh_wl : (s.useFresh).wl = s.wl := rfl
@[simp] theorem State.useFresh_hiLatch : (s.useFresh).hiLatch = s.hiLatch := rfl
@[simp] theorem State.useFresh_resp : (s.useFresh).resp = s.resp := rfl
@[simp] theorem State.useFresh_log : (s.useFresh).log = s.log := rfl
@[simp] theorem State.useFresh_pw : (s.useFresh).pw = s.pw := rfl
@[simp] theorem State.useFresh_ck : (s.useFresh).ck = s.ck := rfl
@[simp] theorem State.useFresh_cfg : (s.useFresh).cfg = s.cfg := rfl
@[simp] theorem State.useFresh_hatch : (s.useFresh).hatch = s.hatch := rfl
@[simp] theorem State.useFresh_noc : (s.useFresh).noc = s.noc := rfl
@[simp] theorem State.useFresh_mem : (s.useFresh).mem = s.mem := rfl
@[simp] theorem State.useFresh_str : (s.useFresh).str = s.str := rfl
@[simp] theorem State.useFresh_fab : (s.useFresh).fab = s.fab := rfl
@[simp] theorem State.useFresh_ie : (s.useFresh).ie = s.ie := rfl
@[simp] theorem State.useFresh_rad : (s.useFresh).rad = s.rad := rfl
@[simp] theorem State.useFresh_vis : (s.useFresh).vis = s.vis := rfl
@[simp] theorem State.useFresh_cel : (s.useFresh).cel = s.cel := rfl
@[simp] theorem State.useFresh_svc : (s.useFresh).svc = s.svc := rfl
@[simp] theorem State.useFresh_grp : (s.useFresh).grp = s.grp := rfl
@[simp] theorem State.useFresh_yielded : (s.useFresh).yielded = s.yielded := rfl
@[simp] theorem State.useFresh_pcieRoot : (s.useFresh).pcieRoot = s.pcieRoot := rfl
@[simp] theorem State.answer_part (v : Nat) : (s.answer v).part = s.part := rfl
@[simp] theorem State.answer_pending (v : Nat) : (s.answer v).pending = s.pending := rfl
@[simp] theorem State.answer_csr (v : Nat) : (s.answer v).csr = s.csr := rfl
@[simp] theorem State.answer_shadow (v : Nat) : (s.answer v).shadow = s.shadow := rfl
@[simp] theorem State.answer_wl (v : Nat) : (s.answer v).wl = s.wl := rfl
@[simp] theorem State.answer_hiLatch (v : Nat) : (s.answer v).hiLatch = s.hiLatch := rfl
@[simp] theorem State.answer_fresh (v : Nat) : (s.answer v).fresh = s.fresh := rfl
@[simp] theorem State.answer_log (v : Nat) : (s.answer v).log = s.log := rfl
@[simp] theorem State.answer_pw (v : Nat) : (s.answer v).pw = s.pw := rfl
@[simp] theorem State.answer_ck (v : Nat) : (s.answer v).ck = s.ck := rfl
@[simp] theorem State.answer_cfg (v : Nat) : (s.answer v).cfg = s.cfg := rfl
@[simp] theorem State.answer_hatch (v : Nat) : (s.answer v).hatch = s.hatch := rfl
@[simp] theorem State.answer_noc (v : Nat) : (s.answer v).noc = s.noc := rfl
@[simp] theorem State.answer_mem (v : Nat) : (s.answer v).mem = s.mem := rfl
@[simp] theorem State.answer_str (v : Nat) : (s.answer v).str = s.str := rfl
@[simp] theorem State.answer_fab (v : Nat) : (s.answer v).fab = s.fab := rfl
@[simp] theorem State.answer_ie (v : Nat) : (s.answer v).ie = s.ie := rfl
@[simp] theorem State.answer_rad (v : Nat) : (s.answer v).rad = s.rad := rfl
@[simp] theorem State.answer_vis (v : Nat) : (s.answer v).vis = s.vis := rfl
@[simp] theorem State.answer_cel (v : Nat) : (s.answer v).cel = s.cel := rfl
@[simp] theorem State.answer_svc (v : Nat) : (s.answer v).svc = s.svc := rfl
@[simp] theorem State.answer_grp (v : Nat) : (s.answer v).grp = s.grp := rfl
@[simp] theorem State.answer_yielded (v : Nat) : (s.answer v).yielded = s.yielded := rfl
@[simp] theorem State.answer_pcieRoot (v : Nat) : (s.answer v).pcieRoot = s.pcieRoot := rfl
@[simp] theorem State.busErr_part : (s.busErr).part = s.part := rfl
@[simp] theorem State.busErr_pending : (s.busErr).pending = s.pending := rfl
@[simp] theorem State.busErr_csr : (s.busErr).csr = s.csr := rfl
@[simp] theorem State.busErr_shadow : (s.busErr).shadow = s.shadow := rfl
@[simp] theorem State.busErr_wl : (s.busErr).wl = s.wl := rfl
@[simp] theorem State.busErr_hiLatch : (s.busErr).hiLatch = s.hiLatch := rfl
@[simp] theorem State.busErr_fresh : (s.busErr).fresh = s.fresh := rfl
@[simp] theorem State.busErr_log : (s.busErr).log = s.log := rfl
@[simp] theorem State.busErr_pw : (s.busErr).pw = s.pw := rfl
@[simp] theorem State.busErr_ck : (s.busErr).ck = s.ck := rfl
@[simp] theorem State.busErr_cfg : (s.busErr).cfg = s.cfg := rfl
@[simp] theorem State.busErr_hatch : (s.busErr).hatch = s.hatch := rfl
@[simp] theorem State.busErr_noc : (s.busErr).noc = s.noc := rfl
@[simp] theorem State.busErr_mem : (s.busErr).mem = s.mem := rfl
@[simp] theorem State.busErr_str : (s.busErr).str = s.str := rfl
@[simp] theorem State.busErr_fab : (s.busErr).fab = s.fab := rfl
@[simp] theorem State.busErr_ie : (s.busErr).ie = s.ie := rfl
@[simp] theorem State.busErr_rad : (s.busErr).rad = s.rad := rfl
@[simp] theorem State.busErr_vis : (s.busErr).vis = s.vis := rfl
@[simp] theorem State.busErr_cel : (s.busErr).cel = s.cel := rfl
@[simp] theorem State.busErr_svc : (s.busErr).svc = s.svc := rfl
@[simp] theorem State.busErr_grp : (s.busErr).grp = s.grp := rfl
@[simp] theorem State.busErr_yielded : (s.busErr).yielded = s.yielded := rfl
@[simp] theorem State.busErr_pcieRoot : (s.busErr).pcieRoot = s.pcieRoot := rfl
@[simp] theorem State.answerPoison_part (v : Nat) : (s.answerPoison v).part = s.part := rfl
@[simp] theorem State.answerPoison_pending (v : Nat) : (s.answerPoison v).pending = s.pending := rfl
@[simp] theorem State.answerPoison_csr (v : Nat) : (s.answerPoison v).csr = s.csr := rfl
@[simp] theorem State.answerPoison_shadow (v : Nat) : (s.answerPoison v).shadow = s.shadow := rfl
@[simp] theorem State.answerPoison_wl (v : Nat) : (s.answerPoison v).wl = s.wl := rfl
@[simp] theorem State.answerPoison_hiLatch (v : Nat) : (s.answerPoison v).hiLatch = s.hiLatch := rfl
@[simp] theorem State.answerPoison_fresh (v : Nat) : (s.answerPoison v).fresh = s.fresh := rfl
@[simp] theorem State.answerPoison_log (v : Nat) : (s.answerPoison v).log = s.log := rfl
@[simp] theorem State.answerPoison_pw (v : Nat) : (s.answerPoison v).pw = s.pw := rfl
@[simp] theorem State.answerPoison_ck (v : Nat) : (s.answerPoison v).ck = s.ck := rfl
@[simp] theorem State.answerPoison_cfg (v : Nat) : (s.answerPoison v).cfg = s.cfg := rfl
@[simp] theorem State.answerPoison_hatch (v : Nat) : (s.answerPoison v).hatch = s.hatch := rfl
@[simp] theorem State.answerPoison_noc (v : Nat) : (s.answerPoison v).noc = s.noc := rfl
@[simp] theorem State.answerPoison_mem (v : Nat) : (s.answerPoison v).mem = s.mem := rfl
@[simp] theorem State.answerPoison_str (v : Nat) : (s.answerPoison v).str = s.str := rfl
@[simp] theorem State.answerPoison_fab (v : Nat) : (s.answerPoison v).fab = s.fab := rfl
@[simp] theorem State.answerPoison_ie (v : Nat) : (s.answerPoison v).ie = s.ie := rfl
@[simp] theorem State.answerPoison_rad (v : Nat) : (s.answerPoison v).rad = s.rad := rfl
@[simp] theorem State.answerPoison_vis (v : Nat) : (s.answerPoison v).vis = s.vis := rfl
@[simp] theorem State.answerPoison_cel (v : Nat) : (s.answerPoison v).cel = s.cel := rfl
@[simp] theorem State.answerPoison_svc (v : Nat) : (s.answerPoison v).svc = s.svc := rfl
@[simp] theorem State.answerPoison_grp (v : Nat) : (s.answerPoison v).grp = s.grp := rfl
@[simp] theorem State.answerPoison_yielded (v : Nat) : (s.answerPoison v).yielded = s.yielded := rfl
@[simp] theorem State.answerPoison_pcieRoot (v : Nat) : (s.answerPoison v).pcieRoot = s.pcieRoot := rfl
@[simp] theorem State.useFresh_fresh : s.useFresh.fresh = s.fresh + 1 := rfl
@[simp] theorem State.answer_resp (v : Nat) : (s.answer v).resp = { value := v } := rfl
@[simp] theorem State.busErr_resp : s.busErr.resp = { busError := true } := rfl
@[simp] theorem State.answerPoison_resp (v : Nat) : (s.answerPoison v).resp = { poisoned := true, value := v } := rfl

/-! An event raised changes the log, and LOG_LOST_DROP where it is dropped. -/

@[simp] theorem State.logAt_part (ev : LogEv) : (s.logAt ev).part = s.part := by
  unfold State.logAt; split <;> rfl
@[simp] theorem State.logAt_pending (ev : LogEv) : (s.logAt ev).pending = s.pending := by
  unfold State.logAt; split <;> rfl
@[simp] theorem State.logAt_shadow (ev : LogEv) : (s.logAt ev).shadow = s.shadow := by
  unfold State.logAt; split <;> rfl
@[simp] theorem State.logAt_wl (ev : LogEv) : (s.logAt ev).wl = s.wl := by
  unfold State.logAt; split <;> rfl
@[simp] theorem State.logAt_hiLatch (ev : LogEv) : (s.logAt ev).hiLatch = s.hiLatch := by
  unfold State.logAt; split <;> rfl
@[simp] theorem State.logAt_resp (ev : LogEv) : (s.logAt ev).resp = s.resp := by
  unfold State.logAt; split <;> rfl
@[simp] theorem State.logAt_fresh (ev : LogEv) : (s.logAt ev).fresh = s.fresh := by
  unfold State.logAt; split <;> rfl
@[simp] theorem State.logAt_pw (ev : LogEv) : (s.logAt ev).pw = s.pw := by
  unfold State.logAt; split <;> rfl
@[simp] theorem State.logAt_ck (ev : LogEv) : (s.logAt ev).ck = s.ck := by
  unfold State.logAt; split <;> rfl
@[simp] theorem State.logAt_cfg (ev : LogEv) : (s.logAt ev).cfg = s.cfg := by
  unfold State.logAt; split <;> rfl
@[simp] theorem State.logAt_hatch (ev : LogEv) : (s.logAt ev).hatch = s.hatch := by
  unfold State.logAt; split <;> rfl
@[simp] theorem State.logAt_noc (ev : LogEv) : (s.logAt ev).noc = s.noc := by
  unfold State.logAt; split <;> rfl
@[simp] theorem State.logAt_mem (ev : LogEv) : (s.logAt ev).mem = s.mem := by
  unfold State.logAt; split <;> rfl
@[simp] theorem State.logAt_str (ev : LogEv) : (s.logAt ev).str = s.str := by
  unfold State.logAt; split <;> rfl
@[simp] theorem State.logAt_fab (ev : LogEv) : (s.logAt ev).fab = s.fab := by
  unfold State.logAt; split <;> rfl
@[simp] theorem State.logAt_ie (ev : LogEv) : (s.logAt ev).ie = s.ie := by
  unfold State.logAt; split <;> rfl
@[simp] theorem State.logAt_rad (ev : LogEv) : (s.logAt ev).rad = s.rad := by
  unfold State.logAt; split <;> rfl
@[simp] theorem State.logAt_vis (ev : LogEv) : (s.logAt ev).vis = s.vis := by
  unfold State.logAt; split <;> rfl
@[simp] theorem State.logAt_cel (ev : LogEv) : (s.logAt ev).cel = s.cel := by
  unfold State.logAt; split <;> rfl
@[simp] theorem State.logAt_svc (ev : LogEv) : (s.logAt ev).svc = s.svc := by
  unfold State.logAt; split <;> rfl
@[simp] theorem State.logAt_grp (ev : LogEv) : (s.logAt ev).grp = s.grp := by
  unfold State.logAt; split <;> rfl
@[simp] theorem State.logAt_yielded (ev : LogEv) : (s.logAt ev).yielded = s.yielded := by
  unfold State.logAt; split <;> rfl
@[simp] theorem State.logAt_pcieRoot (ev : LogEv) : (s.logAt ev).pcieRoot = s.pcieRoot := by
  unfold State.logAt; split <;> rfl
@[simp] theorem State.logEvent_part (island code a0 a1 a2 : Nat) : (s.logEvent island code a0 a1 a2).part = s.part := State.logAt_part ..
@[simp] theorem State.logEvent_pending (island code a0 a1 a2 : Nat) : (s.logEvent island code a0 a1 a2).pending = s.pending := State.logAt_pending ..
@[simp] theorem State.logEvent_shadow (island code a0 a1 a2 : Nat) : (s.logEvent island code a0 a1 a2).shadow = s.shadow := State.logAt_shadow ..
@[simp] theorem State.logEvent_wl (island code a0 a1 a2 : Nat) : (s.logEvent island code a0 a1 a2).wl = s.wl := State.logAt_wl ..
@[simp] theorem State.logEvent_hiLatch (island code a0 a1 a2 : Nat) : (s.logEvent island code a0 a1 a2).hiLatch = s.hiLatch := State.logAt_hiLatch ..
@[simp] theorem State.logEvent_resp (island code a0 a1 a2 : Nat) : (s.logEvent island code a0 a1 a2).resp = s.resp := State.logAt_resp ..
@[simp] theorem State.logEvent_fresh (island code a0 a1 a2 : Nat) : (s.logEvent island code a0 a1 a2).fresh = s.fresh := State.logAt_fresh ..
@[simp] theorem State.logEvent_pw (island code a0 a1 a2 : Nat) : (s.logEvent island code a0 a1 a2).pw = s.pw := State.logAt_pw ..
@[simp] theorem State.logEvent_ck (island code a0 a1 a2 : Nat) : (s.logEvent island code a0 a1 a2).ck = s.ck := State.logAt_ck ..
@[simp] theorem State.logEvent_cfg (island code a0 a1 a2 : Nat) : (s.logEvent island code a0 a1 a2).cfg = s.cfg := State.logAt_cfg ..
@[simp] theorem State.logEvent_hatch (island code a0 a1 a2 : Nat) : (s.logEvent island code a0 a1 a2).hatch = s.hatch := State.logAt_hatch ..
@[simp] theorem State.logEvent_noc (island code a0 a1 a2 : Nat) : (s.logEvent island code a0 a1 a2).noc = s.noc := State.logAt_noc ..
@[simp] theorem State.logEvent_mem (island code a0 a1 a2 : Nat) : (s.logEvent island code a0 a1 a2).mem = s.mem := State.logAt_mem ..
@[simp] theorem State.logEvent_str (island code a0 a1 a2 : Nat) : (s.logEvent island code a0 a1 a2).str = s.str := State.logAt_str ..
@[simp] theorem State.logEvent_fab (island code a0 a1 a2 : Nat) : (s.logEvent island code a0 a1 a2).fab = s.fab := State.logAt_fab ..
@[simp] theorem State.logEvent_ie (island code a0 a1 a2 : Nat) : (s.logEvent island code a0 a1 a2).ie = s.ie := State.logAt_ie ..
@[simp] theorem State.logEvent_rad (island code a0 a1 a2 : Nat) : (s.logEvent island code a0 a1 a2).rad = s.rad := State.logAt_rad ..
@[simp] theorem State.logEvent_vis (island code a0 a1 a2 : Nat) : (s.logEvent island code a0 a1 a2).vis = s.vis := State.logAt_vis ..
@[simp] theorem State.logEvent_cel (island code a0 a1 a2 : Nat) : (s.logEvent island code a0 a1 a2).cel = s.cel := State.logAt_cel ..
@[simp] theorem State.logEvent_svc (island code a0 a1 a2 : Nat) : (s.logEvent island code a0 a1 a2).svc = s.svc := State.logAt_svc ..
@[simp] theorem State.logEvent_grp (island code a0 a1 a2 : Nat) : (s.logEvent island code a0 a1 a2).grp = s.grp := State.logAt_grp ..
@[simp] theorem State.logEvent_yielded (island code a0 a1 a2 : Nat) : (s.logEvent island code a0 a1 a2).yielded = s.yielded := State.logAt_yielded ..
@[simp] theorem State.logEvent_pcieRoot (island code a0 a1 a2 : Nat) : (s.logEvent island code a0 a1 a2).pcieRoot = s.pcieRoot := State.logAt_pcieRoot ..
@[simp] theorem State.logLimited_part (ix island code a0 a1 a2 : Nat) : (s.logLimited ix island code a0 a1 a2).part = s.part := by
  unfold State.logLimited; split <;> simp
@[simp] theorem State.logLimited_pending (ix island code a0 a1 a2 : Nat) : (s.logLimited ix island code a0 a1 a2).pending = s.pending := by
  unfold State.logLimited; split <;> simp
@[simp] theorem State.logLimited_shadow (ix island code a0 a1 a2 : Nat) : (s.logLimited ix island code a0 a1 a2).shadow = s.shadow := by
  unfold State.logLimited; split <;> simp
@[simp] theorem State.logLimited_wl (ix island code a0 a1 a2 : Nat) : (s.logLimited ix island code a0 a1 a2).wl = s.wl := by
  unfold State.logLimited; split <;> simp
@[simp] theorem State.logLimited_hiLatch (ix island code a0 a1 a2 : Nat) : (s.logLimited ix island code a0 a1 a2).hiLatch = s.hiLatch := by
  unfold State.logLimited; split <;> simp
@[simp] theorem State.logLimited_resp (ix island code a0 a1 a2 : Nat) : (s.logLimited ix island code a0 a1 a2).resp = s.resp := by
  unfold State.logLimited; split <;> simp
@[simp] theorem State.logLimited_fresh (ix island code a0 a1 a2 : Nat) : (s.logLimited ix island code a0 a1 a2).fresh = s.fresh := by
  unfold State.logLimited; split <;> simp
@[simp] theorem State.logLimited_pw (ix island code a0 a1 a2 : Nat) : (s.logLimited ix island code a0 a1 a2).pw = s.pw := by
  unfold State.logLimited; split <;> simp
@[simp] theorem State.logLimited_ck (ix island code a0 a1 a2 : Nat) : (s.logLimited ix island code a0 a1 a2).ck = s.ck := by
  unfold State.logLimited; split <;> simp
@[simp] theorem State.logLimited_cfg (ix island code a0 a1 a2 : Nat) : (s.logLimited ix island code a0 a1 a2).cfg = s.cfg := by
  unfold State.logLimited; split <;> simp
@[simp] theorem State.logLimited_hatch (ix island code a0 a1 a2 : Nat) : (s.logLimited ix island code a0 a1 a2).hatch = s.hatch := by
  unfold State.logLimited; split <;> simp
@[simp] theorem State.logLimited_noc (ix island code a0 a1 a2 : Nat) : (s.logLimited ix island code a0 a1 a2).noc = s.noc := by
  unfold State.logLimited; split <;> simp
@[simp] theorem State.logLimited_mem (ix island code a0 a1 a2 : Nat) : (s.logLimited ix island code a0 a1 a2).mem = s.mem := by
  unfold State.logLimited; split <;> simp
@[simp] theorem State.logLimited_str (ix island code a0 a1 a2 : Nat) : (s.logLimited ix island code a0 a1 a2).str = s.str := by
  unfold State.logLimited; split <;> simp
@[simp] theorem State.logLimited_fab (ix island code a0 a1 a2 : Nat) : (s.logLimited ix island code a0 a1 a2).fab = s.fab := by
  unfold State.logLimited; split <;> simp
@[simp] theorem State.logLimited_ie (ix island code a0 a1 a2 : Nat) : (s.logLimited ix island code a0 a1 a2).ie = s.ie := by
  unfold State.logLimited; split <;> simp
@[simp] theorem State.logLimited_rad (ix island code a0 a1 a2 : Nat) : (s.logLimited ix island code a0 a1 a2).rad = s.rad := by
  unfold State.logLimited; split <;> simp
@[simp] theorem State.logLimited_vis (ix island code a0 a1 a2 : Nat) : (s.logLimited ix island code a0 a1 a2).vis = s.vis := by
  unfold State.logLimited; split <;> simp
@[simp] theorem State.logLimited_cel (ix island code a0 a1 a2 : Nat) : (s.logLimited ix island code a0 a1 a2).cel = s.cel := by
  unfold State.logLimited; split <;> simp
@[simp] theorem State.logLimited_svc (ix island code a0 a1 a2 : Nat) : (s.logLimited ix island code a0 a1 a2).svc = s.svc := by
  unfold State.logLimited; split <;> simp
@[simp] theorem State.logLimited_grp (ix island code a0 a1 a2 : Nat) : (s.logLimited ix island code a0 a1 a2).grp = s.grp := by
  unfold State.logLimited; split <;> simp
@[simp] theorem State.logLimited_yielded (ix island code a0 a1 a2 : Nat) : (s.logLimited ix island code a0 a1 a2).yielded = s.yielded := by
  unfold State.logLimited; split <;> simp
@[simp] theorem State.logLimited_pcieRoot (ix island code a0 a1 a2 : Nat) : (s.logLimited ix island code a0 a1 a2).pcieRoot = s.pcieRoot := by
  unfold State.logLimited; split <;> simp

end Sys2Proof.Machine
end

