-- ==== Sys2Proof/Laws/Tables.lean ====
section
/-! SUPPORT. Sparse tables and byte memories: reading after writing, and the canonical form, which every operation keeps. -/

namespace Sys2Proof.Machine

variable {α : Type}

theorem Tbl.find_insert_same (t : Tbl α) (k : Nat) (v : α) (h : ∀ p ∈ t, p.1 ≠ k) :
    Tbl.find (Tbl.insert t k v) k = some v := by
  induction t with
  | nil => simp [Tbl.insert, Tbl.find]
  | cons p t ih =>
    obtain ⟨a, x⟩ := p
    have ha : a ≠ k := h (a, x) (by simp)
    have ht := ih fun p hp => h p (by simp [hp])
    by_cases hk : k < a <;> simp [Tbl.insert, Tbl.find, hk, ha, ht]

theorem Tbl.find_insert_other (t : Tbl α) {k j : Nat} (v : α) (h : j ≠ k) :
    Tbl.find (Tbl.insert t k v) j = Tbl.find t j := by
  induction t with
  | nil => simp [Tbl.insert, Tbl.find, Ne.symm h]
  | cons p t ih =>
    obtain ⟨a, x⟩ := p
    by_cases hk : k < a <;> simp [Tbl.insert, Tbl.find, hk, ih, Ne.symm h]

theorem Tbl.find_filter_other (t : Tbl α) {k j : Nat} (h : j ≠ k) : Tbl.find (Tbl.erase t k) j = Tbl.find t j := by
  induction t with
  | nil => rfl
  | cons p t ih =>
    obtain ⟨a, x⟩ := p
    simp only [Tbl.erase] at ih ⊢
    by_cases ha : a = k
    · subst ha
      simp [Tbl.find, ih, Ne.symm h]
    · simp [Tbl.find, ha, ih]

theorem Tbl.ne_of_mem_erase (t : Tbl α) (k : Nat) : ∀ p ∈ Tbl.erase t k, p.1 ≠ k := by
  intro p hp
  simpa using (List.mem_filter.mp hp).2

theorem Tbl.find_none (t : Tbl α) (k : Nat) (h : ∀ p ∈ t, p.1 ≠ k) : Tbl.find t k = none := by
  induction t with
  | nil => rfl
  | cons p t ih =>
    obtain ⟨a, x⟩ := p
    have ha : a ≠ k := h (a, x) (by simp)
    simp [Tbl.find, ha, ih fun p hp => h p (by simp [hp])]

/-- The entry set is the entry found. -/
@[simp] theorem Tbl.find_set_same (t : Tbl α) (k : Nat) (v : α) : Tbl.find (Tbl.set t k v) k = some v :=
  Tbl.find_insert_same _ _ _ (Tbl.ne_of_mem_erase t k)

/-- Setting an entry leaves the others. -/
theorem Tbl.find_set_other (t : Tbl α) {k j : Nat} (v : α) (h : j ≠ k) :
    Tbl.find (Tbl.set t k v) j = Tbl.find t j :=
  (Tbl.find_insert_other _ _ h).trans (Tbl.find_filter_other t h)

@[simp] theorem Tbl.find_erase_same (t : Tbl α) (k : Nat) : Tbl.find (Tbl.erase t k) k = none :=
  Tbl.find_none _ _ (Tbl.ne_of_mem_erase t k)

@[simp] theorem Tbl.get_set_same (t : Tbl α) (k : Nat) (v d : α) : Tbl.get (Tbl.set t k v) k d = v := by
  simp [Tbl.get]

theorem Tbl.get_set_other (t : Tbl α) {k j : Nat} (v d : α) (h : j ≠ k) :
    Tbl.get (Tbl.set t k v) j d = Tbl.get t j d := by
  simp [Tbl.get, Tbl.find_set_other t v h]

/-- What is put is what is got, the default included. -/
@[simp] theorem Tbl.get_put_same [DecidableEq α] (t : Tbl α) (k : Nat) (v d : α) : Tbl.get (Tbl.put t k v d) k d = v := by
  by_cases h : v = d <;> simp [Tbl.put, h, Tbl.get]

theorem Tbl.get_put_other [DecidableEq α] (t : Tbl α) {k j : Nat} (v d e : α) (h : j ≠ k) :
    Tbl.get (Tbl.put t k v d) j e = Tbl.get t j e := by
  by_cases hv : v = d <;> simp [Tbl.put, hv, Tbl.get, Tbl.find_filter_other t h, Tbl.find_set_other t v h]

/-- A filter that keeps a key keeps its entry. -/
theorem Tbl.find_filter_keep (t : Tbl α) (f : Nat × α → Bool) (k : Nat) (h : ∀ v, f (k, v) = true) :
    Tbl.find (t.filter f) k = Tbl.find t k := by
  induction t with
  | nil => rfl
  | cons p t ih =>
    obtain ⟨a, x⟩ := p
    by_cases ha : a = k
    · subst ha
      simp [List.filter, h, Tbl.find]
    · cases c : f (a, x) <;> simp [List.filter, c, Tbl.find, ha, ih]

/-! Rising keys. -/

theorem Tbl.risingFrom_mono (t : Tbl α) {lo lo' : Nat} (hl : lo' ≤ lo) (h : Tbl.risingFrom t lo = true) :
    Tbl.risingFrom t lo' = true := by
  cases t with
  | nil => rfl
  | cons p t =>
    obtain ⟨a, x⟩ := p
    simp only [Tbl.risingFrom, Bool.and_eq_true, decide_eq_true_eq] at h ⊢
    exact ⟨Nat.le_trans hl h.1, h.2⟩

theorem Tbl.risingFrom_filter (t : Tbl α) (f : Nat × α → Bool) (lo : Nat) (h : Tbl.risingFrom t lo = true) :
    Tbl.risingFrom (t.filter f) lo = true := by
  induction t generalizing lo with
  | nil => rfl
  | cons p t ih =>
    obtain ⟨a, x⟩ := p
    simp only [Tbl.risingFrom, Bool.and_eq_true, decide_eq_true_eq] at h
    by_cases hf : f (a, x)
    · simp [hf, Tbl.risingFrom, h.1, ih _ h.2]
    · simp only [hf, Bool.false_eq_true, not_false_eq_true, List.filter_cons_of_neg]
      exact Tbl.risingFrom_mono _ (by omega) (ih _ h.2)

theorem Tbl.risingFrom_insert (t : Tbl α) (k : Nat) (v : α) (lo : Nat) (hk : lo ≤ k) (hn : ∀ p ∈ t, p.1 ≠ k)
    (h : Tbl.risingFrom t lo = true) : Tbl.risingFrom (Tbl.insert t k v) lo = true := by
  induction t generalizing lo with
  | nil => simp [Tbl.insert, Tbl.risingFrom, hk]
  | cons p t ih =>
    obtain ⟨a, x⟩ := p
    have ha : a ≠ k := hn (a, x) (by simp)
    simp only [Tbl.risingFrom, Bool.and_eq_true, decide_eq_true_eq] at h
    by_cases hka : k < a
    · simp only [Tbl.insert, hka, if_true, Tbl.risingFrom, Bool.and_eq_true, decide_eq_true_eq]
      exact ⟨hk, by omega, h.2⟩
    · simp only [Tbl.insert, hka, if_false, Tbl.risingFrom, Bool.and_eq_true, decide_eq_true_eq]
      exact ⟨h.1, ih _ (by omega) (fun p hp => hn p (by simp [hp])) h.2⟩

/-- Leaving entries out keeps the keys rising. -/
theorem Tbl.rising_filter (t : Tbl α) (f : Nat × α → Bool) (h : Tbl.rising t = true) : Tbl.rising (t.filter f) = true :=
  Tbl.risingFrom_filter t f 0 h

/-- Setting an entry keeps the keys rising. -/
theorem Tbl.rising_set (t : Tbl α) (k : Nat) (v : α) (h : Tbl.rising t = true) : Tbl.rising (Tbl.set t k v) = true :=
  Tbl.risingFrom_insert _ _ _ _ (Nat.zero_le _) (Tbl.ne_of_mem_erase t k) (Tbl.rising_filter t _ h)

theorem Tbl.rising_put [DecidableEq α] (t : Tbl α) (k : Nat) (v d : α) (h : Tbl.rising t = true) :
    Tbl.rising (Tbl.put t k v d) = true := by
  by_cases hv : v = d
  · rw [Tbl.put, if_pos hv]; exact Tbl.rising_filter t _ h
  · rw [Tbl.put, if_neg hv]; exact Tbl.rising_set t k v h

theorem Tbl.mem_insert (t : Tbl α) (k : Nat) (v : α) (p : Nat × α) (h : p ∈ Tbl.insert t k v) : p = (k, v) ∨ p ∈ t := by
  induction t with
  | nil => simpa [Tbl.insert] using h
  | cons q t ih =>
    obtain ⟨a, x⟩ := q
    by_cases hka : k < a
    · simpa [Tbl.insert, hka] using h
    · simp only [Tbl.insert, hka, if_false, List.mem_cons] at h ⊢
      rcases h with h | h
      · exact .inr (.inl h)
      · exact (ih h).elim .inl fun h => .inr (.inr h)

/-! Byte memories. -/

/-- The empty memory is canonical. -/
@[simp] theorem Mem.wf_nil : Mem.wf [] = true := rfl

/-- Writing a byte keeps the canonical form. -/
theorem Mem.wf_write (m : Mem) (a : Nat) (b : Byte) (h : Mem.wf m = true) : Mem.wf (Mem.write m a b) = true := by
  simp only [Mem.wf, Bool.and_eq_true, List.all_eq_true] at h ⊢
  refine ⟨Tbl.rising_put m a b 0 h.1, fun c hc => ?_⟩
  by_cases hb : b = 0
  · simp only [Mem.write, Tbl.put, hb, if_true, Tbl.erase] at hc
    exact h.2 c (List.mem_filter.mp hc).1
  · simp only [Mem.write, Tbl.put, hb, if_false, Tbl.set, Tbl.erase] at hc
    rcases Tbl.mem_insert _ _ _ _ hc with rfl | hc
    · simpa using hb
    · exact h.2 c (List.mem_filter.mp hc).1

/-- Writing bytes keeps the canonical form. -/
theorem Mem.wf_writeN (m : Mem) (a : Nat) (bs : List Byte) (h : Mem.wf m = true) : Mem.wf (Mem.writeN m a bs) = true := by
  induction bs generalizing m a with
  | nil => exact h
  | cons b bs ih => exact ih _ _ (Mem.wf_write m a b h)

theorem Mem.wf_filter (m : Mem) (f : Host.Cell → Bool) (h : Mem.wf m = true) : Mem.wf (m.filter f) = true := by
  simp only [Mem.wf, Bool.and_eq_true, List.all_eq_true] at h ⊢
  exact ⟨Tbl.rising_filter m f h.1, fun c hc => h.2 c (List.mem_filter.mp hc).1⟩

/-- The byte written is the byte read. -/
@[simp] theorem Mem.read_write_same (m : Mem) (a : Nat) (b : Byte) : Mem.read (Mem.write m a b) a = b :=
  Tbl.get_put_same m a b 0

/-- Writing a byte leaves the others. -/
theorem Mem.read_write_other (m : Mem) {a j : Nat} (b : Byte) (h : j ≠ a) : Mem.read (Mem.write m a b) j = Mem.read m j :=
  Tbl.get_put_other m b 0 0 h

/-- Bytes outside a written range stand. -/
theorem Mem.read_writeN_outside (m : Mem) (a j : Nat) (bs : List Byte) (h : j < a ∨ a + bs.length ≤ j) :
    Mem.read (Mem.writeN m a bs) j = Mem.read m j := by
  induction bs generalizing m a with
  | nil => rfl
  | cons b bs ih =>
    simp only [List.length_cons] at h
    rw [Mem.writeN, ih _ _ (by omega), Mem.read_write_other _ _ (by omega)]

/-- Bytes inside a written range are those written. -/
theorem Mem.read_writeN_inside (m : Mem) (a i : Nat) (bs : List Byte) (h : i < bs.length) :
    Mem.read (Mem.writeN m a bs) (a + i) = bs[i] := by
  induction bs generalizing m a i with
  | nil => simp at h
  | cons b bs ih =>
    rw [Mem.writeN]
    cases i with
    | zero => rw [Mem.read_writeN_outside _ _ _ _ (by omega)]; simp
    | succ i =>
      have := ih (Mem.write m a b) (a + 1) i (by simpa using h)
      rw [show a + (i + 1) = a + 1 + i by omega, this]; rfl

end Sys2Proof.Machine
end

