-- ==== Sys2Proof/Laws/Frame.lean ====
section
/-! SUPPORT. Reading a register field after each update, and what each shared operation leaves as it was. -/

namespace Sys2Proof.Machine

section Read

variable (s : State)

@[simp] theorem State.rd_wr_same (f : Fld) (v : Nat) : (s.wr f v).rd f = v % 2 ^ f.w := by
  simp [State.rd, State.wr]

theorem State.rd_wr_other {f g : Fld} (v : Nat) (h : g.key ≠ f.key) : (s.wr f v).rd g = s.rd g := by
  simp [State.rd, State.wr, Tbl.get_put_other _ _ _ _ h]

@[simp] theorem State.rd_commit_same (f : Fld) : (s.commit f).rd f = s.rdShadow f % 2 ^ f.w := State.rd_wr_same ..

theorem State.rd_commit_other {f g : Fld} (h : g.key ≠ f.key) : (s.commit f).rd g = s.rd g := State.rd_wr_other _ _ h

@[simp] theorem State.rd_bump_same (f : Fld) (n : Nat) : (s.bump f n).rd f = min (2 ^ f.w - 1) (s.rd f + n) :=
  (State.rd_wr_same ..).trans (Nat.mod_eq_of_lt (Nat.lt_of_le_of_lt (Nat.min_le_left _ _) (Nat.sub_lt (Nat.two_pow_pos _) Nat.one_pos)))

theorem State.rd_bump_other {f g : Fld} (n : Nat) (h : g.key ≠ f.key) : (s.bump f n).rd g = s.rd g :=
  State.rd_wr_other _ _ h

@[simp] theorem State.rd_count_same (f : Fld) : (s.count f).rd f = (s.rd f + 1) % 2 ^ f.w := State.rd_wr_same ..

theorem State.rd_count_other {f g : Fld} (h : g.key ≠ f.key) : (s.count f).rd g = s.rd g := State.rd_wr_other _ _ h

@[simp] theorem State.rd_orBits_same (f : Fld) (m : Nat) : (s.orBits f m).rd f = (s.rd f ||| m) % 2 ^ f.w :=
  State.rd_wr_same ..

theorem State.rd_orBits_other {f g : Fld} (m : Nat) (h : g.key ≠ f.key) : (s.orBits f m).rd g = s.rd g :=
  State.rd_wr_other _ _ h

@[simp] theorem State.rd_clearBits_same (f : Fld) (m : Nat) : (s.clearBits f m).rd f = andNot (s.rd f) m % 2 ^ f.w :=
  State.rd_wr_same ..

theorem State.rd_clearBits_other {f g : Fld} (m : Nat) (h : g.key ≠ f.key) : (s.clearBits f m).rd g = s.rd g :=
  State.rd_wr_other _ _ h

theorem State.rd_wrPair_other {lo hi g : Fld} (v : Nat) (h : g.key ≠ lo.key) (h' : g.key ≠ hi.key) :
    (s.wrPair lo hi v).rd g = s.rd g :=
  (State.rd_wr_other _ _ h').trans (State.rd_wr_other _ _ h)

@[simp] theorem State.rd_wrShadow (f g : Fld) (v : Nat) : (s.wrShadow f v).rd g = s.rd g := rfl
@[simp] theorem State.rd_useFresh (g : Fld) : s.useFresh.rd g = s.rd g := rfl
@[simp] theorem State.rd_answer (g : Fld) (v : Nat) : (s.answer v).rd g = s.rd g := rfl
@[simp] theorem State.rd_busErr (g : Fld) : s.busErr.rd g = s.rd g := rfl
@[simp] theorem State.rd_answerPoison (g : Fld) (v : Nat) : (s.answerPoison v).rd g = s.rd g := rfl

/-- A register field depends on the register table alone. -/
theorem State.rd_congr {t : State} (h : t.csr = s.csr) (f : Fld) : t.rd f = s.rd f := by simp [State.rd, h]

@[simp] theorem State.rdShadow_wr (f g : Fld) (v : Nat) : (s.wr f v).rdShadow g = s.rdShadow g := rfl

theorem State.rd_logAt_other (ev : LogEv) {g : Fld} (h : g.key ≠ Reg.LOG_LOST_DROP.COUNT.key) :
    (s.logAt ev).rd g = s.rd g := by
  unfold State.logAt
  split
  · rfl
  · exact State.rd_bump_other _ _ h

theorem State.rd_logEvent_other (island code a0 a1 a2 : Nat) {g : Fld} (h : g.key ≠ Reg.LOG_LOST_DROP.COUNT.key) :
    (s.logEvent island code a0 a1 a2).rd g = s.rd g := State.rd_logAt_other _ _ h

/-- An event raised leaves every entry of the register table but LOG_LOST_DROP's. -/
theorem State.get_logAt_other (ev : LogEv) {k : Nat} (d : Nat) (h : k ≠ Reg.LOG_LOST_DROP.COUNT.key) :
    Tbl.get (s.logAt ev).csr k d = Tbl.get s.csr k d := by
  unfold State.logAt
  split
  · rfl
  · exact Tbl.get_put_other _ _ _ _ h

theorem State.get_logEvent_other (island code a0 a1 a2 : Nat) {k : Nat} (d : Nat) (h : k ≠ Reg.LOG_LOST_DROP.COUNT.key) :
    Tbl.get (s.logEvent island code a0 a1 a2).csr k d = Tbl.get s.csr k d := State.get_logAt_other _ _ _ h

theorem State.get_logLimited_other (ix island code a0 a1 a2 : Nat) {k : Nat} (d : Nat) (h : k ≠ Reg.LOG_LOST_DROP.COUNT.key) :
    Tbl.get (s.logLimited ix island code a0 a1 a2).csr k d = Tbl.get s.csr k d := by
  unfold State.logLimited
  split
  · rfl
  · exact State.get_logEvent_other _ _ _ _ _ _ _ h

end Read

section Rules

variable {as : List Area} {may : Fld → Prop} {s t : State}

theorem Confined.refl (as : List Area) (may : Fld → Prop) (s : State) : Confined as may s s :=
  ⟨rfl, rfl, fun a _ => by cases a <;> rfl, fun _ _ => rfl⟩

theorem Confined.trans {u : State} (h : Confined as may s t) (h' : Confined as may t u) : Confined as may s u := by
  refine ⟨h'.part.trans h.part, h'.pending.trans h.pending, fun a ha => ?_, fun f hf => (h'.reg f hf).trans (h.reg f hf)⟩
  have h1 := h.area a ha
  have h2 := h'.area a ha
  cases a <;> exact Eq.trans h2 h1

theorem Confined.mono {as' : List Area} {may' : Fld → Prop} (h : Confined as may s t) (ha : ∀ a, a ∈ as → a ∈ as')
    (hm : ∀ f, may f → may' f) : Confined as' may' s t :=
  ⟨h.part, h.pending, fun a n => h.area a fun m => n (ha a m), fun f n => h.reg f fun m => n (hm f m)⟩

/-- An area outside the list stands as it was. -/
theorem Confined.of_area (h : Confined as may s t) (a : Area) (ha : a ∉ as := by decide) : a.same s t := h.area a ha

theorem Confined.ite {c : Prop} [Decidable c] {u : State} (h : Confined as may s t) (h' : Confined as may s u) :
    Confined as may s (if c then t else u) := by split <;> assumption

theorem Confined.foldl {β : Type} {f : State → β → State} {l : List β}
    (hf : ∀ u x, x ∈ l → Confined as may s u → Confined as may s (f u x)) (h : Confined as may s t) :
    Confined as may s (l.foldl f t) := by
  induction l generalizing t with
  | nil => exact h
  | cons x l ih => exact ih (fun u y hy => hf u y (by simp [hy])) (hf t x (by simp) h)

theorem Confined.wr (h : Confined as may s t) (f : Fld) (v : Nat) (hf : ∀ g : Fld, ¬ may g → g.key ≠ f.key) :
    Confined as may s (t.wr f v) :=
  ⟨h.part, h.pending, fun a ha => by have := h.area a ha; cases a <;> exact this,
    fun g hg => (State.rd_wr_other t v (hf g hg)).trans (h.reg g hg)⟩

/-- A field named in the list may be written. -/
theorem only_key {fs : List Fld} {f : Fld} (hf : f.key ∈ fs.map Fld.key) : ∀ g : Fld, ¬ only fs g → g.key ≠ f.key :=
  fun _ hg e => hg (show _ ∈ _ from e ▸ hf)

/-- A field whose register stands in the window may be written. -/
theorem within_key {lo hi : Nat} {f : Fld} (h : 32 * lo ≤ f.key) (h' : f.key < 32 * hi) :
    ∀ g : Fld, ¬ within lo hi g → g.key ≠ f.key :=
  fun _ hg e => hg ⟨e ▸ h, e ▸ h'⟩

theorem Confined.wrShadow (h : Confined as may s t) (f : Fld) (v : Nat) (ha : Area.shadow ∈ as) : Confined as may s (t.wrShadow f v) :=
  ⟨h.part, h.pending, fun a hn => by have := h.area a hn; cases a <;> first | exact this | exact absurd ha hn,
    fun g hg => h.reg g hg⟩

theorem Confined.commit (h : Confined as may s t) (f : Fld) (hf : ∀ g : Fld, ¬ may g → g.key ≠ f.key) :
    Confined as may s (t.commit f) := h.wr f _ hf

theorem Confined.commitAll (h : Confined as may s t) (fs : List Fld) (hf : ∀ f ∈ fs, ∀ g : Fld, ¬ may g → g.key ≠ f.key) :
    Confined as may s (t.commitAll fs) := Confined.foldl (fun _ f hm hu => hu.commit f (hf f hm)) h

theorem Confined.bump (h : Confined as may s t) (f : Fld) (n : Nat) (hf : ∀ g : Fld, ¬ may g → g.key ≠ f.key) :
    Confined as may s (t.bump f n) := h.wr f _ hf

theorem Confined.count (h : Confined as may s t) (f : Fld) (hf : ∀ g : Fld, ¬ may g → g.key ≠ f.key) :
    Confined as may s (t.count f) := h.wr f _ hf

theorem Confined.orBits (h : Confined as may s t) (f : Fld) (m : Nat) (hf : ∀ g : Fld, ¬ may g → g.key ≠ f.key) :
    Confined as may s (t.orBits f m) := h.wr f _ hf

theorem Confined.clearBits (h : Confined as may s t) (f : Fld) (m : Nat) (hf : ∀ g : Fld, ¬ may g → g.key ≠ f.key) :
    Confined as may s (t.clearBits f m) := h.wr f _ hf

theorem Confined.wrPair (h : Confined as may s t) (lo hi : Fld) (v : Nat) (hl : ∀ g : Fld, ¬ may g → g.key ≠ lo.key)
    (hh : ∀ g : Fld, ¬ may g → g.key ≠ hi.key) : Confined as may s (t.wrPair lo hi v) := (h.wr lo _ hl).wr hi _ hh

theorem Confined.useFresh (h : Confined as may s t) (ha : Area.fresh ∈ as) : Confined as may s t.useFresh :=
  ⟨h.part, h.pending, fun a hn => by have := h.area a hn; cases a <;> first | exact this | exact absurd ha hn,
    fun g hg => h.reg g hg⟩

theorem Confined.answer (h : Confined as may s t) (v : Nat) (ha : Area.resp ∈ as) : Confined as may s (t.answer v) :=
  ⟨h.part, h.pending, fun a hn => by have := h.area a hn; cases a <;> first | exact this | exact absurd ha hn,
    fun g hg => h.reg g hg⟩

theorem Confined.busErr (h : Confined as may s t) (ha : Area.resp ∈ as) : Confined as may s t.busErr :=
  ⟨h.part, h.pending, fun a hn => by have := h.area a hn; cases a <;> first | exact this | exact absurd ha hn,
    fun g hg => h.reg g hg⟩

theorem Confined.answerPoison (h : Confined as may s t) (v : Nat) (ha : Area.resp ∈ as) : Confined as may s (t.answerPoison v) :=
  ⟨h.part, h.pending, fun a hn => by have := h.area a hn; cases a <;> first | exact this | exact absurd ha hn,
    fun g hg => h.reg g hg⟩

theorem Confined.logAt (h : Confined as may s t) (ev : LogEv) (ha : Area.log ∈ as)
    (hf : ∀ g : Fld, ¬ may g → g.key ≠ Reg.LOG_LOST_DROP.COUNT.key) : Confined as may s (t.logAt ev) := by
  unfold State.logAt
  split
  · exact ⟨h.part, h.pending, fun a hn => by have := h.area a hn; cases a <;> first | exact this | exact absurd ha hn,
      fun g hg => h.reg g hg⟩
  · refine Confined.bump ?_ _ _ hf
    exact ⟨h.part, h.pending, fun a hn => by have := h.area a hn; cases a <;> first | exact this | exact absurd ha hn,
      fun g hg => h.reg g hg⟩

theorem Confined.logEvent (h : Confined as may s t) (island code a0 a1 a2 : Nat) (ha : Area.log ∈ as)
    (hf : ∀ g : Fld, ¬ may g → g.key ≠ Reg.LOG_LOST_DROP.COUNT.key) :
    Confined as may s (t.logEvent island code a0 a1 a2) := h.logAt _ ha hf

theorem Confined.logLimited (h : Confined as may s t) (ix island code a0 a1 a2 : Nat) (ha : Area.log ∈ as)
    (hf : ∀ g : Fld, ¬ may g → g.key ≠ Reg.LOG_LOST_DROP.COUNT.key) :
    Confined as may s (t.logLimited ix island code a0 a1 a2) := by
  unfold State.logLimited
  split
  · exact h
  · refine Confined.logEvent ?_ _ _ _ _ _ ha hf
    exact ⟨h.part, h.pending, fun a hn => by have := h.area a hn; cases a <;> first | exact this | exact absurd ha hn,
      fun g hg => h.reg g hg⟩

theorem Confined.set_resp (h : Confined as may s t) (x : Resp) (ha : Area.resp ∈ as) : Confined as may s { t with resp := x } :=
  ⟨h.part, h.pending, fun a hn => by have := h.area a hn; cases a <;> first | exact this | exact absurd ha hn,
    fun g hg => h.reg g hg⟩

theorem Confined.set_log (h : Confined as may s t) (x : LogState) (ha : Area.log ∈ as) : Confined as may s { t with log := x } :=
  ⟨h.part, h.pending, fun a hn => by have := h.area a hn; cases a <;> first | exact this | exact absurd ha hn,
    fun g hg => h.reg g hg⟩

theorem Confined.set_pw (h : Confined as may s t) (x : Power) (ha : Area.pw ∈ as) : Confined as may s { t with pw := x } :=
  ⟨h.part, h.pending, fun a hn => by have := h.area a hn; cases a <;> first | exact this | exact absurd ha hn,
    fun g hg => h.reg g hg⟩

theorem Confined.set_ck (h : Confined as may s t) (x : Clock) (ha : Area.ck ∈ as) : Confined as may s { t with ck := x } :=
  ⟨h.part, h.pending, fun a hn => by have := h.area a hn; cases a <;> first | exact this | exact absurd ha hn,
    fun g hg => h.reg g hg⟩

theorem Confined.set_cfg (h : Confined as may s t) (x : Cfg) (ha : Area.cfg ∈ as) : Confined as may s { t with cfg := x } :=
  ⟨h.part, h.pending, fun a hn => by have := h.area a hn; cases a <;> first | exact this | exact absurd ha hn,
    fun g hg => h.reg g hg⟩

theorem Confined.set_hatch (h : Confined as may s t) (x : Hatch) (ha : Area.hatch ∈ as) : Confined as may s { t with hatch := x } :=
  ⟨h.part, h.pending, fun a hn => by have := h.area a hn; cases a <;> first | exact this | exact absurd ha hn,
    fun g hg => h.reg g hg⟩

theorem Confined.set_noc (h : Confined as may s t) (x : Noc) (ha : Area.noc ∈ as) : Confined as may s { t with noc := x } :=
  ⟨h.part, h.pending, fun a hn => by have := h.area a hn; cases a <;> first | exact this | exact absurd ha hn,
    fun g hg => h.reg g hg⟩

theorem Confined.set_mem (h : Confined as may s t) (x : Stores) (ha : Area.mem ∈ as) : Confined as may s { t with mem := x } :=
  ⟨h.part, h.pending, fun a hn => by have := h.area a hn; cases a <;> first | exact this | exact absurd ha hn,
    fun g hg => h.reg g hg⟩

theorem Confined.set_str (h : Confined as may s t) (x : Store) (ha : Area.str ∈ as) : Confined as may s { t with str := x } :=
  ⟨h.part, h.pending, fun a hn => by have := h.area a hn; cases a <;> first | exact this | exact absurd ha hn,
    fun g hg => h.reg g hg⟩

theorem Confined.set_fab (h : Confined as may s t) (x : Fabric) (ha : Area.fab ∈ as) : Confined as may s { t with fab := x } :=
  ⟨h.part, h.pending, fun a hn => by have := h.area a hn; cases a <;> first | exact this | exact absurd ha hn,
    fun g hg => h.reg g hg⟩

theorem Confined.set_ie (h : Confined as may s t) (x : Tbl Engine) (ha : Area.ie ∈ as) : Confined as may s { t with ie := x } :=
  ⟨h.part, h.pending, fun a hn => by have := h.area a hn; cases a <;> first | exact this | exact absurd ha hn,
    fun g hg => h.reg g hg⟩

theorem Confined.set_rad (h : Confined as may s t) (x : Radio) (ha : Area.rad ∈ as) : Confined as may s { t with rad := x } :=
  ⟨h.part, h.pending, fun a hn => by have := h.area a hn; cases a <;> first | exact this | exact absurd ha hn,
    fun g hg => h.reg g hg⟩

theorem Confined.set_vis (h : Confined as may s t) (x : Vision) (ha : Area.vis ∈ as) : Confined as may s { t with vis := x } :=
  ⟨h.part, h.pending, fun a hn => by have := h.area a hn; cases a <;> first | exact this | exact absurd ha hn,
    fun g hg => h.reg g hg⟩

theorem Confined.set_cel (h : Confined as may s t) (x : Plant) (ha : Area.cel ∈ as) : Confined as may s { t with cel := x } :=
  ⟨h.part, h.pending, fun a hn => by have := h.area a hn; cases a <;> first | exact this | exact absurd ha hn,
    fun g hg => h.reg g hg⟩

theorem Confined.set_svc (h : Confined as may s t) (x : Service) (ha : Area.svc ∈ as) : Confined as may s { t with svc := x } :=
  ⟨h.part, h.pending, fun a hn => by have := h.area a hn; cases a <;> first | exact this | exact absurd ha hn,
    fun g hg => h.reg g hg⟩

theorem Confined.set_grp (h : Confined as may s t) (x : Group) (ha : Area.grp ∈ as) : Confined as may s { t with grp := x } :=
  ⟨h.part, h.pending, fun a hn => by have := h.area a hn; cases a <;> first | exact this | exact absurd ha hn,
    fun g hg => h.reg g hg⟩

theorem Confined.set_fresh (h : Confined as may s t) (x : Nat) (ha : Area.fresh ∈ as) : Confined as may s { t with fresh := x } :=
  ⟨h.part, h.pending, fun a hn => by have := h.area a hn; cases a <;> first | exact this | exact absurd ha hn,
    fun g hg => h.reg g hg⟩

theorem Confined.set_hiLatch (h : Confined as may s t) (x : List (Nat × Nat × Nat)) (ha : Area.hiLatch ∈ as) : Confined as may s { t with hiLatch := x } :=
  ⟨h.part, h.pending, fun a hn => by have := h.area a hn; cases a <;> first | exact this | exact absurd ha hn,
    fun g hg => h.reg g hg⟩

theorem Confined.set_wl (h : Confined as may s t) (x : List Nat) (ha : Area.wl ∈ as) : Confined as may s { t with wl := x } :=
  ⟨h.part, h.pending, fun a hn => by have := h.area a hn; cases a <;> first | exact this | exact absurd ha hn,
    fun g hg => h.reg g hg⟩

theorem Confined.set_yielded (h : Confined as may s t) (x : Bool) (ha : Area.yielded ∈ as) : Confined as may s { t with yielded := x } :=
  ⟨h.part, h.pending, fun a hn => by have := h.area a hn; cases a <;> first | exact this | exact absurd ha hn,
    fun g hg => h.reg g hg⟩

/-- Registers outside the window stand while a window is reset. -/
theorem Confined.resetWindow (h : Confined as may s t) (lo hi : Nat) (keep : List Fld) (hs : Area.shadow ∈ as)
    (hw : Area.wl ∈ as) (hm : ∀ g : Fld, ¬ may g → ¬ within lo hi g) : Confined as may s (t.resetWindow lo hi keep) := by
  refine ⟨h.part, h.pending, fun a hn => ?_, fun g hg => ?_⟩
  · have := h.area a hn
    cases a <;> first | exact this | exact absurd hs hn | exact absurd hw hn
  · rw [← h.reg g hg]
    have k : g.key < 32 * lo ∨ 32 * hi ≤ g.key := by
      have := hm g hg
      simp only [within] at this
      omega
    simp only [State.rd, State.resetWindow, Tbl.get]
    rw [Tbl.find_filter_keep]
    intro v
    rcases k with k | k <;> simp [k]

end Rules

/-- A command acts while the device is awake. -/
theorem whilePowered_awake {s : State} (h : s.awake) (k : State → State) : whilePowered s k = .next (k s) := by
  simp [whilePowered, h.1, h.2]

/-- Nothing acts while the device is OFF or held. -/
theorem whilePowered_asleep {s : State} (h : s.pw.off = true ∨ s.pw.held = true) (k : State → State) :
    whilePowered s k = .next s := by
  rcases h with h | h <;> simp [whilePowered, h]

/-- An event raised is logged, whatever the state has gained beside the log and its time since. -/
theorem logs_from {s u : State} (hl : u.log = s.log) (ht : u.ck.time = s.ck.time)
    (hr : u.rd Reg.LOG_LOST_DROP.COUNT = s.rd Reg.LOG_LOST_DROP.COUNT) (island code a0 a1 a2 : Nat) :
    Logs s (u.logEvent island code a0 a1 a2) island code a0 a1 a2 := by
  refine ⟨fun h => by simp [State.logEvent, State.logAt, hl, ht, h], fun h => ?_⟩
  have h' : ¬ s.log.intake.length < 16 := by omega
  refine ⟨by simp [State.logEvent, State.logAt, hl, h'], ?_⟩
  simp only [State.logEvent, State.logAt, hl, if_neg h', State.rd_bump_same]
  rw [← hr]
  rfl

theorem logs_logEvent (s : State) (island code a0 a1 a2 : Nat) : Logs s (s.logEvent island code a0 a1 a2) island code a0 a1 a2 :=
  logs_from rfl rfl rfl ..

/-- What happens to other parts of the state afterwards leaves the entry. -/
theorem Logs.congr {s t u : State} {island code a0 a1 a2 : Nat} (h : Logs s t island code a0 a1 a2) (hl : u.log = t.log)
    (hr : u.rd Reg.LOG_LOST_DROP.COUNT = t.rd Reg.LOG_LOST_DROP.COUNT) : Logs s u island code a0 a1 a2 :=
  ⟨fun g => hl.trans (h.1 g), fun g => ⟨hl.trans (h.2 g).1, hr.trans (h.2 g).2⟩⟩

/-- A register command whose route and checks pass has its effect. -/
theorem atRegister_allowed {s : State} {rq : Requester} {a data : Nat} {w : Bool} (h : allowed s rq a w data = true)
    (k : State → State) : atRegister s rq a w data k = k s := by
  unfold allowed at h
  unfold atRegister
  cases e : routedAccess s rq a 4 w data <;> simp_all

/-- A register command that its route or its checks turn away has their answer. -/
theorem atRegister_err {s e : State} {rq : Requester} {a data : Nat} {w : Bool} (hm : mayRequest s rq = true)
    (h : routedAccess s rq a 4 w data = .err e) (k : State → State) : atRegister s rq a w data k = e := by
  simp [atRegister, hm, h]

/-- A register command of an NI that may issue no request does nothing. -/
theorem atRegister_masked {s : State} {rq : Requester} {a data : Nat} {w : Bool} (hm : mayRequest s rq = false)
    (k : State → State) : atRegister s rq a w data k = s := by
  simp [atRegister, hm]

/-- An access that the checks turn away is answered with a bus error and logged, and nothing else happens. -/
theorem checkAccess_err {s e : State} {rq : Requester} {a len data : Nat} {w : Bool}
    (h : checkAccess s rq a len w data = .err e) :
    e.resp.busError = true ∧ Confined [.resp, .log] (only [Reg.LOG_LOST_DROP.COUNT]) s e := by
  have key : ∀ island code x y z, (s.logEvent island code x y z).busErr.resp.busError = true ∧
      Confined [.resp, .log] (only [Reg.LOG_LOST_DROP.COUNT]) s (s.logEvent island code x y z).busErr := fun _ _ _ _ _ =>
    ⟨rfl, ((Confined.refl _ _ s).logEvent _ _ _ _ _ (by decide) (only_key (by decide))).busErr (by decide)⟩
  unfold checkAccess at h
  split at h
  repeat' split at h
  all_goals first | (injection h with h; subst h; exact key _ _ _ _ _) | cases h

/-- So is one that has no route to its target, or that its checks turn away. -/
theorem routedAccess_err {s e : State} {rq : Requester} {a len data : Nat} {w : Bool}
    (h : routedAccess s rq a len w data = .err e) :
    e.resp.busError = true ∧ Confined [.resp, .log] (only [Reg.LOG_LOST_DROP.COUNT]) s e := by
  unfold routedAccess at h
  split at h
  · rename_i x hu
    injection h with h
    subst h
    unfold unrouted at hu
    split at hu
    · obtain ⟨x, -, rfl⟩ := Option.map_eq_some_iff.mp hu
      exact ⟨rfl, ((Confined.refl _ _ s).logEvent _ _ _ _ _ (by decide) (only_key (by decide))).busErr (by decide)⟩
    · cases hu
  · exact checkAccess_err h

end Sys2Proof.Machine
end

