-- ==== Sys2Proof/Laws/Sound.lean ====
section
/-! SUPPORT. What no operation breaks: the part, the rest of the queue, the canonical form of the byte memories and of the
register tables.  Here: the invariant that every operation keeps, and the operations over registers, log, answers and access checks. -/

namespace Sys2Proof.Machine

/-- What every command keeps: the part, the rest of the queue, and the canonical form of the byte memories and the register
tables. -/
structure Good (p : Part) (q : List Instr) (part : Part) (queue : List Instr) (dram larder sram : Mem) (csr shadow : Tbl Nat) :
    Prop where
  part : part = p
  queue : queue = q
  dram : Mem.wf dram = true
  larder : Mem.wf larder = true
  sram : Mem.wf sram = true
  csr : Tbl.rising csr = true
  shadow : Tbl.rising shadow = true

/-- `Good` of a state. -/
abbrev Sound (p : Part) (q : List Instr) (s : State) : Prop :=
  Good p q s.part s.pending s.mem.dram s.mem.larder s.mem.sram s.csr s.shadow

/-- Every next state an outcome gives is `Sound`. -/
structure Keeps (p : Part) (q : List Instr) (o : Host.Outcome State Fault Refusal) : Prop where
  out : ∀ t, o = .next t → Sound p q t

theorem Keeps.next {p : Part} {q : List Instr} {s : State} (h : Sound p q s) : Keeps p q (.next s) :=
  ⟨fun t ht => by cases ht; exact h⟩

section

variable {p : Part} {q : List Instr} {s : State}

theorem ite_sound {c : Prop} [Decidable c] {a b : State} (ha : Sound p q a) (hb : Sound p q b) :
    Sound p q (if c then a else b) := by
  split
  · exact ha
  · exact hb

theorem pair_sound {β : Type} {r : State × β} {a : State} {b : β} (e : r = (a, b)) (h : Sound p q r.1) : Sound p q a := by
  subst e; exact h

theorem foldl_sound {β : Type} {f : State → β → State} {l : List β} (hf : ∀ s x, Sound p q s → Sound p q (f s x))
    (h : Sound p q s) : Sound p q (l.foldl f s) := by
  induction l generalizing s with
  | nil => exact h
  | cons x l ih => exact ih (hf _ _ h)

theorem foldl_pair_sound {β γ : Type} {f : State × γ → β → State × γ} {l : List β} {r : State × γ}
    (hf : ∀ r x, Sound p q r.1 → Sound p q (f r x).1) (h : Sound p q r.1) : Sound p q (l.foldl f r).1 := by
  induction l generalizing r with
  | nil => exact h
  | cons x l ih => exact ih (hf _ _ h)

end

variable {p : Part} {q : List Instr} {s : State}

theorem State.wr_sound (h : Sound p q s) (f : Fld) (v : Nat) : Sound p q (s.wr f v) :=
  { h with csr := Tbl.rising_put _ _ _ _ h.csr }

theorem State.wrShadow_sound (h : Sound p q s) (f : Fld) (v : Nat) : Sound p q (s.wrShadow f v) :=
  { h with shadow := Tbl.rising_put _ _ _ _ h.shadow }

theorem State.commit_sound (h : Sound p q s) (f : Fld) : Sound p q (State.commit s f) := by
  unfold State.commit
  with_reducible repeat' first
    | assumption | apply State.wr_sound

theorem State.commitAll_sound (h : Sound p q s) (fs : List Fld) : Sound p q (State.commitAll s fs) := by
  unfold State.commitAll
  with_reducible repeat' first
    | assumption
    | (extract_lets +onlyGivenNames x; first
        | (have := x.larderBad; clear this; subst x)
        | (refine (fun hx : Sound p q x => ?_) ?_; rotate_left; subst x; rotate_right; clear_value x)
        | clear_value x
        | subst x)
    | intro _ | (dsimp -zeta only) | apply State.commit_sound | apply foldl_sound | apply foldl_pair_sound
    | (apply pair_sound; assumption)

theorem State.bump_sound (h : Sound p q s) (f : Fld) (n : Nat) : Sound p q (State.bump s f n) := by
  unfold State.bump
  with_reducible repeat' first
    | assumption | apply State.wr_sound

theorem State.count_sound (h : Sound p q s) (f : Fld) : Sound p q (State.count s f) := by
  unfold State.count
  with_reducible repeat' first
    | assumption | apply State.wr_sound

theorem State.orBits_sound (h : Sound p q s) (f : Fld) (m : Nat) : Sound p q (State.orBits s f m) := by
  unfold State.orBits
  with_reducible repeat' first
    | assumption | apply State.wr_sound

theorem State.clearBits_sound (h : Sound p q s) (f : Fld) (m : Nat) : Sound p q (State.clearBits s f m) := by
  unfold State.clearBits
  with_reducible repeat' first
    | assumption | apply State.wr_sound

theorem State.wrPair_sound (h : Sound p q s) (lo hi : Fld) (v : Nat) : Sound p q (State.wrPair s lo hi v) := by
  unfold State.wrPair
  with_reducible repeat' first
    | assumption | apply State.wr_sound

theorem State.resetWindow_sound (h : Sound p q s) (lo hi : Nat) (keep : List Fld) : Sound p q (s.resetWindow lo hi keep) :=
  { h with csr := Tbl.rising_filter _ _ h.csr, shadow := Tbl.rising_filter _ _ h.shadow }

theorem State.useFresh_sound (h : Sound p q s) : Sound p q (State.useFresh s) := by
  unfold State.useFresh
  with_reducible repeat' first
    | assumption

theorem State.logAt_sound (h : Sound p q s) (ev : LogEv) : Sound p q (State.logAt s ev) := by
  unfold State.logAt
  with_reducible repeat' first
    | assumption | apply ite_sound | apply State.bump_sound

theorem State.logEvent_sound (h : Sound p q s) (island code a0 a1 a2 : Nat) :
    Sound p q (State.logEvent s island code a0 a1 a2) := by
  unfold State.logEvent
  with_reducible repeat' first
    | assumption | apply State.logAt_sound

theorem State.logLimited_sound (h : Sound p q s) (ix island code a0 a1 a2 : Nat) :
    Sound p q (State.logLimited s ix island code a0 a1 a2) := by
  unfold State.logLimited
  with_reducible repeat' first
    | assumption | apply ite_sound | apply State.logEvent_sound

theorem State.answer_sound (h : Sound p q s) (v : Nat) : Sound p q (State.answer s v) := by
  unfold State.answer
  with_reducible repeat' first
    | assumption

theorem State.busErr_sound (h : Sound p q s) : Sound p q (State.busErr s) := by
  unfold State.busErr
  with_reducible repeat' first
    | assumption

theorem State.answerPoison_sound (h : Sound p q s) (v : Nat) : Sound p q (State.answerPoison s v) := by
  unfold State.answerPoison
  with_reducible repeat' first
    | assumption

theorem State.csrErr_sound (h : Sound p q s) (island code addr data : Nat) (rq : Requester) :
    Sound p q (State.csrErr s island code addr data rq) := by
  unfold State.csrErr
  with_reducible repeat' first
    | assumption | apply State.busErr_sound | apply State.logEvent_sound

theorem State.addrErr_sound (h : Sound p q s) (code addr : Nat) (write local_ : Bool) (rq : Requester) :
    Sound p q (State.addrErr s code addr write local_ rq) := by
  unfold State.addrErr
  with_reducible repeat' first
    | assumption | apply ite_sound | apply State.busErr_sound | apply State.logEvent_sound

theorem State.denied_sound (h : Sound p q s) (addr : Nat) (rq : Requester) : Sound p q (State.denied s addr rq) := by
  unfold State.denied
  with_reducible repeat' first
    | assumption | apply State.addrErr_sound

theorem whilePowered_sound {k : State → State} (h : Sound p q s) (hk : Sound p q (k s)) : Keeps p q (whilePowered s k) := by
  refine ⟨fun t ht => ?_⟩
  obtain rfl : _ = t := by simpa [whilePowered] using ht
  split
  · exact h
  · exact hk

theorem checkAccess_sound (h : Sound p q s) (rq : Requester) (addr len : Nat) (write : Bool) (data : Nat) :
    ∀ t, checkAccess s rq addr len write data = .err t → Sound p q t := by
  intro t ht
  unfold checkAccess at ht
  generalize windowOf addr = w at ht
  obtain ⟨w, hi⟩ := w
  dsimp only at ht
  repeat' split at ht
  all_goals first
    | (injection ht with ht; subst ht; first | exact State.addrErr_sound h _ _ _ _ _ | exact State.csrErr_sound h _ _ _ _ _ | exact State.denied_sound h _ _)
    | (cases ht)

theorem unrouted_sound (h : Sound p q s) (rq : Requester) (a len : Nat) : ∀ t, unrouted s rq a len = some t → Sound p q t := by
  intro t ht
  unfold unrouted at ht
  split at ht
  · obtain ⟨x, -, rfl⟩ := Option.map_eq_some_iff.mp ht
    exact State.busErr_sound (State.logEvent_sound h _ _ _ _ _)
  · cases ht

theorem routedAccess_sound (h : Sound p q s) (rq : Requester) (addr len : Nat) (write : Bool) (data : Nat) :
    ∀ t, routedAccess s rq addr len write data = .err t → Sound p q t := by
  intro t ht
  unfold routedAccess at ht
  split at ht
  · rename_i e he
    injection ht with ht
    subst ht
    exact unrouted_sound h _ _ _ _ he
  · exact checkAccess_sound h _ _ _ _ _ t ht

theorem atRegister_sound {k : State → State} (h : Sound p q s) (hk : ∀ s, Sound p q s → Sound p q (k s)) (rq : Requester) (addr : Nat)
    (write : Bool) (data : Nat) : Sound p q (atRegister s rq addr write data k) := by
  unfold atRegister
  split
  · exact h
  · split
    · exact routedAccess_sound h _ _ _ _ _ _ ‹_›
    · exact hk s h

theorem State.storeBytes_sound (h : Sound p q s) (a : Nat) (bs : List Byte) : Sound p q (s.storeBytes a bs) := by
  unfold State.storeBytes
  split
  · exact ⟨h.part, h.queue, Mem.wf_writeN _ _ _ h.dram, h.larder, h.sram, h.csr, h.shadow⟩
  · exact ⟨h.part, h.queue, h.dram, Mem.wf_writeN _ _ _ h.larder, h.sram, h.csr, h.shadow⟩

theorem State.clearBad_sound (h : Sound p q s) (a n : Nat) : Sound p q (s.clearBad a n) := by
  unfold State.clearBad
  split
  · exact ⟨h.part, h.queue, h.dram, h.larder, h.sram, h.csr, h.shadow⟩
  · exact ⟨h.part, h.queue, h.dram, h.larder, h.sram, h.csr, h.shadow⟩

theorem State.noteBad_sound (h : Sound p q s) (rq : Requester) (a : Nat) (kind : Nat) :
    Sound p q (State.noteBad s rq a kind) := by
  unfold State.noteBad
  with_reducible repeat' first
    | assumption | apply ite_sound | apply State.bump_sound | apply State.logEvent_sound | apply State.wrPair_sound

theorem writeField_sound (h : Sound p q s) (f : Fld) (data : Nat) : Sound p q (writeField s f data) := by
  unfold writeField
  with_reducible repeat' first
    | assumption | apply ite_sound | split | apply State.clearBits_sound | apply State.wr_sound | apply State.wrShadow_sound

theorem noteRefused_sound (h : Sound p q s) (rq : Requester) (addr data : Nat) (fs : List Fld) :
    Sound p q (noteRefused s rq addr data fs) := by
  unfold noteRefused
  with_reducible repeat' first
    | assumption | intro _ | (dsimp -zeta only) | apply ite_sound | apply State.logEvent_sound

theorem takeFields_sound (h : Sound p q s) (data : Nat) (fs : List Fld) :
    Sound p q (takeFields s data fs) := by
  unfold takeFields
  with_reducible repeat' first
    | assumption | intro _ | (dsimp -zeta only) | apply ite_sound | apply writeField_sound | apply foldl_sound
    | apply foldl_pair_sound | (apply pair_sound; assumption)

theorem writeFields_sound (h : Sound p q s) (rq : Requester) (addr : Nat) (data : Nat) (fs : List Fld) :
    Sound p q (writeFields s rq addr data fs) := by
  unfold writeFields
  with_reducible repeat' first
    | assumption | intro _ | (dsimp -zeta only) | apply ite_sound | apply takeFields_sound | apply noteRefused_sound
    | (apply pair_sound; assumption)

theorem stdWrite_sound (h : Sound p q s) (rq : Requester) (addr data : Nat) : Sound p q (stdWrite s rq addr data) := by
  unfold stdWrite
  with_reducible repeat' first
    | assumption | apply State.answer_sound | apply writeFields_sound

end Sys2Proof.Machine
end

