-- ==== Sys2Proof/Laws/SoundStore.lean ====
section
/-! SUPPORT. What no operation breaks: the part, the rest of the queue, the canonical form of the byte memories and of the
register tables.  Here: storeroom, trouble log, network and memories. -/

namespace Sys2Proof.Machine

variable {p : Part} {q : List Instr} {s : State}

theorem finishLine_sound (h : Sound p q s) (r : LineReq) (got : List Byte) (poisoned : Bool) :
    Sound p q (finishLine s r got poisoned) := by
  unfold finishLine
  with_reducible repeat' first
    | assumption | intro _ | (dsimp -zeta only) | apply ite_sound

theorem dramCheck_sound (h : Sound p q s) (rq : Requester) (addr : Nat) (ecc : LineErr) :
    Sound p q (dramCheck s rq addr ecc).1 := by
  unfold dramCheck
  with_reducible repeat' first
    | assumption | apply ite_sound | split | apply State.bump_sound | apply State.logLimited_sound | apply State.noteBad_sound

theorem markDram_sound (h : Sound p q s) (line : Nat) : Sound p q (markDram s line) := by
  unfold markDram
  with_reducible repeat' first
    | assumption | intro _ | (dsimp -zeta only)

theorem dramReadLine_sound (h : Sound p q s) (r : LineReq) (ecc : LineErr) : Sound p q (dramReadLine s r ecc) := by
  unfold dramReadLine
  with_reducible repeat' first
    | assumption | apply dramCheck_sound | apply finishLine_sound

theorem dramWriteLine_sound (h : Sound p q s) (r : LineReq) (ecc : LineErr) : Sound p q (dramWriteLine s r ecc) := by
  unfold dramWriteLine
  with_reducible repeat' first
    | assumption | apply ite_sound | apply State.clearBad_sound | apply State.storeBytes_sound | apply dramCheck_sound
    | apply finishLine_sound | apply markDram_sound

theorem larderCheck_sound (h : Sound p q s) (rq : Requester) (words : List Nat) (errs : List (Nat × Ecc)) :
    Sound p q (larderCheck s rq words errs).1 := by
  refine foldl_pair_sound ?_ h
  rintro ⟨s, b⟩ w hs
  dsimp only at hs ⊢
  split
  · exact State.noteBad_sound hs _ _ _
  · split
    · exact State.logLimited_sound (State.bump_sound hs _ _) _ _ _ _ _ _
    · exact State.noteBad_sound hs _ _ _
    · exact hs

theorem larderReadLine_sound (h : Sound p q s) (r : LineReq) (errs : List (Nat × Ecc)) :
    Sound p q (larderReadLine s r errs) := by
  unfold larderReadLine
  with_reducible repeat' first
    | assumption | apply finishLine_sound | apply larderCheck_sound

theorem larderWriteLine_sound (h : Sound p q s) (r : LineReq) (errs : List (Nat × Ecc)) :
    Sound p q (larderWriteLine s r errs) := by
  unfold larderWriteLine
  with_reducible repeat' first
    | assumption | intro _ | (dsimp -zeta only) | apply ite_sound | apply State.clearBad_sound | apply State.storeBytes_sound
    | apply finishLine_sound | apply larderCheck_sound

theorem serveLine_sound (h : Sound p q s) (r : LineReq) :
    Sound p q (serveLine s r) := by
  unfold serveLine
  with_reducible repeat' first
    | assumption | intro _ | (dsimp -zeta only) | apply ite_sound | split | apply dramWriteLine_sound
    | apply dramReadLine_sound | apply larderWriteLine_sound | apply larderReadLine_sound | (apply pair_sound; assumption)

theorem settle_sound (h : Sound p q s) (a : Nat) (n : Nat) :
    Sound p q (settle s a n) := by
  unfold settle
  with_reducible repeat' first
    | assumption | intro _ | (dsimp -zeta only) | apply ite_sound | apply serveLine_sound | apply foldl_sound
    | apply foldl_pair_sound | (apply pair_sound; assumption)

theorem readPart_sound (h : Sound p q s) (rq : Requester) (a : Nat) (n : Nat) :
    Sound p q (readPart s rq a n).1 := by
  unfold readPart
  with_reducible repeat' first
    | assumption | intro _ | (dsimp -zeta only) | apply ite_sound | split | apply State.noteBad_sound
    | apply larderCheck_sound | (apply pair_sound; assumption)

theorem writePart_sound (h : Sound p q s) (rq : Requester) (a : Nat) (bs : List Byte) :
    Sound p q (writePart s rq a bs).1 := by
  unfold writePart
  with_reducible repeat' first
    | assumption | intro _
    | (extract_lets +onlyGivenNames x; first
        | (have := x.larderBad; clear this; subst x)
        | (refine (fun hx : Sound p q x => ?_) ?_; rotate_left; subst x; rotate_right; clear_value x)
        | (refine (fun hx : Sound p q x.1 => ?_) ?_; rotate_left; subst x; rotate_right; clear_value x)
        | clear_value x
        | subst x)
    | (dsimp -zeta only) | apply ite_sound | split | apply State.noteBad_sound | apply larderCheck_sound
    | apply State.clearBad_sound | apply State.storeBytes_sound | (apply pair_sound; assumption)

theorem readRange_sound (h : Sound p q s) (rq : Requester) (a : Nat) (n : Nat) :
    Sound p q (readRange s rq a n).1 := by
  unfold readRange
  with_reducible repeat' first
    | assumption | intro _
    | (extract_lets +onlyGivenNames x; first
        | (have := x.larderBad; clear this; subst x)
        | (refine (fun hx : Sound p q x => ?_) ?_; rotate_left; subst x; rotate_right; clear_value x)
        | (refine (fun hx : Sound p q x.1 => ?_) ?_; rotate_left; subst x; rotate_right; clear_value x)
        | clear_value x
        | subst x)
    | (dsimp -zeta only) | apply ite_sound | split | apply readPart_sound | apply settle_sound | apply foldl_sound
    | apply foldl_pair_sound | (apply pair_sound; assumption)

theorem writeRange_sound (h : Sound p q s) (rq : Requester) (a : Nat) (bs : List Byte) :
    Sound p q (writeRange s rq a bs).1 := by
  unfold writeRange
  with_reducible repeat' first
    | assumption | intro _
    | (extract_lets +onlyGivenNames x; first
        | (have := x.larderBad; clear this; subst x)
        | (refine (fun hx : Sound p q x => ?_) ?_; rotate_left; subst x; rotate_right; clear_value x)
        | (refine (fun hx : Sound p q x.1 => ?_) ?_; rotate_left; subst x; rotate_right; clear_value x)
        | clear_value x
        | subst x)
    | (dsimp -zeta only) | apply ite_sound | split | apply writePart_sound | apply settle_sound | apply foldl_sound
    | apply foldl_pair_sound | (apply pair_sound; assumption)

theorem pcieOutbound_sound (h : Sound p q s) (write : Bool) (a : Nat) (bs : List Byte) :
    Sound p q (pcieOutbound s write a bs) := by
  unfold pcieOutbound
  with_reducible repeat' first
    | assumption | intro _ | (dsimp -zeta only) | apply ite_sound | (apply pair_sound; assumption)

theorem State.setQ_sound (h : Sound p q s) (n : Nat) (q1 : StrQueue) : Sound p q (State.setQ s n q1) := by
  unfold State.setQ
  with_reducible repeat' first
    | assumption

theorem State.setCrate_sound (h : Sound p q s) (p1 i : Nat) (c : Crate) : Sound p q (State.setCrate s p1 i c) := by
  unfold State.setCrate
  with_reducible repeat' first
    | assumption

theorem State.setFree_sound (h : Sound p q s) (p1 : Nat) (l : List Nat) : Sound p q (State.setFree s p1 l) := by
  unfold State.setFree
  with_reducible repeat' first
    | assumption

theorem strRefused_sound (h : Sound p q s) (addr data : Nat) (rq : Requester) : Sound p q (strRefused s addr data rq) := by
  unfold strRefused
  with_reducible repeat' first
    | assumption | apply State.answer_sound | apply State.logEvent_sound

theorem freeEverything_sound (h : Sound p q s) : Sound p q (freeEverything s) := by
  unfold freeEverything
  with_reducible repeat' first
    | assumption | intro _ | (dsimp -zeta only) | apply foldl_sound | apply foldl_pair_sound

theorem writeStrCtrl_sound (h : Sound p q s) (rq : Requester) (data : Nat) : Sound p q (writeStrCtrl s rq data) := by
  unfold writeStrCtrl
  with_reducible repeat' first
    | assumption | apply ite_sound | apply State.answer_sound | apply State.wr_sound | apply freeEverything_sound
    | apply strRefused_sound

theorem notePoolLow_sound (h : Sound p q s) (p1 : Nat) (fell : Bool) : Sound p q (notePoolLow s p1 fell) := by
  unfold notePoolLow
  with_reducible repeat' first
    | assumption | intro _ | (dsimp -zeta only) | apply ite_sound | apply State.logEvent_sound

theorem allocCrate_sound (h : Sound p q s) (p1 ctx : Nat) : Sound p q (allocCrate s p1 ctx).1 := by
  unfold allocCrate
  with_reducible repeat' first
    | assumption | split | apply State.bump_sound | apply State.logLimited_sound | apply State.setCrate_sound
    | apply State.setFree_sound | apply notePoolLow_sound

theorem releaseCrate_sound (h : Sound p q s) (p1 i : Nat) : Sound p q (releaseCrate s p1 i) := by
  unfold releaseCrate
  with_reducible repeat' first
    | assumption | apply ite_sound | apply State.setCrate_sound | apply State.setFree_sound | apply notePoolLow_sound

theorem freeCrate_sound (h : Sound p q s) (rq : Requester) (h1 : Nat) : Sound p q (freeCrate s rq h1) := by
  unfold freeCrate
  with_reducible repeat' first
    | assumption | apply ite_sound | apply State.answer_sound | apply State.bump_sound | apply State.busErr_sound
    | apply State.logEvent_sound | apply releaseCrate_sound

theorem latchGive_sound (h : Sound p q s) (rq : Requester) (h1 : Nat) : Sound p q (latchGive s rq h1) := by
  unfold latchGive
  with_reducible repeat' first
    | assumption | apply State.answer_sound

theorem giveHandle_sound (h : Sound p q s) (rq : Requester) (h1 : Nat) (ctx : Nat) :
    Sound p q (giveHandle s rq h1 ctx) := by
  unfold giveHandle
  with_reducible repeat' first
    | assumption | intro _
    | (extract_lets +onlyGivenNames x; first
        | (have := x.larderBad; clear this; subst x)
        | (refine (fun hx : Sound p q x => ?_) ?_; rotate_left; subst x; rotate_right; clear_value x)
        | (refine (fun hx : Sound p q x.1 => ?_) ?_; rotate_left; subst x; rotate_right; clear_value x)
        | clear_value x
        | subst x)
    | (dsimp -zeta only) | apply ite_sound | split | apply State.logEvent_sound | apply State.busErr_sound
    | apply State.setCrate_sound | apply State.answer_sound | (apply pair_sound; assumption)

theorem giveCrate_sound (h : Sound p q s) (rq : Requester) (ctx : Nat) :
    Sound p q (giveCrate s rq ctx) := by
  unfold giveCrate
  with_reducible repeat' first
    | assumption | intro _ | (dsimp -zeta only) | apply ite_sound | apply giveHandle_sound | (apply pair_sound; assumption)

theorem unitFree_sound (h : Sound p q s) (rq : Requester) (h1 : Nat) : Sound p q (unitFree s rq h1) := by
  unfold unitFree
  with_reducible repeat' first
    | assumption | apply freeCrate_sound

theorem unitGive_sound (h : Sound p q s) (rq : Requester) (h1 : Nat) (ctx : Nat) :
    Sound p q (unitGive s rq h1 ctx) := by
  unfold unitGive
  with_reducible repeat' first
    | assumption | intro _ | (dsimp -zeta only) | apply ite_sound | apply giveHandle_sound | (apply pair_sound; assumption)

theorem reclaimCrates_sound (h : Sound p q s) (rq : Requester) (ctx : Nat) : Sound p q (reclaimCrates s rq ctx) := by
  unfold reclaimCrates
  with_reducible repeat' first
    | assumption | intro _ | (dsimp -zeta only) | apply State.answer_sound | apply State.logEvent_sound
    | apply releaseCrate_sound | apply foldl_sound | apply foldl_pair_sound

theorem lostWords_sound (h : Sound p q s) (n k : Nat) : Sound p q (lostWords s n k) := by
  unfold lostWords
  with_reducible repeat' first
    | assumption | apply State.bump_sound

theorem lostPkts_sound (h : Sound p q s) (n k : Nat) : Sound p q (lostPkts s n k) := by
  unfold lostPkts
  with_reducible repeat' first
    | assumption | apply State.bump_sound

theorem dropTail_sound (h : Sound p q s) (n : Nat) : Sound p q (dropTail s n) := by
  unfold dropTail
  with_reducible repeat' first
    | assumption | apply State.setQ_sound | apply lostWords_sound

theorem dropHead_sound (h : Sound p q s) (n : Nat) : Sound p q (dropHead s n) := by
  unfold dropHead
  with_reducible repeat' first
    | assumption | apply State.setQ_sound | apply lostPkts_sound | apply lostWords_sound

theorem dropArriving_sound (h : Sound p q s) (n : Nat) (ending : Bool) : Sound p q (dropArriving s n ending) := by
  unfold dropArriving
  with_reducible repeat' first
    | assumption | apply ite_sound | apply State.setQ_sound | apply dropTail_sound | apply lostPkts_sound
    | apply lostWords_sound

theorem endDropped_sound (h : Sound p q s) (n : Nat) (ending : Bool) :
    Sound p q (endDropped s n ending) := by
  unfold endDropped
  with_reducible repeat' first
    | assumption | intro _ | (dsimp -zeta only) | apply ite_sound | split | apply lostPkts_sound
    | (apply pair_sound; assumption)

theorem makeRoom_sound (h : Sound p q s) (n : Nat) (u : Nat) : Sound p q (makeRoom s n u) := by
  induction u generalizing s  with
  | zero => exact h
  | succ u ih =>
    unfold makeRoom
    with_reducible repeat' first
      | assumption | apply ih | apply ite_sound | apply State.logLimited_sound | apply dropHead_sound

theorem notifyQueue_sound (h : Sound p q s) (n before : Nat) : Sound p q (notifyQueue s n before) := by
  unfold notifyQueue
  with_reducible repeat' first
    | assumption | apply ite_sound | apply State.orBits_sound

theorem storeWord_sound (h : Sound p q s) (n : Nat) (w : List Byte) (ending : Bool) :
    Sound p q (storeWord s n w ending) := by
  unfold storeWord
  with_reducible repeat' first
    | assumption | intro _
    | (extract_lets +onlyGivenNames x; first
        | (have := x.larderBad; clear this; subst x)
        | (refine (fun hx : Sound p q x => ?_) ?_; rotate_left; subst x; rotate_right; clear_value x)
        | (refine (fun hx : Sound p q x.1 => ?_) ?_; rotate_left; subst x; rotate_right; clear_value x)
        | clear_value x
        | subst x)
    | (dsimp -zeta only) | apply ite_sound | split | apply State.clearBad_sound | apply State.storeBytes_sound
    | apply notifyQueue_sound | apply State.setQ_sound | (apply pair_sound; assumption)

theorem arriveWord_sound (h : Sound p q s) (n : Nat) (w : List Byte) (ending : Bool) (producer : Nat) :
    Sound p q (arriveWord s n w ending producer) := by
  unfold arriveWord
  with_reducible repeat' first
    | assumption | intro _
    | (extract_lets +onlyGivenNames x; first
        | (have := x.larderBad; clear this; subst x)
        | (refine (fun hx : Sound p q x => ?_) ?_; rotate_left; subst x; rotate_right; clear_value x)
        | (refine (fun hx : Sound p q x.1 => ?_) ?_; rotate_left; subst x; rotate_right; clear_value x)
        | clear_value x
        | subst x)
    | (dsimp -zeta only) | apply ite_sound | split | apply State.setQ_sound | apply lostWords_sound | apply lostPkts_sound
    | apply endDropped_sound | apply dropArriving_sound | apply State.logEvent_sound | apply makeRoom_sound
    | apply State.logLimited_sound | apply storeWord_sound | (apply pair_sound; assumption)

theorem pushWords_sound (h : Sound p q s) (n : Nat) (ws : List (List Byte × Bool)) (producer : Nat) :
    Sound p q (pushWords s n ws producer) := by
  unfold pushWords
  with_reducible repeat' first
    | assumption | intro _ | (dsimp -zeta only) | apply ite_sound | apply State.logLimited_sound | apply arriveWord_sound
    | apply lostPkts_sound | apply lostWords_sound | apply foldl_sound | apply foldl_pair_sound

theorem badQueueAccess_sound (h : Sound p q s) (rq : Requester) (n off : Nat) : Sound p q (badQueueAccess s rq n off) := by
  unfold badQueueAccess
  with_reducible repeat' first
    | assumption | apply State.busErr_sound | apply State.logEvent_sound

theorem aperturePush_sound (h : Sound p q s) (rq : Requester) (n off : Nat) (bs : List Byte) :
    Sound p q (aperturePush s rq n off bs) := by
  unfold aperturePush
  with_reducible repeat' first
    | assumption | intro _ | (dsimp -zeta only) | apply ite_sound | apply State.answer_sound | apply badQueueAccess_sound
    | apply pushWords_sound

theorem popSlot_sound (h : Sound p q s) (n : Nat) :
    Sound p q (popSlot s n).1 := by
  unfold popSlot
  with_reducible repeat' first
    | assumption | intro _
    | (extract_lets +onlyGivenNames x; first
        | (have := x.larderBad; clear this; subst x)
        | (refine (fun hx : Sound p q x => ?_) ?_; rotate_left; subst x; rotate_right; clear_value x)
        | (refine (fun hx : Sound p q x.1 => ?_) ?_; rotate_left; subst x; rotate_right; clear_value x)
        | clear_value x
        | subst x)
    | (dsimp -zeta only) | apply ite_sound | split | apply State.setQ_sound | apply larderCheck_sound
    | (apply pair_sound; assumption)

theorem popSlots_sound (h : Sound p q s) (n : Nat) (u : Nat) : Sound p q (popSlots s n u).1 := by
  induction u generalizing s  with
  | zero => exact h
  | succ u ih =>
    unfold popSlots
    with_reducible repeat' first
      | assumption | apply ih | apply popSlot_sound

theorem aperturePop_sound (h : Sound p q s) (rq : Requester) (n : Nat) (off : Nat) (len : Nat) :
    Sound p q (aperturePop s rq n off len).1 := by
  unfold aperturePop
  with_reducible repeat' first
    | assumption | intro _
    | (extract_lets +onlyGivenNames x; first
        | (have := x.larderBad; clear this; subst x)
        | (refine (fun hx : Sound p q x => ?_) ?_; rotate_left; subst x; rotate_right; clear_value x)
        | (refine (fun hx : Sound p q x.1 => ?_) ?_; rotate_left; subst x; rotate_right; clear_value x)
        | clear_value x
        | subst x)
    | (dsimp -zeta only) | apply ite_sound | split | apply popSlots_sound | apply badQueueAccess_sound
    | (apply pair_sound; assumption)

theorem popAnswer_sound {r : State × Option (List Byte × Bool)} (h : Sound p q r.1) : Sound p q (popAnswer r) := by
  unfold popAnswer
  split
  · exact h
  · exact State.answerPoison_sound h _
  · exact State.answer_sound h _

theorem skipQueue_sound (h : Sound p q s) (n : Nat) : Sound p q (skipQueue s n) := by
  unfold skipQueue
  with_reducible repeat' first
    | assumption | apply ite_sound | apply State.setQ_sound

theorem flushQueue_sound (h : Sound p q s) (n : Nat) : Sound p q (flushQueue s n) := by
  unfold flushQueue
  with_reducible repeat' first
    | assumption | apply State.setQ_sound

theorem clearQueue_sound (h : Sound p q s) (n : Nat) : Sound p q (clearQueue s n) := by
  unfold clearQueue
  with_reducible repeat' first
    | assumption | apply State.wr_sound

theorem writeQCtrl_sound (h : Sound p q s) (n data : Nat) : Sound p q (writeQCtrl s n data) := by
  unfold writeQCtrl
  with_reducible repeat' first
    | assumption | apply ite_sound | apply State.answer_sound | apply clearQueue_sound | apply flushQueue_sound
    | apply skipQueue_sound

theorem writeQCfg_sound (h : Sound p q s) (rq : Requester) (n data : Nat) : Sound p q (writeQCfg s rq n data) := by
  unfold writeQCfg
  with_reducible repeat' first
    | assumption | apply ite_sound | apply State.answer_sound | apply State.logEvent_sound | apply State.wr_sound
    | apply strRefused_sound

theorem storeroomLost_sound (h : Sound p q s) : Sound p q (storeroomLost s) := by
  unfold storeroomLost
  with_reducible repeat' first
    | assumption | apply State.resetWindow_sound

theorem routeEntry_sound (h : Sound p q s) (e : LogEntry) :
    Sound p q (routeEntry s e) := by
  unfold routeEntry
  with_reducible repeat' first
    | assumption | intro _
    | (extract_lets +onlyGivenNames x; first
        | (have := x.larderBad; clear this; subst x)
        | (refine (fun hx : Sound p q x => ?_) ?_; rotate_left; subst x; rotate_right; clear_value x)
        | (refine (fun hx : Sound p q x.1 => ?_) ?_; rotate_left; subst x; rotate_right; clear_value x)
        | clear_value x
        | subst x)
    | (dsimp -zeta only) | apply ite_sound | split | apply State.orBits_sound | apply pushWords_sound | apply foldl_sound
    | apply foldl_pair_sound | (apply pair_sound; assumption)

theorem deviceRead_sound (h : Sound p q s) (rq : Requester) (a : Nat) (n : Nat) :
    Sound p q (deviceRead s rq a n).1 := by
  unfold deviceRead
  with_reducible repeat' first
    | assumption | intro _
    | (extract_lets +onlyGivenNames x; first
        | (have := x.larderBad; clear this; subst x)
        | (refine (fun hx : Sound p q x => ?_) ?_; rotate_left; subst x; rotate_right; clear_value x)
        | (refine (fun hx : Sound p q x.1 => ?_) ?_; rotate_left; subst x; rotate_right; clear_value x)
        | clear_value x
        | subst x)
    | (dsimp -zeta only) | apply ite_sound | split | exact routedAccess_sound h _ _ _ _ _ _ ‹_› | apply readRange_sound
    | apply pcieOutbound_sound | apply State.useFresh_sound | apply aperturePop_sound | apply State.csrErr_sound
    | (apply pair_sound; assumption)

theorem deviceWrite_sound (h : Sound p q s) (rq : Requester) (a : Nat) (bs : List Byte) :
    Sound p q (deviceWrite s rq a bs).1 := by
  unfold deviceWrite
  with_reducible repeat' first
    | assumption | intro _
    | (extract_lets +onlyGivenNames x; first
        | (have := x.larderBad; clear this; subst x)
        | (refine (fun hx : Sound p q x => ?_) ?_; rotate_left; subst x; rotate_right; clear_value x)
        | (refine (fun hx : Sound p q x.1 => ?_) ?_; rotate_left; subst x; rotate_right; clear_value x)
        | clear_value x
        | subst x)
    | (dsimp -zeta only) | apply ite_sound | split | exact routedAccess_sound h _ _ _ _ _ _ ‹_› | apply writeRange_sound
    | apply pcieOutbound_sound | apply aperturePush_sound | apply State.csrErr_sound | (apply pair_sound; assumption)

theorem State.busRead_sound (h : Sound p q s) (rq : Requester) (a n : Nat) : Sound p q (State.busRead s rq a n).1 :=
  deviceRead_sound h rq a n

theorem State.busWrite_sound (h : Sound p q s) (rq : Requester) (a : Nat) (bs : List Byte) :
    Sound p q (State.busWrite s rq a bs).1 := deviceWrite_sound h rq a bs

theorem pushPacket_sound (h : Sound p q s) (n : Nat) (bs : List Byte) (producer : Nat) :
    Sound p q (pushPacket s n bs producer) := by
  unfold pushPacket
  with_reducible repeat' first
    | assumption | intro _
    | (extract_lets +onlyGivenNames x; first
        | (have := x.larderBad; clear this; subst x)
        | (refine (fun hx : Sound p q x => ?_) ?_; rotate_left; subst x; rotate_right; clear_value x)
        | (refine (fun hx : Sound p q x.1 => ?_) ?_; rotate_left; subst x; rotate_right; clear_value x)
        | clear_value x
        | subst x)
    | (dsimp -zeta only) | apply ite_sound | split | apply State.busWrite_sound | apply foldl_sound | apply foldl_pair_sound
    | (apply pair_sound; assumption)

theorem execStrEnable_sound (h : Sound p q s) (rq : Requester) (data : Nat) : Keeps p q (execStrEnable rq data s) := by
  unfold execStrEnable
  with_reducible repeat' first
    | assumption | intro _ | (dsimp -zeta only) | apply atRegister_sound | apply whilePowered_sound | apply writeStrCtrl_sound

theorem execPoolAlloc_sound (h : Sound p q s) (rq : Requester) (pool : Nat) : Keeps p q (execPoolAlloc rq pool s) := by
  unfold execPoolAlloc
  with_reducible repeat' first
    | assumption | intro _ | (dsimp -zeta only) | apply State.answer_sound | apply allocCrate_sound | apply atRegister_sound
    | apply whilePowered_sound

theorem execCrateFree_sound (h : Sound p q s) (rq : Requester) (handle : Word) : Keeps p q (execCrateFree rq handle s) := by
  unfold execCrateFree
  with_reducible repeat' first
    | assumption | intro _ | (dsimp -zeta only) | apply atRegister_sound | apply freeCrate_sound | apply whilePowered_sound

theorem execCrateGiveLatch_sound (h : Sound p q s) (rq : Requester) (handle : Word) :
    Keeps p q (execCrateGiveLatch rq handle s) := by
  unfold execCrateGiveLatch
  with_reducible repeat' first
    | assumption | intro _ | (dsimp -zeta only) | apply atRegister_sound | apply latchGive_sound | apply whilePowered_sound

theorem execCrateGive_sound (h : Sound p q s) (rq : Requester) (data : Nat) : Keeps p q (execCrateGive rq data s) := by
  unfold execCrateGive
  with_reducible repeat' first
    | assumption | intro _ | (dsimp -zeta only) | apply atRegister_sound | apply giveCrate_sound | apply whilePowered_sound

theorem execCrateReclaim_sound (h : Sound p q s) (rq : Requester) (data : Nat) : Keeps p q (execCrateReclaim rq data s) := by
  unfold execCrateReclaim
  with_reducible repeat' first
    | assumption | intro _ | (dsimp -zeta only) | apply atRegister_sound | apply reclaimCrates_sound | apply whilePowered_sound

theorem execQueueEnable_sound (h : Sound p q s) (rq : Requester) (q1 data : Nat) :
    Keeps p q (execQueueEnable rq q1 data s) := by
  unfold execQueueEnable
  with_reducible repeat' first
    | assumption | intro _ | (dsimp -zeta only) | apply atRegister_sound | apply whilePowered_sound | apply writeQCfg_sound

theorem execQueuePush_sound (h : Sound p q s) (rq : Requester) (q1 : Nat) (offset : Nat) (data : List Byte) :
    Keeps p q (execQueuePush rq q1 offset data s) := by
  unfold execQueuePush
  with_reducible repeat' first
    | assumption | intro _ | (dsimp -zeta only) | apply ite_sound | split | exact routedAccess_sound h _ _ _ _ _ _ ‹_›
    | apply aperturePush_sound | apply whilePowered_sound | (apply pair_sound; assumption)

theorem execQueuePop_sound (h : Sound p q s) (rq : Requester) (q1 : Nat) (offset : Nat) (len : Nat) :
    Keeps p q (execQueuePop rq q1 offset len s) := by
  unfold execQueuePop
  with_reducible repeat' first
    | assumption | intro _ | (dsimp -zeta only) | apply ite_sound | split | exact routedAccess_sound h _ _ _ _ _ _ ‹_›
    | apply popAnswer_sound | apply aperturePop_sound | apply whilePowered_sound | (apply pair_sound; assumption)

theorem execQueueSkip_sound (h : Sound p q s) (rq : Requester) (q1 : Nat) : Keeps p q (execQueueSkip rq q1 s) := by
  unfold execQueueSkip
  with_reducible repeat' first
    | assumption | intro _ | (dsimp -zeta only) | apply atRegister_sound | apply whilePowered_sound | apply writeQCtrl_sound

theorem execQueueFlush_sound (h : Sound p q s) (rq : Requester) (q1 : Nat) : Keeps p q (execQueueFlush rq q1 s) := by
  unfold execQueueFlush
  with_reducible repeat' first
    | assumption | intro _ | (dsimp -zeta only) | apply atRegister_sound | apply whilePowered_sound | apply writeQCtrl_sound

theorem execQueueClear_sound (h : Sound p q s) (rq : Requester) (q1 : Nat) : Keeps p q (execQueueClear rq q1 s) := by
  unfold execQueueClear
  with_reducible repeat' first
    | assumption | intro _ | (dsimp -zeta only) | apply atRegister_sound | apply whilePowered_sound | apply writeQCtrl_sound

theorem writeEntry_sound (h : Sound p q s) (ev : LogEv) : Sound p q (writeEntry s ev).1 := by
  unfold writeEntry
  with_reducible repeat' first
    | assumption | intro _ | (dsimp -zeta only) | apply ite_sound | split | apply State.bump_sound | apply State.wr_sound

theorem noteDropped_sound (h : Sound p q s) : Sound p q (noteDropped s) := by
  unfold noteDropped
  with_reducible repeat' first
    | assumption | apply ite_sound | apply State.logEvent_sound

theorem intakeWrite_sound (h : Sound p q s) : Sound p q (intakeWrite s) := by
  unfold intakeWrite
  with_reducible repeat' first
    | assumption | apply ite_sound | split | apply noteDropped_sound | apply routeEntry_sound | apply writeEntry_sound

theorem logReply_sound (h : Sound p q s) (op : Nat) (es : List LogEntry) : Sound p q (logReply s op es) := by
  unfold logReply
  with_reducible repeat' first
    | assumption

theorem badReply_sound (h : Sound p q s) : Sound p q (badReply s) := by
  unfold badReply
  with_reducible repeat' first
    | assumption | apply logReply_sound

theorem execEventArrival_sound (h : Sound p q s) (raised : DWord) (island : Nat) (code : BitVec 16) (a0 : Word) (a1 : Word) (a2 : Word) :
    Keeps p q (execEventArrival raised island code a0 a1 a2 s) := by
  unfold execEventArrival
  with_reducible repeat' first
    | assumption | intro _ | (dsimp -zeta only) | apply ite_sound | apply noteDropped_sound | apply State.logAt_sound
    | apply whilePowered_sound | (apply pair_sound; assumption)

theorem execLogIntakeWrite_sound (h : Sound p q s) : Keeps p q (execLogIntakeWrite s) := by
  unfold execLogIntakeWrite
  with_reducible repeat' first
    | assumption | intro _ | (dsimp -zeta only) | apply intakeWrite_sound | apply whilePowered_sound

theorem execLogStatus_sound (h : Sound p q s) (payload : List Byte) :
    Keeps p q (execLogStatus payload s) := by
  unfold execLogStatus
  with_reducible repeat' first
    | assumption | intro _ | (dsimp -zeta only) | apply ite_sound | split | apply logReply_sound | apply whilePowered_sound
    | (apply pair_sound; assumption)

theorem execLogRead_sound (h : Sound p q s) (payload : List Byte) :
    Keeps p q (execLogRead payload s) := by
  unfold execLogRead
  with_reducible repeat' first
    | assumption | intro _ | (dsimp -zeta only) | apply ite_sound | split | apply logReply_sound | apply whilePowered_sound
    | (apply pair_sound; assumption)

theorem execLogAck_sound (h : Sound p q s) (payload : List Byte) :
    Keeps p q (execLogAck payload s) := by
  unfold execLogAck
  with_reducible repeat' first
    | assumption | intro _ | (dsimp -zeta only) | apply ite_sound | split | apply logReply_sound | apply State.wr_sound
    | apply whilePowered_sound | (apply pair_sound; assumption)

theorem execLogBadRequest_sound (h : Sound p q s) (payload : List Byte) :
    Keeps p q (execLogBadRequest payload s) := by
  unfold execLogBadRequest
  with_reducible repeat' first
    | assumption | intro _ | (dsimp -zeta only) | apply ite_sound | split | apply badReply_sound | apply whilePowered_sound
    | (apply pair_sound; assumption)

theorem State.setCredit_sound (h : Sound p q s) (a : ArbId) (l : List Int) : Sound p q (State.setCredit s a l) := by
  unfold State.setCredit
  with_reducible repeat' first
    | assumption

theorem startWindow_sound (h : Sound p q s) (a : ArbId) :
    Sound p q (startWindow s a) := by
  unfold startWindow
  with_reducible repeat' first
    | assumption | intro _
    | (extract_lets +onlyGivenNames x; first
        | (have := x.larderBad; clear this; subst x)
        | (refine (fun hx : Sound p q x => ?_) ?_; rotate_left; subst x; rotate_right; clear_value x)
        | (refine (fun hx : Sound p q x.1 => ?_) ?_; rotate_left; subst x; rotate_right; clear_value x)
        | clear_value x
        | subst x)
    | (dsimp -zeta only) | apply ite_sound | apply State.setCredit_sound | (apply pair_sound; assumption)

theorem injectWithTag_sound (h : Sound p q s) (rq : Requester) (write : Bool) (addr : Nat) (len : Nat) (data : List Byte) (poison : Bool) (tag : Nat) :
    Sound p q (injectWithTag s rq write addr len data poison tag) := by
  unfold injectWithTag
  with_reducible repeat' first
    | assumption | intro _
    | (extract_lets +onlyGivenNames x; first
        | (have := x.larderBad; clear this; subst x)
        | (refine (fun hx : Sound p q x => ?_) ?_; rotate_left; subst x; rotate_right; clear_value x)
        | (refine (fun hx : Sound p q x.1 => ?_) ?_; rotate_left; subst x; rotate_right; clear_value x)
        | clear_value x
        | subst x)
    | (dsimp -zeta only) | apply ite_sound | (apply pair_sound; assumption)

theorem injectRequest_sound (h : Sound p q s) (rq : Requester) (write : Bool) (addr : Nat) (len : Nat) (data : List Byte) (poison : Bool) :
    Sound p q (injectRequest s rq write addr len data poison) := by
  unfold injectRequest
  with_reducible repeat' first
    | assumption | intro _ | (dsimp -zeta only) | apply ite_sound | split | apply injectWithTag_sound
    | (apply pair_sound; assumption)

theorem holdRequest_sound (h : Sound p q s) (rq : Requester) (write : Bool) (addr : Nat) (len : Nat) (data : List Byte) (poison : Bool) :
    Sound p q (holdRequest s rq write addr len data poison) := by
  unfold holdRequest
  with_reducible repeat' first
    | assumption | intro _ | (dsimp -zeta only) | apply ite_sound | (apply pair_sound; assumption)

theorem l2Write_sound (h : Sound p q s) (a : Nat) (bs : List Byte) :
    Sound p q (l2Write s a bs) := by
  unfold l2Write
  with_reducible repeat' first
    | assumption | intro _
    | (extract_lets +onlyGivenNames x; first
        | (have := x.larderBad; clear this; subst x)
        | (refine (fun hx : Sound p q x => ?_) ?_; rotate_left; subst x; rotate_right; clear_value x)
        | (refine (fun hx : Sound p q x.1 => ?_) ?_; rotate_left; subst x; rotate_right; clear_value x)
        | clear_value x
        | subst x)
    | (dsimp -zeta only) | apply ite_sound | apply foldl_sound | apply foldl_pair_sound | (apply pair_sound; assumption)

theorem l2Evict_sound (h : Sound p q s) (a : Nat) (n : Nat) :
    Sound p q (l2Evict s a n) := by
  unfold l2Evict
  with_reducible repeat' first
    | assumption | intro _
    | (extract_lets +onlyGivenNames x; first
        | (have := x.larderBad; clear this; subst x)
        | (refine (fun hx : Sound p q x => ?_) ?_; rotate_left; subst x; rotate_right; clear_value x)
        | (refine (fun hx : Sound p q x.1 => ?_) ?_; rotate_left; subst x; rotate_right; clear_value x)
        | clear_value x
        | subst x)
    | (dsimp -zeta only) | apply ite_sound | split | apply injectRequest_sound | apply foldl_sound | apply foldl_pair_sound
    | (apply pair_sound; assumption)

theorem memoryRequest_sound (h : Sound p q s) (rq : Requester) (write : Bool) (addr : Nat) (len : Nat) (data : List Byte) (poison : Bool) :
    Sound p q (memoryRequest s rq write addr len data poison) := by
  unfold memoryRequest
  with_reducible repeat' first
    | assumption | intro _ | (dsimp -zeta only) | apply ite_sound | split | apply l2Write_sound | apply State.answer_sound
    | apply injectRequest_sound | apply l2Evict_sound | (apply pair_sound; assumption)

theorem charge_sound (h : Sound p q s) (a : ArbId) (i : Nat) : Sound p q (charge s a i) := by
  unfold charge
  with_reducible repeat' first
    | assumption | apply ite_sound | apply State.setCredit_sound

theorem countBurst_sound (h : Sound p q s) (ctl : Nat) (r : LineReq) (i : Nat) :
    Sound p q (countBurst s ctl r i) := by
  unfold countBurst
  with_reducible repeat' first
    | assumption | intro _
    | (extract_lets +onlyGivenNames x; first
        | (have := x.larderBad; clear this; subst x)
        | (refine (fun hx : Sound p q x => ?_) ?_; rotate_left; subst x; rotate_right; clear_value x)
        | (refine (fun hx : Sound p q x.1 => ?_) ?_; rotate_left; subst x; rotate_right; clear_value x)
        | clear_value x
        | subst x)
    | (dsimp -zeta only) | apply ite_sound | split | (apply pair_sound; assumption)

theorem dramGrant_sound (h : Sound p q s) (ctl : Nat) (write : Bool) (k : State → LineReq → State) (hk : ∀ s x0, Sound p q s → Sound p q (k s x0)) :
    Sound p q (dramGrant s ctl write k) := by
  unfold dramGrant
  with_reducible repeat' first
    | assumption | apply hk | intro _ | (dsimp -zeta only) | apply ite_sound | split | apply charge_sound
    | apply countBurst_sound | (apply pair_sound; assumption)

theorem scrubRead_sound (h : Sound p q s) (ctl : Nat) (ecc : LineErr) :
    Sound p q (scrubRead s ctl ecc) := by
  unfold scrubRead
  with_reducible repeat' first
    | assumption | intro _
    | (extract_lets +onlyGivenNames x; first
        | (have := x.larderBad; clear this; subst x)
        | (refine (fun hx : Sound p q x => ?_) ?_; rotate_left; subst x; rotate_right; clear_value x)
        | (refine (fun hx : Sound p q x.1 => ?_) ?_; rotate_left; subst x; rotate_right; clear_value x)
        | clear_value x
        | subst x)
    | (dsimp -zeta only) | apply ite_sound | split | apply dramCheck_sound | apply charge_sound
    | (apply pair_sound; assumption)

theorem startRefresh_sound (h : Sound p q s) :
    Sound p q (startRefresh s) := by
  unfold startRefresh
  with_reducible repeat' first
    | assumption | intro _
    | (extract_lets +onlyGivenNames x; first
        | (have := x.larderBad; clear this; subst x)
        | (refine (fun hx : Sound p q x => ?_) ?_; rotate_left; subst x; rotate_right; clear_value x)
        | (refine (fun hx : Sound p q x.1 => ?_) ?_; rotate_left; subst x; rotate_right; clear_value x)
        | clear_value x
        | subst x)
    | (dsimp -zeta only) | apply ite_sound | (apply pair_sound; assumption)

theorem startScrub_sound (h : Sound p q s) :
    Sound p q (startScrub s) := by
  unfold startScrub
  with_reducible repeat' first
    | assumption | intro _ | (dsimp -zeta only) | apply ite_sound | (apply pair_sound; assumption)

theorem refreshChannel_sound (h : Sound p q s) (ch : Nat) :
    Sound p q (refreshChannel s ch) := by
  unfold refreshChannel
  with_reducible repeat' first
    | assumption | intro _
    | (extract_lets +onlyGivenNames x; first
        | (have := x.larderBad; clear this; subst x)
        | (refine (fun hx : Sound p q x => ?_) ?_; rotate_left; subst x; rotate_right; clear_value x)
        | (refine (fun hx : Sound p q x.1 => ?_) ?_; rotate_left; subst x; rotate_right; clear_value x)
        | clear_value x
        | subst x)
    | (dsimp -zeta only) | apply ite_sound | apply State.useFresh_sound | apply State.count_sound
    | (apply pair_sound; assumption)

theorem readMr4_sound (h : Sound p q s) (ch : Nat) (temp : Int) :
    Sound p q (readMr4 s ch temp) := by
  unfold readMr4
  with_reducible repeat' first
    | assumption | intro _
    | (extract_lets +onlyGivenNames x; first
        | (have := x.larderBad; clear this; subst x)
        | (refine (fun hx : Sound p q x => ?_) ?_; rotate_left; subst x; rotate_right; clear_value x)
        | (refine (fun hx : Sound p q x.1 => ?_) ?_; rotate_left; subst x; rotate_right; clear_value x)
        | clear_value x
        | subst x)
    | (dsimp -zeta only) | apply ite_sound | split | apply State.wr_sound | apply State.logEvent_sound
    | (apply pair_sound; assumption)

theorem larderGrant_sound (h : Sound p q s) (bank : Nat) (write : Bool) (k : State → LineReq → State) (hk : ∀ s x0, Sound p q s → Sound p q (k s x0)) :
    Sound p q (larderGrant s bank write k) := by
  unfold larderGrant
  with_reducible repeat' first
    | assumption | apply hk | intro _ | (dsimp -zeta only) | apply ite_sound | split | apply charge_sound

theorem dropOut_sound (h : Sound p q s) (o : Outstanding) : Sound p q (dropOut s o) := by
  unfold dropOut
  with_reducible repeat' first
    | assumption

theorem fillL2_sound (h : Sound p q s) (o : Outstanding) :
    Sound p q (fillL2 s o) := by
  unfold fillL2
  with_reducible repeat' first
    | assumption | intro _
    | (extract_lets +onlyGivenNames x; first
        | (have := x.larderBad; clear this; subst x)
        | (refine (fun hx : Sound p q x => ?_) ?_; rotate_left; subst x; rotate_right; clear_value x)
        | (refine (fun hx : Sound p q x.1 => ?_) ?_; rotate_left; subst x; rotate_right; clear_value x)
        | clear_value x
        | subst x)
    | (dsimp -zeta only) | apply ite_sound | split | apply foldl_sound | apply foldl_pair_sound
    | (apply pair_sound; assumption)

theorem responseArrives_sound (h : Sound p q s) (ni : Nat) (tag : Nat) :
    Sound p q (responseArrives s ni tag) := by
  unfold responseArrives
  with_reducible repeat' first
    | assumption | intro _ | (dsimp -zeta only) | apply ite_sound | split | apply dropOut_sound | apply State.logEvent_sound
    | apply fillL2_sound | (apply pair_sound; assumption)

theorem requestTimeout_sound (h : Sound p q s) (ni tag : Nat) : Sound p q (requestTimeout s ni tag) := by
  unfold requestTimeout
  with_reducible repeat' first
    | assumption | intro _ | (dsimp -zeta only) | apply ite_sound | split | apply State.bump_sound | apply State.busErr_sound
    | apply State.logEvent_sound | apply dropOut_sound

theorem offLink_sound (h : Sound p q s) (router : Nat) (inPort : Nat) (f : Flit) :
    Sound p q (offLink s router inPort f) := by
  unfold offLink
  with_reducible repeat' first
    | assumption | intro _ | (dsimp -zeta only) | apply ite_sound | split | (apply pair_sound; assumption)

theorem grantOutput_sound (h : Sound p q s) (router : Nat) (out : Nat) :
    Sound p q (grantOutput s router out) := by
  unfold grantOutput
  with_reducible repeat' first
    | assumption | intro _
    | (extract_lets +onlyGivenNames x; first
        | (have := x.larderBad; clear this; subst x)
        | (refine (fun hx : Sound p q x => ?_) ?_; rotate_left; subst x; rotate_right; clear_value x)
        | (refine (fun hx : Sound p q x.1 => ?_) ?_; rotate_left; subst x; rotate_right; clear_value x)
        | clear_value x
        | subst x)
    | (dsimp -zeta only) | apply ite_sound | split | apply State.setCredit_sound | (apply pair_sound; assumption)

theorem nocCycle_sound (h : Sound p q s) :
    Sound p q (nocCycle s) := by
  unfold nocCycle
  with_reducible repeat' first
    | assumption | intro _ | (dsimp -zeta only) | apply ite_sound | apply grantOutput_sound | apply foldl_sound
    | apply foldl_pair_sound | (apply pair_sound; assumption)

theorem loseFlit_sound (h : Sound p q s) (f : Flit) :
    Sound p q (loseFlit s f) := by
  unfold loseFlit
  with_reducible repeat' first
    | assumption | intro _
    | (extract_lets +onlyGivenNames x; first
        | (have := x.larderBad; clear this; subst x)
        | (refine (fun hx : Sound p q x => ?_) ?_; rotate_left; subst x; rotate_right; clear_value x)
        | (refine (fun hx : Sound p q x.1 => ?_) ?_; rotate_left; subst x; rotate_right; clear_value x)
        | clear_value x
        | subst x)
    | (dsimp -zeta only) | apply ite_sound | split | (apply pair_sound; assumption)

theorem routerTakes_sound (h : Sound p q s) (router : Nat) (inPort : Nat) (f : Flit) (err : List Nat) :
    Sound p q (routerTakes s router inPort f err) := by
  unfold routerTakes
  with_reducible repeat' first
    | assumption | intro _
    | (extract_lets +onlyGivenNames x; first
        | (have := x.larderBad; clear this; subst x)
        | (refine (fun hx : Sound p q x => ?_) ?_; rotate_left; subst x; rotate_right; clear_value x)
        | (refine (fun hx : Sound p q x.1 => ?_) ?_; rotate_left; subst x; rotate_right; clear_value x)
        | clear_value x
        | subst x)
    | (dsimp -zeta only) | apply ite_sound | split | apply offLink_sound | apply loseFlit_sound | apply State.bump_sound
    | apply State.logEvent_sound | apply grantOutput_sound | (apply pair_sound; assumption)

theorem poisonFlit_sound (h : Sound p q s) (f : Flit) :
    Sound p q (poisonFlit s f) := by
  unfold poisonFlit
  with_reducible repeat' first
    | assumption | intro _
    | (extract_lets +onlyGivenNames x; first
        | (have := x.larderBad; clear this; subst x)
        | (refine (fun hx : Sound p q x => ?_) ?_; rotate_left; subst x; rotate_right; clear_value x)
        | (refine (fun hx : Sound p q x.1 => ?_) ?_; rotate_left; subst x; rotate_right; clear_value x)
        | clear_value x
        | subst x)
    | (dsimp -zeta only) | apply ite_sound | split | (apply pair_sound; assumption)

theorem consumePosted_sound (h : Sound p q s) (ni : Nat) (f : Flit) :
    Sound p q (consumePosted s ni f) := by
  unfold consumePosted
  with_reducible repeat' first
    | assumption | intro _
    | (extract_lets +onlyGivenNames x; first
        | (have := x.larderBad; clear this; subst x)
        | (refine (fun hx : Sound p q x => ?_) ?_; rotate_left; subst x; rotate_right; clear_value x)
        | (refine (fun hx : Sound p q x.1 => ?_) ?_; rotate_left; subst x; rotate_right; clear_value x)
        | clear_value x
        | subst x)
    | (dsimp -zeta only) | apply ite_sound | split | apply aperturePush_sound | (apply pair_sound; assumption)

theorem niTakes_sound (h : Sound p q s) (ni : Nat) (f : Flit) (err : List Nat) :
    Sound p q (niTakes s ni f err) := by
  unfold niTakes
  with_reducible repeat' first
    | assumption | intro _
    | (extract_lets +onlyGivenNames x; first
        | (have := x.larderBad; clear this; subst x)
        | (refine (fun hx : Sound p q x => ?_) ?_; rotate_left; subst x; rotate_right; clear_value x)
        | (refine (fun hx : Sound p q x.1 => ?_) ?_; rotate_left; subst x; rotate_right; clear_value x)
        | clear_value x
        | subst x)
    | (dsimp -zeta only) | apply ite_sound | split | apply loseFlit_sound | apply State.bump_sound | apply poisonFlit_sound
    | apply State.logEvent_sound | apply consumePosted_sound | (apply pair_sound; assumption)

theorem memArbCommit_sound (h : Sound p q s) (data : Nat) : Sound p q (memArbCommit s data) := by
  unfold memArbCommit
  with_reducible repeat' first
    | assumption | apply ite_sound | apply State.answer_sound | apply State.commitAll_sound

theorem nocArbCommit_sound (h : Sound p q s) (data : Nat) : Sound p q (nocArbCommit s data) := by
  unfold nocArbCommit
  with_reducible repeat' first
    | assumption | apply ite_sound | apply State.answer_sound | apply State.commitAll_sound

theorem execNocFlitRoute_sound (h : Sound p q s) (router : Nat) (inPort : Nat) (flit : Flit) (err : List Nat) :
    Keeps p q (execNocFlitRoute router inPort flit err s) := by
  unfold execNocFlitRoute
  with_reducible repeat' first
    | assumption | intro _ | (dsimp -zeta only) | apply ite_sound | split | apply routerTakes_sound
    | apply whilePowered_sound | (apply pair_sound; assumption)

theorem execNocFlitEject_sound (h : Sound p q s) (ni : Nat) (flit : Flit) (err : List Nat) :
    Keeps p q (execNocFlitEject ni flit err s) := by
  unfold execNocFlitEject
  with_reducible repeat' first
    | assumption | intro _ | (dsimp -zeta only) | apply ite_sound | split | apply niTakes_sound | apply whilePowered_sound
    | (apply pair_sound; assumption)

theorem execArbWindowStart_sound (h : Sound p q s) (arb : ArbId) :
    Keeps p q (execArbWindowStart arb s) := by
  unfold execArbWindowStart
  with_reducible repeat' first
    | assumption | intro _ | (dsimp -zeta only) | apply ite_sound | split | apply startWindow_sound
    | apply whilePowered_sound | (apply pair_sound; assumption)

theorem execMemArbCommit_sound (h : Sound p q s) (rq : Requester) (data : Nat) : Keeps p q (execMemArbCommit rq data s) := by
  unfold execMemArbCommit
  with_reducible repeat' first
    | assumption | intro _ | (dsimp -zeta only) | apply atRegister_sound | apply memArbCommit_sound | apply whilePowered_sound

theorem execNocArbCommit_sound (h : Sound p q s) (rq : Requester) (data : Nat) : Keeps p q (execNocArbCommit rq data s) := by
  unfold execNocArbCommit
  with_reducible repeat' first
    | assumption | intro _ | (dsimp -zeta only) | apply atRegister_sound | apply nocArbCommit_sound | apply whilePowered_sound

theorem execDramRead_sound (h : Sound p q s) (ctl : Nat) (ecc : LineErr) :
    Keeps p q (execDramRead ctl ecc s) := by
  unfold execDramRead
  with_reducible repeat' first
    | assumption | intro _ | (dsimp -zeta only) | apply ite_sound | split | apply scrubRead_sound | apply dramGrant_sound
    | apply dramReadLine_sound | apply whilePowered_sound | (apply pair_sound; assumption)

theorem execDramWrite_sound (h : Sound p q s) (ctl : Nat) (ecc : LineErr) : Keeps p q (execDramWrite ctl ecc s) := by
  unfold execDramWrite
  with_reducible repeat' first
    | assumption | intro _ | (dsimp -zeta only) | apply ite_sound | apply dramGrant_sound | apply dramWriteLine_sound
    | apply whilePowered_sound

theorem execDramRefresh_sound (h : Sound p q s) (ch : Nat) :
    Keeps p q (execDramRefresh ch s) := by
  unfold execDramRefresh
  with_reducible repeat' first
    | assumption | intro _ | (dsimp -zeta only) | apply ite_sound | split | apply refreshChannel_sound
    | apply whilePowered_sound | (apply pair_sound; assumption)

theorem execMr4Poll_sound (h : Sound p q s) (ch : Nat) (temp : Int) :
    Keeps p q (execMr4Poll ch temp s) := by
  unfold execMr4Poll
  with_reducible repeat' first
    | assumption | intro _ | (dsimp -zeta only) | apply ite_sound | split | apply readMr4_sound | apply whilePowered_sound
    | (apply pair_sound; assumption)

theorem execLarderRead_sound (h : Sound p q s) (bank : Nat) (errs : List (Nat × Ecc)) :
    Keeps p q (execLarderRead bank errs s) := by
  unfold execLarderRead
  with_reducible repeat' first
    | assumption | intro _ | (dsimp -zeta only) | apply ite_sound | apply larderGrant_sound | apply larderReadLine_sound
    | apply whilePowered_sound

theorem execLarderWrite_sound (h : Sound p q s) (bank : Nat) (errs : List (Nat × Ecc)) :
    Keeps p q (execLarderWrite bank errs s) := by
  unfold execLarderWrite
  with_reducible repeat' first
    | assumption | intro _ | (dsimp -zeta only) | apply ite_sound | apply larderGrant_sound | apply larderWriteLine_sound
    | apply whilePowered_sound

end Sys2Proof.Machine
end

