-- ==== Sys2Proof/Laws/SoundFabric.lean ====
section
/-! SUPPORT. What no operation breaks: the part, the rest of the queue, the canonical form of the byte memories and of the
register tables.  Here: the fabric and its stream ports. -/

namespace Sys2Proof.Machine

variable {p : Part} {q : List Instr} {s : State}

theorem State.setRegion_sound (h : Sound p q s) (r : Nat) (x : Region) : Sound p q (State.setRegion s r x) := by
  unfold State.setRegion
  with_reducible repeat' first
    | assumption

theorem sendTo_sound (h : Sound p q s) (src island lane : Nat) (w : Lane) : Sound p q (sendTo s src island lane w) := by
  unfold sendTo
  with_reducible repeat' first
    | assumption | apply ite_sound

theorem releaseHeld_sound (h : Sound p q s) :
    Sound p q (releaseHeld s) := by
  unfold releaseHeld
  with_reducible repeat' first
    | assumption | intro _ | (dsimp -zeta only) | apply ite_sound | apply sendTo_sound | apply foldl_sound
    | apply foldl_pair_sound | (apply pair_sound; assumption)

theorem leave_sound (h : Sound p q s) (e : Nat × Nat × Lane) : Sound p q (leave s e) := by
  unfold leave
  with_reducible repeat' first
    | assumption | apply ite_sound | split | apply State.setRegion_sound | apply sendTo_sound

theorem fabricCycle_sound (h : Sound p q s) : Sound p q (fabricCycle s) := by
  unfold fabricCycle
  with_reducible repeat' first
    | assumption | intro _ | (dsimp -zeta only) | apply State.setRegion_sound | apply leave_sound | apply foldl_sound
    | apply foldl_pair_sound

theorem noteCollide_sound (h : Sound p q s) (r : Nat) : Sound p q (noteCollide s r) := by
  unfold noteCollide
  with_reducible repeat' first
    | assumption | split | apply State.bump_sound | apply State.logLimited_sound

theorem requestSwitch_sound (h : Sound p q s) (r : Nat) (p1 : Pend) : Sound p q (requestSwitch s r p1) := by
  unfold requestSwitch
  with_reducible repeat' first
    | assumption | apply ite_sound | split | apply State.setRegion_sound | apply noteCollide_sound

theorem takeShelf_sound (h : Sound p q s) (r : Nat) (target : Nat) :
    Sound p q (takeShelf s r target) := by
  unfold takeShelf
  with_reducible repeat' first
    | assumption | intro _
    | (extract_lets +onlyGivenNames x; first
        | (have := x.larderBad; clear this; subst x)
        | (refine (fun hx : Sound p q x => ?_) ?_; rotate_left; subst x; rotate_right; clear_value x)
        | (refine (fun hx : Sound p q x.1 => ?_) ?_; rotate_left; subst x; rotate_right; clear_value x)
        | clear_value x
        | subst x)
    | (dsimp -zeta only) | apply ite_sound | split | apply State.setRegion_sound | apply State.useFresh_sound
    | (apply pair_sound; assumption)

theorem doSwitch_sound (h : Sound p q s) (r : Nat) :
    Sound p q (doSwitch s r) := by
  unfold doSwitch
  with_reducible repeat' first
    | assumption | intro _
    | (extract_lets +onlyGivenNames x; first
        | (have := x.larderBad; clear this; subst x)
        | (refine (fun hx : Sound p q x => ?_) ?_; rotate_left; subst x; rotate_right; clear_value x)
        | (refine (fun hx : Sound p q x.1 => ?_) ?_; rotate_left; subst x; rotate_right; clear_value x)
        | clear_value x
        | subst x)
    | (dsimp -zeta only) | apply ite_sound | split | apply State.setRegion_sound | apply State.logEvent_sound
    | apply takeShelf_sound | apply State.count_sound | (apply pair_sound; assumption)

theorem isolateRegion_sound (h : Sound p q s) (r : Nat) : Sound p q (isolateRegion s r) := by
  unfold isolateRegion
  with_reducible repeat' first
    | assumption | apply State.setRegion_sound

theorem armTimer_sound (h : Sound p q s) (r : Nat) : Sound p q (armTimer s r) := by
  unfold armTimer
  with_reducible repeat' first
    | assumption | apply requestSwitch_sound

theorem triggerSwitch_sound (h : Sound p q s) (r : Nat) :
    Sound p q (triggerSwitch s r) := by
  unfold triggerSwitch
  with_reducible repeat' first
    | assumption | intro _
    | (extract_lets +onlyGivenNames x; first
        | (have := x.larderBad; clear this; subst x)
        | (refine (fun hx : Sound p q x => ?_) ?_; rotate_left; subst x; rotate_right; clear_value x)
        | (refine (fun hx : Sound p q x.1 => ?_) ?_; rotate_left; subst x; rotate_right; clear_value x)
        | clear_value x
        | subst x)
    | (dsimp -zeta only) | apply ite_sound | split | apply requestSwitch_sound | (apply pair_sound; assumption)

theorem firmwareSwitch_sound (h : Sound p q s) (r shelf : Nat) : Sound p q (firmwareSwitch s r shelf) := by
  unfold firmwareSwitch
  with_reducible repeat' first
    | assumption | apply State.answer_sound | apply requestSwitch_sound

theorem State.setChan_sound (h : Sound p q s) (p1 c : Nat) (x : Channel) : Sound p q (State.setChan s p1 c x) := by
  unfold State.setChan
  with_reducible repeat' first
    | assumption

theorem spRefused_sound (h : Sound p q s) (p1 addr data : Nat) (rq : Requester) : Sound p q (spRefused s p1 addr data rq) := by
  unfold spRefused
  with_reducible repeat' first
    | assumption | apply State.answer_sound | apply State.logEvent_sound

theorem writeChField_sound (h : Sound p q s) (rq : Requester) (p1 c : Nat) (f : Fld) (data : Nat) :
    Sound p q (writeChField s rq p1 c f data) := by
  unfold writeChField
  with_reducible repeat' first
    | assumption | apply ite_sound | apply State.answer_sound | apply State.wr_sound | apply spRefused_sound

theorem writeSpCfg_sound (h : Sound p q s) (rq : Requester) (p1 data : Nat) : Sound p q (writeSpCfg s rq p1 data) := by
  unfold writeSpCfg
  with_reducible repeat' first
    | assumption | apply ite_sound | apply State.answer_sound | apply State.wr_sound | apply spRefused_sound

theorem channelError_sound (h : Sound p q s) (p1 c addr : Nat) : Sound p q (channelError s p1 c addr) := by
  unfold channelError
  with_reducible repeat' first
    | assumption | apply State.logEvent_sound | apply State.wr_sound

theorem channelDrop_sound (h : Sound p q s) (p1 c : Nat) : Sound p q (channelDrop s p1 c) := by
  unfold channelDrop
  with_reducible repeat' first
    | assumption | apply State.bump_sound | apply State.logLimited_sound

theorem drainFifo_sound (h : Sound p q s) (p1 c : Nat) (u : Nat) : Sound p q (drainFifo s p1 c u) := by
  induction u generalizing s  with
  | zero => exact h
  | succ u ih =>
    unfold drainFifo
    with_reducible repeat' first
      | assumption | apply ih | apply ite_sound | split | apply State.busWrite_sound | apply State.setChan_sound
      | apply State.wr_sound | apply channelError_sound

theorem restartChannel_sound (h : Sound p q s) (p1 : Nat) (c : Nat) :
    Sound p q (restartChannel s p1 c) := by
  unfold restartChannel
  with_reducible repeat' first
    | assumption | intro _
    | (extract_lets +onlyGivenNames x; first
        | (have := x.larderBad; clear this; subst x)
        | (refine (fun hx : Sound p q x => ?_) ?_; rotate_left; subst x; rotate_right; clear_value x)
        | (refine (fun hx : Sound p q x.1 => ?_) ?_; rotate_left; subst x; rotate_right; clear_value x)
        | clear_value x
        | subst x)
    | (dsimp -zeta only) | apply ite_sound | split | apply State.wr_sound | apply drainFifo_sound
    | (apply pair_sound; assumption)

theorem writeChCfg_sound (h : Sound p q s) (rq : Requester) (p1 : Nat) (c : Nat) (data : Nat) :
    Sound p q (writeChCfg s rq p1 c data) := by
  unfold writeChCfg
  with_reducible repeat' first
    | assumption | intro _
    | (extract_lets +onlyGivenNames x; first
        | (have := x.larderBad; clear this; subst x)
        | (refine (fun hx : Sound p q x => ?_) ?_; rotate_left; subst x; rotate_right; clear_value x)
        | (refine (fun hx : Sound p q x.1 => ?_) ?_; rotate_left; subst x; rotate_right; clear_value x)
        | clear_value x
        | subst x)
    | (dsimp -zeta only) | apply ite_sound | split | apply spRefused_sound | apply State.logEvent_sound
    | apply State.wr_sound | apply restartChannel_sound | apply State.answer_sound | (apply pair_sound; assumption)

theorem ringWord_sound (h : Sound p q s) (p1 c : Nat) (w : Word) : Sound p q (ringWord s p1 c w) := by
  unfold ringWord
  with_reducible repeat' first
    | assumption | apply ite_sound | apply State.setChan_sound | apply channelDrop_sound | apply drainFifo_sound

theorem queueWord_sound (h : Sound p q s) (p1 c : Nat) (w : Word) : Sound p q (queueWord s p1 c w) := by
  unfold queueWord
  with_reducible repeat' first
    | assumption
    | (extract_lets +onlyGivenNames x; first | (refine (fun hx : Sound p q x => ?_) ?_; rotate_left; subst x; rotate_right; clear_value x) | clear_value x)
    | apply ite_sound | split | apply State.busWrite_sound | apply State.setChan_sound | apply channelError_sound
    | (apply pair_sound; assumption)

theorem outboundWord_sound (h : Sound p q s) (p1 c : Nat) (w : Word) : Sound p q (outboundWord s p1 c w) := by
  unfold outboundWord
  with_reducible repeat' first
    | assumption | apply ite_sound | split | apply channelDrop_sound | apply queueWord_sound | apply ringWord_sound

theorem deliver_sound (h : Sound p q s) (p1 : Nat) (c : Nat) (ws : List Word) :
    Sound p q (deliver s p1 c ws) := by
  unfold deliver
  with_reducible repeat' first
    | assumption | intro _ | (dsimp -zeta only) | apply ite_sound | apply State.setChan_sound
    | (apply pair_sound; assumption)

theorem sendLanes_sound (h : Sound p q s) (p1 c : Nat) (ls : List Nat) : Sound p q (sendLanes s p1 c ls) := by
  induction ls generalizing s with
  | nil => exact h
  | cons x0 rest ih =>
    unfold sendLanes
    with_reducible repeat' first
      | assumption | intro _
      | (extract_lets +onlyGivenNames x; first
        | (have := x.larderBad; clear this; subst x)
        | (refine (fun hx : Sound p q x => ?_) ?_; rotate_left; subst x; rotate_right; clear_value x)
        | (refine (fun hx : Sound p q x.1 => ?_) ?_; rotate_left; subst x; rotate_right; clear_value x)
        | clear_value x
        | subst x)
      | (dsimp -zeta only) | apply ite_sound | split | apply ih | apply sendTo_sound | apply State.setChan_sound
      | (apply pair_sound; assumption)

theorem inboundCycle_sound (h : Sound p q s) :
    Sound p q (inboundCycle s) := by
  unfold inboundCycle
  with_reducible repeat' first
    | assumption | intro _
    | (extract_lets +onlyGivenNames x; first
        | (have := x.larderBad; clear this; subst x)
        | (refine (fun hx : Sound p q x => ?_) ?_; rotate_left; subst x; rotate_right; clear_value x)
        | (refine (fun hx : Sound p q x.1 => ?_) ?_; rotate_left; subst x; rotate_right; clear_value x)
        | clear_value x
        | subst x)
    | (dsimp -zeta only) | apply ite_sound | apply sendLanes_sound | apply foldl_sound | apply foldl_pair_sound
    | (apply pair_sound; assumption)

theorem inboundWord_sound (h : Sound p q s) (p1 c : Nat) : Sound p q (inboundWord s p1 c) := by
  unfold inboundWord
  with_reducible repeat' first
    | assumption
    | (extract_lets +onlyGivenNames x; first | (refine (fun hx : Sound p q x => ?_) ?_; rotate_left; subst x; rotate_right; clear_value x) | clear_value x)
    | apply ite_sound | split | apply State.busRead_sound | apply State.wr_sound | apply channelError_sound
    | apply deliver_sound | (apply pair_sound; assumption)

theorem State.setCut_sound (h : Sound p q s) (l : Nat) (x : CutLane) : Sound p q (State.setCut s l x) := by
  unfold State.setCut
  with_reducible repeat' first
    | assumption

theorem cutLate_sound (h : Sound p q s) (l why : Nat) : Sound p q (cutLate s l why) := by
  unfold cutLate
  with_reducible repeat' first
    | assumption | apply State.bump_sound | apply State.logLimited_sound

theorem cutArrives_sound (h : Sound p q s) (l : Nat) (w : Word) : Sound p q (cutArrives s l w) := by
  unfold cutArrives
  with_reducible repeat' first
    | assumption | apply ite_sound | apply State.setCut_sound | apply cutLate_sound

theorem cutRelease_sound (h : Sound p q s) (l : Nat) : Sound p q (cutRelease s l) := by
  unfold cutRelease
  with_reducible repeat' first
    | assumption | apply ite_sound | split | apply State.setCut_sound | apply cutLate_sound

theorem cutPresent_sound (h : Sound p q s) (l : Nat) : Sound p q (cutPresent s l) := by
  unfold cutPresent
  with_reducible repeat' first
    | assumption | apply State.setCut_sound

theorem writeCutPairs_sound (h : Sound p q s) (rq : Requester) (data : Nat) : Sound p q (writeCutPairs s rq data) := by
  unfold writeCutPairs
  with_reducible repeat' first
    | assumption | apply ite_sound | apply State.answer_sound | apply State.logEvent_sound | apply State.wr_sound

theorem execSlotStrobe_sound (h : Sound p q s) (region shelf tick : Nat) : Keeps p q (execSlotStrobe region shelf tick s) := by
  unfold execSlotStrobe
  with_reducible repeat' first
    | assumption | intro _ | (dsimp -zeta only) | apply ite_sound | apply requestSwitch_sound | apply tick_sound
    | apply whilePowered_sound

theorem execRegionTimerArm_sound (h : Sound p q s) (rq : Requester) (region data : Nat) :
    Keeps p q (execRegionTimerArm rq region data s) := by
  unfold execRegionTimerArm
  with_reducible repeat' first
    | assumption | intro _ | (dsimp -zeta only) | apply State.answer_sound | apply State.wr_sound | apply armTimer_sound
    | apply atRegister_sound | apply whilePowered_sound

theorem execTriggerCell_sound (h : Sound p q s) (region : Nat) :
    Keeps p q (execTriggerCell region s) := by
  unfold execTriggerCell
  with_reducible repeat' first
    | assumption | intro _ | (dsimp -zeta only) | apply ite_sound | apply triggerSwitch_sound | apply whilePowered_sound
    | (apply pair_sound; assumption)

theorem execSwReq_sound (h : Sound p q s) (rq : Requester) (region data : Nat) : Keeps p q (execSwReq rq region data s) := by
  unfold execSwReq
  with_reducible repeat' first
    | assumption | intro _ | (dsimp -zeta only) | apply atRegister_sound | apply firmwareSwitch_sound | apply whilePowered_sound

theorem execShelfSwitch_sound (h : Sound p q s) (region : Nat) : Keeps p q (execShelfSwitch region s) := by
  unfold execShelfSwitch
  with_reducible repeat' first
    | assumption | intro _ | (dsimp -zeta only) | apply doSwitch_sound | apply whilePowered_sound

theorem execSpChannelConfig_sound (h : Sound p q s) (rq : Requester) (port ch data : Nat) :
    Keeps p q (execSpChannelConfig rq port ch data s) := by
  unfold execSpChannelConfig
  with_reducible repeat' first
    | assumption | intro _ | (dsimp -zeta only) | apply atRegister_sound | apply whilePowered_sound | apply writeChCfg_sound

theorem execSpChannelRestart_sound (h : Sound p q s) (rq : Requester) (port : Nat) (ch : Nat) :
    Keeps p q (execSpChannelRestart rq port ch s) := by
  unfold execSpChannelRestart
  with_reducible repeat' first
    | assumption | intro _ | (dsimp -zeta only) | apply ite_sound | apply atRegister_sound | apply restartChannel_sound
    | apply State.answer_sound | apply whilePowered_sound | (apply pair_sound; assumption)

theorem execSpOutboundWord_sound (h : Sound p q s) (port ch : Nat) (word : Word) :
    Keeps p q (execSpOutboundWord port ch word s) := by
  unfold execSpOutboundWord
  with_reducible repeat' first
    | assumption | intro _ | (dsimp -zeta only) | apply ite_sound | apply outboundWord_sound | apply whilePowered_sound

theorem execSpInboundWord_sound (h : Sound p q s) (port ch : Nat) : Keeps p q (execSpInboundWord port ch s) := by
  unfold execSpInboundWord
  with_reducible repeat' first
    | assumption | intro _ | (dsimp -zeta only) | apply ite_sound | apply inboundWord_sound | apply whilePowered_sound

theorem execCutPairsWrite_sound (h : Sound p q s) (rq : Requester) (data : Nat) : Keeps p q (execCutPairsWrite rq data s) := by
  unfold execCutPairsWrite
  with_reducible repeat' first
    | assumption | intro _ | (dsimp -zeta only) | apply atRegister_sound | apply whilePowered_sound | apply writeCutPairs_sound

theorem execCutRelease_sound (h : Sound p q s) (lane : Nat) (sat : Bool) : Keeps p q (execCutRelease lane sat s) := by
  unfold execCutRelease
  with_reducible repeat' first
    | assumption | intro _ | (dsimp -zeta only) | apply ite_sound | apply State.bump_sound | apply cutRelease_sound
    | apply whilePowered_sound

end Sys2Proof.Machine
end

