-- ==== Sys2Proof/Laws/SoundEngine.lean ====
section
/-! SUPPORT. What no operation breaks: the part, the rest of the queue, the canonical form of the byte memories and of the
register tables.  Here: engines and models. -/

namespace Sys2Proof.Machine

variable {p : Part} {q : List Instr} {s : State}

theorem State.setEng_sound (h : Sound p q s) (e : Nat) (g : Engine) : Sound p q (State.setEng s e g) := by
  unfold State.setEng
  with_reducible repeat' first
    | assumption

theorem State.setBank_sound (h : Sound p q s) (e b : Nat) (k : Bank) : Sound p q (State.setBank s e b k) := by
  unfold State.setBank
  with_reducible repeat' first
    | assumption | apply State.setEng_sound

theorem State.onBank_sound (h : Sound p q s) (e b : Nat) (f : Bank → Bank) : Sound p q (State.onBank s e b f) := by
  unfold State.onBank
  with_reducible repeat' first
    | assumption | apply State.setBank_sound

theorem stageWrite_sound (h : Sound p q s) (e b off : Nat) (bs : List Byte) : Sound p q (stageWrite s e b off bs) := by
  unfold stageWrite
  with_reducible repeat' first
    | assumption | apply State.setEng_sound

theorem addEntry_sound (h : Sound p q s) (e : Nat) (n : Entry) : Sound p q (addEntry s e n) := by
  unfold addEntry
  with_reducible repeat' first
    | assumption | apply State.setEng_sound

theorem dropEntry_sound (h : Sound p q s) (e id : Nat) : Sound p q (dropEntry s e id) := by
  unfold dropEntry
  with_reducible repeat' first
    | assumption | intro _ | (dsimp -zeta only) | apply State.setEng_sound

theorem completion_sound (h : Sound p q s) (e cq tag status cause cycles : Nat) :
    Sound p q (completion s e cq tag status cause cycles) := by
  unfold completion
  with_reducible repeat' first
    | assumption | apply pushPacket_sound

theorem endJob_sound (h : Sound p q s) (e b status cause : Nat) : Sound p q (endJob s e b status cause) := by
  unfold endJob
  with_reducible repeat' first
    | assumption | intro _ | (dsimp -zeta only) | apply ite_sound | split | apply State.onBank_sound | apply State.setEng_sound
    | apply completion_sound

theorem popWords_sound (h : Sound p q s) (n : Nat) (u : Nat) : Sound p q (popWords s n u).1 := by
  induction u generalizing s  with
  | zero => exact h
  | succ u ih =>
    unfold popWords
    with_reducible repeat' first
      | assumption | apply ih | apply popSlot_sound

theorem popPacket_sound (h : Sound p q s) (n : Nat) : Sound p q (popPacket s n).1 := by
  unfold popPacket
  with_reducible repeat' first
    | assumption | apply popWords_sound | apply ite_sound | apply State.setQ_sound

theorem popJob_sound (h : Sound p q s) (e b : Nat) : Sound p q (popJob s e b) := by
  unfold popJob
  with_reducible repeat' first
    | assumption | intro _ | (dsimp -zeta only) | apply ite_sound | split | apply State.logEvent_sound
    | apply State.onBank_sound | apply completion_sound | apply popPacket_sound

theorem schedulerLook_sound (h : Sound p q s) (e : Nat) : Sound p q (schedulerLook s e) := by
  unfold schedulerLook
  with_reducible repeat' first
    | assumption | intro _ | (dsimp -zeta only) | apply ite_sound | apply State.clearBits_sound | apply popJob_sound
    | apply foldl_sound | apply foldl_pair_sound

theorem endAndLook_sound (h : Sound p q s) (e b status cause : Nat) : Sound p q (endAndLook s e b status cause) := by
  unfold endAndLook
  with_reducible repeat' first
    | assumption | apply endJob_sound | apply schedulerLook_sound

theorem abortJob_sound (h : Sound p q s) (e b : Nat) : Sound p q (abortJob s e b) := by
  unfold abortJob
  with_reducible repeat' first
    | assumption | apply ite_sound | apply State.logEvent_sound | apply endJob_sound | apply schedulerLook_sound

theorem raiseExc_sound (h : Sound p q s) (e b cause slot sub : Nat) (imprecise : Bool) (pc : Nat) :
    Sound p q (raiseExc s e b cause slot sub imprecise pc) := by
  unfold raiseExc
  with_reducible repeat' first
    | assumption | intro _ | (dsimp -zeta only) | apply ite_sound | apply State.logEvent_sound | apply State.onBank_sound
    | apply State.wr_sound | apply abortJob_sound

theorem shedBank_sound (h : Sound p q s) (e b : Nat) : Sound p q (shedBank s e b) := by
  unfold shedBank
  with_reducible repeat' first
    | assumption | intro _ | (dsimp -zeta only) | apply ite_sound | split | apply endJob_sound | apply State.onBank_sound
    | apply completion_sound

theorem noteWeights_sound (h : Sound p q s) (e b x pc : Nat) : Sound p q (noteWeights s e b x pc) := by
  unfold noteWeights
  with_reducible repeat' first
    | assumption | intro _ | (dsimp -zeta only) | apply ite_sound | apply State.logEvent_sound | apply State.onBank_sound
    | apply State.wr_sound

theorem issueM_sound (h : Sound p q s) (e b x pc : Nat) (k : Bank) (span : List (Nat × Nat)) (blocks : List Nat) :
    Sound p q (issueM s e b x pc k span blocks) := by
  unfold issueM
  with_reducible repeat' first
    | assumption | intro _ | (dsimp -zeta only) | apply ite_sound | apply State.onBank_sound | apply addEntry_sound
    | apply noteWeights_sound

theorem issueV_sound (h : Sound p q s) (e b x : Nat) (k : Bank) : Sound p q (issueV s e b x k) := by
  unfold issueV
  with_reducible repeat' first
    | assumption | apply ite_sound | split | apply State.useFresh_sound | apply addEntry_sound

theorem windowElem_sound (h : Sound p q s) (e b : Nat) (n : Nat) : Sound p q (windowElem e b s n) := by
  unfold windowElem
  with_reducible repeat' first
    | assumption | apply ite_sound | apply State.bump_sound | apply State.logEvent_sound | apply State.wr_sound

theorem countSats_sound (h : Sound p q s) (e : Nat) (n : Entry) : Sound p q (countSats s e n) := by
  unfold countSats
  with_reducible repeat' first
    | assumption
    | (extract_lets +onlyGivenNames x; first
        | (have := x.larderBad; clear this; subst x)
        | (refine (fun hx : Sound p q x => ?_) ?_; rotate_left; subst x; rotate_right; clear_value x)
        | clear_value x
        | subst x)
    | intro _ | (dsimp -zeta only) | apply ite_sound | split | apply State.bump_sound | apply windowElem_sound
    | apply foldl_sound | apply foldl_pair_sound | (apply pair_sound; assumption)

theorem devRead_sound (h : Sound p q s) (rq : Requester) (a n : Nat) : Sound p q (devRead s rq a n).1 := by
  unfold devRead
  with_reducible repeat' first
    | assumption
    | (extract_lets +onlyGivenNames x; first | (refine (fun hx : Sound p q x => ?_) ?_; rotate_left; subst x; rotate_right; clear_value x) | clear_value x)
    | apply ite_sound | split | apply State.busRead_sound | (apply pair_sound; assumption)

theorem devWrite_sound (h : Sound p q s) (rq : Requester) (a : Nat) (bs : List Byte) : Sound p q (devWrite s rq a bs).1 :=
  deviceWrite_sound h rq a bs

theorem devReadLines_sound (h : Sound p q s) (rq : Requester) (a : Nat) (u : Nat) : Sound p q (devReadLines s rq a u).1 := by
  induction u generalizing s a with
  | zero => exact h
  | succ u ih =>
    unfold devReadLines
    with_reducible repeat' first
      | assumption | apply ih
      | (extract_lets +onlyGivenNames x; first | (refine (fun hx : Sound p q x => ?_) ?_; rotate_left; subst x; rotate_right; clear_value x) | clear_value x)
      | split | apply devRead_sound | (apply pair_sound; assumption)

theorem devWriteLines_sound (h : Sound p q s) (rq : Requester) (a : Nat) (bs : List Byte) (u : Nat) : Sound p q (devWriteLines s rq a bs u).1 := by
  induction u generalizing s a bs with
  | zero => exact h
  | succ u ih =>
    unfold devWriteLines
    with_reducible repeat' first
      | assumption | apply ih
      | (extract_lets +onlyGivenNames x; first | (refine (fun hx : Sound p q x => ?_) ?_; rotate_left; subst x; rotate_right; clear_value x) | clear_value x)
      | split | apply devWrite_sound | (apply pair_sound; assumption)

theorem freeLine_sound {acc : State × Bool} (h : Sound p q acc.1) (rq : Requester) (a : Nat) (bs : List Byte) (put : Bool) :
    Sound p q (freeLine acc rq a bs put).1 := by
  unfold freeLine
  split
  · exact h
  · split
    · rename_i t ht
      exact routedAccess_sound h rq a bs.length true _ t ht
    · exact ite_sound (writeRange_sound h _ _ _) h

theorem freeLines_sound (h : Sound p q s) (rq : Requester) (a : Nat) (bs : List Byte) (step : Nat) :
    Sound p q (freeLines s rq a bs step) := by
  unfold freeLines
  with_reducible repeat' first
    | assumption | intro _
    | (extract_lets +onlyGivenNames x; first
        | (have := x.larderBad; clear this; subst x)
        | (refine (fun hx : Sound p q x => ?_) ?_; rotate_left; subst x; rotate_right; clear_value x)
        | (refine (fun hx : Sound p q x.1 => ?_) ?_; rotate_left; subst x; rotate_right; clear_value x)
        | clear_value x
        | subst x)
    | (dsimp -zeta only) | apply ite_sound | apply step_sound | apply freeLine_sound | apply State.useFresh_sound
    | apply foldl_sound | apply foldl_pair_sound | (apply pair_sound; assumption)

theorem transferRegs_go_sound (h : Sound p q s) (e b : Nat) (t : Transfer) (l : List Nat) (m : Nat) :
    Sound p q (transferRegs.go e b t l s m).1 := by
  induction l generalizing s m with
  | nil => exact h
  | cons i l ih =>
    unfold transferRegs.go
    split
    · have := devWrite_sound h (bankRq e b) (t.addr + multiB t.op * i)
        (((t.data.find? fun p => p.1 == i).map (·.2)).getD (regBytes (s.bank e b) t.op i))
      dsimp only
      split <;> (rename_i heq; rw [heq] at this)
      · exact ih this _
      · exact this
    · have := devRead_sound h (bankRq e b) (t.addr + multiB t.op * i) (multiB t.op)
      dsimp only
      split <;> (rename_i heq; rw [heq] at this)
      · exact ih (State.onBank_sound this _ _ _) _
      · exact this
theorem transferRegs_sound (h : Sound p q s) (e b : Nat) (t : Transfer) (n : Nat) : Sound p q (transferRegs e b t n s).1 := by
  cases n with
  | zero => exact h
  | succ n => exact transferRegs_go_sound h e b t _ _

theorem blockingDone_sound (h : Sound p q s) (e b : Nat) : Sound p q (blockingDone s e b) := by
  unfold blockingDone
  with_reducible repeat' first
    | assumption | intro _ | (dsimp -zeta only) | apply State.onBank_sound | apply State.setEng_sound

theorem blockingFault_sound (h : Sound p q s) (e b : Nat) (t : Transfer) (left cause : Nat) :
    Sound p q (blockingFault s e b t left cause) := by
  unfold blockingFault
  with_reducible repeat' first
    | assumption | intro _ | (dsimp -zeta only) | apply ite_sound | apply State.onBank_sound | apply blockingDone_sound
    | apply raiseExc_sound

theorem runBlocking_sound (h : Sound p q s) (e : Nat) (b : Nat) (t : Transfer) :
    Sound p q (runBlocking s e b t) := by
  unfold runBlocking
  with_reducible repeat' first
    | assumption | intro _
    | (extract_lets +onlyGivenNames x; first
        | (have := x.larderBad; clear this; subst x)
        | (refine (fun hx : Sound p q x => ?_) ?_; rotate_left; subst x; rotate_right; clear_value x)
        | (refine (fun hx : Sound p q x.1 => ?_) ?_; rotate_left; subst x; rotate_right; clear_value x)
        | clear_value x
        | subst x)
    | (dsimp -zeta only) | apply ite_sound | split | apply transferRegs_sound | apply blockingDone_sound
    | apply blockingFault_sound | apply devWriteLines_sound | apply devReadLines_sound | apply State.onBank_sound
    | apply devRead_sound | (apply pair_sound; assumption)

theorem suspendBlocking_sound (h : Sound p q s) (e : Nat) (b : Nat) (n : Nat) :
    Sound p q (suspendBlocking s e b n) := by
  unfold suspendBlocking
  with_reducible repeat' first
    | assumption | intro _
    | (extract_lets +onlyGivenNames x; first
        | (have := x.larderBad; clear this; subst x)
        | (refine (fun hx : Sound p q x => ?_) ?_; rotate_left; subst x; rotate_right; clear_value x)
        | (refine (fun hx : Sound p q x.1 => ?_) ?_; rotate_left; subst x; rotate_right; clear_value x)
        | clear_value x
        | subst x)
    | (dsimp -zeta only) | apply ite_sound | split | apply transferRegs_sound | apply blockingFault_sound
    | apply blockingDone_sound | apply State.onBank_sound | apply runBlocking_sound | (apply pair_sound; assumption)

theorem ringService_sound (h : Sound p q s) (e b : Nat) : Sound p q (ringService s e b) := by
  unfold ringService
  with_reducible repeat' first
    | assumption
    | (extract_lets +onlyGivenNames x; first | (refine (fun hx : Sound p q x => ?_) ?_; rotate_left; subst x; rotate_right; clear_value x) | clear_value x)
    | intro _ | (dsimp -zeta only) | apply ite_sound | split | apply State.onBank_sound | (apply pair_sound; assumption)

theorem ringStart_sound (h : Sound p q s) (e b : Nat) : Sound p q (ringStart s e b) := by
  unfold ringStart
  with_reducible repeat' first
    | assumption | intro _ | (dsimp -zeta only) | apply ite_sound | apply State.onBank_sound

theorem ringMiss_sound (h : Sound p q s) (e b j : Nat) : Sound p q (ringMiss s e b j) := by
  unfold ringMiss
  with_reducible repeat' first
    | assumption | intro _ | (dsimp -zeta only) | apply ite_sound | split | apply State.bump_sound | apply State.logEvent_sound
    | apply State.onBank_sound | apply ringService_sound

theorem countWait_sound (h : Sound p q s) (e : Nat) (b : Nat) (on : Bool) :
    Sound p q (countWait s e b on) := by
  unfold countWait
  with_reducible repeat' first
    | assumption | intro _
    | (extract_lets +onlyGivenNames x; first
        | (have := x.larderBad; clear this; subst x)
        | (refine (fun hx : Sound p q x => ?_) ?_; rotate_left; subst x; rotate_right; clear_value x)
        | (refine (fun hx : Sound p q x.1 => ?_) ?_; rotate_left; subst x; rotate_right; clear_value x)
        | clear_value x
        | subst x)
    | (dsimp -zeta only) | apply ite_sound | split | apply State.bump_sound | apply State.onBank_sound
    | (apply pair_sound; assumption)

theorem ringWait_sound (h : Sound p q s) (e : Nat) (b : Nat) (js : List Nat) :
    Sound p q (ringWait s e b js) := by
  unfold ringWait
  with_reducible repeat' first
    | assumption | intro _ | (dsimp -zeta only) | apply ite_sound | split | apply ringMiss_sound | apply countWait_sound
    | apply foldl_sound | apply foldl_pair_sound | (apply pair_sound; assumption)

theorem ringRead_sound (h : Sound p q s) (e b : Nat) (js : List Nat) : Sound p q (ringRead s e b js) := by
  unfold ringRead
  with_reducible repeat' first
    | assumption | intro _ | (dsimp -zeta only) | apply ite_sound | split | apply State.onBank_sound | apply ringService_sound
    | apply foldl_sound | apply foldl_pair_sound

theorem ringFetched_sound (h : Sound p q s) (e b j : Nat) : Sound p q (ringFetched s e b j) := by
  unfold ringFetched
  with_reducible repeat' first
    | assumption
    | (extract_lets +onlyGivenNames x; first | (refine (fun hx : Sound p q x => ?_) ?_; rotate_left; subst x; rotate_right; clear_value x) | clear_value x)
    | intro _ | (dsimp -zeta only) | apply ite_sound | split | apply State.onBank_sound | apply devReadLines_sound
    | apply stageWrite_sound | (apply pair_sound; assumption)

theorem issueL_sound (h : Sound p q s) (e b x pc next : Nat) (loops : List LoopFrame) (k : Bank) (blocks : List Nat) :
    Sound p q (issueL s e b x pc next loops k blocks) := by
  unfold issueL
  with_reducible repeat' first
    | assumption
    | (extract_lets +onlyGivenNames x; first | (refine (fun hx : Sound p q x => ?_) ?_; rotate_left; subst x; rotate_right; clear_value x) | clear_value x)
    | intro _ | (dsimp -zeta only) | split | apply State.onBank_sound | apply addEntry_sound | (apply pair_sound; assumption)

theorem applyC_sound (h : Sound p q s) (e b x pc : Nat) (k : Bank) : Sound p q (applyC e b x pc k s) := by
  unfold applyC
  with_reducible repeat' first
    | assumption | intro _ | (dsimp -zeta only) | apply ite_sound | split | apply State.logEvent_sound
    | apply State.onBank_sound

theorem tryHalt_sound (h : Sound p q s) (e b : Nat) : Sound p q (tryHalt s e b) := by
  unfold tryHalt
  with_reducible repeat' first
    | assumption | apply ite_sound | apply endAndLook_sound

theorem issueAgain_sound (h : Sound p q s) (e b w : Nat) : Sound p q (issueAgain s e b w) := by
  unfold issueAgain
  with_reducible repeat' first
    | assumption
    | (extract_lets +onlyGivenNames x; first | (refine (fun hx : Sound p q x => ?_) ?_; rotate_left; subst x; rotate_right; clear_value x) | clear_value x)
    | intro _ | (dsimp -zeta only) | apply ite_sound | split | apply State.onBank_sound | apply addEntry_sound
    | (apply pair_sound; assumption)

theorem issueNow_sound (h : Sound p q s) (e : Nat) (b : Nat) (w : Nat) (pc : Nat) (k : Bank) (fl : Flow) (span : List (Nat × Nat)) :
    Sound p q (issueNow s e b w pc k fl span) := by
  unfold issueNow
  with_reducible repeat' first
    | assumption | intro _
    | (extract_lets +onlyGivenNames x; first
        | (have := x.larderBad; clear this; subst x)
        | (refine (fun hx : Sound p q x => ?_) ?_; rotate_left; subst x; rotate_right; clear_value x)
        | (refine (fun hx : Sound p q x.1 => ?_) ?_; rotate_left; subst x; rotate_right; clear_value x)
        | (refine (fun hf : ∀ a, Sound p q a → Sound p q (x a) => ?_) ?_; rotate_left; subst x; rotate_right; clear_value x)
        | (refine (fun hf : ∀ a, Sound p q (x a) => ?_) ?_; rotate_left; subst x; rotate_right; clear_value x)
        | (refine (fun hf : ∀ a b, Sound p q a → Sound p q (x a b) => ?_) ?_; rotate_left; subst x; rotate_right; clear_value x)
        | (refine (fun hf : ∀ a b, Sound p q b → Sound p q (x a b) => ?_) ?_; rotate_left; subst x; rotate_right; clear_value x)
        | (refine (fun hf : ∀ a b c, Sound p q a → Sound p q (x a b c) => ?_) ?_; rotate_left; subst x; rotate_right; clear_value x)
        | (refine (fun hf : ∀ a b c, Sound p q b → Sound p q (x a b c) => ?_) ?_; rotate_left; subst x; rotate_right; clear_value x)
        | (refine (fun hf : ∀ a b c, Sound p q c → Sound p q (x a b c) => ?_) ?_; rotate_left; subst x; rotate_right; clear_value x)
        | (refine (fun hf : ∀ a b, Sound p q (x a b) => ?_) ?_; rotate_left; subst x; rotate_right; clear_value x)
        | (refine (fun hf : ∀ a b c, Sound p q (x a b c) => ?_) ?_; rotate_left; subst x; rotate_right; clear_value x)
        | clear_value x
        | subst x)
    | apply hf | (dsimp -zeta only) | apply ite_sound | split | apply addEntry_sound | apply State.useFresh_sound
    | apply ringRead_sound | apply countWait_sound | apply issueM_sound | apply issueV_sound | apply issueL_sound
    | apply State.onBank_sound | apply tryHalt_sound | apply applyC_sound | (apply pair_sound; assumption)

theorem issueBundle_sound (h : Sound p q s) (e b w pc : Nat) (ecc : Ecc) : Sound p q (issueBundle s e b w pc ecc) := by
  unfold issueBundle
  with_reducible repeat' first
    | assumption
    | (extract_lets +onlyGivenNames x; first | (refine (fun hx : Sound p q x => ?_) ?_; rotate_left; subst x; rotate_right; clear_value x) | clear_value x)
    | intro _ | (dsimp -zeta only) | apply ite_sound | split | apply State.onBank_sound | apply issueNow_sound
    | apply raiseExc_sound | apply ringWait_sound | (apply pair_sound; assumption)

theorem issueOp_sound (h : Sound p q s) (e : Nat) (holds : Nat → Bool) (fetch ecc : Ecc) :
    Sound p q (issueOp e holds fetch ecc s) := by
  unfold issueOp
  with_reducible repeat' first
    | assumption | apply ite_sound | apply issueAgain_sound | apply issueBundle_sound | apply raiseExc_sound

theorem finishDma_sound (h : Sound p q s) (e : Nat) (n : Entry) (err : Nat) :
    Sound p q (finishDma s e n err) := by
  unfold finishDma
  with_reducible repeat' first
    | assumption | intro _
    | (extract_lets +onlyGivenNames x; first
        | (have := x.larderBad; clear this; subst x)
        | (refine (fun hx : Sound p q x => ?_) ?_; rotate_left; subst x; rotate_right; clear_value x)
        | (refine (fun hx : Sound p q x.1 => ?_) ?_; rotate_left; subst x; rotate_right; clear_value x)
        | (refine (fun hf : ∀ a, Sound p q a → Sound p q (x a) => ?_) ?_; rotate_left; subst x; rotate_right; clear_value x)
        | (refine (fun hf : ∀ a, Sound p q (x a) => ?_) ?_; rotate_left; subst x; rotate_right; clear_value x)
        | (refine (fun hf : ∀ a b, Sound p q a → Sound p q (x a b) => ?_) ?_; rotate_left; subst x; rotate_right; clear_value x)
        | (refine (fun hf : ∀ a b, Sound p q b → Sound p q (x a b) => ?_) ?_; rotate_left; subst x; rotate_right; clear_value x)
        | (refine (fun hf : ∀ a b c, Sound p q a → Sound p q (x a b c) => ?_) ?_; rotate_left; subst x; rotate_right; clear_value x)
        | (refine (fun hf : ∀ a b c, Sound p q b → Sound p q (x a b c) => ?_) ?_; rotate_left; subst x; rotate_right; clear_value x)
        | (refine (fun hf : ∀ a b c, Sound p q c → Sound p q (x a b c) => ?_) ?_; rotate_left; subst x; rotate_right; clear_value x)
        | (refine (fun hf : ∀ a b, Sound p q (x a b) => ?_) ?_; rotate_left; subst x; rotate_right; clear_value x)
        | (refine (fun hf : ∀ a b c, Sound p q (x a b c) => ?_) ?_; rotate_left; subst x; rotate_right; clear_value x)
        | clear_value x
        | subst x)
    | apply hf | (dsimp -zeta only) | apply ite_sound | split | apply State.onBank_sound | apply devReadLines_sound
    | apply stageWrite_sound | apply freeLines_sound | apply devWriteLines_sound | apply devWrite_sound
    | (apply pair_sound; assumption)

theorem writeBack_sound (h : Sound p q s) (e : Nat) (n : Entry) : Sound p q (writeBack s e n) := by
  unfold writeBack
  with_reducible repeat' first
    | assumption | intro _ | (dsimp -zeta only) | apply State.onBank_sound | apply countSats_sound | apply stageWrite_sound
    | apply foldl_sound | apply foldl_pair_sound

theorem completeOp_sound (h : Sound p q s) (e id err : Nat) : Sound p q (completeOp s e id err) := by
  unfold completeOp
  with_reducible repeat' first
    | assumption | intro _ | (dsimp -zeta only) | apply ite_sound | split | apply dropEntry_sound | apply finishDma_sound
    | apply freeLines_sound | apply ringService_sound | apply runBlocking_sound | apply tryHalt_sound | apply writeBack_sound

theorem ieRefused_sound (h : Sound p q s) (e addr data : Nat) (rq : Requester) : Sound p q (ieRefused s e addr data rq) := by
  unfold ieRefused
  with_reducible repeat' first
    | assumption | apply State.answer_sound | apply State.logEvent_sound

theorem turnTo_sound (h : Sound p q s) (e b done : Nat) : Sound p q (turnTo s e b done) := by
  unfold turnTo
  with_reducible repeat' first
    | assumption | intro _ | (dsimp -zeta only) | apply ite_sound | apply State.onBank_sound | apply State.setEng_sound
    | apply suspendBlocking_sound

theorem freshJob_sound (h : Sound p q s) (e b : Nat) (j : Job) : Sound p q (freshJob s e b j) := by
  unfold freshJob
  with_reducible repeat' first
    | assumption | intro _ | (dsimp -zeta only) | apply State.onBank_sound | apply State.wr_sound | apply ringStart_sound

theorem startJob_sound (h : Sound p q s) (e b done : Nat) (j : Job) : Sound p q (startJob s e b done j) := by
  unfold startJob
  with_reducible repeat' first
    | assumption | intro _ | (dsimp -zeta only) | apply State.onBank_sound | apply freshJob_sound | apply turnTo_sound

theorem restoreLink_sound (h : Sound p q s) (rq : Requester) (c : ChainLink) :
    Sound p q (restoreLink s rq c).1 := by
  unfold restoreLink
  with_reducible repeat' first
    | assumption | intro _
    | (extract_lets +onlyGivenNames x; first
        | (have := x.larderBad; clear this; subst x)
        | (refine (fun hx : Sound p q x => ?_) ?_; rotate_left; subst x; rotate_right; clear_value x)
        | (refine (fun hx : Sound p q x.1 => ?_) ?_; rotate_left; subst x; rotate_right; clear_value x)
        | clear_value x
        | subst x)
    | (dsimp -zeta only) | apply ite_sound | apply devReadLines_sound | (apply pair_sound; assumption)

theorem restoreChain_sound (h : Sound p q s) (rq : Requester) (a : Nat) (k : Bank) :
    Sound p q (restoreChain s rq a k).1 := by
  have h1 := restoreLink_sound h rq { next := a, bank := k, seen := [], low := none }
  unfold restoreChain
  generalize restoreLink s rq _ = r at h1
  split
  · exact h1
  · rename_i s1 c
    dsimp only at h1
    split
    · exact h1
    · have h2 := restoreLink_sound h1 rq c
      generalize restoreLink s1 rq c = r2 at h2
      split
      · exact h2
      · split <;> exact h2

theorem resumeJob_sound (h : Sound p q s) (e b done : Nat) (j : Job) : Sound p q (resumeJob s e b done j) := by
  unfold resumeJob
  with_reducible repeat' first
    | assumption
    | (extract_lets +onlyGivenNames x; first
        | (have := x.larderBad; clear this; subst x)
        | (refine (fun hx : Sound p q x => ?_) ?_; rotate_left; subst x; rotate_right; clear_value x)
        | (refine (fun hx : Sound p q x.1 => ?_) ?_; rotate_left; subst x; rotate_right; clear_value x)
        | (refine (fun hf : ∀ a, Sound p q a → Sound p q (x a) => ?_) ?_; rotate_left; subst x; rotate_right; clear_value x)
        | (refine (fun hf : ∀ a, Sound p q (x a) => ?_) ?_; rotate_left; subst x; rotate_right; clear_value x)
        | (refine (fun hf : ∀ a b, Sound p q a → Sound p q (x a b) => ?_) ?_; rotate_left; subst x; rotate_right; clear_value x)
        | (refine (fun hf : ∀ a b, Sound p q b → Sound p q (x a b) => ?_) ?_; rotate_left; subst x; rotate_right; clear_value x)
        | (refine (fun hf : ∀ a b c, Sound p q a → Sound p q (x a b c) => ?_) ?_; rotate_left; subst x; rotate_right; clear_value x)
        | (refine (fun hf : ∀ a b c, Sound p q b → Sound p q (x a b c) => ?_) ?_; rotate_left; subst x; rotate_right; clear_value x)
        | (refine (fun hf : ∀ a b c, Sound p q c → Sound p q (x a b c) => ?_) ?_; rotate_left; subst x; rotate_right; clear_value x)
        | (refine (fun hf : ∀ a b, Sound p q (x a b) => ?_) ?_; rotate_left; subst x; rotate_right; clear_value x)
        | (refine (fun hf : ∀ a b c, Sound p q (x a b c) => ?_) ?_; rotate_left; subst x; rotate_right; clear_value x)
        | clear_value x
        | subst x)
    | intro _ | (dsimp -zeta only) | apply ite_sound | split | apply hf | apply State.logEvent_sound | apply State.setBank_sound
    | apply endJob_sound | apply freshJob_sound | apply restoreChain_sound | apply schedulerLook_sound | apply turnTo_sound
    | (apply pair_sound; assumption)

theorem wake_sound (h : Sound p q s) (e b done : Nat) : Sound p q (wake s e b done) := by
  unfold wake
  with_reducible repeat' first
    | assumption | intro _ | (dsimp -zeta only) | apply ite_sound | apply State.onBank_sound | apply turnTo_sound

theorem ctrlResume_sound (h : Sound p q s) (rq : Requester) (e b done data : Nat) :
    Sound p q (ctrlResume s rq e b done data) := by
  unfold ctrlResume
  with_reducible repeat' first
    | assumption | intro _ | (dsimp -zeta only) | apply ite_sound | apply State.answer_sound | apply State.onBank_sound
    | apply ieRefused_sound | apply wake_sound

theorem ctrlAbort_sound (h : Sound p q s) (rq : Requester) (e b data : Nat) : Sound p q (ctrlAbort s rq e b data) := by
  unfold ctrlAbort
  with_reducible repeat' first
    | assumption | apply ite_sound | apply State.answer_sound | apply abortJob_sound | apply ieRefused_sound

theorem startEvict_sound (h : Sound p q s) (e b done : Nat) : Sound p q (startEvict s e b done) := by
  unfold startEvict
  with_reducible repeat' first
    | assumption | intro _ | (dsimp -zeta only) | apply ite_sound | apply State.onBank_sound | apply suspendBlocking_sound

theorem ctrlEvict_sound (h : Sound p q s) (rq : Requester) (e b done data : Nat) :
    Sound p q (ctrlEvict s rq e b done data) := by
  unfold ctrlEvict
  with_reducible repeat' first
    | assumption | intro _ | (dsimp -zeta only) | apply ite_sound | apply State.answer_sound | apply State.onBank_sound
    | apply ieRefused_sound | apply startEvict_sound

theorem writeBankCtrl_sound (h : Sound p q s) (rq : Requester) (e b done data : Nat) :
    Sound p q (writeBankCtrl s rq e b done data) := by
  unfold writeBankCtrl
  with_reducible repeat' first
    | assumption | apply ite_sound | apply State.answer_sound | apply ctrlAbort_sound | apply ctrlEvict_sound
    | apply ctrlResume_sound

theorem evictNow_sound (h : Sound p q s) (e b : Nat) : Sound p q (evictNow s e b) := by
  unfold evictNow
  with_reducible repeat' first
    | assumption | apply State.logEvent_sound | apply devWriteLines_sound | apply endJob_sound | apply schedulerLook_sound

theorem writeCode_sound (h : Sound p q s) (e off data : Nat) : Sound p q (writeCode s e off data) := by
  unfold writeCode
  with_reducible repeat' first
    | assumption | intro _ | (dsimp -zeta only) | apply ite_sound | apply State.answer_sound | apply State.setEng_sound
    | apply foldl_sound | apply foldl_pair_sound

theorem viewAccess_sound (h : Sound p q s) (rq : Requester) (e b : Nat) (write : Bool) (off data : Nat) :
    Sound p q (viewAccess s rq e b write off data) := by
  unfold viewAccess
  with_reducible repeat' first
    | assumption | apply ite_sound | split | apply State.answer_sound | apply State.busErr_sound | apply State.csrErr_sound
    | apply State.logEvent_sound | apply State.setBank_sound

theorem engineLost_sound (h : Sound p q s) (e : Nat) : Sound p q (engineLost s e) := by
  unfold engineLost
  with_reducible repeat' first
    | assumption | intro _ | (dsimp -zeta only) | apply State.resetWindow_sound | apply State.setEng_sound

theorem clearSat_sound (h : Sound p q s) (e b : Nat) : Sound p q (clearSat s e b) := by
  unfold clearSat
  with_reducible repeat' first
    | assumption | apply State.wr_sound

theorem execOperationComplete_sound (h : Sound p q s) (e entry err : Nat) :
    Keeps p q (execOperationComplete e entry err s) := by
  unfold execOperationComplete
  with_reducible repeat' first
    | assumption | intro _ | (dsimp -zeta only) | apply ite_sound | apply completeOp_sound | apply whilePowered_sound

theorem execBlockingTransferFault_sound (h : Sound p q s) (e : Nat) (bank : Nat) (done : Nat) (ue : Bool) :
    Keeps p q (execBlockingTransferFault e bank done ue s) := by
  unfold execBlockingTransferFault
  with_reducible repeat' first
    | assumption | intro _
    | (extract_lets +onlyGivenNames x; first
        | (have := x.larderBad; clear this; subst x)
        | (refine (fun hx : Sound p q x => ?_) ?_; rotate_left; subst x; rotate_right; clear_value x)
        | (refine (fun hx : Sound p q x.1 => ?_) ?_; rotate_left; subst x; rotate_right; clear_value x)
        | clear_value x
        | subst x)
    | (dsimp -zeta only) | apply ite_sound | split | apply transferRegs_sound | apply blockingFault_sound
    | apply freeLines_sound | apply whilePowered_sound | (apply pair_sound; assumption)

theorem execDmaFault_sound (h : Sound p q s) (e bank : Nat) : Keeps p q (execDmaFault e bank s) := by
  unfold execDmaFault
  with_reducible repeat' first
    | assumption | intro _ | (dsimp -zeta only) | apply ite_sound | apply State.onBank_sound | apply raiseExc_sound
    | apply whilePowered_sound

theorem execSpillBlockFetched_sound (h : Sound p q s) (e bank block : Nat) :
    Keeps p q (execSpillBlockFetched e bank block s) := by
  unfold execSpillBlockFetched
  with_reducible repeat' first
    | assumption | intro _ | (dsimp -zeta only) | apply ite_sound | apply ringFetched_sound | apply whilePowered_sound

theorem execBudgetExceeded_sound (h : Sound p q s) (e bank : Nat) : Keeps p q (execBudgetExceeded e bank s) := by
  unfold execBudgetExceeded
  with_reducible repeat' first
    | assumption | intro _ | (dsimp -zeta only) | apply ite_sound | apply raiseExc_sound | apply whilePowered_sound

theorem execDoorbell_sound (h : Sound p q s) (e : Nat) : Keeps p q (execDoorbell e s) := by
  unfold execDoorbell
  with_reducible repeat' first
    | assumption | intro _ | (dsimp -zeta only) | apply ite_sound | apply State.setEng_sound | apply schedulerLook_sound
    | apply whilePowered_sound

theorem execJobStart_sound (h : Sound p q s) (e bank done : Nat) : Keeps p q (execJobStart e bank done s) := by
  unfold execJobStart
  with_reducible repeat' first
    | assumption | intro _ | (dsimp -zeta only) | apply ite_sound | split | apply resume_sound | apply startJob_sound
    | apply whilePowered_sound

theorem execJobResume_sound (h : Sound p q s) (e bank done : Nat) : Keeps p q (execJobResume e bank done s) := by
  unfold execJobResume
  with_reducible repeat' first
    | assumption | intro _ | (dsimp -zeta only) | apply ite_sound | split | apply resume_sound | apply resumeJob_sound
    | apply whilePowered_sound

theorem execBankSwitchComplete_sound (h : Sound p q s) (e : Nat) : Keeps p q (execBankSwitchComplete e s) := by
  unfold execBankSwitchComplete
  with_reducible repeat' first
    | assumption
    | (extract_lets +onlyGivenNames x; first | (refine (fun hx : Sound p q x => ?_) ?_; rotate_left; subst x; rotate_right; clear_value x) | clear_value x)
    | intro _ | (dsimp -zeta only) | apply ite_sound | split | apply State.setEng_sound | apply startEvict_sound
    | apply whilePowered_sound | (apply pair_sound; assumption)

theorem execBankResume_sound (h : Sound p q s) (e done : Nat) : Keeps p q (execBankResume e done s) := by
  unfold execBankResume
  with_reducible repeat' first
    | assumption | intro _ | (dsimp -zeta only) | apply ite_sound | split | apply turnTo_sound | apply whilePowered_sound

theorem execBankResumeCmd_sound (h : Sound p q s) (rq : Requester) (e bank done : Nat) :
    Keeps p q (execBankResumeCmd rq e bank done s) := by
  unfold execBankResumeCmd
  with_reducible repeat' first
    | assumption | intro _ | (dsimp -zeta only) | apply atRegister_sound | apply whilePowered_sound | apply writeBankCtrl_sound

theorem execBankAbort_sound (h : Sound p q s) (rq : Requester) (e bank : Nat) : Keeps p q (execBankAbort rq e bank s) := by
  unfold execBankAbort
  with_reducible repeat' first
    | assumption | intro _ | (dsimp -zeta only) | apply atRegister_sound | apply whilePowered_sound | apply writeBankCtrl_sound

theorem execBankEvict_sound (h : Sound p q s) (rq : Requester) (e bank done : Nat) :
    Keeps p q (execBankEvict rq e bank done s) := by
  unfold execBankEvict
  with_reducible repeat' first
    | assumption | intro _ | (dsimp -zeta only) | apply atRegister_sound | apply whilePowered_sound | apply writeBankCtrl_sound

theorem execEvictionComplete_sound (h : Sound p q s) (e bank : Nat) : Keeps p q (execEvictionComplete e bank s) := by
  unfold execEvictionComplete
  with_reducible repeat' first
    | assumption | intro _ | (dsimp -zeta only) | apply ite_sound | apply evictNow_sound | apply whilePowered_sound

theorem execCodeStoreWrite_sound (h : Sound p q s) (rq : Requester) (e offset data : Nat) :
    Keeps p q (execCodeStoreWrite rq e offset data s) := by
  unfold execCodeStoreWrite
  with_reducible repeat' first
    | assumption | intro _ | (dsimp -zeta only) | apply atRegister_sound | apply whilePowered_sound | apply writeCode_sound

theorem execBankViewAccess_sound (h : Sound p q s) (rq : Requester) (e bank : Nat) (write : Bool) (offset data : Nat) :
    Keeps p q (execBankViewAccess rq e bank write offset data s) := by
  unfold execBankViewAccess
  with_reducible repeat' first
    | assumption | intro _ | (dsimp -zeta only) | apply atRegister_sound | apply viewAccess_sound | apply whilePowered_sound

theorem execClrSat_sound (h : Sound p q s) (rq : Requester) (e bank : Nat) : Keeps p q (execClrSat rq e bank s) := by
  unfold execClrSat
  with_reducible repeat' first
    | assumption | intro _ | (dsimp -zeta only) | apply State.answer_sound | apply atRegister_sound | apply clearSat_sound
    | apply whilePowered_sound

theorem modelRefused_sound (h : Sound p q s) (e b reason : Nat) (busy : Bool) :
    Sound p q (modelRefused s e b reason busy) := by
  unfold modelRefused
  with_reducible repeat' first
    | assumption | apply State.logEvent_sound | apply State.wr_sound

theorem modelGo_sound (h : Sound p q s) (e b : Nat) : Sound p q (modelGo s e b) := by
  unfold modelGo
  with_reducible repeat' first
    | assumption
    | (extract_lets +onlyGivenNames x; first | (refine (fun hx : Sound p q x => ?_) ?_; rotate_left; subst x; rotate_right; clear_value x) | clear_value x)
    | intro _ | (dsimp -zeta only) | apply ite_sound | split | apply State.onBank_sound | apply State.wr_sound
    | apply devReadLines_sound | apply modelRefused_sound | (apply pair_sound; assumption)

theorem modelDrop_sound (h : Sound p q s) (e b : Nat) : Sound p q (modelDrop s e b) := by
  unfold modelDrop
  with_reducible repeat' first
    | assumption | intro _ | (dsimp -zeta only) | apply ite_sound | apply State.onBank_sound | apply State.wr_sound

theorem writeModelAct_sound (h : Sound p q s) (e b data : Nat) : Sound p q (writeModelAct s e b data) := by
  unfold writeModelAct
  with_reducible repeat' first
    | assumption | apply ite_sound | apply State.answer_sound | apply State.wr_sound | apply modelDrop_sound
    | apply modelGo_sound

theorem copyLines_sound (h : Sound p q s) (put : State → Nat → List Byte → State) (rq : Requester) (a : Nat) (u : List Nat) (hk : ∀ s i bs, Sound p q s → Sound p q (put s i bs)) : Sound p q (copyLines put rq a u s).1 := by
  induction u generalizing s  with
  | nil => exact h
  | cons i u ih =>
    unfold copyLines
    with_reducible repeat' first
      | assumption | apply ih | apply hk
      | (extract_lets +onlyGivenNames x; first | (refine (fun hx : Sound p q x => ?_) ?_; rotate_left; subst x; rotate_right; clear_value x) | clear_value x)
      | split | apply devRead_sound | (apply pair_sound; assumption)

theorem loadCopies_sound (h : Sound p q s) (e b : Nat) (l : Loading) : Sound p q (loadCopies s e b l).1 := by
  unfold loadCopies
  with_reducible repeat' first
    | assumption
    | (extract_lets +onlyGivenNames x; first
        | (have := x.larderBad; clear this; subst x)
        | (refine (fun hx : Sound p q x => ?_) ?_; rotate_left; subst x; rotate_right; clear_value x)
        | (refine (fun hx : Sound p q x.1 => ?_) ?_; rotate_left; subst x; rotate_right; clear_value x)
        | (refine (fun hf : ∀ a, Sound p q a → Sound p q (x a) => ?_) ?_; rotate_left; subst x; rotate_right; clear_value x)
        | (refine (fun hf : ∀ a, Sound p q (x a) => ?_) ?_; rotate_left; subst x; rotate_right; clear_value x)
        | (refine (fun hf : ∀ a b, Sound p q a → Sound p q (x a b) => ?_) ?_; rotate_left; subst x; rotate_right; clear_value x)
        | (refine (fun hf : ∀ a b, Sound p q b → Sound p q (x a b) => ?_) ?_; rotate_left; subst x; rotate_right; clear_value x)
        | (refine (fun hf : ∀ a b c, Sound p q a → Sound p q (x a b c) => ?_) ?_; rotate_left; subst x; rotate_right; clear_value x)
        | (refine (fun hf : ∀ a b c, Sound p q b → Sound p q (x a b c) => ?_) ?_; rotate_left; subst x; rotate_right; clear_value x)
        | (refine (fun hf : ∀ a b c, Sound p q c → Sound p q (x a b c) => ?_) ?_; rotate_left; subst x; rotate_right; clear_value x)
        | (refine (fun hf : ∀ a b, Sound p q (x a b) => ?_) ?_; rotate_left; subst x; rotate_right; clear_value x)
        | (refine (fun hf : ∀ a b c, Sound p q (x a b c) => ?_) ?_; rotate_left; subst x; rotate_right; clear_value x)
        | clear_value x
        | subst x)
    | intro _ | (dsimp -zeta only) | apply ite_sound | split | apply hf | apply State.busWrite_sound | apply State.setEng_sound
    | apply copyLines_sound | apply stageWrite_sound | (apply pair_sound; assumption)

theorem modelFail_sound (h : Sound p q s) (e b cause addr : Nat) : Sound p q (modelFail s e b cause addr) := by
  unfold modelFail
  with_reducible repeat' first
    | assumption | intro _ | (dsimp -zeta only) | apply State.logEvent_sound | apply State.onBank_sound | apply State.wr_sound

theorem execModelActivate_sound (h : Sound p q s) (rq : Requester) (e bank data : Nat) :
    Keeps p q (execModelActivate rq e bank data s) := by
  unfold execModelActivate
  with_reducible repeat' first
    | assumption | intro _ | (dsimp -zeta only) | apply atRegister_sound | apply whilePowered_sound | apply writeModelAct_sound

theorem execModelLoadBegin_sound (h : Sound p q s) (e bank : Nat) : Keeps p q (execModelLoadBegin e bank s) := by
  unfold execModelLoadBegin
  with_reducible repeat' first
    | assumption
    | (extract_lets +onlyGivenNames x; first | (refine (fun hx : Sound p q x => ?_) ?_; rotate_left; subst x; rotate_right; clear_value x) | clear_value x)
    | intro _ | (dsimp -zeta only) | apply ite_sound | split | apply State.onBank_sound | apply State.wr_sound
    | apply loadCopies_sound | apply whilePowered_sound | (apply pair_sound; assumption)

theorem execModelActive_sound (h : Sound p q s) (e bank : Nat) : Keeps p q (execModelActive e bank s) := by
  unfold execModelActive
  with_reducible repeat' first
    | assumption | intro _ | (dsimp -zeta only) | apply ite_sound | split | apply State.logEvent_sound
    | apply State.onBank_sound | apply State.wr_sound | apply schedulerLook_sound | apply whilePowered_sound

theorem execModelLoadFail_sound (h : Sound p q s) (e bank cause addr : Nat) :
    Keeps p q (execModelLoadFail e bank cause addr s) := by
  unfold execModelLoadFail
  with_reducible repeat' first
    | assumption | intro _ | (dsimp -zeta only) | apply ite_sound | split | apply modelFail_sound | apply whilePowered_sound

theorem execModelDrop_sound (h : Sound p q s) (rq : Requester) (e bank data : Nat) :
    Keeps p q (execModelDrop rq e bank data s) := by
  unfold execModelDrop
  with_reducible repeat' first
    | assumption | intro _ | (dsimp -zeta only) | apply atRegister_sound | apply whilePowered_sound | apply writeModelAct_sound

theorem execBr_sound (h : Sound p q s) (e : Nat) : Keeps p q (execBr e s) := by
  unfold execBr
  with_reducible repeat' first
    | assumption | apply issueOp_sound | apply whilePowered_sound

theorem execJmp_sound (h : Sound p q s) (e : Nat) : Keeps p q (execJmp e s) := by
  unfold execJmp
  with_reducible repeat' first
    | assumption | apply issueOp_sound | apply whilePowered_sound

theorem execCall_sound (h : Sound p q s) (e : Nat) : Keeps p q (execCall e s) := by
  unfold execCall
  with_reducible repeat' first
    | assumption | apply issueOp_sound | apply whilePowered_sound

theorem execRet_sound (h : Sound p q s) (e : Nat) : Keeps p q (execRet e s) := by
  unfold execRet
  with_reducible repeat' first
    | assumption | apply issueOp_sound | apply whilePowered_sound

theorem execLoop_sound (h : Sound p q s) (e : Nat) : Keeps p q (execLoop e s) := by
  unfold execLoop
  with_reducible repeat' first
    | assumption | apply issueOp_sound | apply whilePowered_sound

theorem execWaitall_sound (h : Sound p q s) (e : Nat) : Keeps p q (execWaitall e s) := by
  unfold execWaitall
  with_reducible repeat' first
    | assumption | apply issueOp_sound | apply whilePowered_sound

theorem execWaitst_sound (h : Sound p q s) (e : Nat) : Keeps p q (execWaitst e s) := by
  unfold execWaitst
  with_reducible repeat' first
    | assumption | apply issueOp_sound | apply whilePowered_sound

theorem execHalt_sound (h : Sound p q s) (e : Nat) : Keeps p q (execHalt e s) := by
  unfold execHalt
  with_reducible repeat' first
    | assumption | apply issueOp_sound | apply whilePowered_sound

theorem execEvt_sound (h : Sound p q s) (e : Nat) : Keeps p q (execEvt e s) := by
  unfold execEvt
  with_reducible repeat' first
    | assumption | apply issueOp_sound | apply whilePowered_sound

theorem execBrk_sound (h : Sound p q s) (e : Nat) : Keeps p q (execBrk e s) := by
  unfold execBrk
  with_reducible repeat' first
    | assumption | apply issueOp_sound | apply whilePowered_sound

theorem execNop_sound (h : Sound p q s) (e slot : Nat) (fetch : Ecc) : Keeps p q (execNop e slot fetch s) := by
  unfold execNop
  with_reducible repeat' first
    | assumption | intro _ | (dsimp -zeta only) | apply issueOp_sound | apply whilePowered_sound

theorem execAdd_sound (h : Sound p q s) (e slot : Nat) : Keeps p q (execAdd e slot s) := by
  unfold execAdd
  with_reducible repeat' first
    | assumption | apply issueOp_sound | apply whilePowered_sound

theorem execSub_sound (h : Sound p q s) (e slot : Nat) : Keeps p q (execSub e slot s) := by
  unfold execSub
  with_reducible repeat' first
    | assumption | apply issueOp_sound | apply whilePowered_sound

theorem execAnd_sound (h : Sound p q s) (e slot : Nat) : Keeps p q (execAnd e slot s) := by
  unfold execAnd
  with_reducible repeat' first
    | assumption | apply issueOp_sound | apply whilePowered_sound

theorem execOr_sound (h : Sound p q s) (e slot : Nat) : Keeps p q (execOr e slot s) := by
  unfold execOr
  with_reducible repeat' first
    | assumption | apply issueOp_sound | apply whilePowered_sound

theorem execXor_sound (h : Sound p q s) (e slot : Nat) : Keeps p q (execXor e slot s) := by
  unfold execXor
  with_reducible repeat' first
    | assumption | apply issueOp_sound | apply whilePowered_sound

theorem execSll_sound (h : Sound p q s) (e slot : Nat) : Keeps p q (execSll e slot s) := by
  unfold execSll
  with_reducible repeat' first
    | assumption | apply issueOp_sound | apply whilePowered_sound

theorem execSrl_sound (h : Sound p q s) (e slot : Nat) : Keeps p q (execSrl e slot s) := by
  unfold execSrl
  with_reducible repeat' first
    | assumption | apply issueOp_sound | apply whilePowered_sound

theorem execSra_sound (h : Sound p q s) (e slot : Nat) : Keeps p q (execSra e slot s) := by
  unfold execSra
  with_reducible repeat' first
    | assumption | apply issueOp_sound | apply whilePowered_sound

theorem execMul_sound (h : Sound p q s) (e slot : Nat) : Keeps p q (execMul e slot s) := by
  unfold execMul
  with_reducible repeat' first
    | assumption | apply issueOp_sound | apply whilePowered_sound

theorem execMulh_sound (h : Sound p q s) (e slot : Nat) : Keeps p q (execMulh e slot s) := by
  unfold execMulh
  with_reducible repeat' first
    | assumption | apply issueOp_sound | apply whilePowered_sound

theorem execDiv_sound (h : Sound p q s) (e slot : Nat) : Keeps p q (execDiv e slot s) := by
  unfold execDiv
  with_reducible repeat' first
    | assumption | apply issueOp_sound | apply whilePowered_sound

theorem execRem_sound (h : Sound p q s) (e slot : Nat) : Keeps p q (execRem e slot s) := by
  unfold execRem
  with_reducible repeat' first
    | assumption | apply issueOp_sound | apply whilePowered_sound

theorem execMin_sound (h : Sound p q s) (e slot : Nat) : Keeps p q (execMin e slot s) := by
  unfold execMin
  with_reducible repeat' first
    | assumption | apply issueOp_sound | apply whilePowered_sound

theorem execMax_sound (h : Sound p q s) (e slot : Nat) : Keeps p q (execMax e slot s) := by
  unfold execMax
  with_reducible repeat' first
    | assumption | apply issueOp_sound | apply whilePowered_sound

theorem execLih_sound (h : Sound p q s) (e slot : Nat) : Keeps p q (execLih e slot s) := by
  unfold execLih
  with_reducible repeat' first
    | assumption | apply issueOp_sound | apply whilePowered_sound

theorem execCmpEq_sound (h : Sound p q s) (e slot : Nat) : Keeps p q (execCmpEq e slot s) := by
  unfold execCmpEq
  with_reducible repeat' first
    | assumption | apply issueOp_sound | apply whilePowered_sound

theorem execCmpLt_sound (h : Sound p q s) (e slot : Nat) : Keeps p q (execCmpLt e slot s) := by
  unfold execCmpLt
  with_reducible repeat' first
    | assumption | apply issueOp_sound | apply whilePowered_sound

theorem execCmpLtu_sound (h : Sound p q s) (e slot : Nat) : Keeps p q (execCmpLtu e slot s) := by
  unfold execCmpLtu
  with_reducible repeat' first
    | assumption | apply issueOp_sound | apply whilePowered_sound

theorem execPand_sound (h : Sound p q s) (e slot : Nat) : Keeps p q (execPand e slot s) := by
  unfold execPand
  with_reducible repeat' first
    | assumption | apply issueOp_sound | apply whilePowered_sound

theorem execPor_sound (h : Sound p q s) (e slot : Nat) : Keeps p q (execPor e slot s) := by
  unfold execPor
  with_reducible repeat' first
    | assumption | apply issueOp_sound | apply whilePowered_sound

theorem execPnot_sound (h : Sound p q s) (e slot : Nat) : Keeps p q (execPnot e slot s) := by
  unfold execPnot
  with_reducible repeat' first
    | assumption | apply issueOp_sound | apply whilePowered_sound

theorem execTime_sound (h : Sound p q s) (e slot : Nat) : Keeps p q (execTime e slot s) := by
  unfold execTime
  with_reducible repeat' first
    | assumption | apply issueOp_sound | apply whilePowered_sound

theorem execMloadb_sound (h : Sound p q s) (e : Nat) : Keeps p q (execMloadb e s) := by
  unfold execMloadb
  with_reducible repeat' first
    | assumption | apply issueOp_sound | apply whilePowered_sound

theorem execMloadf_sound (h : Sound p q s) (e : Nat) : Keeps p q (execMloadf e s) := by
  unfold execMloadf
  with_reducible repeat' first
    | assumption | apply issueOp_sound | apply whilePowered_sound

theorem execMmul_sound (h : Sound p q s) (e : Nat) : Keeps p q (execMmul e s) := by
  unfold execMmul
  with_reducible repeat' first
    | assumption | apply issueOp_sound | apply whilePowered_sound

theorem execMmula_sound (h : Sound p q s) (e : Nat) : Keeps p q (execMmula e s) := by
  unfold execMmula
  with_reducible repeat' first
    | assumption | apply issueOp_sound | apply whilePowered_sound

theorem execMconv_sound (h : Sound p q s) (e : Nat) : Keeps p q (execMconv e s) := by
  unfold execMconv
  with_reducible repeat' first
    | assumption | apply issueOp_sound | apply whilePowered_sound

theorem execMdrain_sound (h : Sound p q s) (e : Nat) : Keeps p q (execMdrain e s) := by
  unfold execMdrain
  with_reducible repeat' first
    | assumption | apply issueOp_sound | apply whilePowered_sound

theorem execChain_sound (h : Sound p q s) (e : Nat) : Keeps p q (execChain e s) := by
  unfold execChain
  with_reducible repeat' first
    | assumption | apply issueOp_sound | apply whilePowered_sound

theorem execVmov_sound (h : Sound p q s) (e : Nat) : Keeps p q (execVmov e s) := by
  unfold execVmov
  with_reducible repeat' first
    | assumption | apply issueOp_sound | apply whilePowered_sound

theorem execVzero_sound (h : Sound p q s) (e : Nat) : Keeps p q (execVzero e s) := by
  unfold execVzero
  with_reducible repeat' first
    | assumption | apply issueOp_sound | apply whilePowered_sound

theorem execLdv_sound (h : Sound p q s) (e : Nat) (ecc : Ecc) : Keeps p q (execLdv e ecc s) := by
  unfold execLdv
  with_reducible repeat' first
    | assumption | apply issueOp_sound | apply whilePowered_sound

theorem execStv_sound (h : Sound p q s) (e : Nat) : Keeps p q (execStv e s) := by
  unfold execStv
  with_reducible repeat' first
    | assumption | apply issueOp_sound | apply whilePowered_sound

theorem execLds_sound (h : Sound p q s) (e : Nat) (ecc : Ecc) : Keeps p q (execLds e ecc s) := by
  unfold execLds
  with_reducible repeat' first
    | assumption | apply issueOp_sound | apply whilePowered_sound

theorem execSts_sound (h : Sound p q s) (e : Nat) : Keeps p q (execSts e s) := by
  unfold execSts
  with_reducible repeat' first
    | assumption | apply issueOp_sound | apply whilePowered_sound

theorem execDmain_sound (h : Sound p q s) (e : Nat) : Keeps p q (execDmain e s) := by
  unfold execDmain
  with_reducible repeat' first
    | assumption | apply issueOp_sound | apply whilePowered_sound

theorem execDmaout_sound (h : Sound p q s) (e : Nat) : Keeps p q (execDmaout e s) := by
  unfold execDmaout
  with_reducible repeat' first
    | assumption | apply issueOp_sound | apply whilePowered_sound

theorem execStmS_sound (h : Sound p q s) (e : Nat) : Keeps p q (execStmS e s) := by
  unfold execStmS
  with_reducible repeat' first
    | assumption | apply issueOp_sound | apply whilePowered_sound

theorem execLdmS_sound (h : Sound p q s) (e : Nat) : Keeps p q (execLdmS e s) := by
  unfold execLdmS
  with_reducible repeat' first
    | assumption | apply issueOp_sound | apply whilePowered_sound

theorem execStmV_sound (h : Sound p q s) (e : Nat) : Keeps p q (execStmV e s) := by
  unfold execStmV
  with_reducible repeat' first
    | assumption | apply issueOp_sound | apply whilePowered_sound

theorem execLdmV_sound (h : Sound p q s) (e : Nat) : Keeps p q (execLdmV e s) := by
  unfold execLdmV
  with_reducible repeat' first
    | assumption | apply issueOp_sound | apply whilePowered_sound

theorem execStmP_sound (h : Sound p q s) (e : Nat) : Keeps p q (execStmP e s) := by
  unfold execStmP
  with_reducible repeat' first
    | assumption | apply issueOp_sound | apply whilePowered_sound

theorem execLdmP_sound (h : Sound p q s) (e : Nat) : Keeps p q (execLdmP e s) := by
  unfold execLdmP
  with_reducible repeat' first
    | assumption | apply issueOp_sound | apply whilePowered_sound

theorem execSavehL_sound (h : Sound p q s) (e : Nat) : Keeps p q (execSavehL e s) := by
  unfold execSavehL
  with_reducible repeat' first
    | assumption | apply issueOp_sound | apply whilePowered_sound

theorem execSavehU_sound (h : Sound p q s) (e : Nat) : Keeps p q (execSavehU e s) := by
  unfold execSavehU
  with_reducible repeat' first
    | assumption | apply issueOp_sound | apply whilePowered_sound

theorem execResthL_sound (h : Sound p q s) (e : Nat) : Keeps p q (execResthL e s) := by
  unfold execResthL
  with_reducible repeat' first
    | assumption | apply issueOp_sound | apply whilePowered_sound

theorem execResthU_sound (h : Sound p q s) (e : Nat) : Keeps p q (execResthU e s) := by
  unfold execResthU
  with_reducible repeat' first
    | assumption | apply issueOp_sound | apply whilePowered_sound

theorem execLdd_sound (h : Sound p q s) (e : Nat) : Keeps p q (execLdd e s) := by
  unfold execLdd
  with_reducible repeat' first
    | assumption | apply issueOp_sound | apply whilePowered_sound

theorem execStd_sound (h : Sound p q s) (e : Nat) : Keeps p q (execStd e s) := by
  unfold execStd
  with_reducible repeat' first
    | assumption | apply issueOp_sound | apply whilePowered_sound

end Sys2Proof.Machine
end

