-- ==== Sys2Proof/Laws/SoundRadio.lean ====
section
/-! SUPPORT. What no operation breaks: the part, the rest of the queue, the canonical form of the byte memories and of the
register tables.  Here: radio and learned receiver. -/

namespace Sys2Proof.Machine

variable {p : Part} {q : List Instr} {s : State}

theorem ncoTick_sound (h : Sound p q s) :
    Sound p q (ncoTick s) := by
  unfold ncoTick
  with_reducible repeat' first
    | assumption | intro _
    | (extract_lets +onlyGivenNames x; first
        | (have := x.larderBad; clear this; subst x)
        | (refine (fun hx : Sound p q x => ?_) ?_; rotate_left; subst x; rotate_right; clear_value x)
        | (refine (fun hx : Sound p q x.1 => ?_) ?_; rotate_left; subst x; rotate_right; clear_value x)
        | clear_value x
        | subst x)
    | (dsimp -zeta only) | apply ite_sound | split | apply foldl_sound | apply foldl_pair_sound
    | (apply pair_sound; assumption)

theorem radioGet_sound (h : Sound p q s) (a : Nat) (n : Nat) :
    Sound p q (radioGet s a n).1 := by
  unfold radioGet
  with_reducible repeat' first
    | assumption | intro _ | (dsimp -zeta only) | apply ite_sound | split | apply State.busRead_sound
    | apply State.useFresh_sound | (apply pair_sound; assumption)

theorem radioPut_sound (h : Sound p q s) (a : Nat) (bs : List Byte) :
    Sound p q (radioPut s a bs) := by
  unfold radioPut
  with_reducible repeat' first
    | assumption | intro _ | (dsimp -zeta only) | apply ite_sound | apply State.busWrite_sound
    | (apply pair_sound; assumption)

theorem fapiPush_sound (h : Sound p q s) (c type sfn slot code : Nat) (args : List Nat) :
    Sound p q (fapiPush s c type sfn slot code args) := by
  unfold fapiPush
  with_reducible repeat' first
    | assumption | apply ite_sound | apply State.useFresh_sound | apply pushPacket_sound

theorem fapiPop_sound (h : Sound p q s) (c : Nat) : Sound p q (fapiPop s c) := by
  unfold fapiPop
  with_reducible repeat' first
    | assumption | apply ite_sound | apply popPacket_sound

theorem releaseRefused_sound (h : Sound p q s) (reason rq : Nat) : Sound p q (releaseRefused s reason rq) := by
  unfold releaseRefused
  with_reducible repeat' first
    | assumption | apply State.logEvent_sound | apply State.wr_sound

theorem startRelease_sound (h : Sound p q s) (rq : Nat) : Sound p q (startRelease s rq) := by
  unfold startRelease
  with_reducible repeat' first
    | assumption | split | apply State.wr_sound | apply releaseRefused_sound

theorem stopCarrier_sound (h : Sound p q s) (c : Nat) : Sound p q (stopCarrier s c) := by
  unfold stopCarrier
  with_reducible repeat' first
    | assumption | apply ite_sound | apply State.clearBits_sound | apply fapiPush_sound

theorem endRelease_sound (h : Sound p q s) (cause rq : Nat) : Sound p q (endRelease s cause rq) := by
  unfold endRelease
  with_reducible repeat' first
    | assumption | apply State.logEvent_sound | apply State.wr_sound

theorem radioFree_sound (h : Sound p q s) (h1 : Nat) :
    Sound p q (radioFree s h1) := by
  unfold radioFree
  with_reducible repeat' first
    | assumption | intro _ | (dsimp -zeta only) | apply ite_sound | split | apply unitFree_sound
    | (apply pair_sound; assumption)

theorem radioFreeAll_sound (h : Sound p q s) (hs : List Nat) : Sound p q (radioFreeAll s hs) := by
  unfold radioFreeAll
  with_reducible repeat' first
    | assumption
    | (extract_lets +onlyGivenNames x; first
        | (have := x.larderBad; clear this; subst x)
        | (refine (fun hx : Sound p q x => ?_) ?_; rotate_left; subst x; rotate_right; clear_value x)
        | clear_value x
        | subst x)
    | intro _ | (dsimp -zeta only) | apply radioFree_sound | apply foldl_sound | apply foldl_pair_sound
    | (apply pair_sound; assumption)

theorem dropDecodes_sound (h : Sound p q s) :
    Sound p q (dropDecodes s) := by
  unfold dropDecodes
  with_reducible repeat' first
    | assumption | intro _ | (dsimp -zeta only) | apply ite_sound | (apply pair_sound; assumption)

theorem abandonDecodes_sound (h : Sound p q s) : Sound p q (abandonDecodes s) := by
  unfold abandonDecodes
  with_reducible repeat' first
    | assumption | intro _ | (dsimp -zeta only) | apply ite_sound | apply radioFreeAll_sound | apply foldl_sound
    | apply foldl_pair_sound

theorem withdrawNow_sound (h : Sound p q s) (cause : Nat) :
    Sound p q (withdrawNow s cause) := by
  unfold withdrawNow
  with_reducible repeat' first
    | assumption | intro _
    | (extract_lets +onlyGivenNames x; first
        | (have := x.larderBad; clear this; subst x)
        | (refine (fun hx : Sound p q x => ?_) ?_; rotate_left; subst x; rotate_right; clear_value x)
        | (refine (fun hx : Sound p q x.1 => ?_) ?_; rotate_left; subst x; rotate_right; clear_value x)
        | clear_value x
        | subst x)
    | (dsimp -zeta only) | apply ite_sound | split | apply endRelease_sound | apply stopCarrier_sound
    | apply abandonDecodes_sound | apply dropDecodes_sound | apply releaseRefused_sound | apply State.wr_sound
    | apply foldl_sound | apply foldl_pair_sound | (apply pair_sound; assumption)

theorem withdrawLater_sound (h : Sound p q s) (cause rq : Nat) : Sound p q (withdrawLater s cause rq) := by
  unfold withdrawLater
  with_reducible repeat' first
    | assumption | apply ite_sound

theorem writeRadCtrl_sound (h : Sound p q s) (rq : Requester) (data : Nat) : Sound p q (writeRadCtrl s rq data) := by
  unfold writeRadCtrl
  with_reducible repeat' first
    | assumption | apply ite_sound | apply State.answer_sound | apply startRelease_sound | apply withdrawLater_sound

theorem finishRelease_sound (h : Sound p q s) : Sound p q (finishRelease s) := by
  unfold finishRelease
  with_reducible repeat' first
    | assumption | intro _ | (dsimp -zeta only) | apply State.logEvent_sound | apply State.wr_sound

theorem applyBeams_sound (h : Sound p q s) (c : Nat) : Sound p q (applyBeams s c) := by
  unfold applyBeams
  with_reducible repeat' first
    | assumption
    | (extract_lets +onlyGivenNames x; first | (refine (fun hx : Sound p q x => ?_) ?_; rotate_left; subst x; rotate_right; clear_value x) | clear_value x)
    | intro _ | (dsimp -zeta only) | split | (apply pair_sound; assumption)

theorem applyGate_sound (h : Sound p q s) (c : Nat) : Sound p q (applyGate s c) := by
  unfold applyGate
  with_reducible repeat' first
    | assumption | intro _ | (dsimp -zeta only) | apply ite_sound | split | apply State.logEvent_sound

theorem applyLayers_sound (h : Sound p q s) : Sound p q (applyLayers s) := by
  unfold applyLayers
  with_reducible repeat' first
    | assumption | apply ite_sound | apply State.logEvent_sound | apply State.wr_sound

theorem rejectLayers_sound (h : Sound p q s) (c : Nat) : Sound p q (rejectLayers s c) := by
  unfold rejectLayers
  with_reducible repeat' first
    | assumption | intro _ | (dsimp -zeta only) | apply ite_sound | apply fapiPush_sound | apply foldl_sound
    | apply foldl_pair_sound

theorem sendTx_sound (h : Sound p q s) (c : Nat) (at_ : Int) (signal : Nat) :
    Sound p q (sendTx s c at_ signal) := by
  unfold sendTx
  with_reducible repeat' first
    | assumption | intro _ | (dsimp -zeta only) | apply ite_sound | (apply pair_sound; assumption)

theorem closeSection_sound (h : Sound p q s) (x : FhSection) :
    Sound p q (closeSection s x) := by
  unfold closeSection
  with_reducible repeat' first
    | assumption | intro _
    | (extract_lets +onlyGivenNames x; first
        | (have := x.larderBad; clear this; subst x)
        | (refine (fun hx : Sound p q x => ?_) ?_; rotate_left; subst x; rotate_right; clear_value x)
        | (refine (fun hx : Sound p q x.1 => ?_) ?_; rotate_left; subst x; rotate_right; clear_value x)
        | clear_value x
        | subst x)
    | (dsimp -zeta only) | apply ite_sound | split | apply State.useFresh_sound | apply sendTx_sound | apply foldl_sound
    | apply foldl_pair_sound | (apply pair_sound; assumption)

theorem closeWindows_sound (h : Sound p q s) (c : Nat) :
    Sound p q (closeWindows s c) := by
  unfold closeWindows
  with_reducible repeat' first
    | assumption | intro _
    | (extract_lets +onlyGivenNames x; first
        | (have := x.larderBad; clear this; subst x)
        | (refine (fun hx : Sound p q x => ?_) ?_; rotate_left; subst x; rotate_right; clear_value x)
        | (refine (fun hx : Sound p q x.1 => ?_) ?_; rotate_left; subst x; rotate_right; clear_value x)
        | clear_value x
        | subst x)
    | (dsimp -zeta only) | apply ite_sound | split | apply closeSection_sound | apply foldl_sound | apply foldl_pair_sound
    | (apply pair_sound; assumption)

theorem cratePayload_sound (h : Sound p q s) (hs : List (Nat × Nat)) : Sound p q (cratePayload s hs).1 := by
  induction hs generalizing s with
  | nil => exact h
  | cons x0 rest ih =>
    unfold cratePayload
    with_reducible repeat' first
      | assumption | intro _
      | (extract_lets +onlyGivenNames x; first
        | (have := x.larderBad; clear this; subst x)
        | (refine (fun hx : Sound p q x => ?_) ?_; rotate_left; subst x; rotate_right; clear_value x)
        | (refine (fun hx : Sound p q x.1 => ?_) ?_; rotate_left; subst x; rotate_right; clear_value x)
        | clear_value x
        | subst x)
      | (dsimp -zeta only) | apply ite_sound | split | apply ih | apply radioGet_sound
      | (apply pair_sound; assumption)

theorem downlinkSlot_sound (h : Sound p q s) (c : Nat) :
    Sound p q (downlinkSlot s c) := by
  unfold downlinkSlot
  with_reducible repeat' first
    | assumption | intro _
    | (extract_lets +onlyGivenNames x; first
        | (have := x.larderBad; clear this; subst x)
        | (refine (fun hx : Sound p q x => ?_) ?_; rotate_left; subst x; rotate_right; clear_value x)
        | (refine (fun hx : Sound p q x.1 => ?_) ?_; rotate_left; subst x; rotate_right; clear_value x)
        | clear_value x
        | subst x)
    | (dsimp -zeta only) | apply ite_sound | split | apply sendTx_sound | apply cratePayload_sound
    | (apply pair_sound; assumption)

theorem fronthaulSlot_sound (h : Sound p q s) (c : Nat) :
    Sound p q (fronthaulSlot s c) := by
  unfold fronthaulSlot
  with_reducible repeat' first
    | assumption | intro _
    | (extract_lets +onlyGivenNames x; first
        | (have := x.larderBad; clear this; subst x)
        | (refine (fun hx : Sound p q x => ?_) ?_; rotate_left; subst x; rotate_right; clear_value x)
        | (refine (fun hx : Sound p q x.1 => ?_) ?_; rotate_left; subst x; rotate_right; clear_value x)
        | clear_value x
        | subst x)
    | (dsimp -zeta only) | apply ite_sound | split | (apply pair_sound; assumption)

theorem noteEmpty_sound (h : Sound p q s) (c : Nat) : Sound p q (noteEmpty s c) := by
  unfold noteEmpty
  with_reducible repeat' first
    | assumption | intro _ | (dsimp -zeta only) | apply ite_sound | apply State.bump_sound

theorem retireReqs_sound (h : Sound p q s) (c : Nat) : Sound p q (retireReqs s c) := by
  unfold retireReqs
  with_reducible repeat' first
    | assumption | intro _ | (dsimp -zeta only) | apply radioFreeAll_sound

theorem slotBoundary_sound (h : Sound p q s) (c : Nat) (sats : List Nat) :
    Sound p q (slotBoundary s c sats) := by
  unfold slotBoundary
  with_reducible repeat' first
    | assumption | intro _
    | (extract_lets +onlyGivenNames x; first
        | (have := x.larderBad; clear this; subst x)
        | (refine (fun hx : Sound p q x => ?_) ?_; rotate_left; subst x; rotate_right; clear_value x)
        | (refine (fun hx : Sound p q x.1 => ?_) ?_; rotate_left; subst x; rotate_right; clear_value x)
        | clear_value x
        | subst x)
    | (dsimp -zeta only) | apply ite_sound | split | apply State.bump_sound | apply retireReqs_sound
    | apply stopCarrier_sound | apply endRelease_sound | apply noteEmpty_sound | apply rejectLayers_sound
    | apply applyLayers_sound | apply applyGate_sound | apply applyBeams_sound | apply closeWindows_sound
    | apply fronthaulSlot_sound | apply downlinkSlot_sound | apply foldl_sound | apply foldl_pair_sound
    | (apply pair_sound; assumption)

theorem lateRequest_sound (h : Sound p q s) (c type sfn slot : Nat) : Sound p q (lateRequest s c type sfn slot) := by
  unfold lateRequest
  with_reducible repeat' first
    | assumption | apply State.bump_sound | apply State.logLimited_sound | apply fapiPush_sound

theorem p7Request_sound (h : Sound p q s) (c : Nat) (type : Nat) (sfn : Nat) (slot : Nat) (lead : Nat) (pdus : List FapiPdu) (crates : List (Nat × Nat)) :
    Sound p q (p7Request s c type sfn slot lead pdus crates) := by
  unfold p7Request
  with_reducible repeat' first
    | assumption | intro _
    | (extract_lets +onlyGivenNames x; first
        | (have := x.larderBad; clear this; subst x)
        | (refine (fun hx : Sound p q x => ?_) ?_; rotate_left; subst x; rotate_right; clear_value x)
        | (refine (fun hx : Sound p q x.1 => ?_) ?_; rotate_left; subst x; rotate_right; clear_value x)
        | clear_value x
        | subst x)
    | (dsimp -zeta only) | apply ite_sound | split | apply fapiPop_sound | apply fapiPush_sound | apply lateRequest_sound
    | apply foldl_sound | apply foldl_pair_sound | (apply pair_sound; assumption)

theorem timelineInd_sound (h : Sound p q s) (c type : Nat) (ago : Int) (args : List Nat) :
    Sound p q (timelineInd s c type ago args) := by
  unfold timelineInd
  with_reducible repeat' first
    | assumption | apply ite_sound | apply fapiPush_sound

theorem fhDrop_sound (h : Sound p q s) (p1 type : Nat) : Sound p q (fhDrop s p1 type) := by
  unfold fhDrop
  with_reducible repeat' first
    | assumption | apply State.bump_sound | apply State.logLimited_sound

theorem answerDelay_sound (h : Sound p q s) (p1 : Nat) (id : Nat) :
    Sound p q (answerDelay s p1 id) := by
  unfold answerDelay
  with_reducible repeat' first
    | assumption | intro _ | (dsimp -zeta only) | apply ite_sound | (apply pair_sound; assumption)

theorem fhReceive_sound (h : Sound p q s) (p1 : Nat) (m : FhMsg) :
    Sound p q (fhReceive s p1 m) := by
  unfold fhReceive
  with_reducible repeat' first
    | assumption | intro _
    | (extract_lets +onlyGivenNames x; first
        | (have := x.larderBad; clear this; subst x)
        | (refine (fun hx : Sound p q x => ?_) ?_; rotate_left; subst x; rotate_right; clear_value x)
        | (refine (fun hx : Sound p q x.1 => ?_) ?_; rotate_left; subst x; rotate_right; clear_value x)
        | (refine (fun hf : ∀ a, Sound p q a → Sound p q (x a) => ?_) ?_; rotate_left; subst x; rotate_right; clear_value x)
        | (refine (fun hf : ∀ a, Sound p q (x a) => ?_) ?_; rotate_left; subst x; rotate_right; clear_value x)
        | (refine (fun hf : ∀ a b, Sound p q a → Sound p q (x a b) => ?_) ?_; rotate_left; subst x; rotate_right; clear_value x)
        | (refine (fun hf : ∀ a b, Sound p q b → Sound p q (x a b) => ?_) ?_; rotate_left; subst x; rotate_right; clear_value x)
        | (refine (fun hf : ∀ a b c, Sound p q a → Sound p q (x a b c) => ?_) ?_; rotate_left; subst x; rotate_right; clear_value x)
        | (refine (fun hf : ∀ a b c, Sound p q b → Sound p q (x a b c) => ?_) ?_; rotate_left; subst x; rotate_right; clear_value x)
        | (refine (fun hf : ∀ a b c, Sound p q c → Sound p q (x a b c) => ?_) ?_; rotate_left; subst x; rotate_right; clear_value x)
        | (refine (fun hf : ∀ a b, Sound p q (x a b) => ?_) ?_; rotate_left; subst x; rotate_right; clear_value x)
        | (refine (fun hf : ∀ a b c, Sound p q (x a b c) => ?_) ?_; rotate_left; subst x; rotate_right; clear_value x)
        | clear_value x
        | subst x)
    | apply hf | (dsimp -zeta only) | apply ite_sound | split | apply answerDelay_sound | apply fhDrop_sound
    | apply State.logLimited_sound | apply State.bump_sound | apply State.count_sound | (apply pair_sound; assumption)

theorem writeEthCfg_sound (h : Sound p q s) (rq : Requester) (p1 data : Nat) : Sound p q (writeEthCfg s rq p1 data) := by
  unfold writeEthCfg
  with_reducible repeat' first
    | assumption | apply ite_sound | apply State.answer_sound | apply State.logEvent_sound | apply State.wr_sound

theorem writeBeamBase_sound (h : Sound p q s) (rq : Requester) (c : Nat) (hi : Bool) (data : Nat) :
    Sound p q (writeBeamBase s rq c hi data) := by
  unfold writeBeamBase
  with_reducible repeat' first
    | assumption | apply ite_sound | apply State.answer_sound | apply State.logEvent_sound | apply State.wr_sound

theorem beamCommit_sound (h : Sound p q s) (data : Nat) :
    Sound p q (beamCommit s data) := by
  unfold beamCommit
  with_reducible repeat' first
    | assumption | intro _
    | (extract_lets +onlyGivenNames x; first
        | (have := x.larderBad; clear this; subst x)
        | (refine (fun hx : Sound p q x => ?_) ?_; rotate_left; subst x; rotate_right; clear_value x)
        | (refine (fun hx : Sound p q x.1 => ?_) ?_; rotate_left; subst x; rotate_right; clear_value x)
        | clear_value x
        | subst x)
    | (dsimp -zeta only) | apply ite_sound | apply radioGet_sound | apply State.answer_sound | apply foldl_sound
    | apply foldl_pair_sound | (apply pair_sound; assumption)

theorem execRadioRelease_sound (h : Sound p q s) (rq : Requester) (data : Nat) : Keeps p q (execRadioRelease rq data s) := by
  unfold execRadioRelease
  with_reducible repeat' first
    | assumption | intro _ | (dsimp -zeta only) | apply atRegister_sound | apply whilePowered_sound | apply writeRadCtrl_sound

theorem execRadioReleased_sound (h : Sound p q s) (calOk : Bool) : Keeps p q (execRadioReleased calOk s) := by
  unfold execRadioReleased
  with_reducible repeat' first
    | assumption | intro _ | (dsimp -zeta only) | apply ite_sound | apply finishRelease_sound | apply releaseRefused_sound
    | apply whilePowered_sound

theorem execRadioWithdraw_sound (h : Sound p q s) (rq : Requester) (data : Nat) : Keeps p q (execRadioWithdraw rq data s) := by
  unfold execRadioWithdraw
  with_reducible repeat' first
    | assumption | intro _ | (dsimp -zeta only) | apply atRegister_sound | apply whilePowered_sound | apply writeRadCtrl_sound

theorem execBackgroundCalibration_sound (h : Sound p q s) (chain param value : Nat) (inTolerance : Bool) :
    Keeps p q (execBackgroundCalibration chain param value inTolerance s) := by
  unfold execBackgroundCalibration
  with_reducible repeat' first
    | assumption | intro _ | (dsimp -zeta only) | apply ite_sound | apply State.logLimited_sound | apply whilePowered_sound

theorem execFrameBoundary_sound (h : Sound p q s) (carrier : Nat) : Keeps p q (execFrameBoundary carrier s) := by
  unfold execFrameBoundary
  with_reducible repeat' first
    | assumption | intro _ | (dsimp -zeta only) | apply ite_sound | apply whilePowered_sound

theorem execSlotBoundary_sound (h : Sound p q s) (carrier : Nat) (sats : List Nat) :
    Keeps p q (execSlotBoundary carrier sats s) := by
  unfold execSlotBoundary
  with_reducible repeat' first
    | assumption | intro _ | (dsimp -zeta only) | apply ite_sound | apply slotBoundary_sound | apply whilePowered_sound

theorem execBeamCommit_sound (h : Sound p q s) (rq : Requester) (data : Nat) : Keeps p q (execBeamCommit rq data s) := by
  unfold execBeamCommit
  with_reducible repeat' first
    | assumption | intro _ | (dsimp -zeta only) | apply atRegister_sound | apply beamCommit_sound | apply whilePowered_sound

theorem execFronthaulFrameReceive_sound (h : Sound p q s) (port : Nat) (msg : FhMsg) :
    Keeps p q (execFronthaulFrameReceive port msg s) := by
  unfold execFronthaulFrameReceive
  with_reducible repeat' first
    | assumption | intro _ | (dsimp -zeta only) | apply ite_sound | apply fhReceive_sound | apply whilePowered_sound

theorem execOneWayDelayMeasurement_sound (h : Sound p q s) (port : Nat) (id : Nat) :
    Keeps p q (execOneWayDelayMeasurement port id s) := by
  unfold execOneWayDelayMeasurement
  with_reducible repeat' first
    | assumption | intro _ | (dsimp -zeta only) | apply ite_sound | split | apply answerDelay_sound
    | apply whilePowered_sound | (apply pair_sound; assumption)

theorem execParamRequest_sound (h : Sound p q s) (carrier : Nat) : Keeps p q (execParamRequest carrier s) := by
  unfold execParamRequest
  with_reducible repeat' first
    | assumption | intro _ | (dsimp -zeta only) | apply ite_sound | apply fapiPop_sound | apply fapiPush_sound
    | apply whilePowered_sound

theorem execConfigRequest_sound (h : Sound p q s) (carrier : Nat) (tlvs : List ConfigTlv) :
    Keeps p q (execConfigRequest carrier tlvs s) := by
  unfold execConfigRequest
  with_reducible repeat' first
    | assumption | intro _ | (dsimp -zeta only) | apply ite_sound | split | apply fapiPop_sound | apply fapiPush_sound
    | apply whilePowered_sound

theorem execStartRequest_sound (h : Sound p q s) (carrier : Nat) : Keeps p q (execStartRequest carrier s) := by
  unfold execStartRequest
  with_reducible repeat' first
    | assumption | intro _ | (dsimp -zeta only) | apply ite_sound | apply State.orBits_sound | apply fapiPop_sound
    | apply fapiPush_sound | apply whilePowered_sound

theorem execStopRequest_sound (h : Sound p q s) (carrier : Nat) : Keeps p q (execStopRequest carrier s) := by
  unfold execStopRequest
  with_reducible repeat' first
    | assumption | intro _ | (dsimp -zeta only) | apply ite_sound | apply fapiPop_sound | apply fapiPush_sound
    | apply whilePowered_sound

theorem execDlTtiRequest_sound (h : Sound p q s) (carrier sfn slot : Nat) (pdus : List FapiPdu) :
    Keeps p q (execDlTtiRequest carrier sfn slot pdus s) := by
  unfold execDlTtiRequest
  with_reducible repeat' first
    | assumption | intro _ | (dsimp -zeta only) | apply p7Request_sound | apply whilePowered_sound

theorem execUlTtiRequest_sound (h : Sound p q s) (carrier sfn slot : Nat) (pdus : List FapiPdu) :
    Keeps p q (execUlTtiRequest carrier sfn slot pdus s) := by
  unfold execUlTtiRequest
  with_reducible repeat' first
    | assumption | intro _ | (dsimp -zeta only) | apply p7Request_sound | apply whilePowered_sound

theorem execUlDciRequest_sound (h : Sound p q s) (carrier sfn slot : Nat) (pdus : List FapiPdu) :
    Keeps p q (execUlDciRequest carrier sfn slot pdus s) := by
  unfold execUlDciRequest
  with_reducible repeat' first
    | assumption | intro _ | (dsimp -zeta only) | apply p7Request_sound | apply whilePowered_sound

theorem execTxDataRequest_sound (h : Sound p q s) (carrier : Nat) (sfn : Nat) (slot : Nat) (crates : List (Nat × Nat)) :
    Keeps p q (execTxDataRequest carrier sfn slot crates s) := by
  unfold execTxDataRequest
  with_reducible repeat' first
    | assumption | intro _ | (dsimp -zeta only) | apply ite_sound | apply p7Request_sound | apply whilePowered_sound
    | (apply pair_sound; assumption)

theorem execFapiUnsupportedMessage_sound (h : Sound p q s) (carrier type : Nat) :
    Keeps p q (execFapiUnsupportedMessage carrier type s) := by
  unfold execFapiUnsupportedMessage
  with_reducible repeat' first
    | assumption | intro _ | (dsimp -zeta only) | apply ite_sound | apply fapiPop_sound | apply fapiPush_sound
    | apply whilePowered_sound

theorem execSlotIndication_sound (h : Sound p q s) (carrier : Nat) : Keeps p q (execSlotIndication carrier s) := by
  unfold execSlotIndication
  with_reducible repeat' first
    | assumption | intro _ | (dsimp -zeta only) | apply timelineInd_sound | apply whilePowered_sound

theorem execUciIndication_sound (h : Sound p q s) (carrier : Nat) : Keeps p q (execUciIndication carrier s) := by
  unfold execUciIndication
  with_reducible repeat' first
    | assumption | intro _ | (dsimp -zeta only) | apply timelineInd_sound | apply whilePowered_sound

theorem execRachIndication_sound (h : Sound p q s) (carrier : Nat) : Keeps p q (execRachIndication carrier s) := by
  unfold execRachIndication
  with_reducible repeat' first
    | assumption | intro _ | (dsimp -zeta only) | apply timelineInd_sound | apply whilePowered_sound

theorem setAlloc_sound (h : Sound p q s) (a : Alloc) : Sound p q (setAlloc s a) := by
  unfold setAlloc
  with_reducible repeat' first
    | assumption | intro _ | (dsimp -zeta only) | apply ite_sound

theorem radioCrates_sound (h : Sound p q s) (pool : Nat) (u : Nat) (got : List Nat) : Sound p q (radioCrates s pool u got).1 := by
  induction u generalizing s got with
  | zero => exact h
  | succ u ih =>
    unfold radioCrates
    with_reducible repeat' first
      | assumption | apply ih
      | (extract_lets +onlyGivenNames x; first | (refine (fun hx : Sound p q x => ?_) ?_; rotate_left; subst x; rotate_right; clear_value x) | clear_value x)
      | apply ite_sound | split | apply allocCrate_sound | apply radioFreeAll_sound | (apply pair_sound; assumption)

theorem writeHandles_sound (h : Sound p q s) (desc : Nat) (o : Nat) (hs : List Nat) :
    Sound p q (writeHandles s desc o hs) := by
  unfold writeHandles
  with_reducible repeat' first
    | assumption | intro _ | (dsimp -zeta only) | apply ite_sound | apply radioPut_sound | (apply pair_sound; assumption)

theorem notAdmitted_sound (h : Sound p q s) (a : Alloc) (why : Nat) : Sound p q (notAdmitted s a why) := by
  unfold notAdmitted
  with_reducible repeat' first
    | assumption | apply State.logLimited_sound

theorem dispatchJob_sound (h : Sound p q s) (a : Alloc) (e budget : Nat) : Sound p q (dispatchJob s a e budget) := by
  unfold dispatchJob
  with_reducible repeat' first
    | assumption | apply pushPacket_sound

theorem admitJob_sound (h : Sound p q s) (a : Alloc) (g : GateCfg) (layers : Nat) (nreL : Nat) :
    Sound p q (admitJob s a g layers nreL) := by
  unfold admitJob
  with_reducible repeat' first
    | assumption | intro _
    | (extract_lets +onlyGivenNames x; first
        | (have := x.larderBad; clear this; subst x)
        | (refine (fun hx : Sound p q x => ?_) ?_; rotate_left; subst x; rotate_right; clear_value x)
        | (refine (fun hx : Sound p q x.1 => ?_) ?_; rotate_left; subst x; rotate_right; clear_value x)
        | clear_value x
        | subst x)
    | (dsimp -zeta only) | apply ite_sound | split | apply notAdmitted_sound | apply radioCrates_sound
    | apply writeHandles_sound | apply radioPut_sound | apply dispatchJob_sound | apply setAlloc_sound
    | (apply pair_sound; assumption)

theorem allocationReady_sound (h : Sound p q s) (desc : Nat) (p1 : PuschInfo) :
    Sound p q (allocationReady s desc p1) := by
  unfold allocationReady
  with_reducible repeat' first
    | assumption | intro _
    | (extract_lets +onlyGivenNames x; first
        | (have := x.larderBad; clear this; subst x)
        | (refine (fun hx : Sound p q x => ?_) ?_; rotate_left; subst x; rotate_right; clear_value x)
        | (refine (fun hx : Sound p q x.1 => ?_) ?_; rotate_left; subst x; rotate_right; clear_value x)
        | clear_value x
        | subst x)
    | (dsimp -zeta only) | apply ite_sound | split | apply radioGet_sound | apply radioCrates_sound | apply State.bump_sound
    | apply writeHandles_sound | apply radioPut_sound | apply admitJob_sound | (apply pair_sound; assumption)

theorem readLlrs_sound (h : Sound p q s) (hs : List Nat) (n : Nat) : Sound p q (readLlrs s hs n).1 := by
  induction hs generalizing s n with
  | nil => exact h
  | cons x0 rest ih =>
    unfold readLlrs
    with_reducible repeat' first
      | assumption | intro _
      | (extract_lets +onlyGivenNames x; first
        | (have := x.larderBad; clear this; subst x)
        | (refine (fun hx : Sound p q x => ?_) ?_; rotate_left; subst x; rotate_right; clear_value x)
        | (refine (fun hx : Sound p q x.1 => ?_) ?_; rotate_left; subst x; rotate_right; clear_value x)
        | clear_value x
        | subst x)
      | (dsimp -zeta only) | apply ite_sound | split | apply ih | apply radioGet_sound
      | (apply pair_sound; assumption)

theorem combineLine_sound (h : Sound p q s) (base : Nat) (line : Nat) (held : List Nat) (ls : List (Nat × Int)) :
    Sound p q (combineLine s base line held ls).1 := by
  unfold combineLine
  with_reducible repeat' first
    | assumption | intro _
    | (extract_lets +onlyGivenNames x; first
        | (have := x.larderBad; clear this; subst x)
        | (refine (fun hx : Sound p q x => ?_) ?_; rotate_left; subst x; rotate_right; clear_value x)
        | (refine (fun hx : Sound p q x.1 => ?_) ?_; rotate_left; subst x; rotate_right; clear_value x)
        | clear_value x
        | subst x)
    | (dsimp -zeta only) | apply ite_sound | split | apply State.busRead_sound | apply radioPut_sound | apply foldl_sound
    | apply foldl_pair_sound | (apply pair_sound; assumption)

theorem combine_sound (h : Sound p q s) (a : Alloc) (buf : Nat) (fresh : Bool) :
    Sound p q (combine s a buf fresh) := by
  unfold combine
  with_reducible repeat' first
    | assumption | intro _
    | (extract_lets +onlyGivenNames x; first
        | (have := x.larderBad; clear this; subst x)
        | (refine (fun hx : Sound p q x => ?_) ?_; rotate_left; subst x; rotate_right; clear_value x)
        | (refine (fun hx : Sound p q x.1 => ?_) ?_; rotate_left; subst x; rotate_right; clear_value x)
        | clear_value x
        | subst x)
    | (dsimp -zeta only) | apply ite_sound | split | apply readLlrs_sound | apply combineLine_sound | apply foldl_sound
    | apply foldl_pair_sound | (apply pair_sound; assumption)

theorem startDecode_sound (h : Sound p q s) (a : Alloc) : Sound p q (startDecode s a) := by
  unfold startDecode
  with_reducible repeat' first
    | assumption
    | (extract_lets +onlyGivenNames x; first | (refine (fun hx : Sound p q x => ?_) ?_; rotate_left; subst x; rotate_right; clear_value x) | clear_value x)
    | intro _ | (dsimp -zeta only) | apply ite_sound | split | apply State.bump_sound | apply State.logLimited_sound
    | apply combine_sound | (apply pair_sound; assumption)

theorem feedIslands_sound (h : Sound p q s) : Sound p q (feedIslands s) := by
  unfold feedIslands
  with_reducible repeat' first
    | assumption | intro _ | (dsimp -zeta only) | split | apply foldl_sound | apply foldl_pair_sound

theorem retireAlloc_sound (h : Sound p q s) (id : Nat) : Sound p q (retireAlloc s id) := by
  unfold retireAlloc
  with_reducible repeat' first
    | assumption | intro _ | (dsimp -zeta only) | apply ite_sound | split | apply radioFreeAll_sound | apply setAlloc_sound

theorem endDecode_sound (h : Sound p q s) (id : Nat) (ok : Bool) : Sound p q (endDecode s id ok) := by
  unfold endDecode
  with_reducible repeat' first
    | assumption | apply ite_sound | split | apply State.bump_sound | apply radioFreeAll_sound | apply retireAlloc_sound
    | apply setAlloc_sound

theorem choose_sound (h : Sound p q s) (a : Alloc) : Sound p q (choose s a) := by
  unfold choose
  with_reducible repeat' first
    | assumption | apply ite_sound | apply State.bump_sound | apply State.logEvent_sound | apply State.logLimited_sound
    | apply endDecode_sound | apply feedIslands_sound | apply radioFreeAll_sound | apply retireAlloc_sound
    | apply setAlloc_sound | apply startDecode_sound

theorem chooseIfReady_sound (h : Sound p q s) (id : Nat) : Sound p q (chooseIfReady s id) := by
  unfold chooseIfReady
  with_reducible repeat' first
    | assumption | apply ite_sound | split | apply choose_sound

theorem learnedCompletion_sound (h : Sound p q s) (w : Nat) :
    Sound p q (learnedCompletion s w) := by
  unfold learnedCompletion
  with_reducible repeat' first
    | assumption | intro _
    | (extract_lets +onlyGivenNames x; first
        | (have := x.larderBad; clear this; subst x)
        | (refine (fun hx : Sound p q x => ?_) ?_; rotate_left; subst x; rotate_right; clear_value x)
        | (refine (fun hx : Sound p q x.1 => ?_) ?_; rotate_left; subst x; rotate_right; clear_value x)
        | clear_value x
        | subst x)
    | (dsimp -zeta only) | apply ite_sound | split | apply radioGet_sound | apply State.logLimited_sound
    | apply setAlloc_sound | apply radioFreeAll_sound | apply retireAlloc_sound | apply chooseIfReady_sound
    | (apply pair_sound; assumption)

theorem execAllocationReady_sound (h : Sound p q s) (desc : Nat) (pdu : PuschInfo) :
    Keeps p q (execAllocationReady desc pdu s) := by
  unfold execAllocationReady
  with_reducible repeat' first
    | assumption | intro _ | (dsimp -zeta only) | apply ite_sound | apply allocationReady_sound | apply whilePowered_sound

theorem execClassicalLlrComplete_sound (h : Sound p q s) (alloc : Nat) : Keeps p q (execClassicalLlrComplete alloc s) := by
  unfold execClassicalLlrComplete
  with_reducible repeat' first
    | assumption | intro _ | (dsimp -zeta only) | apply ite_sound | split | apply chooseIfReady_sound | apply setAlloc_sound
    | apply whilePowered_sound

theorem execLearnedCompletion_sound (h : Sound p q s) : Keeps p q (execLearnedCompletion s) := by
  unfold execLearnedCompletion
  with_reducible repeat' first
    | assumption | intro _ | (dsimp -zeta only) | apply ite_sound | apply learnedCompletion_sound | apply popSlot_sound
    | apply whilePowered_sound

theorem guardChoices_sound (h : Sound p q s) (carrier : Nat) :
    Sound p q (guardChoices s carrier) := by
  unfold guardChoices
  with_reducible repeat' first
    | assumption | intro _ | (dsimp -zeta only) | apply ite_sound | apply choose_sound | apply foldl_sound
    | apply foldl_pair_sound | (apply pair_sound; assumption)

theorem execGuardInstant_sound (h : Sound p q s) (carrier : Nat) :
    Keeps p q (execGuardInstant carrier s) := by
  unfold execGuardInstant
  with_reducible repeat' first
    | assumption | intro _ | (dsimp -zeta only) | apply ite_sound | split | apply guardChoices_sound
    | apply whilePowered_sound | (apply pair_sound; assumption)

theorem execEngineOverdue_sound (h : Sound p q s) (engine : Nat) : Keeps p q (execEngineOverdue engine s) := by
  unfold execEngineOverdue
  with_reducible repeat' first
    | assumption | intro _ | (dsimp -zeta only) | apply ite_sound | apply State.logLimited_sound | apply whilePowered_sound

theorem gateCommit_sound (h : Sound p q s) (data : Nat) : Sound p q (gateCommit s data) := by
  unfold gateCommit
  with_reducible repeat' first
    | assumption | intro _ | (dsimp -zeta only) | apply ite_sound | apply State.answer_sound | apply State.commitAll_sound

theorem execRadLrCommit_sound (h : Sound p q s) (rq : Requester) (data : Nat) : Keeps p q (execRadLrCommit rq data s) := by
  unfold execRadLrCommit
  with_reducible repeat' first
    | assumption | intro _ | (dsimp -zeta only) | apply atRegister_sound | apply gateCommit_sound | apply whilePowered_sound

theorem blockEnds_sound (h : Sound p q s) (id : Nat) (tbCrc : Bool) (data : List Byte) :
    Sound p q (blockEnds s id tbCrc data) := by
  unfold blockEnds
  with_reducible repeat' first
    | assumption | apply ite_sound | split | apply endDecode_sound | apply setAlloc_sound

theorem execLdpcBlockDone_sound (h : Sound p q s) (island : Nat) (iters : Nat) (good : Bool) (tbCrc : Bool) (data : List Byte) :
    Keeps p q (execLdpcBlockDone island iters good tbCrc data s) := by
  unfold execLdpcBlockDone
  with_reducible repeat' first
    | assumption | intro _
    | (extract_lets +onlyGivenNames x; first
        | (have := x.larderBad; clear this; subst x)
        | (refine (fun hx : Sound p q x => ?_) ?_; rotate_left; subst x; rotate_right; clear_value x)
        | (refine (fun hx : Sound p q x.1 => ?_) ?_; rotate_left; subst x; rotate_right; clear_value x)
        | clear_value x
        | subst x)
    | (dsimp -zeta only) | apply ite_sound | split | apply feedIslands_sound | apply blockEnds_sound
    | apply whilePowered_sound | (apply pair_sound; assumption)

theorem ldpcCutoff_sound (h : Sound p q s) (carrier : Nat) : Sound p q (ldpcCutoff s carrier) := by
  unfold ldpcCutoff
  with_reducible repeat' first
    | assumption | intro _ | (dsimp -zeta only) | apply ite_sound | split | apply State.bump_sound
    | apply State.logLimited_sound | apply State.useFresh_sound | apply endDecode_sound | apply feedIslands_sound
    | apply foldl_sound | apply foldl_pair_sound

theorem execLdpcCutoff_sound (h : Sound p q s) (carrier : Nat) : Keeps p q (execLdpcCutoff carrier s) := by
  unfold execLdpcCutoff
  with_reducible repeat' first
    | assumption | intro _ | (dsimp -zeta only) | apply ite_sound | apply ldpcCutoff_sound | apply whilePowered_sound

theorem execTbCrcDeadline_sound (h : Sound p q s) (carrier : Nat) :
    Keeps p q (execTbCrcDeadline carrier s) := by
  unfold execTbCrcDeadline
  with_reducible repeat' first
    | assumption | intro _
    | (extract_lets +onlyGivenNames x; first
        | (have := x.larderBad; clear this; subst x)
        | (refine (fun hx : Sound p q x => ?_) ?_; rotate_left; subst x; rotate_right; clear_value x)
        | (refine (fun hx : Sound p q x.1 => ?_) ?_; rotate_left; subst x; rotate_right; clear_value x)
        | clear_value x
        | subst x)
    | (dsimp -zeta only) | apply ite_sound | split | apply ldpcCutoff_sound | apply guardChoices_sound
    | apply timelineInd_sound | apply whilePowered_sound | (apply pair_sound; assumption)

theorem rxCrate_sound (h : Sound p q s) (a : Alloc) :
    Sound p q (rxCrate s a).1 := by
  unfold rxCrate
  with_reducible repeat' first
    | assumption | intro _
    | (extract_lets +onlyGivenNames x; first
        | (have := x.larderBad; clear this; subst x)
        | (refine (fun hx : Sound p q x => ?_) ?_; rotate_left; subst x; rotate_right; clear_value x)
        | (refine (fun hx : Sound p q x.1 => ?_) ?_; rotate_left; subst x; rotate_right; clear_value x)
        | clear_value x
        | subst x)
    | (dsimp -zeta only) | apply ite_sound | split | apply allocCrate_sound | apply radioPut_sound | apply unitGive_sound
    | (apply pair_sound; assumption)

theorem crcIndication_sound (h : Sound p q s) (c : Nat) : Sound p q (crcIndication s c) := by
  unfold crcIndication
  with_reducible repeat' first
    | assumption | intro _ | (dsimp -zeta only) | split | apply retireAlloc_sound | apply rxCrate_sound | apply setAlloc_sound
    | apply timelineInd_sound | apply foldl_sound | apply foldl_pair_sound

theorem execCrcIndication_sound (h : Sound p q s) (carrier : Nat) : Keeps p q (execCrcIndication carrier s) := by
  unfold execCrcIndication
  with_reducible repeat' first
    | assumption | intro _ | (dsimp -zeta only) | apply ite_sound | apply crcIndication_sound | apply whilePowered_sound

theorem execRadLdpcCommit_sound (h : Sound p q s) (rq : Requester) (data : Nat) : Keeps p q (execRadLdpcCommit rq data s) := by
  unfold execRadLdpcCommit
  with_reducible repeat' first
    | assumption | intro _ | (dsimp -zeta only) | apply ite_sound | apply State.answer_sound | apply State.commitAll_sound
    | apply atRegister_sound | apply whilePowered_sound

theorem clearGateCounters_sound (h : Sound p q s) : Sound p q (clearGateCounters s) := by
  unfold clearGateCounters
  with_reducible repeat' first
    | assumption | intro _ | (dsimp -zeta only) | apply State.wr_sound | apply foldl_sound | apply foldl_pair_sound

theorem writeHarq_sound (h : Sound p q s) (rq : Requester) (which data : Nat) : Sound p q (writeHarq s rq which data) := by
  unfold writeHarq
  with_reducible repeat' first
    | assumption | apply ite_sound | apply State.answer_sound | apply State.logEvent_sound | apply State.wr_sound

end Sys2Proof.Machine
end

