-- ==== Sys2Proof/Laws/SoundVision.lean ====
section
/-! SUPPORT. What no operation breaks: the part, the rest of the queue, the canonical form of the byte memories and of the
register tables.  Here: vision. -/

namespace Sys2Proof.Machine

variable {p : Part} {q : List Instr} {s : State}

theorem visRefused_sound (h : Sound p q s) (addr data : Nat) (rq : Requester) : Sound p q (visRefused s addr data rq) := by
  unfold visRefused
  with_reducible repeat' first
    | assumption | apply State.answer_sound | apply State.logEvent_sound

theorem State.setStream_sound (h : Sound p q s) (m : Nat) (v : VisStream) : Sound p q (State.setStream s m v) := by
  unfold State.setStream
  with_reducible repeat' first
    | assumption | intro _ | (dsimp -zeta only)

theorem State.onPic_sound (h : Sound p q s) (m slot : Nat) (k : VisPic → VisPic) : Sound p q (State.onPic s m slot k) := by
  unfold State.onPic
  with_reducible repeat' first
    | assumption | intro _ | (dsimp -zeta only) | apply ite_sound | apply State.setStream_sound

theorem streamSwitched_sound (h : Sound p q s) (m : Nat) (on : Bool) : Sound p q (streamSwitched s m on) := by
  unfold streamSwitched
  with_reducible repeat' first
    | assumption | intro _ | (dsimp -zeta only) | apply ite_sound | apply State.setStream_sound | apply State.wr_sound

theorem writeStreamCfg_sound (h : Sound p q s) (rq : Requester) (m : Nat) (data : Nat) :
    Sound p q (writeStreamCfg s rq m data) := by
  unfold writeStreamCfg
  with_reducible repeat' first
    | assumption | intro _
    | (extract_lets +onlyGivenNames x; first
        | (have := x.larderBad; clear this; subst x)
        | (refine (fun hx : Sound p q x => ?_) ?_; rotate_left; subst x; rotate_right; clear_value x)
        | (refine (fun hx : Sound p q x.1 => ?_) ?_; rotate_left; subst x; rotate_right; clear_value x)
        | clear_value x
        | subst x)
    | (dsimp -zeta only) | apply ite_sound | split | apply noteRefused_sound | apply visRefused_sound
    | apply State.answer_sound | apply streamSwitched_sound | apply State.wr_sound | apply writeFields_sound
    | (apply pair_sound; assumption)

theorem writeStreamSetup_sound (h : Sound p q s) (rq : Requester) (m addr data : Nat) (fs : List Fld) :
    Sound p q (writeStreamSetup s rq m addr data fs) := by
  unfold writeStreamSetup
  with_reducible repeat' first
    | assumption | intro _ | (dsimp -zeta only) | apply ite_sound | apply State.answer_sound | apply visRefused_sound
    | apply writeFields_sound

theorem writeVisCtrl_sound (h : Sound p q s) (rq : Requester) (data : Nat) : Sound p q (writeVisCtrl s rq data) := by
  unfold writeVisCtrl
  with_reducible repeat' first
    | assumption | apply ite_sound | apply State.answer_sound | apply State.wr_sound | apply visRefused_sound

theorem freeAuCrates_sound (h : Sound p q s) (ws : List (List Byte)) : Sound p q (freeAuCrates s ws) := by
  unfold freeAuCrates
  with_reducible repeat' first
    | assumption | intro _ | (dsimp -zeta only) | apply ite_sound | apply unitFree_sound | apply foldl_sound
    | apply foldl_pair_sound

theorem stopStream_sound (h : Sound p q s) (m reason : Nat) : Sound p q (stopStream s m reason) := by
  unfold stopStream
  with_reducible repeat' first
    | assumption | apply State.logEvent_sound | apply State.wr_sound

theorem noteConcealed_sound (h : Sound p q s) (m pts : Nat) : Sound p q (noteConcealed s m pts) := by
  unfold noteConcealed
  with_reducible repeat' first
    | assumption | apply State.bump_sound | apply State.logLimited_sound

theorem visGet_sound (h : Sound p q s) (rq : Requester) (a : Nat) (n : Nat) :
    Sound p q (visGet s rq a n).1 := by
  unfold visGet
  with_reducible repeat' first
    | assumption | intro _ | (dsimp -zeta only) | apply ite_sound | split | apply State.busRead_sound
    | apply State.useFresh_sound | (apply pair_sound; assumption)

theorem storeRows_sound (h : Sound p q s) (at_ n row : Nat) (data : List Byte) (k : Nat) :
    Sound p q (storeRows s at_ n row data k) := by
  induction k generalizing s at_ data with
  | zero => exact h
  | succ k ih => exact ih (State.busWrite_sound h _ _ _) _ _

theorem decodeAu_sound (h : Sound p q s) (m : Nat) (slot : Nat) (pts : Nat) (bad : Bool) (p1 : VisDecode) :
    Sound p q (decodeAu s m slot pts bad p1) := by
  unfold decodeAu
  with_reducible repeat' first
    | assumption | intro _
    | (extract_lets +onlyGivenNames x; first
        | (have := x.larderBad; clear this; subst x)
        | (refine (fun hx : Sound p q x => ?_) ?_; rotate_left; subst x; rotate_right; clear_value x)
        | (refine (fun hx : Sound p q x.1 => ?_) ?_; rotate_left; subst x; rotate_right; clear_value x)
        | clear_value x
        | subst x)
    | (dsimp -zeta only) | apply ite_sound | split | apply noteConcealed_sound | apply storeRows_sound
    | apply State.setStream_sound | (apply pair_sound; assumption)

theorem takeAu_sound (h : Sound p q s) (dec : Nat) (p1 : VisDecode) : Sound p q (takeAu s dec p1) := by
  unfold takeAu
  with_reducible repeat' first
    | assumption
    | (extract_lets +onlyGivenNames x; first
        | (have := x.larderBad; clear this; subst x)
        | (refine (fun hx : Sound p q x => ?_) ?_; rotate_left; subst x; rotate_right; clear_value x)
        | clear_value x
        | subst x)
    | exact (popPacket_sound h _ _) | intro _ | (dsimp -zeta only) | apply ite_sound | split | apply decodeAu_sound
    | apply freeAuCrates_sound | apply popPacket_sound | apply stopStream_sound | (apply pair_sound; assumption)

theorem outputFrame_sound (h : Sound p q s) (m : Nat) (slot : Nat) :
    Sound p q (outputFrame s m slot) := by
  unfold outputFrame
  with_reducible repeat' first
    | assumption | intro _
    | (extract_lets +onlyGivenNames x; first
        | (have := x.larderBad; clear this; subst x)
        | (refine (fun hx : Sound p q x => ?_) ?_; rotate_left; subst x; rotate_right; clear_value x)
        | (refine (fun hx : Sound p q x.1 => ?_) ?_; rotate_left; subst x; rotate_right; clear_value x)
        | clear_value x
        | subst x)
    | (dsimp -zeta only) | apply ite_sound | split | apply State.busWrite_sound | apply State.bump_sound
    | apply visGet_sound | apply State.setStream_sound | apply State.onPic_sound | (apply pair_sound; assumption)

theorem dropHold_sound (h : Sound p q s) (j : VisJob) : Sound p q (dropHold s j) := by
  unfold dropHold
  with_reducible repeat' first
    | assumption | intro _ | (dsimp -zeta only) | apply State.onPic_sound

theorem visEndJob_sound (h : Sound p q s) (j : VisJob) : Sound p q (visEndJob s j) := by
  unfold visEndJob
  with_reducible repeat' first
    | assumption | apply dropHold_sound

theorem completeJob_sound (h : Sound p q s) (j : VisJob) (status tiles word1 : Nat) :
    Sound p q (completeJob s j status tiles word1) := by
  unfold completeJob
  with_reducible repeat' first
    | assumption | apply ite_sound | apply State.bump_sound | apply pushPacket_sound | apply visEndJob_sound

theorem takeDesc_sound (h : Sound p q s) (n : Nat) : Sound p q (takeDesc s n) := by
  unfold takeDesc
  with_reducible repeat' first
    | assumption | split | apply State.wrPair_sound

theorem takeCoef_sound (h : Sound p q s) : Sound p q (takeCoef s) := by
  unfold takeCoef
  with_reducible repeat' first
    | assumption | split

theorem refuseDesc_sound (h : Sound p q s) (j : VisJob) (a off : Nat) : Sound p q (refuseDesc s j a off) := by
  unfold refuseDesc
  with_reducible repeat' first
    | assumption | apply State.logEvent_sound | apply State.useFresh_sound | apply completeJob_sound

theorem visStartJob_sound (h : Sound p q s) (j : VisJob) : Sound p q (visStartJob s j) := by
  have h1 := takeDesc_sound (takeCoef_sound h) j.ch
  unfold visStartJob
  generalize takeDesc (takeCoef s) j.ch = s1 at h1 ⊢
  extract_lets s2 a m open_
  have ho : ∀ t, Sound p q t → Sound p q (open_ t) := fun t ht => refuseDesc_sound (State.useFresh_sound ht) _ _ _
  have ha := State.busRead_sound h1 visCompositor a 1024
  split
  · exact ho _ h1
  · split
    · rename_i e
      exact ho _ (pair_sound e ha)
    · rename_i e
      exact ho _ (pair_sound e ha)
    · rename_i e
      have ht := pair_sound e ha
      split
      · exact refuseDesc_sound ht _ _ _
      · split
        · exact ho _ ht
        · exact ht

theorem readMask_sound (h : Sound p q s) (l : List Byte) :
    Sound p q (readMask s l).1 := by
  unfold readMask
  with_reducible repeat' first
    | assumption | intro _
    | (extract_lets +onlyGivenNames x; first
        | (have := x.larderBad; clear this; subst x)
        | (refine (fun hx : Sound p q x => ?_) ?_; rotate_left; subst x; rotate_right; clear_value x)
        | (refine (fun hx : Sound p q x.1 => ?_) ?_; rotate_left; subst x; rotate_right; clear_value x)
        | clear_value x
        | subst x)
    | (dsimp -zeta only) | apply ite_sound | split | apply visGet_sound | (apply pair_sound; assumption)

theorem readMasks_sound (h : Sound p q s) (d : List Byte) : Sound p q (readMasks s d).1 := by
  unfold readMasks
  with_reducible repeat' first
    | assumption | intro _ | (dsimp -zeta only) | apply readMask_sound | apply foldl_sound | apply foldl_pair_sound

theorem allocOutput_sound (h : Sound p q s) (k : Nat) : Sound p q (allocOutput s k).1 := by
  unfold allocOutput
  with_reducible repeat' first
    | assumption | intro _ | (dsimp -zeta only) | apply ite_sound | split | apply allocCrate_sound | apply releaseCrate_sound
    | apply foldl_sound | apply foldl_pair_sound

theorem visPrepare_sound (h : Sound p q s) (j : VisJob) : Sound p q (visPrepare s j) := by
  unfold visPrepare
  dsimp only
  split
  · split
    · exact completeJob_sound (State.logLimited_sound h _ _ _ _ _ _) _ _ _ _
    · exact h
  · have ha := allocOutput_sound h (cratesNeeded j.desc)
    split
    · rename_i e
      exact completeJob_sound (State.logLimited_sound (pair_sound e ha) _ _ _ _ _ _) _ _ _ _
    · rename_i e
      exact (pair_sound e ha : Sound p q _)

theorem visWrite_sound (h : Sound p q s) (a : Nat) (bs : List Byte) : Sound p q (visWrite s a bs) := by
  unfold visWrite
  with_reducible repeat' first
    | assumption | apply State.busWrite_sound

theorem endPass_sound (h : Sound p q s) (j : VisJob) :
    Sound p q (endPass s j) := by
  unfold endPass
  with_reducible repeat' first
    | assumption | intro _
    | (extract_lets +onlyGivenNames x; first
        | (have := x.larderBad; clear this; subst x)
        | (refine (fun hx : Sound p q x => ?_) ?_; rotate_left; subst x; rotate_right; clear_value x)
        | (refine (fun hx : Sound p q x.1 => ?_) ?_; rotate_left; subst x; rotate_right; clear_value x)
        | clear_value x
        | subst x)
    | (dsimp -zeta only) | apply ite_sound | split | apply readMasks_sound | apply visGet_sound | apply visWrite_sound
    | apply completeJob_sound | apply State.logEvent_sound | apply visPrepare_sound | (apply pair_sound; assumption)

theorem tilesToWrite_sound (h : Sound p q s) (j : VisJob) (b : Nat) :
    Sound p q (tilesToWrite s j b).1 := by
  unfold tilesToWrite
  with_reducible repeat' first
    | assumption | intro _
    | (extract_lets +onlyGivenNames x; first
        | (have := x.larderBad; clear this; subst x)
        | (refine (fun hx : Sound p q x => ?_) ?_; rotate_left; subst x; rotate_right; clear_value x)
        | (refine (fun hx : Sound p q x.1 => ?_) ?_; rotate_left; subst x; rotate_right; clear_value x)
        | clear_value x
        | subst x)
    | (dsimp -zeta only) | apply ite_sound | split | apply visGet_sound | (apply pair_sound; assumption)

theorem noteTiles_sound (h : Sound p q s) (j : VisJob) (b : Nat) (ts : List Nat) :
    Sound p q (noteTiles s j b ts) := by
  unfold noteTiles
  with_reducible repeat' first
    | assumption | intro _
    | (extract_lets +onlyGivenNames x; first
        | (have := x.larderBad; clear this; subst x)
        | (refine (fun hx : Sound p q x => ?_) ?_; rotate_left; subst x; rotate_right; clear_value x)
        | (refine (fun hx : Sound p q x.1 => ?_) ?_; rotate_left; subst x; rotate_right; clear_value x)
        | clear_value x
        | subst x)
    | (dsimp -zeta only) | apply ite_sound | split | apply visWrite_sound | apply foldl_sound | apply foldl_pair_sound
    | (apply pair_sound; assumption)

theorem writeDirty_sound (h : Sound p q s) (j : VisJob) (ts : List Nat) :
    Sound p q (writeDirty s j ts) := by
  unfold writeDirty
  with_reducible repeat' first
    | assumption | intro _
    | (extract_lets +onlyGivenNames x; first
        | (have := x.larderBad; clear this; subst x)
        | (refine (fun hx : Sound p q x => ?_) ?_; rotate_left; subst x; rotate_right; clear_value x)
        | (refine (fun hx : Sound p q x.1 => ?_) ?_; rotate_left; subst x; rotate_right; clear_value x)
        | clear_value x
        | subst x)
    | (dsimp -zeta only) | apply ite_sound | split | apply visGet_sound | apply visWrite_sound | apply foldl_sound
    | apply foldl_pair_sound | (apply pair_sound; assumption)

theorem releaseBuffer_sound (h : Sound p q s) (j : VisJob) (out : List Byte) :
    Sound p q (releaseBuffer s j out) := by
  unfold releaseBuffer
  with_reducible repeat' first
    | assumption | intro _
    | (extract_lets +onlyGivenNames x; first
        | (have := x.larderBad; clear this; subst x)
        | (refine (fun hx : Sound p q x => ?_) ?_; rotate_left; subst x; rotate_right; clear_value x)
        | (refine (fun hx : Sound p q x.1 => ?_) ?_; rotate_left; subst x; rotate_right; clear_value x)
        | clear_value x
        | subst x)
    | (dsimp -zeta only) | apply ite_sound | apply tilesToWrite_sound | apply visWrite_sound | apply writeDirty_sound
    | apply noteTiles_sound | apply completeJob_sound | apply foldl_sound | apply foldl_pair_sound
    | (apply pair_sound; assumption)

theorem releaseCrates_sound (h : Sound p q s) (j : VisJob) (out : List Byte) :
    Sound p q (releaseCrates s j out) := by
  unfold releaseCrates
  with_reducible repeat' first
    | assumption | intro _
    | (extract_lets +onlyGivenNames x; first
        | (have := x.larderBad; clear this; subst x)
        | (refine (fun hx : Sound p q x => ?_) ?_; rotate_left; subst x; rotate_right; clear_value x)
        | (refine (fun hx : Sound p q x.1 => ?_) ?_; rotate_left; subst x; rotate_right; clear_value x)
        | clear_value x
        | subst x)
    | (dsimp -zeta only) | apply ite_sound | apply visWrite_sound | apply writeDirty_sound | apply unitGive_sound
    | apply completeJob_sound | apply foldl_sound | apply foldl_pair_sound | (apply pair_sound; assumption)

theorem visRelease_sound (h : Sound p q s) (j : VisJob) :
    Sound p q (visRelease s j) := by
  unfold visRelease
  with_reducible repeat' first
    | assumption | intro _
    | (extract_lets +onlyGivenNames x; first
        | (have := x.larderBad; clear this; subst x)
        | (refine (fun hx : Sound p q x => ?_) ?_; rotate_left; subst x; rotate_right; clear_value x)
        | (refine (fun hx : Sound p q x.1 => ?_) ?_; rotate_left; subst x; rotate_right; clear_value x)
        | clear_value x
        | subst x)
    | (dsimp -zeta only) | apply ite_sound | split | apply visGet_sound | apply releaseBuffer_sound
    | apply releaseCrates_sound | (apply pair_sound; assumption)

theorem writeChCommit_sound (h : Sound p q s) (n data : Nat) : Sound p q (writeChCommit s n data) := by
  unfold writeChCommit
  with_reducible repeat' first
    | assumption | apply ite_sound | apply State.answer_sound

theorem writeCoefCommit_sound (h : Sound p q s) (data : Nat) : Sound p q (writeCoefCommit s data) := by
  unfold writeCoefCommit
  with_reducible repeat' first
    | assumption | apply ite_sound | apply State.answer_sound

theorem writeCoef_sound (h : Sound p q s) (off data : Nat) : Sound p q (writeCoef s off data) := by
  unfold writeCoef
  with_reducible repeat' first
    | assumption | apply ite_sound | apply State.answer_sound

theorem writeChReturn_sound (h : Sound p q s) (n data : Nat) : Sound p q (writeChReturn s n data) := by
  unfold writeChReturn
  with_reducible repeat' first
    | assumption | apply State.answer_sound

theorem writeVisChCfg_sound (h : Sound p q s) (rq : Requester) (n data : Nat) : Sound p q (writeVisChCfg s rq n data) := by
  unfold writeVisChCfg
  with_reducible repeat' first
    | assumption | intro _ | (dsimp -zeta only) | apply ite_sound | apply dropHold_sound | apply stdWrite_sound
    | apply foldl_sound | apply foldl_pair_sound

theorem visFenced_sound (h : Sound p q s) : Sound p q (visFenced s) := by
  unfold visFenced
  with_reducible repeat' first
    | assumption | apply ite_sound | split | apply visEndJob_sound

theorem visLost_sound (h : Sound p q s) : Sound p q (visLost s) := by
  unfold visLost
  with_reducible repeat' first
    | assumption | apply State.resetWindow_sound

theorem atJob_sound (h : Sound p q s) (phase : Nat) (k : State → VisJob → State) (hk : ∀ s x0, Sound p q s → Sound p q (k s x0)) :
    Sound p q (atJob s phase k) := by
  unfold atJob
  with_reducible repeat' first
    | assumption | apply hk | apply ite_sound | split

theorem execStreamEnable_sound (h : Sound p q s) (rq : Requester) (stream data : Nat) :
    Keeps p q (execStreamEnable rq stream data s) := by
  unfold execStreamEnable
  with_reducible repeat' first
    | assumption | intro _ | (dsimp -zeta only) | apply atRegister_sound | apply whilePowered_sound | apply writeStreamCfg_sound

theorem execAccessUnit_sound (h : Sound p q s) (dec : Nat) (pic : VisDecode) : Keeps p q (execAccessUnit dec pic s) := by
  unfold execAccessUnit
  with_reducible repeat' first
    | assumption | intro _ | (dsimp -zeta only) | apply ite_sound | apply takeAu_sound | apply whilePowered_sound

theorem execFrameOutput_sound (h : Sound p q s) (stream slot : Nat) : Keeps p q (execFrameOutput stream slot s) := by
  unfold execFrameOutput
  with_reducible repeat' first
    | assumption | intro _ | (dsimp -zeta only) | apply ite_sound | apply outputFrame_sound | apply whilePowered_sound

theorem execCompositionJobStart_sound (h : Sound p q s) : Keeps p q (execCompositionJobStart s) := by
  unfold execCompositionJobStart
  with_reducible repeat' first
    | assumption | intro _ | (dsimp -zeta only) | apply ite_sound | apply atJob_sound | apply visStartJob_sound
    | apply whilePowered_sound

theorem execCompositionPassEnd_sound (h : Sound p q s) : Keeps p q (execCompositionPassEnd s) := by
  unfold execCompositionPassEnd
  with_reducible repeat' first
    | assumption | intro _ | (dsimp -zeta only) | apply ite_sound | apply atJob_sound | apply endPass_sound
    | apply whilePowered_sound

theorem execCompositionRelease_sound (h : Sound p q s) : Keeps p q (execCompositionRelease s) := by
  unfold execCompositionRelease
  with_reducible repeat' first
    | assumption | intro _ | (dsimp -zeta only) | apply atJob_sound | apply visRelease_sound | apply whilePowered_sound

theorem execVisChCommit_sound (h : Sound p q s) (rq : Requester) (ch data : Nat) :
    Keeps p q (execVisChCommit rq ch data s) := by
  unfold execVisChCommit
  with_reducible repeat' first
    | assumption | intro _ | (dsimp -zeta only) | apply atRegister_sound | apply whilePowered_sound | apply writeChCommit_sound

theorem execVisCoefCommit_sound (h : Sound p q s) (rq : Requester) (data : Nat) : Keeps p q (execVisCoefCommit rq data s) := by
  unfold execVisCoefCommit
  with_reducible repeat' first
    | assumption | intro _ | (dsimp -zeta only) | apply atRegister_sound | apply whilePowered_sound
    | apply writeCoefCommit_sound

theorem execVisChReturn_sound (h : Sound p q s) (rq : Requester) (ch data : Nat) :
    Keeps p q (execVisChReturn rq ch data s) := by
  unfold execVisChReturn
  with_reducible repeat' first
    | assumption | intro _ | (dsimp -zeta only) | apply atRegister_sound | apply whilePowered_sound | apply writeChReturn_sound

theorem execVisEnable_sound (h : Sound p q s) (rq : Requester) (data : Nat) : Keeps p q (execVisEnable rq data s) := by
  unfold execVisEnable
  with_reducible repeat' first
    | assumption | intro _ | (dsimp -zeta only) | apply atRegister_sound | apply whilePowered_sound | apply writeVisCtrl_sound

end Sys2Proof.Machine
end

