-- ==== Sys2Proof/Laws/SoundPlant.lean ====
section
/-! SUPPORT. What no operation breaks: the part, the rest of the queue, the canonical form of the byte memories and of the
register tables.  Here: plant and services. -/

namespace Sys2Proof.Machine

variable {p : Part} {q : List Instr} {s : State}

theorem celRefused_sound (h : Sound p q s) (addr data : Nat) (rq : Requester) : Sound p q (celRefused s addr data rq) := by
  unfold celRefused
  with_reducible repeat' first
    | assumption | apply State.answer_sound | apply State.logEvent_sound

theorem State.setPwm_sound (h : Sound p q s) (c : Nat) (p1 : Pwm) : Sound p q (State.setPwm s c p1) := by
  unfold State.setPwm
  with_reducible repeat' first
    | assumption

theorem writePin_sound (h : Sound p q s) (rq : Requester) (i data : Nat) : Sound p q (writePin s rq i data) := by
  unfold writePin
  with_reducible repeat' first
    | assumption | intro _ | (dsimp -zeta only) | apply ite_sound | apply State.answer_sound | apply State.busErr_sound
    | apply State.logEvent_sound | apply State.wr_sound | apply writeField_sound | apply foldl_sound | apply foldl_pair_sound

theorem gpioWrite_sound (h : Sound p q s) (rq : Option Requester) (b data : Nat) : Sound p q (gpioWrite s rq b data) := by
  unfold gpioWrite
  with_reducible repeat' first
    | assumption | intro _ | (dsimp -zeta only) | apply ite_sound | apply State.wr_sound | apply foldl_sound
    | apply foldl_pair_sound

theorem applyPinWord_sound (h : Sound p q s) (q1 w : Nat) : Sound p q (applyPinWord s q1 w) := by
  unfold applyPinWord
  with_reducible repeat' first
    | assumption | apply ite_sound | apply State.bump_sound | apply State.logLimited_sound | apply gpioWrite_sound

theorem popPinWord_sound (h : Sound p q s) : Sound p q (popPinWord s) := by
  unfold popPinWord
  with_reducible repeat' first
    | assumption
    | (extract_lets +onlyGivenNames x; first
        | (have := x.larderBad; clear this; subst x)
        | (refine (fun hx : Sound p q x => ?_) ?_; rotate_left; subst x; rotate_right; clear_value x)
        | clear_value x
        | subst x)
    | exact (popSlot_sound h _) | intro _ | (dsimp -zeta only) | apply ite_sound | split | apply applyPinWord_sound
    | apply popSlot_sound | (apply pair_sound; assumption)

theorem setBattery_sound (h : Sound p q s) (on : Bool) : Sound p q (setBattery s on) := by
  unfold setBattery
  with_reducible repeat' first
    | assumption | apply ite_sound | apply State.logEvent_sound | apply State.wr_sound

theorem reportMains_sound (h : Sound p q s) (lost : Bool) : Sound p q (reportMains s lost) := by
  unfold reportMains
  with_reducible repeat' first
    | assumption | apply ite_sound | apply setBattery_sound

theorem mainsSourceChosen_sound (h : Sound p q s) : Sound p q (mainsSourceChosen s) := by
  unfold mainsSourceChosen
  with_reducible repeat' first
    | assumption | apply ite_sound | split | apply reportMains_sound | apply setBattery_sound

theorem hitRaised_sound (h : Sound p q s) (m vec : Nat) : Sound p q (hitRaised s m vec) := by
  unfold hitRaised
  with_reducible repeat' first
    | assumption | apply ite_sound | apply pushPacket_sound | apply wake_sound

theorem matcherHit_sound (h : Sound p q s) (m : Nat) (vec : Nat) :
    Sound p q (matcherHit s m vec) := by
  unfold matcherHit
  with_reducible repeat' first
    | assumption | intro _
    | (extract_lets +onlyGivenNames x; first
        | (have := x.larderBad; clear this; subst x)
        | (refine (fun hx : Sound p q x => ?_) ?_; rotate_left; subst x; rotate_right; clear_value x)
        | (refine (fun hx : Sound p q x.1 => ?_) ?_; rotate_left; subst x; rotate_right; clear_value x)
        | clear_value x
        | subst x)
    | (dsimp -zeta only) | apply ite_sound | split | apply State.wr_sound | apply hitRaised_sound | apply reportMains_sound
    | (apply pair_sound; assumption)

theorem matcherClear_sound (h : Sound p q s) (m vec : Nat) : Sound p q (matcherClear s m vec) := by
  unfold matcherClear
  with_reducible repeat' first
    | assumption | apply ite_sound | split | apply State.wr_sound | apply reportMains_sound

theorem writeMatcherCfg_sound (h : Sound p q s) (rq : Requester) (m data : Nat) : Sound p q (writeMatcherCfg s rq m data) := by
  unfold writeMatcherCfg
  with_reducible repeat' first
    | assumption | apply ite_sound | apply State.wr_sound | apply stdWrite_sound

theorem noteBattery_sound (h : Sound p q s) (c code : Nat) : Sound p q (noteBattery s c code) := by
  unfold noteBattery
  with_reducible repeat' first
    | assumption | apply ite_sound

theorem noteTemperature_sound (h : Sound p q s) (c code : Nat) : Sound p q (noteTemperature s c code) := by
  unfold noteTemperature
  with_reducible repeat' first
    | assumption | apply ite_sound | split | apply State.wr_sound

theorem adcConverts_sound (h : Sound p q s) (c : Nat) (uv : Int) : Sound p q (adcConverts s c uv) := by
  unfold adcConverts
  with_reducible repeat' first
    | assumption | intro _ | (dsimp -zeta only) | apply ite_sound | apply State.wr_sound | apply noteBattery_sound
    | apply noteTemperature_sound

theorem tachEdge_sound (h : Sound p q s) (t : Nat) : Sound p q (tachEdge s t) := by
  unfold tachEdge
  with_reducible repeat' first
    | assumption | apply ite_sound | split | apply State.wr_sound

theorem tachTimeout_sound (h : Sound p q s) (t : Nat) : Sound p q (tachTimeout s t) := by
  unfold tachTimeout
  with_reducible repeat' first
    | assumption | apply ite_sound | split | apply State.wr_sound | apply tachEdge_sound

theorem windowExit_sound (h : Sound p q s) (k : Nat) (uv : Int) : Sound p q (windowExit s k uv) := by
  unfold windowExit
  with_reducible repeat' first
    | assumption | apply ite_sound | apply State.logEvent_sound | apply State.orBits_sound | apply State.wr_sound
    | apply reportMains_sound

theorem windowReturn_sound (h : Sound p q s) (k : Nat) (uv : Int) : Sound p q (windowReturn s k uv) := by
  unfold windowReturn
  with_reducible repeat' first
    | assumption | apply ite_sound | apply State.wr_sound | apply reportMains_sound

theorem writeTripStat_sound (h : Sound p q s) (rq : Requester) (data : Nat) : Sound p q (writeTripStat s rq data) := by
  unfold writeTripStat
  with_reducible repeat' first
    | assumption | intro _ | (dsimp -zeta only) | apply ite_sound | apply State.answer_sound | apply State.clearBits_sound
    | apply State.logEvent_sound | apply State.setPwm_sound | apply foldl_sound | apply foldl_pair_sound

theorem writeThreshold_sound (h : Sound p q s) (rq : Requester) (k data : Nat) : Sound p q (writeThreshold s rq k data) := by
  unfold writeThreshold
  with_reducible repeat' first
    | assumption | apply ite_sound | apply celRefused_sound | apply stdWrite_sound

theorem pwmTake_sound (h : Sound p q s) (c : Nat) : Sound p q (pwmTake s c) := by
  unfold pwmTake
  with_reducible repeat' first
    | assumption | split | apply State.setPwm_sound | apply State.wr_sound

theorem pwmCommit_sound (h : Sound p q s) (c : Nat) : Sound p q (pwmCommit s c) := by
  unfold pwmCommit
  with_reducible repeat' first
    | assumption | apply ite_sound | apply State.setPwm_sound | apply pwmTake_sound

theorem writePwmCommit_sound (h : Sound p q s) (data : Nat) : Sound p q (writePwmCommit s data) := by
  unfold writePwmCommit
  with_reducible repeat' first
    | assumption
    | (extract_lets +onlyGivenNames x; first
        | (have := x.larderBad; clear this; subst x)
        | (refine (fun hx : Sound p q x => ?_) ?_; rotate_left; subst x; rotate_right; clear_value x)
        | clear_value x
        | subst x)
    | intro _ | (dsimp -zeta only) | apply State.answer_sound | apply pwmCommit_sound | apply foldl_sound
    | apply foldl_pair_sound | (apply pair_sound; assumption)

theorem pwmPeriodStart_sound (h : Sound p q s) (c : Nat) : Sound p q (pwmPeriodStart s c) := by
  unfold pwmPeriodStart
  with_reducible repeat' first
    | assumption | apply ite_sound | apply State.setPwm_sound | apply pwmTake_sound

theorem writePwmCfg_sound (h : Sound p q s) (rq : Requester) (c data : Nat) : Sound p q (writePwmCfg s rq c data) := by
  unfold writePwmCfg
  with_reducible repeat' first
    | assumption | apply ite_sound | apply State.setPwm_sound | apply pwmTake_sound | apply stdWrite_sound

theorem writeDuty_sound (h : Sound p q s) (rq : Requester) (c data : Nat) : Sound p q (writeDuty s rq c data) := by
  unfold writeDuty
  with_reducible repeat' first
    | assumption | apply ite_sound | apply celRefused_sound | apply stdWrite_sound

theorem State.setPle_sound (h : Sound p q s) (l : Nat) (p1 : Ple) : Sound p q (State.setPle s l p1) := by
  unfold State.setPle
  with_reducible repeat' first
    | assumption

theorem pleEnabled_sound (h : Sound p q s) (l : Nat) : Sound p q (pleEnabled s l) := by
  unfold pleEnabled
  with_reducible repeat' first
    | assumption | apply ite_sound | apply State.setPle_sound

theorem writePleCfg_sound (h : Sound p q s) (rq : Requester) (l : Nat) (data : Nat) :
    Sound p q (writePleCfg s rq l data) := by
  unfold writePleCfg
  with_reducible repeat' first
    | assumption | intro _
    | (extract_lets +onlyGivenNames x; first
        | (have := x.larderBad; clear this; subst x)
        | (refine (fun hx : Sound p q x => ?_) ?_; rotate_left; subst x; rotate_right; clear_value x)
        | (refine (fun hx : Sound p q x.1 => ?_) ?_; rotate_left; subst x; rotate_right; clear_value x)
        | clear_value x
        | subst x)
    | (dsimp -zeta only) | apply ite_sound | split | apply noteRefused_sound | apply takeFields_sound
    | apply celRefused_sound | apply State.answer_sound | apply writeFields_sound | apply pleEnabled_sound
    | (apply pair_sound; assumption)

theorem writePleLim_sound (h : Sound p q s) (rq : Requester) (l data : Nat) : Sound p q (writePleLim s rq l data) := by
  unfold writePleLim
  with_reducible repeat' first
    | assumption | apply ite_sound | apply celRefused_sound | apply stdWrite_sound

theorem pleDrive_sound (h : Sound p q s) (l out : Nat) : Sound p q (pleDrive s l out) := by
  unfold pleDrive
  with_reducible repeat' first
    | assumption | apply ite_sound | apply State.wrShadow_sound | apply pwmCommit_sound

theorem pleSample_sound (h : Sound p q s) (l : Nat) : Sound p q (pleSample s l) := by
  unfold pleSample
  with_reducible repeat' first
    | assumption | apply ite_sound | apply State.logEvent_sound | apply State.setPle_sound | apply State.wr_sound
    | apply pleDrive_sound

theorem heaterOn_sound (h : Sound p q s) (duty : Nat) : Sound p q (heaterOn s duty) := by
  unfold heaterOn
  with_reducible repeat' first
    | assumption | apply ite_sound | apply State.setPwm_sound | apply State.wr_sound | apply State.wrShadow_sound
    | apply pwmCommit_sound

theorem heaterOff_sound (h : Sound p q s) :
    Sound p q (heaterOff s) := by
  unfold heaterOff
  with_reducible repeat' first
    | assumption | intro _ | (dsimp -zeta only) | apply ite_sound | apply pwmTake_sound | apply State.wr_sound
    | (apply pair_sound; assumption)

theorem execPinCfgWrite_sound (h : Sound p q s) (rq : Requester) (pin data : Nat) :
    Keeps p q (execPinCfgWrite rq pin data s) := by
  unfold execPinCfgWrite
  with_reducible repeat' first
    | assumption | intro _ | (dsimp -zeta only) | apply atRegister_sound | apply whilePowered_sound | apply writePin_sound

theorem execGpioOutWrite_sound (h : Sound p q s) (rq : Requester) (bank data : Nat) :
    Keeps p q (execGpioOutWrite rq bank data s) := by
  unfold execGpioOutWrite
  with_reducible repeat' first
    | assumption | intro _ | (dsimp -zeta only) | apply State.answer_sound | apply atRegister_sound | apply gpioWrite_sound
    | apply whilePowered_sound

theorem execPinqWord_sound (h : Sound p q s) : Keeps p q (execPinqWord s) := by
  unfold execPinqWord
  with_reducible repeat' first
    | assumption | apply popPinWord_sound | apply whilePowered_sound

theorem execMatcherHit_sound (h : Sound p q s) (m : Nat) (levels : BitVec 16) :
    Keeps p q (execMatcherHit m levels s) := by
  unfold execMatcherHit
  with_reducible repeat' first
    | assumption | intro _ | (dsimp -zeta only) | apply ite_sound | split | apply matcherHit_sound
    | apply whilePowered_sound | (apply pair_sound; assumption)

theorem execMatcherOutClear_sound (h : Sound p q s) (m : Nat) (vec : BitVec 16) : Keeps p q (execMatcherOutClear m vec s) := by
  unfold execMatcherOutClear
  with_reducible repeat' first
    | assumption | intro _ | (dsimp -zeta only) | split | apply matcherClear_sound | apply whilePowered_sound

theorem execAdcConversion_sound (h : Sound p q s) (ch : Nat) (uv : Int) : Keeps p q (execAdcConversion ch uv s) := by
  unfold execAdcConversion
  with_reducible repeat' first
    | assumption | intro _ | (dsimp -zeta only) | apply adcConverts_sound | apply whilePowered_sound

theorem execTachEdge_sound (h : Sound p q s) (t : Nat) : Keeps p q (execTachEdge t s) := by
  unfold execTachEdge
  with_reducible repeat' first
    | assumption | intro _ | (dsimp -zeta only) | apply tachEdge_sound | apply whilePowered_sound

theorem execTachTimeout_sound (h : Sound p q s) (t : Nat) : Keeps p q (execTachTimeout t s) := by
  unfold execTachTimeout
  with_reducible repeat' first
    | assumption | intro _ | (dsimp -zeta only) | apply tachTimeout_sound | apply whilePowered_sound

theorem execWindowExit_sound (h : Sound p q s) (k : Nat) (uv : Int) : Keeps p q (execWindowExit k uv s) := by
  unfold execWindowExit
  with_reducible repeat' first
    | assumption | intro _ | (dsimp -zeta only) | apply whilePowered_sound | apply windowExit_sound

theorem execWindowReturn_sound (h : Sound p q s) (k : Nat) (uv : Int) : Keeps p q (execWindowReturn k uv s) := by
  unfold execWindowReturn
  with_reducible repeat' first
    | assumption | intro _ | (dsimp -zeta only) | apply whilePowered_sound | apply windowReturn_sound

theorem execTripLatchClear_sound (h : Sound p q s) (rq : Requester) (data : Nat) :
    Keeps p q (execTripLatchClear rq data s) := by
  unfold execTripLatchClear
  with_reducible repeat' first
    | assumption | intro _ | (dsimp -zeta only) | apply atRegister_sound | apply whilePowered_sound | apply writeTripStat_sound

theorem execPwmCommit_sound (h : Sound p q s) (rq : Requester) (data : Nat) : Keeps p q (execPwmCommit rq data s) := by
  unfold execPwmCommit
  with_reducible repeat' first
    | assumption | intro _ | (dsimp -zeta only) | apply atRegister_sound | apply whilePowered_sound | apply writePwmCommit_sound

theorem execPwmPeriodStart_sound (h : Sound p q s) (ch : Nat) : Keeps p q (execPwmPeriodStart ch s) := by
  unfold execPwmPeriodStart
  with_reducible repeat' first
    | assumption | intro _ | (dsimp -zeta only) | apply pwmPeriodStart_sound | apply whilePowered_sound

theorem execPleSample_sound (h : Sound p q s) (l : Nat) : Keeps p q (execPleSample l s) := by
  unfold execPleSample
  with_reducible repeat' first
    | assumption | intro _ | (dsimp -zeta only) | apply ite_sound | apply pleSample_sound | apply whilePowered_sound

theorem State.setCan_sound (h : Sound p q s) (n : Nat) (c : CanCtl) : Sound p q (State.setCan s n c) := by
  unfold State.setCan
  with_reducible repeat' first
    | assumption

theorem canReceive_sound (h : Sound p q s) (n : Nat) (fr : CanFrame) (sof : DWord) : Sound p q (canReceive s n fr sof) := by
  unfold canReceive
  with_reducible repeat' first
    | assumption | apply ite_sound | split | apply State.bump_sound | apply State.logLimited_sound | apply State.setCan_sound
    | apply State.wr_sound | apply wake_sound

theorem canSent_sound (h : Sound p q s) (n slot started : Nat) : Sound p q (canSent s n slot started) := by
  unfold canSent
  with_reducible repeat' first
    | assumption | apply ite_sound | apply State.clearBits_sound | apply State.orBits_sound | apply State.setCan_sound

theorem canPop_sound (h : Sound p q s) (n : Nat) : Sound p q (canPop s n) := by
  unfold canPop
  with_reducible repeat' first
    | assumption | apply ite_sound | apply State.wr_sound

theorem canRecover_sound (h : Sound p q s) (n : Nat) : Sound p q (canRecover s n) := by
  unfold canRecover
  with_reducible repeat' first
    | assumption | apply State.wr_sound

theorem writeCanCtrl_sound (h : Sound p q s) (rq : Requester) (n data : Nat) : Sound p q (writeCanCtrl s rq n data) := by
  unfold writeCanCtrl
  with_reducible repeat' first
    | assumption | apply ite_sound | apply canRecover_sound | apply stdWrite_sound

theorem writeCanTiming_sound (h : Sound p q s) (rq : Requester) (n addr data : Nat) :
    Sound p q (writeCanTiming s rq n addr data) := by
  unfold writeCanTiming
  with_reducible repeat' first
    | assumption | apply ite_sound | apply celRefused_sound | apply stdWrite_sound

theorem writeCanSlot_sound (h : Sound p q s) (rq : Requester) (n o addr data : Nat) :
    Sound p q (writeCanSlot s rq n o addr data) := by
  unfold writeCanSlot
  with_reducible repeat' first
    | assumption | apply ite_sound | apply State.answer_sound | apply State.setCan_sound | apply celRefused_sound

theorem State.setUart_sound (h : Sound p q s) (u : Nat) (v : Uart) : Sound p q (State.setUart s u v) := by
  unfold State.setUart
  with_reducible repeat' first
    | assumption

theorem uartStart_sound (h : Sound p q s) (u : Nat) : Sound p q (uartStart s u) := by
  unfold uartStart
  with_reducible repeat' first
    | assumption | apply ite_sound | apply State.setUart_sound

theorem writeTxd_sound (h : Sound p q s) (rq : Requester) (u data : Nat) : Sound p q (writeTxd s rq u data) := by
  unfold writeTxd
  with_reducible repeat' first
    | assumption | apply ite_sound | apply State.answer_sound | apply State.setUart_sound | apply celRefused_sound
    | apply uartStart_sound

theorem uartSent_sound (h : Sound p q s) (u : Nat) : Sound p q (uartSent s u) := by
  unfold uartSent
  with_reducible repeat' first
    | assumption | intro _ | (dsimp -zeta only) | apply ite_sound | apply State.setUart_sound | apply uartStart_sound

theorem uartReceive_sound (h : Sound p q s) (u : Nat) (b : Byte) : Sound p q (uartReceive s u b) := by
  unfold uartReceive
  with_reducible repeat' first
    | assumption | apply ite_sound | apply State.bump_sound | apply State.logLimited_sound | apply State.setUart_sound

theorem uartFrameEnd_sound (h : Sound p q s) (u : Nat) : Sound p q (uartFrameEnd s u) := by
  unfold uartFrameEnd
  with_reducible repeat' first
    | assumption | apply ite_sound | split | apply State.setUart_sound

theorem readRxd_sound (h : Sound p q s) (u : Nat) : Sound p q (readRxd s u).1 := by
  unfold readRxd
  with_reducible repeat' first
    | assumption
    | (extract_lets +onlyGivenNames x; first | (refine (fun hx : Sound p q x => ?_) ?_; rotate_left; subst x; rotate_right; clear_value x) | clear_value x)
    | split | apply State.setUart_sound | (apply pair_sound; assumption)

theorem writeUartCfg_sound (h : Sound p q s) (rq : Requester) (u data : Nat) : Sound p q (writeUartCfg s rq u data) := by
  unfold writeUartCfg
  with_reducible repeat' first
    | assumption | apply stdWrite_sound | apply uartStart_sound

theorem setData_sound (h : Sound p q s) (fld : Nat → Fld) (bs : List Byte) : Sound p q (setData s fld bs) := by
  unfold setData
  with_reducible repeat' first
    | assumption | intro _ | (dsimp -zeta only) | apply State.wr_sound | apply foldl_sound | apply foldl_pair_sound

theorem writeI2cCmd_sound (h : Sound p q s) (rq : Requester) (n data : Nat) : Sound p q (writeI2cCmd s rq n data) := by
  unfold writeI2cCmd
  with_reducible repeat' first
    | assumption | intro _ | (dsimp -zeta only) | apply ite_sound | apply State.answer_sound | apply State.wr_sound
    | apply celRefused_sound | apply foldl_sound | apply foldl_pair_sound

theorem i2cDone_sound (h : Sound p q s) (n done : Nat) (nack arb : Bool) (data : List Byte) :
    Sound p q (i2cDone s n done nack arb data) := by
  unfold i2cDone
  with_reducible repeat' first
    | assumption | apply ite_sound | apply State.wr_sound | apply setData_sound

theorem i2cTimeout_sound (h : Sound p q s) (n done : Nat) : Sound p q (i2cTimeout s n done) := by
  unfold i2cTimeout
  with_reducible repeat' first
    | assumption | apply ite_sound | apply State.logEvent_sound | apply State.wr_sound

theorem writeSpiCmd_sound (h : Sound p q s) (rq : Requester) (n data : Nat) : Sound p q (writeSpiCmd s rq n data) := by
  unfold writeSpiCmd
  with_reducible repeat' first
    | assumption | apply ite_sound | apply State.answer_sound | apply State.wr_sound | apply celRefused_sound

theorem spiDone_sound (h : Sound p q s) (n : Nat) (data : List Byte) : Sound p q (spiDone s n data) := by
  unfold spiDone
  with_reducible repeat' first
    | assumption | apply ite_sound | apply State.wr_sound | apply setData_sound

theorem writeCan_sound (h : Sound p q s) (rq : Requester) (n o addr data : Nat) : Sound p q (writeCan s rq n o addr data) := by
  unfold writeCan
  with_reducible repeat' first
    | assumption | apply ite_sound | apply State.answer_sound | apply State.orBits_sound | apply canPop_sound
    | apply stdWrite_sound | apply writeCanCtrl_sound | apply writeCanSlot_sound | apply writeCanTiming_sound

theorem writePlant_sound (h : Sound p q s) (rq : Requester) (o data : Nat) : Sound p q (writePlant s rq o data) := by
  unfold writePlant
  with_reducible repeat' first
    | assumption | apply ite_sound | apply State.answer_sound | apply gpioWrite_sound | apply stdWrite_sound
    | apply writeCan_sound | apply writeDuty_sound | apply writeI2cCmd_sound | apply writeMatcherCfg_sound
    | apply writePin_sound | apply writePleCfg_sound | apply writePleLim_sound | apply writePwmCfg_sound
    | apply writePwmCommit_sound | apply writeSpiCmd_sound | apply writeThreshold_sound | apply writeTripStat_sound
    | apply writeTxd_sound | apply writeUartCfg_sound

theorem execCanFrameReceive_sound (h : Sound p q s) (n : Nat) (frame : CanFrame) (sof : DWord) :
    Keeps p q (execCanFrameReceive n frame sof s) := by
  unfold execCanFrameReceive
  with_reducible repeat' first
    | assumption | intro _ | (dsimp -zeta only) | apply ite_sound | apply canReceive_sound | apply whilePowered_sound

theorem execCanTxRequest_sound (h : Sound p q s) (rq : Requester) (n data : Nat) :
    Keeps p q (execCanTxRequest rq n data s) := by
  unfold execCanTxRequest
  with_reducible repeat' first
    | assumption | intro _ | (dsimp -zeta only) | apply atRegister_sound | apply whilePowered_sound | apply writeCan_sound

theorem execCanTxDone_sound (h : Sound p q s) (n slot started : Nat) : Keeps p q (execCanTxDone n slot started s) := by
  unfold execCanTxDone
  with_reducible repeat' first
    | assumption | intro _ | (dsimp -zeta only) | apply ite_sound | apply canSent_sound | apply whilePowered_sound

theorem execCanRxPop_sound (h : Sound p q s) (rq : Requester) (n data : Nat) : Keeps p q (execCanRxPop rq n data s) := by
  unfold execCanRxPop
  with_reducible repeat' first
    | assumption | intro _ | (dsimp -zeta only) | apply atRegister_sound | apply whilePowered_sound | apply writeCan_sound

theorem execCanBusOff_sound (h : Sound p q s) (n tec : Nat) : Keeps p q (execCanBusOff n tec s) := by
  unfold execCanBusOff
  with_reducible repeat' first
    | assumption | intro _ | (dsimp -zeta only) | apply ite_sound | apply State.logEvent_sound | apply State.wr_sound
    | apply whilePowered_sound

theorem execCanBusOffRecovery_sound (h : Sound p q s) (n : Nat) : Keeps p q (execCanBusOffRecovery n s) := by
  unfold execCanBusOffRecovery
  with_reducible repeat' first
    | assumption | intro _ | (dsimp -zeta only) | apply ite_sound | apply canRecover_sound | apply whilePowered_sound

theorem execUartTxdWrite_sound (h : Sound p q s) (rq : Requester) (u data : Nat) :
    Keeps p q (execUartTxdWrite rq u data s) := by
  unfold execUartTxdWrite
  with_reducible repeat' first
    | assumption | intro _ | (dsimp -zeta only) | apply atRegister_sound | apply whilePowered_sound | apply writeTxd_sound

theorem execUartFrameSent_sound (h : Sound p q s) (u : Nat) : Keeps p q (execUartFrameSent u s) := by
  unfold execUartFrameSent
  with_reducible repeat' first
    | assumption | intro _ | (dsimp -zeta only) | apply uartSent_sound | apply whilePowered_sound

theorem execUartByteReceive_sound (h : Sound p q s) (u : Nat) (byte : Byte) : Keeps p q (execUartByteReceive u byte s) := by
  unfold execUartByteReceive
  with_reducible repeat' first
    | assumption | intro _ | (dsimp -zeta only) | apply uartReceive_sound | apply whilePowered_sound

theorem execUartFrameEnd_sound (h : Sound p q s) (u : Nat) : Keeps p q (execUartFrameEnd u s) := by
  unfold execUartFrameEnd
  with_reducible repeat' first
    | assumption | intro _ | (dsimp -zeta only) | apply uartFrameEnd_sound | apply whilePowered_sound

theorem execUartRxdPop_sound (h : Sound p q s) (rq : Requester) (u : Nat) : Keeps p q (execUartRxdPop rq u s) := by
  unfold execUartRxdPop
  with_reducible repeat' first
    | assumption | intro _ | (dsimp -zeta only) | apply State.answer_sound | apply atRegister_sound | apply readRxd_sound
    | apply whilePowered_sound

theorem execI2cCommand_sound (h : Sound p q s) (rq : Requester) (n data : Nat) : Keeps p q (execI2cCommand rq n data s) := by
  unfold execI2cCommand
  with_reducible repeat' first
    | assumption | intro _ | (dsimp -zeta only) | apply atRegister_sound | apply whilePowered_sound | apply writeI2cCmd_sound

theorem execI2cCommandDone_sound (h : Sound p q s) (n done : Nat) (nack arb : Bool) (data : List Byte) :
    Keeps p q (execI2cCommandDone n done nack arb data s) := by
  unfold execI2cCommandDone
  with_reducible repeat' first
    | assumption | intro _ | (dsimp -zeta only) | apply i2cDone_sound | apply whilePowered_sound

theorem execI2cTimeout_sound (h : Sound p q s) (n done : Nat) : Keeps p q (execI2cTimeout n done s) := by
  unfold execI2cTimeout
  with_reducible repeat' first
    | assumption | intro _ | (dsimp -zeta only) | apply i2cTimeout_sound | apply whilePowered_sound

theorem execSpiCommand_sound (h : Sound p q s) (rq : Requester) (n data : Nat) : Keeps p q (execSpiCommand rq n data s) := by
  unfold execSpiCommand
  with_reducible repeat' first
    | assumption | intro _ | (dsimp -zeta only) | apply atRegister_sound | apply whilePowered_sound | apply writeSpiCmd_sound

theorem execSpiCommandDone_sound (h : Sound p q s) (n : Nat) (data : List Byte) : Keeps p q (execSpiCommandDone n data s) := by
  unfold execSpiCommandDone
  with_reducible repeat' first
    | assumption | intro _ | (dsimp -zeta only) | apply spiDone_sound | apply whilePowered_sound

theorem micSample_sound (h : Sound p q s) (m n : Nat) (x : Int) : Sound p q (micSample s m n x) := by
  unfold micSample
  with_reducible repeat' first
    | assumption | apply ite_sound | apply State.bump_sound | apply State.logLimited_sound

theorem endVerify_sound (h : Sound p q s) (vstate score : Nat) : Sound p q (endVerify s vstate score) := by
  unfold endVerify
  with_reducible repeat' first
    | assumption | apply ite_sound | split | apply State.logEvent_sound | apply State.wr_sound

theorem checkRing_sound (h : Sound p q s) : Sound p q (checkRing s) := by
  unfold checkRing
  with_reducible repeat' first
    | assumption | apply ite_sound | split | apply endVerify_sound

theorem audioSample_sound (h : Sound p q s) (x0 x1 : Int) : Sound p q (audioSample s x0 x1) := by
  unfold audioSample
  with_reducible repeat' first
    | assumption | apply State.count_sound | apply State.wr_sound | apply checkRing_sound | apply micSample_sound

theorem audioGlitch_sound (h : Sound p q s) (cause : Nat) : Sound p q (audioGlitch s cause) := by
  unfold audioGlitch
  with_reducible repeat' first
    | assumption | apply ite_sound | apply State.bump_sound | apply State.logEvent_sound

theorem writeAudioCfg_sound (h : Sound p q s) (rq : Requester) (data : Nat) : Sound p q (writeAudioCfg s rq data) := by
  unfold writeAudioCfg
  with_reducible repeat' first
    | assumption | apply ite_sound | apply State.count_sound | apply State.wr_sound | apply stdWrite_sound

theorem ringAccess_sound (h : Sound p q s) (rq : Requester) (write : Bool) (o len : Nat) :
    Sound p q (ringAccess s rq write o len) := by
  unfold ringAccess
  with_reducible repeat' first
    | assumption | apply ite_sound | apply State.answer_sound | apply State.busErr_sound | apply State.logEvent_sound

theorem modelWrite_sound (h : Sound p q s) (o : Nat) (bs : List Byte) : Sound p q (modelWrite s o bs) := by
  unfold modelWrite
  with_reducible repeat' first
    | assumption | intro _ | (dsimp -zeta only) | apply foldl_sound | apply foldl_pair_sound

theorem writeModelMem_sound (h : Sound p q s) (rq : Requester) (addr data : Nat) :
    Sound p q (writeModelMem s rq addr data) := by
  unfold writeModelMem
  with_reducible repeat' first
    | assumption | apply ite_sound | apply State.answer_sound | apply State.busErr_sound | apply State.logEvent_sound
    | apply modelWrite_sound

theorem writeSpotCfg_sound (h : Sound p q s) (rq : Requester) (data : Nat) : Sound p q (writeSpotCfg s rq data) := by
  unfold writeSpotCfg
  with_reducible repeat' first
    | assumption | apply ite_sound | apply State.answer_sound | apply State.logEvent_sound | apply State.wr_sound
    | apply writeFields_sound

theorem audioFrame_sound (h : Sound p q s) : Sound p q (audioFrame s) := by
  unfold audioFrame
  with_reducible repeat' first
    | assumption | apply ite_sound | apply State.count_sound

theorem detect_sound (h : Sound p q s) (score sample : Nat) : Sound p q (detect s score sample) := by
  unfold detect
  with_reducible repeat' first
    | assumption | intro _ | (dsimp -zeta only) | apply ite_sound | apply State.bump_sound | apply State.logEvent_sound
    | apply State.wr_sound | apply endVerify_sound | apply wake_sound | apply foldl_sound | apply foldl_pair_sound

theorem scoreFrame_sound (h : Sound p q s) :
    Sound p q (scoreFrame s) := by
  unfold scoreFrame
  with_reducible repeat' first
    | assumption | intro _
    | (extract_lets +onlyGivenNames x; first
        | (have := x.larderBad; clear this; subst x)
        | (refine (fun hx : Sound p q x => ?_) ?_; rotate_left; subst x; rotate_right; clear_value x)
        | (refine (fun hx : Sound p q x.1 => ?_) ?_; rotate_left; subst x; rotate_right; clear_value x)
        | clear_value x
        | subst x)
    | (dsimp -zeta only) | apply ite_sound | split | apply State.wr_sound | apply checkRing_sound | apply detect_sound
    | (apply pair_sound; assumption)

theorem loadDefaultModel_sound (h : Sound p q s) : Sound p q (loadDefaultModel s) := by
  unfold loadDefaultModel
  with_reducible repeat' first
    | assumption | apply State.wr_sound

theorem requestVerify_sound (h : Sound p q s) : Sound p q (requestVerify s) := by
  unfold requestVerify
  with_reducible repeat' first
    | assumption | apply ite_sound | split | apply pushPacket_sound

theorem readVerdict_sound (h : Sound p q s) : Sound p q (readVerdict s) := by
  unfold readVerdict
  with_reducible repeat' first
    | assumption
    | (extract_lets +onlyGivenNames x; first | (refine (fun hx : Sound p q x => ?_) ?_; rotate_left; subst x; rotate_right; clear_value x) | clear_value x)
    | apply ite_sound | split | apply State.busRead_sound | apply endVerify_sound | (apply pair_sound; assumption)

theorem popVerdict_sound (h : Sound p q s) : Sound p q (popVerdict s) := by
  unfold popVerdict
  with_reducible repeat' first
    | assumption
    | (extract_lets +onlyGivenNames x; first | (refine (fun hx : Sound p q x => ?_) ?_; rotate_left; subst x; rotate_right; clear_value x) | clear_value x)
    | apply ite_sound | split | apply endVerify_sound | apply popSlot_sound | apply readVerdict_sound
    | (apply pair_sound; assumption)

theorem verifyTimeout_sound (h : Sound p q s) : Sound p q (verifyTimeout s) := by
  unfold verifyTimeout
  with_reducible repeat' first
    | assumption | apply ite_sound | split | apply endVerify_sound

theorem verifyInRun_sound (h : Sound p q s) : Sound p q (verifyInRun s) := by
  unfold verifyInRun
  with_reducible repeat' first
    | assumption | intro _ | (dsimp -zeta only)

theorem verifyLeft_sound (h : Sound p q s) : Sound p q (verifyLeft s) := by
  unfold verifyLeft
  with_reducible repeat' first
    | assumption | apply ite_sound | split | apply endVerify_sound

theorem verifierLost_sound (h : Sound p q s) (e : Nat) : Sound p q (verifierLost s e) := by
  unfold verifierLost
  with_reducible repeat' first
    | assumption | apply ite_sound | apply State.wr_sound

theorem writeVerifier_sound (h : Sound p q s) (rq : Requester) (addr : Nat) (data : Nat) :
    Sound p q (writeVerifier s rq addr data) := by
  unfold writeVerifier
  with_reducible repeat' first
    | assumption | intro _ | (dsimp -zeta only) | apply ite_sound | split | apply celRefused_sound | apply checkRing_sound
    | apply stdWrite_sound | (apply pair_sound; assumption)

theorem planPin_sound (h : Sound p q s) (i data : Nat) : Sound p q (planPin s i data) := by
  unfold planPin
  with_reducible repeat' first
    | assumption | apply writePin_sound

theorem planLoop_sound (h : Sound p q s) (l src c pre per sp inv kp ki lo hi slew ms : Nat) (bat : Option Nat) :
    Sound p q (planLoop s l src c pre per sp inv kp ki lo hi slew ms bat) := by
  unfold planLoop
  with_reducible repeat' first
    | assumption | intro _ | (dsimp -zeta only) | split | apply State.setPwm_sound | apply State.wr_sound
    | apply State.wrShadow_sound | apply pleEnabled_sound | apply pwmCommit_sound | apply foldl_sound | apply foldl_pair_sound

theorem planComparator_sound (h : Sound p q s) (k lo hi trip mask : Nat) : Sound p q (planComparator s k lo hi trip mask) := by
  unfold planComparator
  with_reducible repeat' first
    | assumption | intro _ | (dsimp -zeta only) | apply State.wr_sound | apply foldl_sound | apply foldl_pair_sound

theorem setLoop3_sound (h : Sound p q s) (on : Bool) : Sound p q (setLoop3 s on) := by
  unfold setLoop3
  with_reducible repeat' first
    | assumption | apply ite_sound | apply State.wr_sound | apply pleEnabled_sound

theorem applyPlantPlan_sound (h : Sound p q s) : Sound p q (applyPlantPlan s) := by
  unfold applyPlantPlan
  with_reducible repeat' first
    | assumption | intro _ | (dsimp -zeta only) | apply State.wr_sound | apply mainsSourceChosen_sound
    | apply planComparator_sound | apply planLoop_sound | apply planPin_sound | apply foldl_sound | apply foldl_pair_sound

theorem writeHoldCfg_sound (h : Sound p q s) (rq : Requester) (data : Nat) : Sound p q (writeHoldCfg s rq data) := by
  unfold writeHoldCfg
  with_reducible repeat' first
    | assumption | apply ite_sound | apply State.answer_sound | apply setBattery_sound | apply stdWrite_sound

theorem writeService_sound (h : Sound p q s) (rq : Requester) (o data : Nat) : Sound p q (writeService s rq o data) := by
  unfold writeService
  with_reducible repeat' first
    | assumption | apply ite_sound | apply stdWrite_sound | apply writeAudioCfg_sound | apply writeHoldCfg_sound
    | apply writeSpotCfg_sound | apply writeVerifier_sound

theorem execAudioSample_sound (h : Sound p q s) (x0 x1 : Int) : Keeps p q (execAudioSample x0 x1 s) := by
  unfold execAudioSample
  with_reducible repeat' first
    | assumption | intro _ | (dsimp -zeta only) | apply ite_sound | apply audioSample_sound | apply whilePowered_sound

theorem execAudioFrameBoundary_sound (h : Sound p q s) : Keeps p q (execAudioFrameBoundary s) := by
  unfold execAudioFrameBoundary
  with_reducible repeat' first
    | assumption | intro _ | (dsimp -zeta only) | apply ite_sound | apply audioFrame_sound | apply whilePowered_sound

theorem execAudioRingRead_sound (h : Sound p q s) (rq : Requester) (write : Bool) (offset len : Nat) :
    Keeps p q (execAudioRingRead rq write offset len s) := by
  unfold execAudioRingRead
  with_reducible repeat' first
    | assumption | intro _ | (dsimp -zeta only) | apply ringAccess_sound | apply whilePowered_sound

theorem execSpotterScore_sound (h : Sound p q s) : Keeps p q (execSpotterScore s) := by
  unfold execSpotterScore
  with_reducible repeat' first
    | assumption | apply scoreFrame_sound | apply whilePowered_sound

theorem execSpotEnable_sound (h : Sound p q s) (rq : Requester) (data : Nat) : Keeps p q (execSpotEnable rq data s) := by
  unfold execSpotEnable
  with_reducible repeat' first
    | assumption | intro _ | (dsimp -zeta only) | apply atRegister_sound | apply whilePowered_sound | apply writeSpotCfg_sound

theorem execConsoleTimeout_sound (h : Sound p q s) : Keeps p q (execConsoleTimeout s) := by
  unfold execConsoleTimeout
  with_reducible repeat' first
    | assumption | intro _ | (dsimp -zeta only) | apply ite_sound | split | apply whilePowered_sound

theorem execVerifyRequest_sound (h : Sound p q s) : Keeps p q (execVerifyRequest s) := by
  unfold execVerifyRequest
  with_reducible repeat' first
    | assumption | apply requestVerify_sound | apply whilePowered_sound

theorem execVerifyCompletion_sound (h : Sound p q s) : Keeps p q (execVerifyCompletion s) := by
  unfold execVerifyCompletion
  with_reducible repeat' first
    | assumption | apply popVerdict_sound | apply whilePowered_sound

theorem execVerifyTimeout_sound (h : Sound p q s) : Keeps p q (execVerifyTimeout s) := by
  unfold execVerifyTimeout
  with_reducible repeat' first
    | assumption | apply verifyTimeout_sound | apply whilePowered_sound

end Sys2Proof.Machine
end

