-- ==== Sys2Proof/Laws/SoundPower.lean ====
section
/-! SUPPORT. What no operation breaks: the part, the rest of the queue, the canonical form of the byte memories and of the
register tables.  Here: clocks, start-up, configuration, power. -/

namespace Sys2Proof.Machine

variable {p : Part} {q : List Instr} {s : State}

theorem lockClock_sound (h : Sound p q s) : Sound p q (lockClock s) := by
  unfold lockClock
  with_reducible repeat' first
    | assumption | apply State.wr_sound

theorem unlockClock_sound (h : Sound p q s) : Sound p q (unlockClock s) := by
  unfold unlockClock
  with_reducible repeat' first
    | assumption | apply State.wr_sound

theorem runFlag_sound (h : Sound p q s) (f : Fld) : Sound p q (runFlag s f) := by
  unfold runFlag
  with_reducible repeat' first
    | assumption | apply State.wr_sound

theorem moveTime_sound (h : Sound p q s) (toRefclk : Bool) : Sound p q (moveTime s toRefclk) := by
  unfold moveTime
  with_reducible repeat' first
    | assumption | apply ite_sound | apply State.logEvent_sound

theorem setCellarClk_sound (h : Sound p q s) (c : CellarClk) : Sound p q (setCellarClk s c) := by
  unfold setCellarClk
  with_reducible repeat' first
    | assumption | apply State.wr_sound | apply moveTime_sound

theorem clockAfterMode_sound (h : Sound p q s) : Sound p q (clockAfterMode s) := by
  unfold clockAfterMode
  with_reducible repeat' first
    | assumption | apply ite_sound

theorem clockMove_sound (h : Sound p q s) : Sound p q (clockMove s) := by
  unfold clockMove
  with_reducible repeat' first
    | assumption | apply ite_sound | split | apply State.count_sound | apply setCellarClk_sound

theorem takeMode_sound (h : Sound p q s) (m : Nat) : Sound p q (takeMode s m) := by
  unfold takeMode
  with_reducible repeat' first
    | assumption | apply ite_sound | apply State.wr_sound | apply runFlag_sound

theorem finishChange_sound (h : Sound p q s) (m ticks : Nat) : Sound p q (finishChange s m ticks) := by
  unfold finishChange
  with_reducible repeat' first
    | assumption | apply State.logEvent_sound | apply takeMode_sound

theorem refuseChange_sound (h : Sound p q s) (m why : Nat) : Sound p q (refuseChange s m why) := by
  unfold refuseChange
  with_reducible repeat' first
    | assumption | apply State.logEvent_sound

theorem abandonChange_sound (h : Sound p q s) (why : Nat) : Sound p q (abandonChange s why) := by
  unfold abandonChange
  with_reducible repeat' first
    | assumption | split | apply State.wr_sound | apply refuseChange_sound

theorem requestClkMode_sound (h : Sound p q s) (m : Nat) (k : State → State) (hk : ∀ s, Sound p q s → Sound p q (k s )) :
    Sound p q (requestClkMode s m k) := by
  unfold requestClkMode
  with_reducible repeat' first
    | assumption | apply hk | apply ite_sound | apply refuseChange_sound

theorem startDeterministic_sound (h : Sound p q s) (floor : Option Nat) : Sound p q (startDeterministic s floor) := by
  unfold startDeterministic
  with_reducible repeat' first
    | assumption | split | apply State.wr_sound | apply finishChange_sound

theorem floorReached_sound (h : Sound p q s) (mv : Nat) :
    Sound p q (floorReached s mv) := by
  unfold floorReached
  with_reducible repeat' first
    | assumption | intro _ | (dsimp -zeta only) | apply ite_sound | split | apply finishChange_sound
    | (apply pair_sound; assumption)

theorem droop_sound (h : Sound p q s) (i n : Nat) : Sound p q (droop s i n) := by
  unfold droop
  with_reducible repeat' first
    | assumption | apply ite_sound | apply State.logEvent_sound | apply runFlag_sound

theorem refclkLost_sound (h : Sound p q s) : Sound p q (refclkLost s) := by
  unfold refclkLost
  with_reducible repeat' first
    | assumption | apply ite_sound | apply State.logEvent_sound | apply State.wr_sound | apply abandonChange_sound
    | apply audioGlitch_sound | apply runFlag_sound | apply setCellarClk_sound | apply unlockClock_sound
    | apply withdrawNow_sound

theorem refclkRelock_sound (h : Sound p q s) : Sound p q (refclkRelock s) := by
  unfold refclkRelock
  with_reducible repeat' first
    | assumption | apply ite_sound | apply clockAfterMode_sound | apply lockClock_sound | apply moveTime_sound

theorem writeClkRate_sound (h : Sound p q s) (rq : Requester) (v : Nat) : Sound p q (writeClkRate s rq v) := by
  unfold writeClkRate
  with_reducible repeat' first
    | assumption | apply ite_sound | apply State.answer_sound | apply State.logEvent_sound | apply State.wr_sound

theorem writeStepLo_sound (h : Sound p q s) (v : Nat) : Sound p q (writeStepLo s v) := by
  unfold writeStepLo
  with_reducible repeat' first
    | assumption | apply State.answer_sound

theorem writeStepHi_sound (h : Sound p q s) (rq : Requester) (v : Nat) : Sound p q (writeStepHi s rq v) := by
  unfold writeStepHi
  with_reducible repeat' first
    | assumption | apply ite_sound | apply State.answer_sound | apply State.logEvent_sound

theorem applyStep_sound (h : Sound p q s) : Sound p q (applyStep s) := by
  unfold applyStep
  with_reducible repeat' first
    | assumption | apply ite_sound | split

theorem ppsEdge_sound (h : Sound p q s) :
    Sound p q (ppsEdge s) := by
  unfold ppsEdge
  with_reducible repeat' first
    | assumption | intro _
    | (extract_lets +onlyGivenNames x; first
        | (have := x.larderBad; clear this; subst x)
        | (refine (fun hx : Sound p q x => ?_) ?_; rotate_left; subst x; rotate_right; clear_value x)
        | (refine (fun hx : Sound p q x.1 => ?_) ?_; rotate_left; subst x; rotate_right; clear_value x)
        | clear_value x
        | subst x)
    | (dsimp -zeta only) | apply ite_sound | split | apply State.useFresh_sound | apply State.wrPair_sound
    | apply State.count_sound | apply ppsMissing_sound | apply State.wr_sound | apply State.logEvent_sound
    | (apply pair_sound; assumption)

theorem ppsMissing_sound (h : Sound p q s) : Sound p q (ppsMissing s) := by
  unfold ppsMissing
  with_reducible repeat' first
    | assumption | apply ite_sound | split | apply State.logEvent_sound

theorem ethReceive_sound (h : Sound p q s) (p1 : Nat) (f : List Byte) : Sound p q (ethReceive s p1 f) := by
  unfold ethReceive
  with_reducible repeat' first
    | assumption | apply ite_sound

theorem ethTransmit_sound (h : Sound p q s) (p1 : Nat) (f : List Byte) (sync : Option SyncLoc) :
    Sound p q (ethTransmit s p1 f sync) := by
  unfold ethTransmit
  with_reducible repeat' first
    | assumption | apply ite_sound | split

theorem squelch_sound (h : Sound p q s) (o : Nat) : Sound p q (squelch s o) := by
  unfold squelch
  with_reducible repeat' first
    | assumption | apply ite_sound | apply State.logEvent_sound

theorem writeRunCtrl_sound (h : Sound p q s) (rq : Requester) (data : Nat) : Sound p q (writeRunCtrl s rq data) := by
  unfold writeRunCtrl
  with_reducible repeat' first
    | assumption | apply ite_sound | apply stdWrite_sound

theorem runMark_sound (h : Sound p q s) : Sound p q (runMark s) := by
  unfold runMark
  with_reducible repeat' first
    | assumption | intro _ | (dsimp -zeta only) | apply ite_sound | apply State.logEvent_sound | apply State.wr_sound
    | apply runFlag_sound | apply foldl_sound | apply foldl_pair_sound

theorem clkReset_sound (h : Sound p q s) (cold keepRate : Bool) : Sound p q (clkReset s cold keepRate) := by
  unfold clkReset
  with_reducible repeat' first
    | assumption | apply ite_sound | apply State.resetWindow_sound | apply runFlag_sound

theorem execCellarClockMove_sound (h : Sound p q s) : Keeps p q (execCellarClockMove s) := by
  unfold execCellarClockMove
  with_reducible repeat' first
    | assumption | apply clockMove_sound | apply whilePowered_sound

theorem execClkModeReqAdaptive_sound (h : Sound p q s) (rq : Requester) (ticks : Nat) :
    Keeps p q (execClkModeReqAdaptive rq ticks s) := by
  unfold execClkModeReqAdaptive
  with_reducible repeat' first
    | assumption | intro _ | (dsimp -zeta only) | apply State.answer_sound | apply atRegister_sound | apply finishChange_sound
    | apply requestClkMode_sound | apply whilePowered_sound

theorem execClkModeReqDeterministic_sound (h : Sound p q s) (rq : Requester) (floor : Option Nat) :
    Keeps p q (execClkModeReqDeterministic rq floor s) := by
  unfold execClkModeReqDeterministic
  with_reducible repeat' first
    | assumption | intro _ | (dsimp -zeta only) | apply State.answer_sound | apply atRegister_sound | apply requestClkMode_sound
    | apply startDeterministic_sound | apply whilePowered_sound

theorem execClkModeFloorTimeout_sound (h : Sound p q s) : Keeps p q (execClkModeFloorTimeout s) := by
  unfold execClkModeFloorTimeout
  with_reducible repeat' first
    | assumption | intro _ | (dsimp -zeta only) | apply ite_sound | apply abandonChange_sound | apply whilePowered_sound

theorem execDroopStretch_sound (h : Sound p q s) (island cycles : Nat) : Keeps p q (execDroopStretch island cycles s) := by
  unfold execDroopStretch
  with_reducible repeat' first
    | assumption | intro _ | (dsimp -zeta only) | apply droop_sound | apply whilePowered_sound

theorem execRefclkLost_sound (h : Sound p q s) : Keeps p q (execRefclkLost s) := by
  unfold execRefclkLost
  with_reducible repeat' first
    | assumption | apply refclkLost_sound | apply whilePowered_sound

theorem execRefclkRelock_sound (h : Sound p q s) : Keeps p q (execRefclkRelock s) := by
  unfold execRefclkRelock
  with_reducible repeat' first
    | assumption | apply refclkRelock_sound | apply whilePowered_sound

theorem execClkRateWrite_sound (h : Sound p q s) (rq : Requester) (data : Nat) : Keeps p q (execClkRateWrite rq data s) := by
  unfold execClkRateWrite
  with_reducible repeat' first
    | assumption | intro _ | (dsimp -zeta only) | apply atRegister_sound | apply whilePowered_sound | apply writeClkRate_sound

theorem execClkStepWrite_sound (h : Sound p q s) (rq : Requester) (data : Nat) : Keeps p q (execClkStepWrite rq data s) := by
  unfold execClkStepWrite
  with_reducible repeat' first
    | assumption | intro _ | (dsimp -zeta only) | apply atRegister_sound | apply whilePowered_sound | apply writeStepHi_sound

theorem execClkStepApply_sound (h : Sound p q s) : Keeps p q (execClkStepApply s) := by
  unfold execClkStepApply
  with_reducible repeat' first
    | assumption | apply applyStep_sound | apply whilePowered_sound

theorem execPpsInEdge_sound (h : Sound p q s) : Keeps p q (execPpsInEdge s) := by
  unfold execPpsInEdge
  with_reducible repeat' first
    | assumption | apply ppsEdge_sound | apply whilePowered_sound

theorem execClkPpsMissing_sound (h : Sound p q s) : Keeps p q (execClkPpsMissing s) := by
  unfold execClkPpsMissing
  with_reducible repeat' first
    | assumption | apply ppsMissing_sound | apply whilePowered_sound

theorem execPpsOutRise_sound (h : Sound p q s) : Keeps p q (execPpsOutRise s) := by
  unfold execPpsOutRise
  with_reducible repeat' first
    | assumption | intro _ | (dsimp -zeta only) | apply ite_sound | apply whilePowered_sound

theorem execPpsOutFall_sound (h : Sound p q s) : Keeps p q (execPpsOutFall s) := by
  unfold execPpsOutFall
  with_reducible repeat' first
    | assumption | intro _ | (dsimp -zeta only) | apply ite_sound | apply whilePowered_sound

theorem execEthFrameReceive_sound (h : Sound p q s) (port : Nat) (frame : List Byte) :
    Keeps p q (execEthFrameReceive port frame s) := by
  unfold execEthFrameReceive
  with_reducible repeat' first
    | assumption | intro _ | (dsimp -zeta only) | apply ethReceive_sound | apply whilePowered_sound

theorem execEthFrameTransmit_sound (h : Sound p q s) (port : Nat) (frame : List Byte) (sync : Option SyncLoc) :
    Keeps p q (execEthFrameTransmit port frame sync s) := by
  unfold execEthFrameTransmit
  with_reducible repeat' first
    | assumption | intro _ | (dsimp -zeta only) | apply ethTransmit_sound | apply whilePowered_sound

theorem execSynceSquelch_sound (h : Sound p q s) (out : Nat) : Keeps p q (execSynceSquelch out s) := by
  unfold execSynceSquelch
  with_reducible repeat' first
    | assumption | intro _ | (dsimp -zeta only) | apply squelch_sound | apply whilePowered_sound

theorem execSynceUnsquelch_sound (h : Sound p q s) (out : Nat) : Keeps p q (execSynceUnsquelch out s) := by
  unfold execSynceUnsquelch
  with_reducible repeat' first
    | assumption | intro _ | (dsimp -zeta only) | apply whilePowered_sound

theorem execClkRunArm_sound (h : Sound p q s) (rq : Requester) (data : Nat) : Keeps p q (execClkRunArm rq data s) := by
  unfold execClkRunArm
  with_reducible repeat' first
    | assumption | intro _ | (dsimp -zeta only) | apply atRegister_sound | apply whilePowered_sound | apply writeRunCtrl_sound

theorem execClkRunMark_sound (h : Sound p q s) : Keeps p q (execClkRunMark s) := by
  unfold execClkRunMark
  with_reducible repeat' first
    | assumption | apply runMark_sound | apply whilePowered_sound

theorem execClkIslandUnlock_sound (h : Sound p q s) (island : Nat) : Keeps p q (execClkIslandUnlock island s) := by
  unfold execClkIslandUnlock
  with_reducible repeat' first
    | assumption | intro _ | (dsimp -zeta only) | apply ite_sound | apply State.logEvent_sound | apply whilePowered_sound

theorem clearWindows_sound (h : Sound p q s) (d : Nat) : Sound p q (clearWindows s d) := by
  unfold clearWindows
  with_reducible repeat' first
    | assumption | intro _ | (dsimp -zeta only) | apply State.resetWindow_sound | apply foldl_sound | apply foldl_pair_sound

theorem domainLost_sound (h : Sound p q s) (d : Nat) : Sound p q (domainLost s d) := by
  unfold domainLost
  with_reducible repeat' first
    | assumption | apply ite_sound | split | apply State.wr_sound | apply clearWindows_sound | apply engineLost_sound
    | apply isolateRegion_sound | apply storeroomLost_sound | apply verifierLost_sound | apply visLost_sound

theorem fenceRequest_sound (h : Sound p q s) (d : Nat) : Sound p q (fenceRequest s d) := by
  unfold fenceRequest
  with_reducible repeat' first
    | assumption | apply ite_sound | apply State.setRegion_sound | apply visFenced_sound

theorem radioRemoved_sound (h : Sound p q s) (d : Nat) : Sound p q (radioRemoved s d) := by
  unfold radioRemoved
  with_reducible repeat' first
    | assumption | apply ite_sound | apply withdrawNow_sound

theorem domainOff_sound (h : Sound p q s) (d : Nat) : Sound p q (domainOff s d) := by
  unfold domainOff
  with_reducible repeat' first
    | assumption | apply State.clearBits_sound | apply domainLost_sound | apply radioRemoved_sound

theorem drained_sound (h : Sound p q s) (d : Nat) :
    Sound p q (drained s d) := by
  unfold drained
  with_reducible repeat' first
    | assumption | intro _
    | (extract_lets +onlyGivenNames x; first
        | (have := x.larderBad; clear this; subst x)
        | (refine (fun hx : Sound p q x => ?_) ?_; rotate_left; subst x; rotate_right; clear_value x)
        | (refine (fun hx : Sound p q x.1 => ?_) ?_; rotate_left; subst x; rotate_right; clear_value x)
        | clear_value x
        | subst x)
    | (dsimp -zeta only) | apply ite_sound | split | apply serveLine_sound | apply foldl_sound | apply foldl_pair_sound
    | (apply pair_sound; assumption)

theorem fenceArrives_sound (h : Sound p q s) (d : Nat) (ack : Bool) :
    Sound p q (fenceArrives s d ack) := by
  unfold fenceArrives
  with_reducible repeat' first
    | assumption | intro _
    | (extract_lets +onlyGivenNames x; first
        | (have := x.larderBad; clear this; subst x)
        | (refine (fun hx : Sound p q x => ?_) ?_; rotate_left; subst x; rotate_right; clear_value x)
        | (refine (fun hx : Sound p q x.1 => ?_) ?_; rotate_left; subst x; rotate_right; clear_value x)
        | clear_value x
        | subst x)
    | (dsimp -zeta only) | apply ite_sound | split | apply drained_sound | apply State.orBits_sound | apply runFlag_sound
    | apply State.logEvent_sound | (apply pair_sound; assumption)

theorem groupForms_sound (h : Sound p q s) (b : List Byte) : Sound p q (groupForms s b) := by
  unfold groupForms
  with_reducible repeat' first
    | assumption | apply ite_sound | apply State.wr_sound

theorem trainPort_sound (h : Sound p q s) (b : List Byte) (p1 : Nat) : Sound p q (trainPort b s p1) := by
  unfold trainPort
  with_reducible repeat' first
    | assumption | apply ite_sound | apply State.wr_sound

theorem groupDomainOn_sound (h : Sound p q s) (b : List Byte) : Sound p q (groupDomainOn s b) := by
  unfold groupDomainOn
  with_reducible repeat' first
    | assumption
    | (extract_lets +onlyGivenNames x; first
        | (have := x.larderBad; clear this; subst x)
        | (refine (fun hx : Sound p q x => ?_) ?_; rotate_left; subst x; rotate_right; clear_value x)
        | clear_value x
        | subst x)
    | intro _ | (dsimp -zeta only) | apply ite_sound | split | apply State.wrPair_sound | apply groupForms_sound
    | apply trainPort_sound | apply foldl_sound | apply foldl_pair_sound | (apply pair_sound; assumption)

theorem domainConfigured_sound (h : Sound p q s) (d : Nat) : Sound p q (domainConfigured s d) := by
  unfold domainConfigured
  with_reducible repeat' first
    | assumption | split | apply State.wr_sound | apply State.wrPair_sound | apply groupDomainOn_sound

theorem domainOn_sound (h : Sound p q s) (d : Nat) : Sound p q (domainOn s d) := by
  unfold domainOn
  with_reducible repeat' first
    | assumption | apply ite_sound | apply State.clearBits_sound | apply State.orBits_sound | apply State.setRegion_sound
    | apply domainConfigured_sound

theorem afterFence_sound (h : Sound p q s) (d : Nat) (ps : List (Nat × Bool)) : Sound p q (afterFence s d ps) := by
  induction ps generalizing s with
  | nil => exact h
  | cons x0 rest ih =>
    unfold afterFence
    with_reducible repeat' first
      | assumption | intro _
      | (extract_lets +onlyGivenNames x; first
        | (have := x.larderBad; clear this; subst x)
        | (refine (fun hx : Sound p q x => ?_) ?_; rotate_left; subst x; rotate_right; clear_value x)
        | (refine (fun hx : Sound p q x.1 => ?_) ?_; rotate_left; subst x; rotate_right; clear_value x)
        | clear_value x
        | subst x)
      | (dsimp -zeta only) | apply ite_sound | split | apply ih | apply domainOn_sound | apply fenceRequest_sound
      | (apply pair_sound; assumption)

theorem reloadArrives_sound (h : Sound p q s) (d : Nat) :
    Sound p q (reloadArrives s d) := by
  unfold reloadArrives
  with_reducible repeat' first
    | assumption | intro _
    | (extract_lets +onlyGivenNames x; first
        | (have := x.larderBad; clear this; subst x)
        | (refine (fun hx : Sound p q x => ?_) ?_; rotate_left; subst x; rotate_right; clear_value x)
        | (refine (fun hx : Sound p q x.1 => ?_) ?_; rotate_left; subst x; rotate_right; clear_value x)
        | clear_value x
        | subst x)
    | (dsimp -zeta only) | apply ite_sound | split | apply State.setRegion_sound | (apply pair_sound; assumption)

theorem fenceDone_sound (h : Sound p q s) (d : Nat) (ack : Bool) :
    Sound p q (fenceDone s d ack) := by
  unfold fenceDone
  with_reducible repeat' first
    | assumption | intro _
    | (extract_lets +onlyGivenNames x; first
        | (have := x.larderBad; clear this; subst x)
        | (refine (fun hx : Sound p q x => ?_) ?_; rotate_left; subst x; rotate_right; clear_value x)
        | (refine (fun hx : Sound p q x.1 => ?_) ?_; rotate_left; subst x; rotate_right; clear_value x)
        | clear_value x
        | subst x)
    | (dsimp -zeta only) | apply ite_sound | split | apply fenceArrives_sound | apply reloadArrives_sound
    | apply domainOff_sound | apply afterFence_sound | (apply pair_sound; assumption)

theorem offRequest_sound (h : Sound p q s) (d : Nat) :
    Sound p q (offRequest s d) := by
  unfold offRequest
  with_reducible repeat' first
    | assumption | intro _ | (dsimp -zeta only) | apply ite_sound | split | apply fenceRequest_sound
    | (apply pair_sound; assumption)

theorem onRequest_sound (h : Sound p q s) (d : Nat) :
    Sound p q (onRequest s d) := by
  unfold onRequest
  with_reducible repeat' first
    | assumption | intro _ | (dsimp -zeta only) | apply ite_sound | split | apply domainOn_sound
    | (apply pair_sound; assumption)

theorem fenceOff_sound (h : Sound p q s) (late : Nat) (d : Nat) : Sound p q (fenceOff s late d) := by
  unfold fenceOff
  with_reducible repeat' first
    | assumption | apply ite_sound | apply domainOff_sound | apply fenceArrives_sound | apply fenceRequest_sound

theorem fenceMask_sound (h : Sound p q s) (mask late : Nat) : Sound p q (fenceMask s mask late) := by
  unfold fenceMask
  with_reducible repeat' first
    | assumption | intro _ | (dsimp -zeta only) | apply fenceOff_sound | apply foldl_sound | apply foldl_pair_sound

theorem onMask_sound (h : Sound p q s) (mask : Nat) : Sound p q (onMask s mask) := by
  unfold onMask
  with_reducible repeat' first
    | assumption
    | (extract_lets +onlyGivenNames x; first
        | (have := x.larderBad; clear this; subst x)
        | (refine (fun hx : Sound p q x => ?_) ?_; rotate_left; subst x; rotate_right; clear_value x)
        | clear_value x
        | subst x)
    | intro _ | (dsimp -zeta only) | apply domainOn_sound | apply foldl_sound | apply foldl_pair_sound
    | (apply pair_sound; assumption)

theorem removeDomain_sound (h : Sound p q s) (d : Nat) : Sound p q (removeDomain s d) := by
  unfold removeDomain
  with_reducible repeat' first
    | assumption | apply ite_sound | apply domainOff_sound

theorem removeAll_sound (h : Sound p q s) : Sound p q (removeAll s) := by
  unfold removeAll
  with_reducible repeat' first
    | assumption
    | (extract_lets +onlyGivenNames x; first
        | (have := x.larderBad; clear this; subst x)
        | (refine (fun hx : Sound p q x => ?_) ?_; rotate_left; subst x; rotate_right; clear_value x)
        | clear_value x
        | subst x)
    | intro _ | (dsimp -zeta only) | apply removeDomain_sound | apply foldl_sound | apply foldl_pair_sound
    | (apply pair_sound; assumption)

theorem setTier_sound (h : Sound p q s) (t : Nat) : Sound p q (setTier s t) := by
  unfold setTier
  with_reducible repeat' first
    | assumption | apply State.wr_sound

theorem lowerChannels_sound (h : Sound p q s) (chs : List Nat) : Sound p q (lowerChannels s chs) := by
  unfold lowerChannels
  with_reducible repeat' first
    | assumption | intro _ | (dsimp -zeta only) | apply ite_sound | apply foldl_sound | apply foldl_pair_sound

theorem lowerAll_sound (h : Sound p q s) : Sound p q (lowerAll s) := by
  unfold lowerAll
  with_reducible repeat' first
    | assumption | apply lowerChannels_sound

theorem enableNext_sound (h : Sound p q s) : Sound p q (enableNext s) := by
  unfold enableNext
  with_reducible repeat' first
    | assumption | split

theorem startRaise_sound (h : Sound p q s) (chs : List Nat) : Sound p q (startRaise s chs) := by
  unfold startRaise
  with_reducible repeat' first
    | assumption | intro _ | (dsimp -zeta only) | apply enableNext_sound

theorem raiseInOrder_sound (h : Sound p q s) (bad : Option Nat) (cs : List Nat) : Sound p q (raiseInOrder s bad cs).1 := by
  induction cs generalizing s with
  | nil => exact h
  | cons x0 rest ih =>
    unfold raiseInOrder
    with_reducible repeat' first
      | assumption | intro _
      | (extract_lets +onlyGivenNames x; first
        | (have := x.larderBad; clear this; subst x)
        | (refine (fun hx : Sound p q x => ?_) ?_; rotate_left; subst x; rotate_right; clear_value x)
        | (refine (fun hx : Sound p q x.1 => ?_) ?_; rotate_left; subst x; rotate_right; clear_value x)
        | clear_value x
        | subst x)
      | (dsimp -zeta only) | apply ite_sound | split | apply ih
      | (apply pair_sound; assumption)

theorem beginTransition_sound (h : Sound p q s) (target : Nat) : Sound p q (beginTransition s target) := by
  unfold beginTransition
  with_reducible repeat' first
    | assumption | apply State.wr_sound

theorem endTransition_sound (h : Sound p q s) : Sound p q (endTransition s) := by
  unfold endTransition
  with_reducible repeat' first
    | assumption | apply State.wr_sound

theorem enterMode_sound (h : Sound p q s) (m : Nat) : Sound p q (enterMode s m) := by
  unfold enterMode
  with_reducible repeat' first
    | assumption | apply ite_sound | apply State.logEvent_sound | apply State.wr_sound | apply clockAfterMode_sound
    | apply endTransition_sound | apply runFlag_sound | apply verifyInRun_sound | apply verifyLeft_sound

theorem shedTenants_sound (h : Sound p q s) (why : Nat) : Sound p q (shedTenants s why) := by
  unfold shedTenants
  with_reducible repeat' first
    | assumption | intro _ | (dsimp -zeta only) | apply State.logEvent_sound | apply shedBank_sound | apply foldl_sound
    | apply foldl_pair_sound

theorem setTjMin_sound (h : Sound p q s) (v : BitVec 16) : Sound p q (setTjMin s v) := by
  unfold setTjMin
  with_reducible repeat' first
    | assumption | apply State.wr_sound

theorem setTjMax_sound (h : Sound p q s) (v : BitVec 16) : Sound p q (setTjMax s v) := by
  unfold setTjMax
  with_reducible repeat' first
    | assumption | apply State.wr_sound

theorem startWarming_sound (h : Sound p q s) : Sound p q (startWarming s) := by
  unfold startWarming
  with_reducible repeat' first
    | assumption | apply State.bump_sound | apply State.logEvent_sound | apply State.wr_sound | apply heaterOn_sound
    | apply setLoop3_sound | apply startRaise_sound | apply foldl_sound | apply foldl_pair_sound

theorem endLoad_sound (h : Sound p q s) :
    Sound p q (endLoad s) := by
  unfold endLoad
  with_reducible repeat' first
    | assumption | intro _
    | (extract_lets +onlyGivenNames x; first
        | (have := x.larderBad; clear this; subst x)
        | (refine (fun hx : Sound p q x => ?_) ?_; rotate_left; subst x; rotate_right; clear_value x)
        | (refine (fun hx : Sound p q x.1 => ?_) ?_; rotate_left; subst x; rotate_right; clear_value x)
        | clear_value x
        | subst x)
    | (dsimp -zeta only) | apply ite_sound | split | apply State.wr_sound | apply State.setRegion_sound | apply foldl_sound
    | apply foldl_pair_sound | (apply pair_sound; assumption)

theorem endHeater_sound (h : Sound p q s) : Sound p q (endHeater s) := by
  unfold endHeater
  with_reducible repeat' first
    | assumption | apply ite_sound | apply heaterOff_sound | apply setLoop3_sound

theorem startColdWait_sound (h : Sound p q s) (step : Nat) : Sound p q (startColdWait s step) := by
  unfold startColdWait
  with_reducible repeat' first
    | assumption | apply State.logEvent_sound | apply endTransition_sound | apply lowerAll_sound

theorem startupStep4_sound (h : Sound p q s) (step : Nat) : Sound p q (startupStep4 s step) := by
  unfold startupStep4
  with_reducible repeat' first
    | assumption | apply ite_sound | apply beginTransition_sound | apply startColdWait_sound | apply startWarming_sound

theorem channelsUp_sound (h : Sound p q s) : Sound p q (channelsUp s) := by
  unfold channelsUp
  with_reducible repeat' first
    | assumption | split | apply onMask_sound | apply setTier_sound

theorem raiseFor_sound (h : Sound p q s) (step : Nat) (chs : List Nat) : Sound p q (raiseFor s step chs) := by
  unfold raiseFor
  with_reducible repeat' first
    | assumption | apply ite_sound | apply channelsUp_sound | apply startRaise_sound

theorem startupStep6_sound (h : Sound p q s) : Sound p q (startupStep6 s) := by
  unfold startupStep6
  with_reducible repeat' first
    | assumption | apply beginTransition_sound | apply endHeater_sound | apply raiseFor_sound

theorem startupStep3_sound (h : Sound p q s) : Sound p q (startupStep3 s) := by
  unfold startupStep3
  with_reducible repeat' first
    | assumption | apply ite_sound | apply beginTransition_sound | apply startupStep4_sound | apply startupStep6_sound

theorem startupEnds_sound (h : Sound p q s) : Sound p q (startupEnds s) := by
  unfold startupEnds
  with_reducible repeat' first
    | assumption | apply endTransition_sound

theorem groundOff_sound (h : Sound p q s) (late : Nat) : Sound p q (groundOff s late) := by
  unfold groundOff
  with_reducible repeat' first
    | assumption | apply fenceMask_sound | apply lowerAll_sound | apply setTier_sound | apply unlockClock_sound

theorem tooColdForDram_sound (h : Sound p q s) : Sound p q (tooColdForDram s) := by
  unfold tooColdForDram
  with_reducible repeat' first
    | assumption | apply groundOff_sound | apply startupStep4_sound

theorem enterRun_sound (h : Sound p q s) : Sound p q (enterRun s) := by
  unfold enterRun
  with_reducible repeat' first
    | assumption | apply enterMode_sound | apply takeMode_sound

theorem startupStep13_sound (h : Sound p q s) : Sound p q (startupStep13 s) := by
  unfold startupStep13
  with_reducible repeat' first
    | assumption | apply enterRun_sound | apply startRelease_sound

theorem endFlash_sound (h : Sound p q s) (who : Nat) (late : Nat) :
    Sound p q (endFlash s who late) := by
  unfold endFlash
  with_reducible repeat' first
    | assumption | intro _
    | (extract_lets +onlyGivenNames x; first
        | (have := x.larderBad; clear this; subst x)
        | (refine (fun hx : Sound p q x => ?_) ?_; rotate_left; subst x; rotate_right; clear_value x)
        | (refine (fun hx : Sound p q x.1 => ?_) ?_; rotate_left; subst x; rotate_right; clear_value x)
        | clear_value x
        | subst x)
    | (dsimp -zeta only) | apply ite_sound | split | apply fenceMask_sound | apply State.wr_sound
    | apply lowerChannels_sound | apply unlockClock_sound | apply State.logEvent_sound | (apply pair_sound; assumption)

theorem resetMain_sound (h : Sound p q s) : Sound p q (resetMain s) := by
  unfold resetMain
  generalize mainWindows = l
  exact foldl_sound (fun s w hs => State.resetWindow_sound hs _ _ _) h

theorem mainReset_sound (h : Sound p q s) (keepRate : Bool) : Sound p q (mainReset s keepRate) := by
  have h2 := resetMain_sound (clkReset_sound h false keepRate)
  unfold mainReset
  generalize resetMain (clkReset s false keepRate) = s2 at h2 ⊢
  exact ⟨h2.part, h2.queue, h2.dram, h2.larder, h2.sram, h2.csr, h2.shadow⟩

theorem resetTaken_sound (h : Sound p q s) (bit before : Nat) : Sound p q (resetTaken s bit before) := by
  unfold resetTaken
  with_reducible repeat' first
    | assumption | split

theorem noteReset_sound (h : Sound p q s) : Sound p q (noteReset s) := by
  unfold noteReset
  with_reducible repeat' first
    | assumption | split | apply State.logEvent_sound | apply State.orBits_sound

theorem cellarKeeps_sound (h : Sound p q s) (bit before : Nat) (keepRate : Bool) :
    Sound p q (cellarKeeps s bit before keepRate) := by
  unfold cellarKeeps
  with_reducible repeat' first
    | assumption | apply endHeater_sound | apply endLoad_sound | apply endTransition_sound | apply lowerAll_sound
    | apply mainReset_sound | apply noteReset_sound | apply resetTaken_sound | apply setTier_sound | apply unlockClock_sound

theorem forcedCellar_sound (h : Sound p q s) (bit : Nat) :
    Sound p q (forcedCellar s bit) := by
  unfold forcedCellar
  with_reducible repeat' first
    | assumption | intro _
    | (extract_lets +onlyGivenNames x; first
        | (have := x.larderBad; clear this; subst x)
        | (refine (fun hx : Sound p q x => ?_) ?_; rotate_left; subst x; rotate_right; clear_value x)
        | (refine (fun hx : Sound p q x.1 => ?_) ?_; rotate_left; subst x; rotate_right; clear_value x)
        | clear_value x
        | subst x)
    | (dsimp -zeta only) | apply ite_sound | split | apply removeAll_sound | apply endFlash_sound | apply cellarKeeps_sound
    | apply clockAfterMode_sound | apply enterMode_sound | (apply pair_sound; assumption)

theorem warmReset_sound (h : Sound p q s) (bit : Nat) (late : Nat) :
    Sound p q (warmReset s bit late) := by
  unfold warmReset
  with_reducible repeat' first
    | assumption | intro _
    | (extract_lets +onlyGivenNames x; first
        | (have := x.larderBad; clear this; subst x)
        | (refine (fun hx : Sound p q x => ?_) ?_; rotate_left; subst x; rotate_right; clear_value x)
        | (refine (fun hx : Sound p q x.1 => ?_) ?_; rotate_left; subst x; rotate_right; clear_value x)
        | clear_value x
        | subst x)
    | (dsimp -zeta only) | apply ite_sound | apply verifyLeft_sound | apply fenceMask_sound | apply endFlash_sound
    | apply cellarKeeps_sound | apply State.wr_sound | apply clockAfterMode_sound | apply step_sound
    | (apply pair_sound; assumption)

theorem coldReset_sound (h : Sound p q s) (bit : Nat) : Sound p q (coldReset s bit) := by
  have h1 := removeAll_sound (endFlash_sound (moveTime_sound h false) 0 0)
  unfold coldReset
  extract_lets before s1 s2
  have h2 : Sound p q s2 := by
    apply runFlag_sound
    apply clkReset_sound
    exact ⟨h1.part, h1.queue, h1.dram, h1.larder, h1.sram, Tbl.rising_filter _ _ h1.csr, rfl⟩
  exact ⟨h2.part, h2.queue, h2.dram, h2.larder, h2.sram, h2.csr, h2.shadow⟩

theorem restorePins_sound (h : Sound p q s) : Sound p q (restorePins s) := by
  unfold restorePins
  with_reducible repeat' first
    | assumption | intro _ | (dsimp -zeta only) | apply ite_sound | apply planPin_sound | apply foldl_sound
    | apply foldl_pair_sound

theorem noteAbort_sound (h : Sound p q s) (a : Abort) : Sound p q (noteAbort s a) := by
  unfold noteAbort
  with_reducible repeat' first
    | assumption | apply State.logEvent_sound | apply State.wr_sound

theorem abortEnds_sound (h : Sound p q s) : Sound p q (abortEnds s) := by
  unfold abortEnds
  with_reducible repeat' first
    | assumption | apply State.wr_sound | apply groundOff_sound | apply restorePins_sound | apply startupEnds_sound

theorem configAbort_sound (h : Sound p q s) (a : Abort) : Sound p q (configAbort s a) := by
  unfold configAbort
  with_reducible repeat' first
    | assumption | apply abortEnds_sound | apply noteAbort_sound

theorem configStart_sound (h : Sound p q s) (block : Option (List Byte)) : Sound p q (configStart s block) := by
  unfold configStart
  with_reducible repeat' first
    | assumption | split | apply State.logEvent_sound | apply State.wr_sound

theorem setBoth_sound (h : Sound p q s) (f : Fld) (v : Nat) : Sound p q (setBoth s f v) := by
  unfold setBoth
  with_reducible repeat' first
    | assumption | apply State.wr_sound | apply State.wrShadow_sound

theorem applyDramConfig_sound (h : Sound p q s) (b : List Byte) : Sound p q (applyDramConfig s b) := by
  unfold applyDramConfig
  with_reducible repeat' first
    | assumption
    | (extract_lets +onlyGivenNames x; first
        | (have := x.larderBad; clear this; subst x)
        | (refine (fun hx : Sound p q x => ?_) ?_; rotate_left; subst x; rotate_right; clear_value x)
        | (refine (fun hx : Sound p q x.1 => ?_) ?_; rotate_left; subst x; rotate_right; clear_value x)
        | (refine (fun hf : ∀ a, Sound p q a → Sound p q (x a) => ?_) ?_; rotate_left; subst x; rotate_right; clear_value x)
        | (refine (fun hf : ∀ a, Sound p q (x a) => ?_) ?_; rotate_left; subst x; rotate_right; clear_value x)
        | (refine (fun hf : ∀ a b, Sound p q a → Sound p q (x a b) => ?_) ?_; rotate_left; subst x; rotate_right; clear_value x)
        | (refine (fun hf : ∀ a b, Sound p q b → Sound p q (x a b) => ?_) ?_; rotate_left; subst x; rotate_right; clear_value x)
        | (refine (fun hf : ∀ a b c, Sound p q a → Sound p q (x a b c) => ?_) ?_; rotate_left; subst x; rotate_right; clear_value x)
        | (refine (fun hf : ∀ a b c, Sound p q b → Sound p q (x a b c) => ?_) ?_; rotate_left; subst x; rotate_right; clear_value x)
        | (refine (fun hf : ∀ a b c, Sound p q c → Sound p q (x a b c) => ?_) ?_; rotate_left; subst x; rotate_right; clear_value x)
        | (refine (fun hf : ∀ a b, Sound p q (x a b) => ?_) ?_; rotate_left; subst x; rotate_right; clear_value x)
        | (refine (fun hf : ∀ a b c, Sound p q (x a b c) => ?_) ?_; rotate_left; subst x; rotate_right; clear_value x)
        | clear_value x
        | subst x)
    | intro _ | (dsimp -zeta only) | apply hf | apply State.wr_sound | apply setBoth_sound | apply foldl_sound
    | apply foldl_pair_sound | (apply pair_sound; assumption)

theorem setDigest_sound (h : Sound p q s) (d : List Byte) : Sound p q (setDigest s d) := by
  unfold setDigest
  with_reducible repeat' first
    | assumption | intro _ | (dsimp -zeta only) | apply State.wr_sound | apply foldl_sound | apply foldl_pair_sound

theorem acceptImage_sound (h : Sound p q s) (b : List Byte) :
    Sound p q (acceptImage s b) := by
  unfold acceptImage
  with_reducible repeat' first
    | assumption | intro _
    | (extract_lets +onlyGivenNames x; first
        | (have := x.larderBad; clear this; subst x)
        | (refine (fun hx : Sound p q x => ?_) ?_; rotate_left; subst x; rotate_right; clear_value x)
        | (refine (fun hx : Sound p q x.1 => ?_) ?_; rotate_left; subst x; rotate_right; clear_value x)
        | clear_value x
        | subst x)
    | (dsimp -zeta only) | apply ite_sound | split | apply setDigest_sound | apply State.wr_sound | apply planPin_sound
    | apply applyDramConfig_sound | apply takeMode_sound | apply step_sound | apply tooColdForDram_sound | apply foldl_sound
    | apply foldl_pair_sound | (apply pair_sound; assumption)

theorem pass1Only_sound (h : Sound p q s) (image : List Byte) : Sound p q (pass1Only s image) := by
  unfold pass1Only
  with_reducible repeat' first
    | assumption | split | apply acceptImage_sound | apply configAbort_sound

theorem image0Aborts_sound (h : Sound p q s) (a : Abort) (k : State → State) (hk : ∀ s, Sound p q s → Sound p q (k s )) :
    Sound p q (image0Aborts s a k) := by
  unfold image0Aborts
  with_reducible repeat' first
    | assumption | apply hk | split | apply State.logEvent_sound | apply State.wr_sound | apply configAbort_sound
    | apply noteAbort_sound

theorem pass1_sound (h : Sound p q s) (image0 image1 : List Byte) : Sound p q (pass1 s image0 image1) := by
  unfold pass1
  with_reducible repeat' first
    | assumption | intro _ | (dsimp -zeta only) | split | apply acceptImage_sound | apply image0Aborts_sound
    | apply pass1Only_sound

theorem pass1Ends_sound (h : Sound p q s) (image0 image1 : List Byte) : Sound p q (pass1Ends s image0 image1) := by
  unfold pass1Ends
  with_reducible repeat' first
    | assumption | split | apply pass1_sound | apply pass1Only_sound

theorem sourceLost_sound (h : Sound p q s) (offset : Nat) : Sound p q (sourceLost s offset) := by
  unfold sourceLost
  with_reducible repeat' first
    | assumption | intro _ | (dsimp -zeta only) | apply ite_sound | apply configAbort_sound | apply image0Aborts_sound

theorem trainingDone_sound (h : Sound p q s) (fail : Nat) :
    Sound p q (trainingDone s fail) := by
  unfold trainingDone
  with_reducible repeat' first
    | assumption | intro _ | (dsimp -zeta only) | apply ite_sound | split | apply tooColdForDram_sound
    | apply startScrub_sound | apply startRefresh_sound | apply State.wr_sound | apply step_sound | apply abortEnds_sound
    | apply State.logEvent_sound | (apply pair_sound; assumption)

theorem writeRoutes_sound (h : Sound p q s) (b : List Byte) : Sound p q (writeRoutes s b) := by
  unfold writeRoutes
  with_reducible repeat' first
    | assumption | intro _ | (dsimp -zeta only) | apply State.wr_sound | apply foldl_sound | apply foldl_pair_sound

theorem loadBody_sound (h : Sound p q s) (t : Nat) (b : List Byte) : Sound p q (loadBody s t b) := by
  unfold loadBody
  with_reducible repeat' first
    | assumption
    | (extract_lets +onlyGivenNames x; first
        | (have := x.larderBad; clear this; subst x)
        | (refine (fun hx : Sound p q x => ?_) ?_; rotate_left; subst x; rotate_right; clear_value x)
        | clear_value x
        | subst x)
    | intro _ | (dsimp -zeta only) | apply ite_sound | split | apply State.clearBad_sound | apply State.storeBytes_sound
    | (apply pair_sound; assumption) | exact ⟨h.part, h.queue, h.dram, h.larder, Mem.wf_writeN _ _ _ h.sram, h.csr, h.shadow⟩

theorem keepImage_sound (h : Sound p q s) (b : List Byte) :
    Sound p q (keepImage s b) := by
  unfold keepImage
  with_reducible repeat' first
    | assumption | intro _
    | (extract_lets +onlyGivenNames x; first
        | (have := x.larderBad; clear this; subst x)
        | (refine (fun hx : Sound p q x => ?_) ?_; rotate_left; subst x; rotate_right; clear_value x)
        | (refine (fun hx : Sound p q x.1 => ?_) ?_; rotate_left; subst x; rotate_right; clear_value x)
        | clear_value x
        | subst x)
    | (dsimp -zeta only) | apply ite_sound | apply State.storeBytes_sound | apply State.clearBad_sound
    | (apply pair_sound; assumption)

theorem loadGround_sound (h : Sound p q s) (b : List Byte) : Sound p q (loadGround s b) := by
  unfold loadGround
  with_reducible repeat' first
    | assumption | intro _ | (dsimp -zeta only) | apply State.clearBad_sound | apply State.storeBytes_sound
    | apply loadBody_sound | apply writeRoutes_sound | apply foldl_sound | apply foldl_pair_sound

theorem releaseCores_sound (h : Sound p q s) :
    Sound p q (releaseCores s) := by
  unfold releaseCores
  with_reducible repeat' first
    | assumption | intro _ | (dsimp -zeta only) | apply ite_sound | split | apply foldl_sound | apply foldl_pair_sound
    | (apply pair_sound; assumption)

theorem configComplete_sound (h : Sound p q s) : Sound p q (configComplete s) := by
  unfold configComplete
  with_reducible repeat' first
    | assumption | apply ite_sound | apply State.logEvent_sound | apply State.wr_sound

theorem pass2_sound (h : Sound p q s) (b : List Byte) :
    Sound p q (pass2 s b) := by
  unfold pass2
  with_reducible repeat' first
    | assumption | intro _
    | (extract_lets +onlyGivenNames x; first
        | (have := x.larderBad; clear this; subst x)
        | (refine (fun hx : Sound p q x => ?_) ?_; rotate_left; subst x; rotate_right; clear_value x)
        | (refine (fun hx : Sound p q x.1 => ?_) ?_; rotate_left; subst x; rotate_right; clear_value x)
        | clear_value x
        | subst x)
    | (dsimp -zeta only) | apply ite_sound | split | apply keepImage_sound | apply loadGround_sound
    | apply configAbort_sound | apply releaseCores_sound | apply setTier_sound | apply enterRun_sound
    | apply configComplete_sound | apply raiseFor_sound | apply State.wr_sound | (apply pair_sound; assumption)

theorem loadRegion_sound (h : Sound p q s) (r : Nat) (b : List Byte) : Sound p q (loadRegion s r b) := by
  unfold loadRegion
  with_reducible repeat' first
    | assumption | apply ite_sound | apply State.setRegion_sound

theorem loadShelf_sound (h : Sound p q s) (r k : Nat) (b : List Byte) : Sound p q (loadShelf s r k b) := by
  unfold loadShelf
  with_reducible repeat' first
    | assumption | apply ite_sound | apply State.setRegion_sound

theorem loadCode_sound (h : Sound p q s) (e : Nat) (b : List Byte) : Sound p q (loadCode s e b) := by
  unfold loadCode
  with_reducible repeat' first
    | assumption | apply ite_sound | apply State.setEng_sound

theorem fullUnits_sound (h : Sound p q s) (b : List Byte) (h1 : ImageHdr) : Sound p q (fullUnits s b h1) := by
  unfold fullUnits
  with_reducible repeat' first
    | assumption | intro _ | (dsimp -zeta only) | apply ite_sound | apply domainConfigured_sound | apply loadCode_sound
    | apply loadRegion_sound | apply loadShelf_sound | apply foldl_sound | apply foldl_pair_sound

theorem loadFull_sound (h : Sound p q s) (b : List Byte) : Sound p q (loadFull s b) := by
  unfold loadFull
  with_reducible repeat' first
    | assumption | intro _ | (dsimp -zeta only) | apply fullUnits_sound | apply loadBody_sound | apply writeRoutes_sound
    | apply foldl_sound | apply foldl_pair_sound

theorem configDone_sound (h : Sound p q s) : Sound p q (configDone s) := by
  unfold configDone
  with_reducible repeat' first
    | assumption
    | (extract_lets +onlyGivenNames x; first | (refine (fun hx : Sound p q x => ?_) ?_; rotate_left; subst x; rotate_right; clear_value x) | clear_value x)
    | apply ite_sound | split | apply configAbort_sound | apply configComplete_sound | apply loadFull_sound
    | apply startupStep13_sound | (apply pair_sound; assumption)

theorem discardPass_sound (h : Sound p q s) (pass seq why : Nat) : Sound p q (discardPass s pass seq why) := by
  unfold discardPass
  with_reducible repeat' first
    | assumption | apply State.bump_sound | apply State.logEvent_sound

theorem wholePass_sound (h : Sound p q s) (r : ChainRx) : Sound p q (wholePass s r) := by
  unfold wholePass
  with_reducible repeat' first
    | assumption | apply ite_sound | apply State.wr_sound

theorem takeFrame_sound (h : Sound p q s) (r : ChainRx) (f : ChainFrame) : Sound p q (takeFrame s r f) := by
  unfold takeFrame
  with_reducible repeat' first
    | assumption | apply ite_sound | apply wholePass_sound

theorem firstFrame_sound (h : Sound p q s) (f : ChainFrame) : Sound p q (firstFrame s f) := by
  unfold firstFrame
  with_reducible repeat' first
    | assumption | apply ite_sound | apply discardPass_sound | apply takeFrame_sound

theorem chainFrame_sound (h : Sound p q s) (f : ChainFrame) : Sound p q (chainFrame s f) := by
  unfold chainFrame
  with_reducible repeat' first
    | assumption | apply ite_sound | split | apply discardPass_sound | apply firstFrame_sound | apply takeFrame_sound

theorem sendPass_sound (h : Sound p q s) : Sound p q (sendPass s) := by
  unfold sendPass
  with_reducible repeat' first
    | assumption | apply ite_sound | split | apply State.wr_sound

theorem resendChain_sound (h : Sound p q s) : Sound p q (resendChain s) := by
  unfold resendChain
  with_reducible repeat' first
    | assumption | apply State.wr_sound

theorem startFlash_sound (h : Sound p q s) : Sound p q (startFlash s) := by
  unfold startFlash
  with_reducible repeat' first
    | assumption | apply State.wr_sound | apply startRaise_sound

theorem flashEnable_sound (h : Sound p q s) (rq : Requester) : Sound p q (flashEnable s rq) := by
  unfold flashEnable
  with_reducible repeat' first
    | assumption | apply ite_sound | apply State.logEvent_sound | apply abortEnds_sound | apply startFlash_sound

theorem flashActive_sound (h : Sound p q s) : Sound p q (flashActive s) := by
  unfold flashActive
  with_reducible repeat' first
    | assumption | apply State.logEvent_sound | apply State.wr_sound | apply lockClock_sound | apply onMask_sound

theorem writeFlashSvc_sound (h : Sound p q s) (rq : Requester) (data : Nat) (late : Nat) :
    Sound p q (writeFlashSvc s rq data late) := by
  unfold writeFlashSvc
  with_reducible repeat' first
    | assumption | intro _ | (dsimp -zeta only) | apply ite_sound | split | apply flashEnable_sound | apply endFlash_sound
    | apply State.answer_sound | (apply pair_sound; assumption)

theorem xspiCommand_sound (h : Sound p q s) (rq : Requester) (data : Nat) (din : List Byte) :
    Sound p q (xspiCommand s rq data din) := by
  unfold xspiCommand
  with_reducible repeat' first
    | assumption | apply ite_sound | apply State.answer_sound | apply State.logEvent_sound | apply State.wr_sound
    | apply setData_sound | apply stdWrite_sound

theorem revokeKeys_sound (h : Sound p q s) (rq : Requester) (data : Nat) : Sound p q (revokeKeys s rq data) := by
  unfold revokeKeys
  with_reducible repeat' first
    | assumption | apply ite_sound | apply State.answer_sound | apply State.logEvent_sound | apply stdWrite_sound

theorem execConfigStart_sound (h : Sound p q s) (pointer : Option (List Byte)) : Keeps p q (execConfigStart pointer s) := by
  unfold execConfigStart
  with_reducible repeat' first
    | assumption | intro _ | (dsimp -zeta only) | apply ite_sound | apply configStart_sound | apply whilePowered_sound

theorem execConfigPass1Done_sound (h : Sound p q s) (image0 image1 : List Byte) :
    Keeps p q (execConfigPass1Done image0 image1 s) := by
  unfold execConfigPass1Done
  with_reducible repeat' first
    | assumption | intro _ | (dsimp -zeta only) | apply ite_sound | apply pass1Ends_sound | apply whilePowered_sound

theorem execDramTrainingDone_sound (h : Sound p q s) (fail : Nat) : Keeps p q (execDramTrainingDone fail s) := by
  unfold execDramTrainingDone
  with_reducible repeat' first
    | assumption | intro _ | (dsimp -zeta only) | apply ite_sound | apply trainingDone_sound | apply whilePowered_sound

theorem execConfigPass2Done_sound (h : Sound p q s) (image : List Byte) : Keeps p q (execConfigPass2Done image s) := by
  unfold execConfigPass2Done
  with_reducible repeat' first
    | assumption | intro _ | (dsimp -zeta only) | apply ite_sound | split | apply pass2_sound | apply whilePowered_sound

theorem execCfgSourceLost_sound (h : Sound p q s) (offset : Nat) : Keeps p q (execCfgSourceLost offset s) := by
  unfold execCfgSourceLost
  with_reducible repeat' first
    | assumption | intro _ | (dsimp -zeta only) | apply sourceLost_sound | apply whilePowered_sound

theorem execCfgDone_sound (h : Sound p q s) : Keeps p q (execCfgDone s) := by
  unfold execCfgDone
  with_reducible repeat' first
    | assumption | intro _ | (dsimp -zeta only) | apply ite_sound | apply configDone_sound | apply whilePowered_sound

theorem execChainPassStart_sound (h : Sound p q s) : Keeps p q (execChainPassStart s) := by
  unfold execChainPassStart
  with_reducible repeat' first
    | assumption | apply sendPass_sound | apply whilePowered_sound

theorem execChainFrameReceive_sound (h : Sound p q s) (frame : List Byte) :
    Keeps p q (execChainFrameReceive frame s) := by
  unfold execChainFrameReceive
  with_reducible repeat' first
    | assumption | intro _ | (dsimp -zeta only) | apply ite_sound | split | apply chainFrame_sound
    | apply whilePowered_sound | (apply pair_sound; assumption)

theorem execChainFrameGap_sound (h : Sound p q s) : Keeps p q (execChainFrameGap s) := by
  unfold execChainFrameGap
  with_reducible repeat' first
    | assumption | intro _ | (dsimp -zeta only) | apply ite_sound | split | apply discardPass_sound | apply whilePowered_sound

theorem execCfgChainTimeout_sound (h : Sound p q s) : Keeps p q (execCfgChainTimeout s) := by
  unfold execCfgChainTimeout
  with_reducible repeat' first
    | assumption | intro _ | (dsimp -zeta only) | apply ite_sound | apply configAbort_sound | apply whilePowered_sound

theorem execFlashSvcEnable_sound (h : Sound p q s) (rq : Requester) :
    Keeps p q (execFlashSvcEnable rq s) := by
  unfold execFlashSvcEnable
  with_reducible repeat' first
    | assumption | intro _ | (dsimp -zeta only) | apply ite_sound | apply atRegister_sound | apply writeFlashSvc_sound
    | apply whilePowered_sound | (apply pair_sound; assumption)

theorem execFlashSvcDisable_sound (h : Sound p q s) (rq : Requester) (late : Nat) :
    Keeps p q (execFlashSvcDisable rq late s) := by
  unfold execFlashSvcDisable
  with_reducible repeat' first
    | assumption | intro _ | (dsimp -zeta only) | apply ite_sound | apply atRegister_sound | apply writeFlashSvc_sound
    | apply whilePowered_sound | (apply pair_sound; assumption)

theorem execXspiReadCmd_sound (h : Sound p q s) (rq : Requester) (data : Nat) (din : List Byte) :
    Keeps p q (execXspiReadCmd rq data din s) := by
  unfold execXspiReadCmd
  with_reducible repeat' first
    | assumption | intro _ | (dsimp -zeta only) | apply atRegister_sound | apply whilePowered_sound | apply xspiCommand_sound

theorem execXspiWriteCmd_sound (h : Sound p q s) (rq : Requester) (data : Nat) : Keeps p q (execXspiWriteCmd rq data s) := by
  unfold execXspiWriteCmd
  with_reducible repeat' first
    | assumption | intro _ | (dsimp -zeta only) | apply atRegister_sound | apply whilePowered_sound | apply xspiCommand_sound

theorem execSecKeyRevoke_sound (h : Sound p q s) (rq : Requester) (data : Nat) : Keeps p q (execSecKeyRevoke rq data s) := by
  unfold execSecKeyRevoke
  with_reducible repeat' first
    | assumption | intro _ | (dsimp -zeta only) | apply atRegister_sound | apply revokeKeys_sound | apply whilePowered_sound

theorem powerCycle_sound (h : Sound p q s) : Sound p q (powerCycle s) :=
  ⟨h.part, h.queue, h.dram, h.larder, h.sram, rfl, rfl⟩

theorem powerLost_sound (h : Sound p q s) : Sound p q (powerLost s) :=
  ⟨h.part, h.queue, h.dram, h.larder, h.sram, rfl, rfl⟩

theorem retainOff_sound (h : Sound p q s) (late : Nat) (d : Nat) : Sound p q (retainOff s late d) := by
  unfold retainOff
  with_reducible repeat' first
    | assumption | apply ite_sound | split | apply State.clearBits_sound | apply fenceArrives_sound

theorem enterSelfRefresh_sound (h : Sound p q s) :
    Sound p q (enterSelfRefresh s) := by
  unfold enterSelfRefresh
  with_reducible repeat' first
    | assumption | intro _
    | (extract_lets +onlyGivenNames x; first
        | (have := x.larderBad; clear this; subst x)
        | (refine (fun hx : Sound p q x => ?_) ?_; rotate_left; subst x; rotate_right; clear_value x)
        | (refine (fun hx : Sound p q x.1 => ?_) ?_; rotate_left; subst x; rotate_right; clear_value x)
        | clear_value x
        | subst x)
    | (dsimp -zeta only) | apply ite_sound | apply writeRange_sound | apply serveLine_sound | apply State.wr_sound
    | apply foldl_sound | apply foldl_pair_sound | (apply pair_sound; assumption)

theorem enterStandby_sound (h : Sound p q s) (late : Nat) :
    Sound p q (enterStandby s late) := by
  unfold enterStandby
  with_reducible repeat' first
    | assumption | intro _
    | (extract_lets +onlyGivenNames x; first
        | (have := x.larderBad; clear this; subst x)
        | (refine (fun hx : Sound p q x => ?_) ?_; rotate_left; subst x; rotate_right; clear_value x)
        | (refine (fun hx : Sound p q x.1 => ?_) ?_; rotate_left; subst x; rotate_right; clear_value x)
        | clear_value x
        | subst x)
    | (dsimp -zeta only) | apply ite_sound | apply shedTenants_sound | apply beginTransition_sound
    | apply enterSelfRefresh_sound | apply fenceMask_sound | apply retainOff_sound | apply lowerChannels_sound
    | apply unlockClock_sound | apply setTier_sound | apply enterMode_sound | apply foldl_sound | apply foldl_pair_sound
    | (apply pair_sound; assumption)

theorem railFault_sound (h : Sound p q s) (ch why : Nat) : Sound p q (railFault s ch why) := by
  unfold railFault
  with_reducible repeat' first
    | assumption | apply State.logEvent_sound | apply forcedCellar_sound

theorem resumeGround_sound (h : Sound p q s) :
    Sound p q (resumeGround s) := by
  unfold resumeGround
  with_reducible repeat' first
    | assumption | intro _
    | (extract_lets +onlyGivenNames x; first
        | (have := x.larderBad; clear this; subst x)
        | (refine (fun hx : Sound p q x => ?_) ?_; rotate_left; subst x; rotate_right; clear_value x)
        | (refine (fun hx : Sound p q x.1 => ?_) ?_; rotate_left; subst x; rotate_right; clear_value x)
        | clear_value x
        | subst x)
    | (dsimp -zeta only) | apply ite_sound | split | apply lockClock_sound | apply startScrub_sound
    | apply startRefresh_sound | apply setTier_sound | apply onMask_sound | apply State.wr_sound
    | (apply pair_sound; assumption)

theorem resumeFull_sound (h : Sound p q s) (b : List Byte) : Sound p q (resumeFull s b) := by
  unfold resumeFull
  with_reducible repeat' first
    | assumption | apply ite_sound | apply fullUnits_sound | apply onMask_sound | apply setTier_sound

theorem resumeUp_sound (h : Sound p q s) :
    Sound p q (resumeUp s) := by
  unfold resumeUp
  with_reducible repeat' first
    | assumption | intro _
    | (extract_lets +onlyGivenNames x; first
        | (have := x.larderBad; clear this; subst x)
        | (refine (fun hx : Sound p q x => ?_) ?_; rotate_left; subst x; rotate_right; clear_value x)
        | (refine (fun hx : Sound p q x.1 => ?_) ?_; rotate_left; subst x; rotate_right; clear_value x)
        | clear_value x
        | subst x)
    | (dsimp -zeta only) | apply ite_sound | split | apply resumeGround_sound | apply enterMode_sound
    | apply resumeFull_sound | apply warmReset_sound | apply State.logEvent_sound | (apply pair_sound; assumption)

theorem resume_sound (h : Sound p q s) (cause : Nat) (bad : Option Nat) :
    Sound p q (resume s cause bad) := by
  unfold resume
  with_reducible repeat' first
    | assumption | intro _
    | (extract_lets +onlyGivenNames x; first
        | (have := x.larderBad; clear this; subst x)
        | (refine (fun hx : Sound p q x => ?_) ?_; rotate_left; subst x; rotate_right; clear_value x)
        | (refine (fun hx : Sound p q x.1 => ?_) ?_; rotate_left; subst x; rotate_right; clear_value x)
        | clear_value x
        | subst x)
    | (dsimp -zeta only) | apply ite_sound | split | apply beginTransition_sound | apply State.wr_sound
    | apply raiseInOrder_sound | apply railFault_sound | apply resumeUp_sound | (apply pair_sound; assumption)

theorem enterHoldover_sound (h : Sound p q s) (late : Nat) : Sound p q (enterHoldover s late) := by
  unfold enterHoldover
  with_reducible repeat' first
    | assumption | apply beginTransition_sound | apply enterMode_sound | apply fenceMask_sound | apply shedTenants_sound

theorem leaveHoldover_sound (h : Sound p q s) : Sound p q (leaveHoldover s) := by
  unfold leaveHoldover
  with_reducible repeat' first
    | assumption | apply beginTransition_sound | apply enterMode_sound | apply onMask_sound

theorem enterCellar_sound (h : Sound p q s) (late : Nat) : Sound p q (enterCellar s late) := by
  unfold enterCellar
  with_reducible repeat' first
    | assumption | apply State.wr_sound | apply beginTransition_sound | apply enterMode_sound | apply groundOff_sound

theorem runFromCellar_sound (h : Sound p q s) (rq : Nat) (late : Nat) :
    Sound p q (runFromCellar s rq late) := by
  unfold runFromCellar
  with_reducible repeat' first
    | assumption | intro _ | (dsimp -zeta only) | apply ite_sound | split | apply startupStep4_sound
    | apply startupStep6_sound | apply endFlash_sound | (apply pair_sound; assumption)

theorem requestMode_sound (h : Sound p q s) (rq : Nat) (target : Nat) (late : Nat) (bad : Option Nat) :
    Sound p q (requestMode s rq target late bad) := by
  unfold requestMode
  with_reducible repeat' first
    | assumption | intro _ | (dsimp -zeta only) | apply ite_sound | split | apply State.logEvent_sound
    | apply enterCellar_sound | apply enterStandby_sound | apply enterHoldover_sound | apply runFromCellar_sound
    | apply resume_sound | apply leaveHoldover_sound | (apply pair_sound; assumption)

theorem writePwrReq_sound (h : Sound p q s) (rq : Requester) (target : Nat) (late : Nat) (bad : Option Nat) :
    Sound p q (writePwrReq s rq target late bad) := by
  unfold writePwrReq
  with_reducible repeat' first
    | assumption | intro _ | (dsimp -zeta only) | apply ite_sound | apply requestMode_sound | apply State.answer_sound
    | (apply pair_sound; assumption)

theorem wakeUp_sound (h : Sound p q s) (source : Nat) (bad : Option Nat) :
    Sound p q (wakeUp s source bad) := by
  unfold wakeUp
  with_reducible repeat' first
    | assumption | intro _ | (dsimp -zeta only) | apply ite_sound | split | apply resume_sound | apply wake_sound
    | (apply pair_sound; assumption)

theorem mainsTrigger_sound (h : Sound p q s) (late : Nat) : Sound p q (mainsTrigger s late) := by
  unfold mainsTrigger
  with_reducible repeat' first
    | assumption | apply ite_sound | apply State.wr_sound | apply enterHoldover_sound

theorem mainsDwell_sound (h : Sound p q s) : Sound p q (mainsDwell s) := by
  unfold mainsDwell
  with_reducible repeat' first
    | assumption | apply ite_sound | apply leaveHoldover_sound | apply setBattery_sound

theorem batteryCut_sound (h : Sound p q s) :
    Sound p q (batteryCut s) := by
  unfold batteryCut
  with_reducible repeat' first
    | assumption | intro _
    | (extract_lets +onlyGivenNames x; first
        | (have := x.larderBad; clear this; subst x)
        | (refine (fun hx : Sound p q x => ?_) ?_; rotate_left; subst x; rotate_right; clear_value x)
        | (refine (fun hx : Sound p q x.1 => ?_) ?_; rotate_left; subst x; rotate_right; clear_value x)
        | clear_value x
        | subst x)
    | (dsimp -zeta only) | apply ite_sound | split | apply State.wr_sound | apply State.logEvent_sound
    | apply requestMode_sound | apply withdrawLater_sound | (apply pair_sound; assumption)

theorem coreStarts_sound (h : Sound p q s) : Sound p q (coreStarts s) := by
  unfold coreStarts
  with_reducible repeat' first
    | assumption | apply State.wr_sound | apply beginTransition_sound | apply loadDefaultModel_sound | apply setCellarClk_sound

theorem startUp_sound (h : Sound p q s) : Sound p q (startUp s) := by
  unfold startUp
  with_reducible repeat' first
    | assumption
    | (extract_lets +onlyGivenNames x; first | (refine (fun hx : Sound p q x => ?_) ?_; rotate_left; subst x; rotate_right; clear_value x) | clear_value x)
    | split | apply coreStarts_sound | apply noteReset_sound | apply startupStep3_sound | (apply pair_sound; assumption)

theorem fllLocks_sound (h : Sound p q s) (tj : BitVec 16) (mfio63 : Bool) : Sound p q (fllLocks s tj mfio63) := by
  unfold fllLocks
  with_reducible repeat' first
    | assumption | apply ite_sound | apply applyPlantPlan_sound | apply setCellarClk_sound | apply setTjMin_sound
    | apply startupStep3_sound

theorem warmReached_sound (h : Sound p q s) (tj : BitVec 16) : Sound p q (warmReached s tj) := by
  unfold warmReached
  with_reducible repeat' first
    | assumption | apply ite_sound | apply State.logEvent_sound | apply endLoad_sound | apply setTjMin_sound
    | apply startupStep6_sound

theorem warmExpires_sound (h : Sound p q s) (tj : BitVec 16) : Sound p q (warmExpires s tj) := by
  unfold warmExpires
  with_reducible repeat' first
    | assumption | apply ite_sound | apply State.logEvent_sound | apply State.wr_sound | apply endLoad_sound
    | apply endTransition_sound | apply lowerAll_sound | apply setTjMin_sound

theorem coldReading_sound (h : Sound p q s) (tj : BitVec 16) : Sound p q (coldReading s tj) := by
  unfold coldReading
  with_reducible repeat' first
    | assumption | apply ite_sound | apply beginTransition_sound | apply setTjMin_sound | apply startWarming_sound
    | apply startupStep6_sound

theorem channelGood_sound (h : Sound p q s) (ch : Nat) : Sound p q (channelGood s ch) := by
  unfold channelGood
  with_reducible repeat' first
    | assumption | apply ite_sound | split | apply channelsUp_sound | apply enableNext_sound

theorem refclkFound_sound (h : Sound p q s) :
    Sound p q (refclkFound s) := by
  unfold refclkFound
  with_reducible repeat' first
    | assumption | intro _ | (dsimp -zeta only) | apply ite_sound | split | apply onMask_sound | apply lockClock_sound
    | apply step_sound | apply State.wr_sound | apply flashActive_sound | (apply pair_sound; assumption)

theorem refclkMissing_sound (h : Sound p q s) : Sound p q (refclkMissing s) := by
  unfold refclkMissing
  with_reducible repeat' first
    | assumption | apply ite_sound | apply State.logEvent_sound | apply State.wr_sound | apply lowerAll_sound
    | apply lowerChannels_sound | apply startupEnds_sound

theorem refuseDomains_sound (h : Sound p q s) (rq : Requester) (bad on : Nat) : Sound p q (refuseDomains s rq bad on) := by
  unfold refuseDomains
  with_reducible repeat' first
    | assumption | apply ite_sound | apply State.logEvent_sound

theorem domainOnRequest_sound (h : Sound p q s) (rq : Requester) (data : Nat) :
    Sound p q (domainOnRequest s rq data) := by
  unfold domainOnRequest
  with_reducible repeat' first
    | assumption | intro _
    | (extract_lets +onlyGivenNames x; first
        | (have := x.larderBad; clear this; subst x)
        | (refine (fun hx : Sound p q x => ?_) ?_; rotate_left; subst x; rotate_right; clear_value x)
        | (refine (fun hx : Sound p q x.1 => ?_) ?_; rotate_left; subst x; rotate_right; clear_value x)
        | clear_value x
        | subst x)
    | (dsimp -zeta only) | apply ite_sound | split | apply refuseDomains_sound | apply onRequest_sound
    | apply State.answer_sound | apply foldl_sound | apply foldl_pair_sound | (apply pair_sound; assumption)

theorem domainOffRequest_sound (h : Sound p q s) (rq : Requester) (data : Nat) :
    Sound p q (domainOffRequest s rq data) := by
  unfold domainOffRequest
  with_reducible repeat' first
    | assumption | intro _
    | (extract_lets +onlyGivenNames x; first
        | (have := x.larderBad; clear this; subst x)
        | (refine (fun hx : Sound p q x => ?_) ?_; rotate_left; subst x; rotate_right; clear_value x)
        | (refine (fun hx : Sound p q x.1 => ?_) ?_; rotate_left; subst x; rotate_right; clear_value x)
        | clear_value x
        | subst x)
    | (dsimp -zeta only) | apply ite_sound | apply refuseDomains_sound | apply offRequest_sound | apply State.answer_sound
    | apply foldl_sound | apply foldl_pair_sound | (apply pair_sound; assumption)

theorem keyMismatch_sound (h : Sound p q s) (rq : Requester) (addr data : Nat) : Sound p q (keyMismatch s rq addr data) := by
  unfold keyMismatch
  with_reducible repeat' first
    | assumption | apply State.answer_sound | apply State.logEvent_sound

theorem writeReset_sound (h : Sound p q s) (rq : Requester) (data late : Nat) : Sound p q (writeReset s rq data late) := by
  unfold writeReset
  with_reducible repeat' first
    | assumption | apply ite_sound | split | apply State.answer_sound | apply coldReset_sound | apply keyMismatch_sound
    | apply warmReset_sound

theorem writeKick_sound (h : Sound p q s) (rq : Requester) (data : Nat) : Sound p q (writeKick s rq data) := by
  unfold writeKick
  with_reducible repeat' first
    | assumption | apply ite_sound | split | apply State.answer_sound | apply keyMismatch_sound

theorem setLevel_sound (h : Sound p q s) (new old : Nat) : Sound p q (setLevel s new old) := by
  unfold setLevel
  with_reducible repeat' first
    | assumption | apply State.logEvent_sound | apply State.wr_sound

theorem thermalTrip_sound (h : Sound p q s) : Sound p q (thermalTrip s) := by
  unfold thermalTrip
  with_reducible repeat' first
    | assumption | apply State.logEvent_sound | apply forcedCellar_sound | apply runFlag_sound

theorem levelAction_sound (h : Sound p q s) (l : Nat) :
    Sound p q (levelAction s l) := by
  unfold levelAction
  with_reducible repeat' first
    | assumption | intro _
    | (extract_lets +onlyGivenNames x; first
        | (have := x.larderBad; clear this; subst x)
        | (refine (fun hx : Sound p q x => ?_) ?_; rotate_left; subst x; rotate_right; clear_value x)
        | (refine (fun hx : Sound p q x.1 => ?_) ?_; rotate_left; subst x; rotate_right; clear_value x)
        | clear_value x
        | subst x)
    | (dsimp -zeta only) | apply ite_sound | split | apply runFlag_sound | apply offRequest_sound | apply thermalTrip_sound
    | apply foldl_sound | apply foldl_pair_sound | (apply pair_sound; assumption)

theorem raiseLevels_sound (h : Sound p q s)  (u : Nat) : Sound p q (raiseLevels s u) := by
  induction u generalizing s  with
  | zero => exact h
  | succ u ih =>
    unfold raiseLevels
    with_reducible repeat' first
      | assumption | apply ih | apply ite_sound | apply levelAction_sound | apply setLevel_sound

theorem lowerLevels_sound (h : Sound p q s)  (u : Nat) : Sound p q (lowerLevels s u) := by
  induction u generalizing s  with
  | zero => exact h
  | succ u ih =>
    unfold lowerLevels
    with_reducible repeat' first
      | assumption | apply ih | apply ite_sound | apply setLevel_sound

theorem evaluate_sound (h : Sound p q s) (lo hi : BitVec 16) : Sound p q (evaluate s lo hi) := by
  unfold evaluate
  with_reducible repeat' first
    | assumption | apply lowerLevels_sound | apply raiseLevels_sound | apply setTjMax_sound | apply setTjMin_sound

theorem xtalFails_sound (h : Sound p q s) : Sound p q (xtalFails s) := by
  unfold xtalFails
  with_reducible repeat' first
    | assumption | apply ite_sound | apply State.logEvent_sound | apply State.wr_sound | apply audioGlitch_sound

theorem xtalBack_sound (h : Sound p q s) : Sound p q (xtalBack s) := by
  unfold xtalBack
  with_reducible repeat' first
    | assumption | apply ite_sound | apply clockAfterMode_sound

theorem avsSetPoint_sound (h : Sound p q s) (mv : Nat) (answer : Option Nat) :
    Sound p q (avsSetPoint s mv answer) := by
  unfold avsSetPoint
  with_reducible repeat' first
    | assumption | intro _
    | (extract_lets +onlyGivenNames x; first
        | (have := x.larderBad; clear this; subst x)
        | (refine (fun hx : Sound p q x => ?_) ?_; rotate_left; subst x; rotate_right; clear_value x)
        | (refine (fun hx : Sound p q x.1 => ?_) ?_; rotate_left; subst x; rotate_right; clear_value x)
        | clear_value x
        | subst x)
    | (dsimp -zeta only) | apply ite_sound | split | apply State.answer_sound | apply floorReached_sound
    | apply abandonChange_sound | apply State.logLimited_sound | (apply pair_sound; assumption)

theorem execVddCelPowerGood_sound (h : Sound p q s) : Keeps p q (execVddCelPowerGood s) := by
  unfold execVddCelPowerGood
  split
  · exact Keeps.next (powerCycle_sound h)
  · exact Keeps.next h

theorem execVddCelLoss_sound (h : Sound p q s) : Keeps p q (execVddCelLoss s) :=
  Keeps.next (powerLost_sound h)

theorem execVddIo33Low_sound (h : Sound p q s) : Keeps p q (execVddIo33Low s) := by
  unfold execVddIo33Low
  with_reducible repeat' first
    | assumption | intro _ | (dsimp -zeta only) | apply coldReset_sound | apply whilePowered_sound

theorem execVddIo33Restored_sound (h : Sound p q s) : Keeps p q (execVddIo33Restored s) :=
  Keeps.next ⟨h.part, h.queue, h.dram, h.larder, h.sram, h.csr, h.shadow⟩

theorem execPornReset_sound (h : Sound p q s) : Keeps p q (execPornReset s) := by
  unfold execPornReset
  with_reducible repeat' first
    | assumption | intro _ | (dsimp -zeta only) | apply coldReset_sound | apply whilePowered_sound

theorem execWatchdogExpiry_sound (h : Sound p q s) : Keeps p q (execWatchdogExpiry s) := by
  unfold execWatchdogExpiry
  with_reducible repeat' first
    | assumption | intro _ | (dsimp -zeta only) | apply ite_sound | apply coldReset_sound | apply whilePowered_sound

theorem execWdogKick_sound (h : Sound p q s) (rq : Requester) (data : Nat) : Keeps p q (execWdogKick rq data s) := by
  unfold execWdogKick
  with_reducible repeat' first
    | assumption | intro _ | (dsimp -zeta only) | apply atRegister_sound | apply whilePowered_sound | apply writeKick_sound

theorem execSoftwareColdReset_sound (h : Sound p q s) (rq : Requester) (data : Nat) :
    Keeps p q (execSoftwareColdReset rq data s) := by
  unfold execSoftwareColdReset
  with_reducible repeat' first
    | assumption | intro _ | (dsimp -zeta only) | apply atRegister_sound | apply whilePowered_sound | apply writeReset_sound

theorem execSoftwareWarmReset_sound (h : Sound p q s) (rq : Requester) (data late : Nat) :
    Keeps p q (execSoftwareWarmReset rq data late s) := by
  unfold execSoftwareWarmReset
  with_reducible repeat' first
    | assumption | intro _ | (dsimp -zeta only) | apply atRegister_sound | apply whilePowered_sound | apply writeReset_sound

theorem execStartUp_sound (h : Sound p q s) : Keeps p q (execStartUp s) := by
  unfold execStartUp
  with_reducible repeat' first
    | assumption | apply startUp_sound | apply whilePowered_sound

theorem execFllLock_sound (h : Sound p q s) (tjMin : BitVec 16) (mfio63 : Bool) : Keeps p q (execFllLock tjMin mfio63 s) := by
  unfold execFllLock
  with_reducible repeat' first
    | assumption | intro _ | (dsimp -zeta only) | apply fllLocks_sound | apply whilePowered_sound

theorem execWarmEnd_sound (h : Sound p q s) (tjMin : BitVec 16) : Keeps p q (execWarmEnd tjMin s) := by
  unfold execWarmEnd
  with_reducible repeat' first
    | assumption | intro _ | (dsimp -zeta only) | apply warmReached_sound | apply whilePowered_sound

theorem execWarmLimitExpired_sound (h : Sound p q s) (tjMin : BitVec 16) : Keeps p q (execWarmLimitExpired tjMin s) := by
  unfold execWarmLimitExpired
  with_reducible repeat' first
    | assumption | intro _ | (dsimp -zeta only) | apply warmExpires_sound | apply whilePowered_sound

theorem execColdWaitReading_sound (h : Sound p q s) (tjMin : BitVec 16) : Keeps p q (execColdWaitReading tjMin s) := by
  unfold execColdWaitReading
  with_reducible repeat' first
    | assumption | intro _ | (dsimp -zeta only) | apply coldReading_sound | apply whilePowered_sound

theorem execRailChannelPowerGood_sound (h : Sound p q s) (ch : Nat) : Keeps p q (execRailChannelPowerGood ch s) := by
  unfold execRailChannelPowerGood
  with_reducible repeat' first
    | assumption | intro _ | (dsimp -zeta only) | apply channelGood_sound | apply whilePowered_sound

theorem execRailFaultTimeout_sound (h : Sound p q s) (ch : Nat) : Keeps p q (execRailFaultTimeout ch s) := by
  unfold execRailFaultTimeout
  with_reducible repeat' first
    | assumption | intro _ | (dsimp -zeta only) | apply ite_sound | apply railFault_sound | apply whilePowered_sound

theorem execRailFaultDrop_sound (h : Sound p q s) (ch : Nat) : Keeps p q (execRailFaultDrop ch s) := by
  unfold execRailFaultDrop
  with_reducible repeat' first
    | assumption | intro _ | (dsimp -zeta only) | apply ite_sound | apply railFault_sound | apply whilePowered_sound

theorem execRailFaultRetry_sound (h : Sound p q s) : Keeps p q (execRailFaultRetry s) := by
  unfold execRailFaultRetry
  with_reducible repeat' first
    | assumption | intro _ | (dsimp -zeta only) | apply ite_sound | apply requestMode_sound | apply whilePowered_sound

theorem execRefclkDetected_sound (h : Sound p q s) : Keeps p q (execRefclkDetected s) := by
  unfold execRefclkDetected
  with_reducible repeat' first
    | assumption | apply refclkFound_sound | apply whilePowered_sound

theorem execRefclkAbsent_sound (h : Sound p q s) : Keeps p q (execRefclkAbsent s) := by
  unfold execRefclkAbsent
  with_reducible repeat' first
    | assumption | apply refclkMissing_sound | apply whilePowered_sound

theorem execPwrReqCellar_sound (h : Sound p q s) (rq : Requester) (late : Nat) : Keeps p q (execPwrReqCellar rq late s) := by
  unfold execPwrReqCellar
  with_reducible repeat' first
    | assumption | intro _ | (dsimp -zeta only) | apply atRegister_sound | apply whilePowered_sound | apply writePwrReq_sound

theorem execPwrReqStandby_sound (h : Sound p q s) (rq : Requester) (late : Nat) : Keeps p q (execPwrReqStandby rq late s) := by
  unfold execPwrReqStandby
  with_reducible repeat' first
    | assumption | intro _ | (dsimp -zeta only) | apply atRegister_sound | apply whilePowered_sound | apply writePwrReq_sound

theorem execPwrReqRun_sound (h : Sound p q s) (rq : Requester) (late : Nat) (bad : Option Nat) :
    Keeps p q (execPwrReqRun rq late bad s) := by
  unfold execPwrReqRun
  with_reducible repeat' first
    | assumption | intro _ | (dsimp -zeta only) | apply ite_sound | apply atRegister_sound | apply writePwrReq_sound
    | apply whilePowered_sound | (apply pair_sound; assumption)

theorem execPwrReqHoldover_sound (h : Sound p q s) (rq : Requester) (late : Nat) :
    Keeps p q (execPwrReqHoldover rq late s) := by
  unfold execPwrReqHoldover
  with_reducible repeat' first
    | assumption | intro _ | (dsimp -zeta only) | apply atRegister_sound | apply whilePowered_sound | apply writePwrReq_sound

theorem execStandbyWake_sound (h : Sound p q s) (source : Nat) (bad : Option Nat) :
    Keeps p q (execStandbyWake source bad s) := by
  unfold execStandbyWake
  with_reducible repeat' first
    | assumption | intro _ | (dsimp -zeta only) | apply ite_sound | apply wakeUp_sound | apply whilePowered_sound
    | (apply pair_sound; assumption)

theorem execMainsLost_sound (h : Sound p q s) (late : Nat) : Keeps p q (execMainsLost late s) := by
  unfold execMainsLost
  with_reducible repeat' first
    | assumption | intro _ | (dsimp -zeta only) | apply mainsTrigger_sound | apply whilePowered_sound

theorem execMainsPresentDwell_sound (h : Sound p q s) : Keeps p q (execMainsPresentDwell s) := by
  unfold execMainsPresentDwell
  with_reducible repeat' first
    | assumption | apply mainsDwell_sound | apply whilePowered_sound

theorem execBatteryCut_sound (h : Sound p q s) : Keeps p q (execBatteryCut s) := by
  unfold execBatteryCut
  with_reducible repeat' first
    | assumption | apply batteryCut_sound | apply whilePowered_sound

theorem execDomainOnRequest_sound (h : Sound p q s) (rq : Requester) (mask : Nat) :
    Keeps p q (execDomainOnRequest rq mask s) := by
  unfold execDomainOnRequest
  with_reducible repeat' first
    | assumption | intro _ | (dsimp -zeta only) | apply atRegister_sound | apply domainOnRequest_sound
    | apply whilePowered_sound

theorem execDomainOffRequest_sound (h : Sound p q s) (rq : Requester) (mask : Nat) :
    Keeps p q (execDomainOffRequest rq mask s) := by
  unfold execDomainOffRequest
  with_reducible repeat' first
    | assumption | intro _ | (dsimp -zeta only) | apply atRegister_sound | apply domainOffRequest_sound
    | apply whilePowered_sound

theorem execFenceAck_sound (h : Sound p q s) (dom : Nat) : Keeps p q (execFenceAck dom s) := by
  unfold execFenceAck
  with_reducible repeat' first
    | assumption | intro _ | (dsimp -zeta only) | apply ite_sound | apply fenceDone_sound | apply whilePowered_sound

theorem execFenceTimeout_sound (h : Sound p q s) (dom : Nat) : Keeps p q (execFenceTimeout dom s) := by
  unfold execFenceTimeout
  with_reducible repeat' first
    | assumption | intro _ | (dsimp -zeta only) | apply ite_sound | apply fenceDone_sound | apply whilePowered_sound

theorem execXtalFail_sound (h : Sound p q s) : Keeps p q (execXtalFail s) := by
  unfold execXtalFail
  with_reducible repeat' first
    | assumption | apply whilePowered_sound | apply xtalFails_sound

theorem execCrystalRestored_sound (h : Sound p q s) : Keeps p q (execCrystalRestored s) := by
  unfold execCrystalRestored
  with_reducible repeat' first
    | assumption | apply whilePowered_sound | apply xtalBack_sound

theorem execGovernorEvaluation_sound (h : Sound p q s) (tjMin tjMax : BitVec 16) :
    Keeps p q (execGovernorEvaluation tjMin tjMax s) := by
  unfold execGovernorEvaluation
  with_reducible repeat' first
    | assumption | intro _ | (dsimp -zeta only) | apply evaluate_sound | apply whilePowered_sound

theorem execThermalTrip_sound (h : Sound p q s) (tjMax : BitVec 16) : Keeps p q (execThermalTrip tjMax s) := by
  unfold execThermalTrip
  with_reducible repeat' first
    | assumption | intro _ | (dsimp -zeta only) | apply ite_sound | apply setTjMax_sound | apply thermalTrip_sound
    | apply whilePowered_sound

theorem execTripRestart_sound (h : Sound p q s) (tjMax : BitVec 16) : Keeps p q (execTripRestart tjMax s) := by
  unfold execTripRestart
  with_reducible repeat' first
    | assumption | intro _ | (dsimp -zeta only) | apply ite_sound | apply setTjMax_sound | apply startupStep6_sound
    | apply whilePowered_sound

theorem execAvsSetPoint_sound (h : Sound p q s) (mv : Nat) (answer : Option Nat) :
    Keeps p q (execAvsSetPoint mv answer s) := by
  unfold execAvsSetPoint
  with_reducible repeat' first
    | assumption | intro _ | (dsimp -zeta only) | apply State.answer_sound | apply avsSetPoint_sound | apply whilePowered_sound

end Sys2Proof.Machine
end

