-- ==== Sys2Proof/Laws/SoundUnits.lean ====
section
/-! SUPPORT. What no operation breaks: the part, the rest of the queue, the canonical form of the byte memories and of the
register tables.  Here: hatch, group, bus accesses, time. -/

namespace Sys2Proof.Machine

variable {p : Part} {q : List Instr} {s : State}

theorem hatchWord_sound (h : Sound p q s) (d : HatchDesc) (subcode cycles : Nat) :
    Sound p q (hatchWord s d subcode cycles) := by
  unfold hatchWord
  with_reducible repeat' first
    | assumption | apply ite_sound | apply pushPacket_sound

theorem noteHatch_sound (h : Sound p q s) (subcode op poster : Nat) : Sound p q (noteHatch s subcode op poster) := by
  unfold noteHatch
  with_reducible repeat' first
    | assumption | apply State.logEvent_sound | apply State.wr_sound

theorem refuseDescriptor_sound (h : Sound p q s) (d : HatchDesc) (subcode : Nat) :
    Sound p q (refuseDescriptor s d subcode) := by
  unfold refuseDescriptor
  with_reducible repeat' first
    | assumption | apply ite_sound | apply hatchWord_sound | apply noteHatch_sound

theorem hatchPost_sound (h : Sound p q s) (addr poster : Nat) (fabric : Bool) :
    Sound p q (hatchPost s addr poster fabric) := by
  unfold hatchPost
  with_reducible repeat' first
    | assumption
    | (extract_lets +onlyGivenNames x; first
        | (have := x.larderBad; clear this; subst x)
        | (refine (fun hx : Sound p q x => ?_) ?_; rotate_left; subst x; rotate_right; clear_value x)
        | clear_value x
        | subst x)
    | exact (State.busRead_sound h _ _ _) | intro _ | (dsimp -zeta only) | apply ite_sound | split | apply State.busRead_sound
    | apply noteHatch_sound | apply refuseDescriptor_sound | (apply pair_sound; assumption)

theorem writeHatchHi_sound (h : Sound p q s) (rq : Requester) (data : Nat) : Sound p q (writeHatchHi s rq data) := by
  unfold writeHatchHi
  with_reducible repeat' first
    | assumption | apply State.wr_sound | apply hatchPost_sound

theorem lanePost_sound (h : Sound p q s) (p1 : Nat) (lo hi : Word) : Sound p q (lanePost s p1 lo hi) := by
  unfold lanePost
  with_reducible repeat' first
    | assumption | apply ite_sound | apply hatchPost_sound

theorem hatchBody_sound (h : Sound p q s) (d : HatchDesc) : Sound p q (hatchBody s d).1 := by
  unfold hatchBody
  with_reducible repeat' first
    | assumption
    | (extract_lets +onlyGivenNames x; first | (refine (fun hx : Sound p q x => ?_) ?_; rotate_left; subst x; rotate_right; clear_value x) | clear_value x)
    | apply ite_sound | split | apply State.busRead_sound | (apply pair_sound; assumption)

theorem setCur_sound (h : Sound p q s) (d : HatchDesc) (subcode : Nat) : Sound p q (setCur s d subcode) := by
  unfold setCur
  with_reducible repeat' first
    | assumption

theorem loadingShelf_sound (h : Sound p q s) (d : HatchDesc) (b : List Byte) : Sound p q (loadingShelf s d b) := by
  unfold loadingShelf
  with_reducible repeat' first
    | assumption | apply State.setRegion_sound

theorem isolateForReload_sound (h : Sound p q s) (r : Nat) (image : Option (List Byte)) :
    Sound p q (isolateForReload s r image) := by
  unfold isolateForReload
  with_reducible repeat' first
    | assumption | intro _
    | (extract_lets +onlyGivenNames x; first
        | (have := x.larderBad; clear this; subst x)
        | (refine (fun hx : Sound p q x => ?_) ?_; rotate_left; subst x; rotate_right; clear_value x)
        | (refine (fun hx : Sound p q x.1 => ?_) ?_; rotate_left; subst x; rotate_right; clear_value x)
        | clear_value x
        | subst x)
    | (dsimp -zeta only) | apply ite_sound | apply isolateRegion_sound | apply fenceRequest_sound
    | apply State.setRegion_sound | (apply pair_sound; assumption)

theorem carryOut_sound (h : Sound p q s) (d : HatchDesc) (b : List Byte) (good : Bool) :
    Sound p q (carryOut s d b good) := by
  unfold carryOut
  with_reducible repeat' first
    | assumption | intro _ | (dsimp -zeta only) | apply ite_sound | split | apply loadingShelf_sound
    | apply isolateForReload_sound | apply writeRoutes_sound | (apply pair_sound; assumption)

theorem takeDescriptor_sound (h : Sound p q s) (op : Nat) :
    Sound p q (takeDescriptor s op) := by
  unfold takeDescriptor
  with_reducible repeat' first
    | assumption | intro _
    | (extract_lets +onlyGivenNames x; first
        | (have := x.larderBad; clear this; subst x)
        | (refine (fun hx : Sound p q x => ?_) ?_; rotate_left; subst x; rotate_right; clear_value x)
        | (refine (fun hx : Sound p q x.1 => ?_) ?_; rotate_left; subst x; rotate_right; clear_value x)
        | clear_value x
        | subst x)
    | (dsimp -zeta only) | apply ite_sound | split | apply hatchBody_sound | apply refuseDescriptor_sound
    | apply setCur_sound | apply carryOut_sound | apply noteHatch_sound | (apply pair_sound; assumption)

theorem loadComplete_sound (h : Sound p q s) (cycles : Nat) : Sound p q (loadComplete s cycles) := by
  have h1 : Sound p q { s with hatch := { s.hatch with cur := none } } :=
    ⟨h.part, h.queue, h.dram, h.larder, h.sram, h.csr, h.shadow⟩
  unfold loadComplete
  split
  · split
    · exact h
    · dsimp only
      apply hatchWord_sound
      split
      · exact State.setRegion_sound h1 _ _
      · exact h1
  · exact h

theorem regionReloaded_sound (h : Sound p q s) (cycles : Nat) : Sound p q (regionReloaded s cycles) := by
  have h1 : Sound p q { s with hatch := { s.hatch with cur := none } } :=
    ⟨h.part, h.queue, h.dram, h.larder, h.sram, h.csr, h.shadow⟩
  unfold regionReloaded
  split
  · split
    · dsimp only
      apply hatchWord_sound
      apply State.logEvent_sound
      split
      · exact State.clearBits_sound (State.setRegion_sound h1 _ _) _ _
      · exact h1
    · exact h
  · exact h

theorem execHatchPost_sound (h : Sound p q s) (rq : Requester) (data : Nat) : Keeps p q (execHatchPost rq data s) := by
  unfold execHatchPost
  with_reducible repeat' first
    | assumption | intro _ | (dsimp -zeta only) | apply atRegister_sound | apply whilePowered_sound | apply writeHatchHi_sound

theorem execHatchLanePost_sound (h : Sound p q s) (port : Nat) (lo hi : Word) :
    Keeps p q (execHatchLanePost port lo hi s) := by
  unfold execHatchLanePost
  with_reducible repeat' first
    | assumption | intro _ | (dsimp -zeta only) | apply lanePost_sound | apply whilePowered_sound

theorem execShelfLoad_sound (h : Sound p q s) :
    Keeps p q (execShelfLoad s) := by
  unfold execShelfLoad
  with_reducible repeat' first
    | assumption | intro _ | (dsimp -zeta only) | apply ite_sound | apply takeDescriptor_sound | apply whilePowered_sound
    | (apply pair_sound; assumption)

theorem execRegionReload_sound (h : Sound p q s) :
    Keeps p q (execRegionReload s) := by
  unfold execRegionReload
  with_reducible repeat' first
    | assumption | intro _ | (dsimp -zeta only) | apply ite_sound | apply takeDescriptor_sound | apply whilePowered_sound
    | (apply pair_sound; assumption)

theorem execRouteLoad_sound (h : Sound p q s) :
    Keeps p q (execRouteLoad s) := by
  unfold execRouteLoad
  with_reducible repeat' first
    | assumption | intro _ | (dsimp -zeta only) | apply ite_sound | apply takeDescriptor_sound | apply whilePowered_sound
    | (apply pair_sound; assumption)

theorem execHatchLoadComplete_sound (h : Sound p q s) (cycles : Nat) : Keeps p q (execHatchLoadComplete cycles s) := by
  unfold execHatchLoadComplete
  with_reducible repeat' first
    | assumption | intro _ | (dsimp -zeta only) | apply loadComplete_sound | apply whilePowered_sound

theorem execRegionReloaded_sound (h : Sound p q s) (cycles : Nat) : Keeps p q (execRegionReloaded cycles s) := by
  unfold execRegionReloaded
  with_reducible repeat' first
    | assumption | intro _ | (dsimp -zeta only) | apply regionReloaded_sound | apply whilePowered_sound

theorem setMembers_sound (h : Sound p q s) (m : Nat) : Sound p q (setMembers s m) := by
  unfold setMembers
  with_reducible repeat' first
    | assumption | apply State.wr_sound

theorem groupRadio_sound (h : Sound p q s) : Sound p q (groupRadio s) := by
  unfold groupRadio
  with_reducible repeat' first
    | assumption | apply ite_sound | apply withdrawLater_sound

theorem State.setTether_sound (h : Sound p q s) (p1 : Nat) (x : Tether) : Sound p q (State.setTether s p1 x) := by
  unfold State.setTether
  with_reducible repeat' first
    | assumption

theorem sendFrame_sound (h : Sound p q s) (p1 : Nat) (o : TetherOut) : Sound p q (sendFrame s p1 o) := by
  unfold sendFrame
  with_reducible repeat' first
    | assumption | apply State.setTether_sound

theorem sendMember_sound (h : Sound p q s) (d type : Nat) (m : GrpMsg) : Sound p q (sendMember s d type m) := by
  unfold sendMember
  with_reducible repeat' first
    | assumption | apply ite_sound | apply sendFrame_sound

theorem losePath_sound (h : Sound p q s) (p1 : Nat) : Sound p q (losePath s p1) := by
  unfold losePath
  with_reducible repeat' first
    | assumption | intro _ | (dsimp -zeta only) | apply ite_sound | apply State.logEvent_sound | apply State.orBits_sound
    | apply foldl_sound | apply foldl_pair_sound

theorem losePosts_sound (h : Sound p q s) (p1 : Nat) : Sound p q (losePosts s p1) := by
  unfold losePosts
  with_reducible repeat' first
    | assumption | intro _ | (dsimp -zeta only) | apply ite_sound

theorem linkDown_sound (h : Sound p q s) (p1 why : Nat) : Sound p q (linkDown s p1 why) := by
  unfold linkDown
  with_reducible repeat' first
    | assumption | apply State.bump_sound | apply State.logEvent_sound | apply State.setTether_sound | apply State.wr_sound
    | apply losePath_sound | apply losePosts_sound

theorem replay_sound (h : Sound p q s) (p1 : Nat) : Sound p q (replay s p1) := by
  unfold replay
  with_reducible repeat' first
    | assumption | apply ite_sound | apply State.bump_sound | apply State.setTether_sound | apply linkDown_sound

theorem acceptFrame_sound (h : Sound p q s) (p1 type vn : Nat) (f : List Byte) : Sound p q (acceptFrame s p1 type vn f) := by
  unfold acceptFrame
  with_reducible repeat' first
    | assumption | apply State.setTether_sound

theorem rejectFrame_sound (h : Sound p q s) (p1 : Nat) : Sound p q (rejectFrame s p1) := by
  unfold rejectFrame
  with_reducible repeat' first
    | assumption | apply State.bump_sound | apply State.setTether_sound

theorem heedAck_sound (h : Sound p q s) (p1 ack : Nat) (nak : Bool) : Sound p q (heedAck s p1 ack nak) := by
  unfold heedAck
  with_reducible repeat' first
    | assumption | apply ite_sound | apply State.setTether_sound | apply replay_sound

theorem tetherFrame_sound (h : Sound p q s) (p1 : Nat) (f : List Byte) (fec : Nat) : Sound p q (tetherFrame s p1 f fec) := by
  unfold tetherFrame
  with_reducible repeat' first
    | assumption | apply ite_sound | apply State.bump_sound | apply acceptFrame_sound | apply heedAck_sound
    | apply rejectFrame_sound

theorem trained_sound (h : Sound p q s) (p1 : Nat) : Sound p q (trained s p1) := by
  unfold trained
  with_reducible repeat' first
    | assumption | apply State.setTether_sound | apply State.wr_sound | apply sendFrame_sound

theorem refuseLink_sound (h : Sound p q s) (p1 : Nat) : Sound p q (refuseLink s p1) := by
  unfold refuseLink
  with_reducible repeat' first
    | assumption | apply State.setTether_sound | apply State.wr_sound

theorem helloCheck_sound (h : Sound p q s) (p1 : Nat) (id : List Byte) (member peerPort epoch : Nat) :
    Sound p q (helloCheck s p1 id member peerPort epoch) := by
  unfold helloCheck
  with_reducible repeat' first
    | assumption | apply ite_sound | apply State.logEvent_sound | apply State.setTether_sound | apply State.wr_sound
    | apply refuseLink_sound | apply sendMember_sound

theorem formed_sound (h : Sound p q s) : Sound p q (formed s) := by
  unfold formed
  with_reducible repeat' first
    | assumption | apply ite_sound | apply startupStep13_sound

theorem leaderFormed_sound (h : Sound p q s) : Sound p q (leaderFormed s) := by
  unfold leaderFormed
  with_reducible repeat' first
    | assumption | intro _ | (dsimp -zeta only) | apply ite_sound | apply answered_sound | apply formed_sound

theorem formStart_sound (h : Sound p q s) : Sound p q (formStart s) := by
  unfold formStart
  with_reducible repeat' first
    | assumption | apply groupForms_sound | apply leaderFormed_sound

theorem tellChain_sound (h : Sound p q s) (h1 : Nat) (m : GrpMsg) (own : State → State) (hk : ∀ s, Sound p q s → Sound p q (own s )) :
    Sound p q (tellChain s h1 m own) := by
  unfold tellChain
  with_reducible repeat' first
    | assumption | apply hk | apply ite_sound | apply sendMember_sound

theorem stopChain_sound (h : Sound p q s) : Sound p q (stopChain s) := by
  unfold stopChain
  with_reducible repeat' first
    | assumption

theorem dissolved_sound (h : Sound p q s) (member reason : Nat) : Sound p q (dissolved s member reason) := by
  unfold dissolved
  with_reducible repeat' first
    | assumption | apply State.logEvent_sound | apply State.wr_sound | apply groupRadio_sound

theorem noteJudged_sound (h : Sound p q s) (h1 device : Nat) : Sound p q (noteJudged s h1 device) := by
  unfold noteJudged
  with_reducible repeat' first
    | assumption | apply answered_sound

theorem benchMember_sound (h : Sound p q s) (h1 device e reason : Nat) : Sound p q (benchMember s h1 device e reason) := by
  unfold benchMember
  with_reducible repeat' first
    | assumption | apply State.clearBits_sound | apply State.logEvent_sound | apply State.orBits_sound | apply noteJudged_sound
    | apply sendMember_sound

theorem admitMember_sound (h : Sound p q s) (h1 device e : Nat) : Sound p q (admitMember s h1 device e) := by
  unfold admitMember
  with_reducible repeat' first
    | assumption | apply State.clearBits_sound | apply State.logEvent_sound | apply State.orBits_sound | apply noteJudged_sound
    | apply sendMember_sound

theorem yieldMember_sound (h : Sound p q s) (h1 e : Nat) : Sound p q (yieldMember s h1 e) := by
  unfold yieldMember
  with_reducible repeat' first
    | assumption | apply State.bump_sound | apply State.logEvent_sound | apply answered_sound | apply resendChain_sound
    | apply sendMember_sound | apply tellChain_sound

theorem dissolveGroup_sound (h : Sound p q s) (h1 device e reason : Nat) : Sound p q (dissolveGroup s h1 device e reason) := by
  unfold dissolveGroup
  with_reducible repeat' first
    | assumption | intro _ | (dsimp -zeta only) | apply State.logEvent_sound | apply State.wr_sound | apply answered_sound
    | apply dissolved_sound | apply noteJudged_sound | apply sendMember_sound | apply foldl_sound | apply foldl_pair_sound

theorem benchOrDissolve_sound (h : Sound p q s) (h1 device e reason : Nat) :
    Sound p q (benchOrDissolve s h1 device e reason) := by
  unfold benchOrDissolve
  with_reducible repeat' first
    | assumption | apply ite_sound | apply benchMember_sound | apply dissolveGroup_sound

theorem applyVerdict_sound (h : Sound p q s) (device : Nat) (m : List Byte) (row : Nat) :
    Sound p q (applyVerdict s device m row) := by
  unfold applyVerdict
  with_reducible repeat' first
    | assumption | split | apply State.logEvent_sound | apply State.wr_sound | apply admitMember_sound | apply benchMember_sound
    | apply benchOrDissolve_sound | apply sendMember_sound | apply yieldMember_sound

theorem judge_sound (h : Sound p q s) (device : Nat) (m : List Byte) : Sound p q (judge s device m) := by
  unfold judge
  with_reducible repeat' first
    | assumption | apply ite_sound | apply State.logEvent_sound | apply State.wr_sound | apply applyVerdict_sound
    | apply leaderFormed_sound | apply stopChain_sound | apply tellChain_sound

theorem dissolveLate_sound (h : Sound p q s) (m : List Byte) : Sound p q (dissolveLate s m) := by
  unfold dissolveLate
  with_reducible repeat' first
    | assumption | apply ite_sound | apply sendMember_sound

theorem answered_sound (h : Sound p q s) (state members : Nat) : Sound p q (answered s state members) := by
  unfold answered
  with_reducible repeat' first
    | assumption | apply State.wr_sound | apply formed_sound | apply groupRadio_sound | apply setMembers_sound

theorem formTimeout_sound (h : Sound p q s) : Sound p q (formTimeout s) := by
  unfold formTimeout
  with_reducible repeat' first
    | assumption | intro _ | (dsimp -zeta only) | apply ite_sound | apply State.logEvent_sound | apply State.wr_sound
    | apply formed_sound | apply foldl_sound | apply foldl_pair_sound

theorem setIncluded_sound (h : Sound p q s) (inc why : Nat) : Sound p q (setIncluded s inc why) := by
  unfold setIncluded
  with_reducible repeat' first
    | assumption | apply State.logEvent_sound | apply State.wr_sound | apply groupRadio_sound

theorem exclude_sound (h : Sound p q s) (why : Nat) : Sound p q (exclude s why) := by
  unfold exclude
  with_reducible repeat' first
    | assumption | apply setIncluded_sound

theorem takeOffset_sound (h : Sound p q s) (t1 t2 t3 t4 : DWord) (parentOfs : Int) :
    Sound p q (takeOffset s t1 t2 t3 t4 parentOfs) := by
  unfold takeOffset
  with_reducible repeat' first
    | assumption | apply ite_sound | apply State.wr_sound | apply State.wrPair_sound

theorem startLock_sound (h : Sound p q s) : Sound p q (startLock s) := by
  unfold startLock
  with_reducible repeat' first
    | assumption | apply ite_sound | apply State.wr_sound

theorem judgeOffset_sound (h : Sound p q s) : Sound p q (judgeOffset s) := by
  unfold judgeOffset
  with_reducible repeat' first
    | assumption | apply ite_sound | apply exclude_sound | apply setIncluded_sound

theorem servo_sound (h : Sound p q s) : Sound p q (servo s) := by
  unfold servo
  with_reducible repeat' first
    | assumption | apply ite_sound | apply State.useFresh_sound | apply State.wr_sound

theorem sendTime_sound (h : Sound p q s) (p1 : Nat) :
    Sound p q (sendTime s p1) := by
  unfold sendTime
  with_reducible repeat' first
    | assumption | intro _ | (dsimp -zeta only) | apply ite_sound | split | apply sendFrame_sound
    | (apply pair_sound; assumption)

theorem exchangeFails_sound (h : Sound p q s) : Sound p q (exchangeFails s) := by
  have h1 : Sound p q { s with grp := { s.grp with fails := s.grp.fails + 1 } } :=
    ⟨h.part, h.queue, h.dram, h.larder, h.sram, h.csr, h.shadow⟩
  unfold exchangeFails
  dsimp only
  split
  · exact exclude_sound h1 _
  · exact h1

theorem postMove_sound (h : Sound p q s) : Sound p q (postMove s) := by
  unfold postMove
  dsimp only
  have ha := State.busRead_sound h (moverRq 0) (s.rdPair Reg.GRP_MOVE_POST_LO.ADDR Reg.GRP_MOVE_POST_HI.ADDR) 32
  split
  · rename_i e
    exact State.logEvent_sound (pair_sound e ha) _ _ _ _ _
  · rename_i e
    exact (pair_sound e ha : Sound p q _)

theorem moveDone_sound (h : Sound p q s) (op status : Nat) (bs : List Byte) : Sound p q (moveDone s op status bs) := by
  unfold moveDone
  with_reducible repeat' first
    | assumption | intro _ | (dsimp -zeta only)

theorem moveOut_sound (h : Sound p q s) (op remote : Nat) (msg : Move → List Byte → GrpMsg) :
    Sound p q (moveOut s op remote msg) := by
  unfold moveOut
  with_reducible repeat' first
    | assumption
    | (extract_lets +onlyGivenNames x; first | (refine (fun hx : Sound p q x => ?_) ?_; rotate_left; subst x; rotate_right; clear_value x) | clear_value x)
    | split | apply State.busRead_sound | apply moveDone_sound | apply sendMember_sound | (apply pair_sound; assumption)

theorem moveIn_sound (h : Sound p q s) (remote : Nat) (bytes : List Byte) : Sound p q (moveIn s remote bytes) := by
  unfold moveIn
  with_reducible repeat' first
    | assumption | apply ite_sound | split | apply State.busWrite_sound | apply moveDone_sound | apply sendMember_sound

theorem completeMove_sound (h : Sound p q s) : Sound p q (completeMove s) := by
  unfold completeMove
  with_reducible repeat' first
    | assumption | apply ite_sound | split | apply State.logEvent_sound | apply pushPacket_sound

theorem sendResets_sound (h : Sound p q s) (mask rq : Nat) : Sound p q (sendResets s mask rq) := by
  unfold sendResets
  with_reducible repeat' first
    | assumption | intro _ | (dsimp -zeta only) | apply ite_sound | apply State.logEvent_sound | apply resendChain_sound
    | apply sendMember_sound | apply tellChain_sound | apply foldl_sound | apply foldl_pair_sound

theorem writeGrpReset_sound (h : Sound p q s) (rq : Requester) (data : Nat) : Sound p q (writeGrpReset s rq data) := by
  unfold writeGrpReset
  with_reducible repeat' first
    | assumption | apply ite_sound | apply State.answer_sound | apply State.logEvent_sound | apply sendResets_sound

theorem groupReset_sound (h : Sound p q s) (source late : Nat) : Sound p q (groupReset s source late) := by
  unfold groupReset
  with_reducible repeat' first
    | assumption | apply ite_sound | split | apply warmReset_sound

theorem ddcWord_sound (h : Sound p q s) (a st : Nat) (word : Word) : Sound p q (ddcWord s a st word) := by
  unfold ddcWord
  with_reducible repeat' first
    | assumption | apply ite_sound | apply cutPresent_sound | apply sendTo_sound

theorem execTetherFrameReceive_sound (h : Sound p q s) (port : Nat) (frame : List Byte) (fec : Nat) :
    Keeps p q (execTetherFrameReceive port frame fec s) := by
  unfold execTetherFrameReceive
  with_reducible repeat' first
    | assumption | intro _ | (dsimp -zeta only) | apply ite_sound | apply tetherFrame_sound | apply whilePowered_sound

theorem execTetherReplayTimeout_sound (h : Sound p q s) (port : Nat) : Keeps p q (execTetherReplayTimeout port s) := by
  unfold execTetherReplayTimeout
  with_reducible repeat' first
    | assumption | intro _ | (dsimp -zeta only) | apply ite_sound | apply replay_sound | apply whilePowered_sound

theorem execTetherTrained_sound (h : Sound p q s) (port : Nat) : Keeps p q (execTetherTrained port s) := by
  unfold execTetherTrained
  with_reducible repeat' first
    | assumption | intro _ | (dsimp -zeta only) | apply ite_sound | apply trained_sound | apply whilePowered_sound

theorem execTetherTrainRetry_sound (h : Sound p q s) (port : Nat) : Keeps p q (execTetherTrainRetry port s) := by
  unfold execTetherTrainRetry
  with_reducible repeat' first
    | assumption | intro _ | (dsimp -zeta only) | apply ite_sound | apply State.setTether_sound | apply whilePowered_sound

theorem execGroupFormStart_sound (h : Sound p q s) : Keeps p q (execGroupFormStart s) := by
  unfold execGroupFormStart
  with_reducible repeat' first
    | assumption | intro _ | (dsimp -zeta only) | apply ite_sound | apply formStart_sound | apply whilePowered_sound

theorem execHello_sound (h : Sound p q s) (port : Nat) (groupId : List Byte) (member peerPort epoch : Nat) :
    Keeps p q (execHello port groupId member peerPort epoch s) := by
  unfold execHello
  with_reducible repeat' first
    | assumption | intro _ | (dsimp -zeta only) | apply ite_sound | apply helloCheck_sound | apply whilePowered_sound

theorem execManifest_sound (h : Sound p q s) (device : Nat) (manifest : List Byte) :
    Keeps p q (execManifest device manifest s) := by
  unfold execManifest
  with_reducible repeat' first
    | assumption | intro _ | (dsimp -zeta only) | apply ite_sound | apply dissolveLate_sound | apply judge_sound
    | apply whilePowered_sound

theorem execAdmit_sound (h : Sound p q s) (members : Nat) : Keeps p q (execAdmit members s) := by
  unfold execAdmit
  with_reducible repeat' first
    | assumption | intro _ | (dsimp -zeta only) | apply ite_sound | apply answered_sound | apply whilePowered_sound

theorem execBench_sound (h : Sound p q s) (members : Nat) : Keeps p q (execBench members s) := by
  unfold execBench
  with_reducible repeat' first
    | assumption | intro _ | (dsimp -zeta only) | apply ite_sound | apply answered_sound | apply whilePowered_sound

theorem execYield_sound (h : Sound p q s) (late : Nat) : Keeps p q (execYield late s) := by
  unfold execYield
  with_reducible repeat' first
    | assumption | intro _ | (dsimp -zeta only) | apply ite_sound | apply warmReset_sound | apply whilePowered_sound

theorem execDissolve_sound (h : Sound p q s) (member reason : Nat) : Keeps p q (execDissolve member reason s) := by
  unfold execDissolve
  with_reducible repeat' first
    | assumption | intro _ | (dsimp -zeta only) | apply ite_sound | apply dissolved_sound | apply formed_sound
    | apply whilePowered_sound

theorem execJoined_sound (h : Sound p q s) : Keeps p q (execJoined s) := by
  unfold execJoined
  with_reducible repeat' first
    | assumption | intro _ | (dsimp -zeta only) | apply ite_sound | apply stopChain_sound | apply whilePowered_sound

theorem execResend_sound (h : Sound p q s) : Keeps p q (execResend s) := by
  unfold execResend
  with_reducible repeat' first
    | assumption | intro _ | (dsimp -zeta only) | apply ite_sound | apply resendChain_sound | apply whilePowered_sound

theorem execGrpFormTimeout_sound (h : Sound p q s) : Keeps p q (execGrpFormTimeout s) := by
  unfold execGrpFormTimeout
  with_reducible repeat' first
    | assumption | intro _ | (dsimp -zeta only) | apply ite_sound | apply formTimeout_sound | apply whilePowered_sound

theorem execTimeExchange_sound (h : Sound p q s) (child : Option Nat) (ok : Bool) (t1 : DWord) (t2 : DWord) (t3 : DWord) (t4 : DWord) (parentOfs : Int) :
    Keeps p q (execTimeExchange child ok t1 t2 t3 t4 parentOfs s) := by
  unfold execTimeExchange
  with_reducible repeat' first
    | assumption | intro _ | (dsimp -zeta only) | apply ite_sound | split | apply sendTime_sound | apply servo_sound
    | apply judgeOffset_sound | apply startLock_sound | apply takeOffset_sound | apply exchangeFails_sound
    | apply whilePowered_sound | (apply pair_sound; assumption)

theorem execMovePost_sound (h : Sound p q s) (rq : Requester) (data : Nat) : Keeps p q (execMovePost rq data s) := by
  unfold execMovePost
  with_reducible repeat' first
    | assumption | intro _ | (dsimp -zeta only) | apply State.answer_sound | apply State.wr_sound | apply atRegister_sound
    | apply postMove_sound | apply whilePowered_sound

theorem execMoveWrite_sound (h : Sound p q s) (remote : Nat) : Keeps p q (execMoveWrite remote s) := by
  unfold execMoveWrite
  with_reducible repeat' first
    | assumption | intro _ | (dsimp -zeta only) | apply moveOut_sound | apply whilePowered_sound

theorem execMoveRead_sound (h : Sound p q s) (remote : Nat) (bytes : List Byte) : Keeps p q (execMoveRead remote bytes s) := by
  unfold execMoveRead
  with_reducible repeat' first
    | assumption | intro _ | (dsimp -zeta only) | apply moveIn_sound | apply whilePowered_sound

theorem execMovePush_sound (h : Sound p q s) (remote : Nat) : Keeps p q (execMovePush remote s) := by
  unfold execMovePush
  with_reducible repeat' first
    | assumption | intro _ | (dsimp -zeta only) | apply moveOut_sound | apply whilePowered_sound

theorem execMoveComplete_sound (h : Sound p q s) : Keeps p q (execMoveComplete s) := by
  unfold execMoveComplete
  with_reducible repeat' first
    | assumption | apply completeMove_sound | apply whilePowered_sound

theorem execGrpReset_sound (h : Sound p q s) (rq : Requester) (data : Nat) : Keeps p q (execGrpReset rq data s) := by
  unfold execGrpReset
  with_reducible repeat' first
    | assumption | intro _ | (dsimp -zeta only) | apply atRegister_sound | apply whilePowered_sound | apply writeGrpReset_sound

theorem execTetherGroupReset_sound (h : Sound p q s) (source late : Nat) : Keeps p q (execTetherGroupReset source late s) := by
  unfold execTetherGroupReset
  with_reducible repeat' first
    | assumption | intro _ | (dsimp -zeta only) | apply ite_sound | apply groupReset_sound | apply whilePowered_sound

theorem execTetherLockLost_sound (h : Sound p q s) (port : Nat) : Keeps p q (execTetherLockLost port s) := by
  unfold execTetherLockLost
  with_reducible repeat' first
    | assumption | intro _ | (dsimp -zeta only) | apply ite_sound | apply linkDown_sound | apply whilePowered_sound

theorem execDdcWordPresented_sound (h : Sound p q s) (chain stream : Nat) (word : Word) (ovr : Nat) :
    Keeps p q (execDdcWordPresented chain stream word ovr s) := by
  unfold execDdcWordPresented
  with_reducible repeat' first
    | assumption | intro _ | (dsimp -zeta only) | apply ite_sound | apply State.bump_sound | apply ddcWord_sound
    | apply whilePowered_sound

theorem State.setLatch_sound (h : Sound p q s) (ni a : Nat) (v : Option Nat) : Sound p q (State.setLatch s ni a v) := by
  unfold State.setLatch
  with_reducible repeat' first
    | assumption | intro _ | (dsimp -zeta only)

theorem readPlain_sound (h : Sound p q s) (rq : Requester) (a : Nat) (fs : List Fld) : Sound p q (readPlain s rq a fs) := by
  unfold readPlain
  with_reducible repeat' first
    | assumption | apply ite_sound | split | apply State.answer_sound | apply State.setLatch_sound

theorem readWindow_sound (h : Sound p q s) (rq : Requester) (t : Target) (o : Nat) :
    ∀ t', readWindow s rq t o = some t' → Sound p q t' := by
  intro t' ht
  unfold readWindow at ht
  dsimp only at ht
  repeat' split at ht
  all_goals first
    | (injection ht with ht; subst ht; first | exact State.answer_sound h _ | exact viewAccess_sound h _ _ _ _ _ _)
    | (cases ht)

theorem regRead_sound (h : Sound p q s) (rq : Requester) (t : Target) (a : Nat) : Sound p q (regRead s rq t a) := by
  unfold regRead
  with_reducible repeat' first
    | assumption
    | (extract_lets +onlyGivenNames x; first
        | (have := x.larderBad; clear this; subst x)
        | (refine (fun hx : Sound p q x => ?_) ?_; rotate_left; subst x; rotate_right; clear_value x)
        | clear_value x
        | subst x)
    | intro _ | (dsimp -zeta only) | apply ite_sound | split | apply State.answer_sound | apply State.csrErr_sound
    | apply State.useFresh_sound | apply allocCrate_sound | apply readPlain_sound | apply readRxd_sound | apply readWindow_sound
    | (refine readWindow_sound ?_ _ _ _ _ (by assumption); assumption) | (apply pair_sound; assumption)

theorem sysWrite_sound (h : Sound p q s) (rq : Requester) (a data : Nat) : Sound p q (sysWrite s rq a data) := by
  unfold sysWrite
  with_reducible repeat' first
    | assumption | apply ite_sound | apply State.useFresh_sound | apply domainOffRequest_sound | apply domainOnRequest_sound
    | apply mainsSourceChosen_sound | apply stdWrite_sound | apply writeFlashSvc_sound | apply writeKick_sound
    | apply writePwrReq_sound | apply writeReset_sound

theorem clkWrite_sound (h : Sound p q s) (rq : Requester) (a data : Nat) : Sound p q (clkWrite s rq a data) := by
  unfold clkWrite
  with_reducible repeat' first
    | assumption | intro _ | (dsimp -zeta only) | apply ite_sound | split | apply State.answer_sound
    | apply State.useFresh_sound | apply finishChange_sound | apply requestClkMode_sound | apply startDeterministic_sound
    | apply stdWrite_sound | apply writeClkRate_sound | apply writeRunCtrl_sound | apply writeStepHi_sound
    | apply writeStepLo_sound

theorem cfgWrite_sound (h : Sound p q s) (rq : Requester) (a data : Nat) : Sound p q (cfgWrite s rq a data) := by
  unfold cfgWrite
  with_reducible repeat' first
    | assumption | apply ite_sound | apply State.useFresh_sound | apply stdWrite_sound | apply writeHatchHi_sound
    | apply xspiCommand_sound

theorem memWrite_sound (h : Sound p q s) (rq : Requester) (a : Nat) (data : Nat) :
    Sound p q (memWrite s rq a data) := by
  unfold memWrite
  with_reducible repeat' first
    | assumption | intro _
    | (extract_lets +onlyGivenNames x; first
        | (have := x.larderBad; clear this; subst x)
        | (refine (fun hx : Sound p q x => ?_) ?_; rotate_left; subst x; rotate_right; clear_value x)
        | (refine (fun hx : Sound p q x.1 => ?_) ?_; rotate_left; subst x; rotate_right; clear_value x)
        | clear_value x
        | subst x)
    | (dsimp -zeta only) | apply ite_sound | split | apply memArbCommit_sound | apply stdWrite_sound
    | apply startScrub_sound | (apply pair_sound; assumption)

theorem strWrite_sound (h : Sound p q s) (rq : Requester) (a data : Nat) : Sound p q (strWrite s rq a data) := by
  unfold strWrite
  with_reducible repeat' first
    | assumption | apply ite_sound | apply freeCrate_sound | apply giveCrate_sound | apply latchGive_sound
    | apply reclaimCrates_sound | apply stdWrite_sound | apply strRefused_sound | apply writeQCfg_sound | apply writeQCtrl_sound
    | apply writeStrCtrl_sound

theorem gfbWrite_sound (h : Sound p q s) (rq : Requester) (a data : Nat) : Sound p q (gfbWrite s rq a data) := by
  unfold gfbWrite
  with_reducible repeat' first
    | assumption | apply ite_sound | apply State.answer_sound | apply State.wr_sound | apply armTimer_sound
    | apply drainFifo_sound | apply firmwareSwitch_sound | apply stdWrite_sound | apply writeChCfg_sound
    | apply writeChField_sound | apply writeCutPairs_sound | apply writeSpCfg_sound

theorem writeBankSs_sound (h : Sound p q s) (rq : Requester) (e b a data : Nat) : Sound p q (writeBankSs s rq e b a data) := by
  unfold writeBankSs
  with_reducible repeat' first
    | assumption | apply ite_sound | apply ieRefused_sound | apply stdWrite_sound

theorem ieWrite_sound (h : Sound p q s) (rq : Requester) (e a data : Nat) : Sound p q (ieWrite s rq e a data) := by
  unfold ieWrite
  with_reducible repeat' first
    | assumption | apply ite_sound | apply State.useFresh_sound | apply clearSat_sound | apply stdWrite_sound
    | apply writeBankCtrl_sound | apply writeBankSs_sound | apply writeModelAct_sound

theorem radWrite_sound (h : Sound p q s) (rq : Requester) (a data : Nat) : Sound p q (radWrite s rq a data) := by
  unfold radWrite
  with_reducible repeat' first
    | assumption | apply ite_sound | apply State.answer_sound | apply State.commitAll_sound | apply beamCommit_sound
    | apply clearGateCounters_sound | apply gateCommit_sound | apply stdWrite_sound | apply writeBeamBase_sound
    | apply writeEthCfg_sound | apply writeHarq_sound | apply writeRadCtrl_sound

theorem visRegWrite_sound (h : Sound p q s) (rq : Requester) (a data : Nat) : Sound p q (visRegWrite s rq a data) := by
  unfold visRegWrite
  with_reducible repeat' first
    | assumption | apply ite_sound | apply stdWrite_sound | apply writeChCommit_sound | apply writeChReturn_sound
    | apply writeCoef_sound | apply writeCoefCommit_sound | apply writeStreamCfg_sound | apply writeStreamSetup_sound
    | apply writeVisChCfg_sound | apply writeVisCtrl_sound

theorem grpWrite_sound (h : Sound p q s) (rq : Requester) (a data : Nat) : Sound p q (grpWrite s rq a data) := by
  unfold grpWrite
  with_reducible repeat' first
    | assumption | apply ite_sound | apply State.answer_sound | apply State.wr_sound | apply postMove_sound
    | apply stdWrite_sound | apply writeGrpReset_sound

theorem writeWindow_sound (h : Sound p q s) (rq : Requester) (t : Target) (a data : Nat) :
    ∀ t', writeWindow s rq t a data = some t' → Sound p q t' := by
  intro t' ht
  unfold writeWindow at ht
  dsimp only at ht
  repeat' split at ht
  all_goals first
    | (injection ht with ht; subst ht; first | exact State.answer_sound h _ | exact viewAccess_sound h _ _ _ _ _ _ | exact writeCode_sound h _ _ _ | exact writeModelMem_sound h _ _ _ | exact writePlant_sound h _ _ _)
    | (cases ht)

theorem unitWrite_sound (h : Sound p q s) (rq : Requester) (t : Target) (a : Nat) (data : Nat) :
    Sound p q (unitWrite s rq t a data) := by
  unfold unitWrite
  with_reducible repeat' first
    | assumption | intro _
    | (extract_lets +onlyGivenNames x; first
        | (have := x.larderBad; clear this; subst x)
        | (refine (fun hx : Sound p q x => ?_) ?_; rotate_left; subst x; rotate_right; clear_value x)
        | (refine (fun hx : Sound p q x.1 => ?_) ?_; rotate_left; subst x; rotate_right; clear_value x)
        | clear_value x
        | subst x)
    | (dsimp -zeta only) | apply ite_sound | split | apply sysWrite_sound | apply clkWrite_sound | apply cfgWrite_sound
    | apply revokeKeys_sound | apply stdWrite_sound | apply nocArbCommit_sound | apply memWrite_sound | apply strWrite_sound
    | apply gfbWrite_sound | apply ieWrite_sound | apply radWrite_sound | apply visRegWrite_sound | apply writePlant_sound
    | apply writeService_sound | apply grpWrite_sound | (apply pair_sound; assumption)

theorem regWrite_sound (h : Sound p q s) (rq : Requester) (t : Target) (a data : Nat) :
    Sound p q (regWrite s rq t a data) := by
  unfold regWrite
  with_reducible repeat' first
    | assumption | apply ite_sound | split | apply State.csrErr_sound | apply unitWrite_sound | apply writeWindow_sound
    | (refine writeWindow_sound ?_ _ _ _ _ _ (by assumption); assumption)

theorem unitAccess_sound (h : Sound p q s) (rq : Requester) (t : Target) (write : Bool) (a : Nat) (len : Nat) (data : List Byte) :
    Sound p q (unitAccess s rq t write a len data) := by
  unfold unitAccess
  with_reducible repeat' first
    | assumption | intro _
    | (extract_lets +onlyGivenNames x; first
        | (have := x.larderBad; clear this; subst x)
        | (refine (fun hx : Sound p q x => ?_) ?_; rotate_left; subst x; rotate_right; clear_value x)
        | (refine (fun hx : Sound p q x.1 => ?_) ?_; rotate_left; subst x; rotate_right; clear_value x)
        | clear_value x
        | subst x)
    | (dsimp -zeta only) | apply ite_sound | split | apply aperturePush_sound | apply popAnswer_sound
    | apply aperturePop_sound | apply ringAccess_sound | apply State.csrErr_sound | apply regWrite_sound
    | apply regRead_sound | (apply pair_sound; assumption)

theorem targetAccess_sound (h : Sound p q s) (rq : Requester) (t : Target) (write : Bool) (a : Nat) (len : Nat) (data : List Byte) :
    Sound p q (targetAccess s rq t write a len data) := by
  unfold targetAccess
  with_reducible repeat' first
    | assumption | intro _ | (dsimp -zeta only) | apply ite_sound | split | apply pcieOutbound_sound
    | apply State.answer_sound | apply State.useFresh_sound | apply unitAccess_sound | (apply pair_sound; assumption)

theorem checkedRequest_sound (h : Sound p q s) (rq : Requester) (write : Bool) (a len : Nat) (data : List Byte) (poison : Bool) :
    Sound p q (checkedRequest s rq write a len data poison) := by
  unfold checkedRequest
  split
  · exact checkAccess_sound h _ _ _ _ _ _ ‹_›
  · split
    · exact memoryRequest_sound h _ _ _ _ _ _
    · exact targetAccess_sound h _ _ _ _ _ _

theorem nocRequest_sound (h : Sound p q s) (rq : Requester) (write : Bool) (a len : Nat) (data : List Byte) (poison : Bool) :
    Sound p q (nocRequest s rq write a len data poison) := by
  unfold nocRequest
  split
  · exact h
  · split
    · exact holdRequest_sound h _ _ _ _ _ _
    · split
      · exact unrouted_sound h _ _ _ _ ‹_›
      · exact checkedRequest_sound h _ _ _ _ _ _

theorem releaseWaiting_sound (h : Sound p q s) (ni : Nat) :
    Sound p q (releaseWaiting s ni) := by
  unfold releaseWaiting
  with_reducible repeat' first
    | assumption | intro _
    | (extract_lets +onlyGivenNames x; first
        | (have := x.larderBad; clear this; subst x)
        | (refine (fun hx : Sound p q x => ?_) ?_; rotate_left; subst x; rotate_right; clear_value x)
        | (refine (fun hx : Sound p q x.1 => ?_) ?_; rotate_left; subst x; rotate_right; clear_value x)
        | clear_value x
        | subst x)
    | (dsimp -zeta only) | apply ite_sound | split | apply nocRequest_sound | apply foldl_sound | apply foldl_pair_sound
    | (apply pair_sound; assumption)

theorem pcieAccess_sound (h : Sound p q s) (write : Bool) (a len : Nat) (data : List Byte) :
    Sound p q (pcieAccess s write a len data) := by
  unfold pcieAccess
  with_reducible repeat' first
    | assumption | apply ite_sound | apply State.useFresh_sound | apply nocRequest_sound

theorem apertureAccess_sound (h : Sound p q s) (write : Bool) (a len : Nat) (data : List Byte) :
    Sound p q (apertureAccess s write a len data) := by
  unfold apertureAccess
  with_reducible repeat' first
    | assumption | apply ite_sound | apply State.csrErr_sound | apply checkedRequest_sound | apply nocRequest_sound

theorem localAccess_sound (h : Sound p q s) (write : Bool) (a len : Nat) (data : List Byte) :
    Sound p q (localAccess s write a len data) := by
  unfold localAccess
  with_reducible repeat' first
    | assumption
    | (extract_lets +onlyGivenNames x; first
        | (have := x.larderBad; clear this; subst x)
        | (refine (fun hx : Sound p q x => ?_) ?_; rotate_left; subst x; rotate_right; clear_value x)
        | clear_value x
        | subst x)
    | intro _ | (dsimp -zeta only) | apply ite_sound | split | apply State.addrErr_sound | apply State.answer_sound
    | apply apertureAccess_sound | apply unitAccess_sound | (apply pair_sound; assumption)
    | exact ⟨h.part, h.queue, h.dram, h.larder, Mem.wf_writeN _ _ _ h.sram, h.csr, h.shadow⟩

theorem execRegisterWrite_sound (h : Sound p q s) (rq : Requester) (addr : Nat) (size : Nat) (data : Nat) :
    Keeps p q (execRegisterWrite rq addr size data s) := by
  unfold execRegisterWrite
  with_reducible repeat' first
    | assumption | intro _ | (dsimp -zeta only) | apply ite_sound | apply nocRequest_sound | apply whilePowered_sound
    | (apply pair_sound; assumption)

theorem execNocRequest_sound (h : Sound p q s) (rq : Requester) (write : Bool) (addr len : Nat) (data : List Byte) (poison : Bool) :
    Keeps p q (execNocRequest rq write addr len data poison s) := by
  unfold execNocRequest
  with_reducible repeat' first
    | assumption | intro _ | (dsimp -zeta only) | apply nocRequest_sound | apply whilePowered_sound

theorem execNocResponseArrival_sound (h : Sound p q s) (ni : Nat) (tag : Nat) :
    Keeps p q (execNocResponseArrival ni tag s) := by
  unfold execNocResponseArrival
  with_reducible repeat' first
    | assumption | intro _ | (dsimp -zeta only) | apply ite_sound | apply releaseWaiting_sound | apply responseArrives_sound
    | apply whilePowered_sound | (apply pair_sound; assumption)

theorem execNocReqTimeout_sound (h : Sound p q s) (ni : Nat) (tag : Nat) :
    Keeps p q (execNocReqTimeout ni tag s) := by
  unfold execNocReqTimeout
  with_reducible repeat' first
    | assumption | intro _ | (dsimp -zeta only) | apply ite_sound | apply releaseWaiting_sound | apply requestTimeout_sound
    | apply whilePowered_sound | (apply pair_sound; assumption)

theorem execPcieEndpointAccess_sound (h : Sound p q s) (write : Bool) (offset len : Nat) (data : List Byte) :
    Keeps p q (execPcieEndpointAccess write offset len data s) := by
  unfold execPcieEndpointAccess
  with_reducible repeat' first
    | assumption | intro _ | (dsimp -zeta only) | apply pcieAccess_sound | apply whilePowered_sound

theorem execCellarLocalAccess_sound (h : Sound p q s) (write : Bool) (addr len : Nat) (data : List Byte) :
    Keeps p q (execCellarLocalAccess write addr len data s) := by
  unfold execCellarLocalAccess
  with_reducible repeat' first
    | assumption | intro _ | (dsimp -zeta only) | apply ite_sound | apply localAccess_sound | apply whilePowered_sound

theorem advanceTime_sound (h : Sound p q s) (n : Nat) : Sound p q (advanceTime s n) := by
  unfold advanceTime
  with_reducible repeat' first
    | assumption

theorem hatchLane_sound (h : Sound p q s) (p1 : Nat) (w : Word) : Sound p q (hatchLane s p1 w) := by
  unfold hatchLane
  with_reducible repeat' first
    | assumption | split | apply lanePost_sound

theorem ducTakes_sound (h : Sound p q s) (lane : Nat) (w : Word) :
    Sound p q (ducTakes s lane w) := by
  unfold ducTakes
  with_reducible repeat' first
    | assumption | intro _ | (dsimp -zeta only) | apply ite_sound | split | (apply pair_sound; assumption)

theorem portTakes_sound (h : Sound p q s) (p1 : Nat) (lane : Nat) (w : Word) :
    Sound p q (portTakes s p1 lane w) := by
  unfold portTakes
  with_reducible repeat' first
    | assumption | intro _ | (dsimp -zeta only) | apply ite_sound | split | apply cutArrives_sound | apply ducTakes_sound
    | apply hatchLane_sound | apply outboundWord_sound | (apply pair_sound; assumption)

theorem fabricTick_sound (h : Sound p q s) :
    Sound p q (fabricTick s) := by
  unfold fabricTick
  with_reducible repeat' first
    | assumption | intro _
    | (extract_lets +onlyGivenNames x; first
        | (have := x.larderBad; clear this; subst x)
        | (refine (fun hx : Sound p q x => ?_) ?_; rotate_left; subst x; rotate_right; clear_value x)
        | (refine (fun hx : Sound p q x.1 => ?_) ?_; rotate_left; subst x; rotate_right; clear_value x)
        | clear_value x
        | subst x)
    | (dsimp -zeta only) | apply ite_sound | apply releaseHeld_sound | apply portTakes_sound | apply fabricCycle_sound
    | apply inboundCycle_sound | apply foldl_sound | apply foldl_pair_sound | (apply pair_sound; assumption)

theorem nocTick_sound (h : Sound p q s) :
    Sound p q (nocTick s) := by
  unfold nocTick
  with_reducible repeat' first
    | assumption | intro _ | (dsimp -zeta only) | apply ite_sound | split | apply nocCycle_sound
    | (apply pair_sound; assumption)

theorem beatTick_sound (h : Sound p q s) : Sound p q (beatTick s) := by
  unfold beatTick
  with_reducible repeat' first
    | assumption | apply ite_sound

theorem tickTime_sound (h : Sound p q s) :
    Sound p q (tickTime s) := by
  unfold tickTime
  with_reducible repeat' first
    | assumption | intro _ | (dsimp -zeta only) | apply ite_sound | split | apply advanceTime_sound
    | (apply pair_sound; assumption)

theorem tick_sound (h : Sound p q s) :
    Sound p q (tick s) := by
  unfold tick
  with_reducible repeat' first
    | assumption | intro _ | (dsimp -zeta only) | apply ite_sound | split | apply ncoTick_sound | apply nocTick_sound
    | apply fabricTick_sound | apply beatTick_sound | apply tickTime_sound | apply advanceTime_sound
    | (apply pair_sound; assumption)

end Sys2Proof.Machine
end

