-- ==== Sys2Proof/WellFormed.lean ====
section
/-! DEFINITION. The ranges of a command's operands: the numbers of requesters, registers, units, channels and ports that the
spec gives the device.  The meanings are total: a command out of its range acts on the unit its index names within the range,
or on none. -/

namespace Sys2Proof

/-- An NI of the map and a QCLASS (05 R218, R221). -/
def Requester.wf (r : Requester) : Bool := decide (r.ni < 49) && decide (r.qclass < 4)

/-- An arbiter that exists: 8 DRAM controllers, 16 larder banks, 36 routers with 6 outputs, 17 units (05 "Arbiters"). -/
def ArbId.wf : ArbId → Bool
  | .dram ctl => decide (ctl < 8)
  | .larder bank => decide (bank < 16)
  | .router r out => decide (r < 36) && decide (out < 6)
  | .register _ => true

namespace WellFormed

/-- A 32-bit register word (00 R7). -/
def word (v : Nat) : Bool := decide (v < 2 ^ 32)

/-- A device address (01 R41). -/
def device (a : Nat) : Bool := decide (a < 2 ^ 36)

/-- A length of 1 to 256 bytes (05 R220). -/
def span (n : Nat) : Bool := decide (1 ≤ n) && decide (n ≤ 256)

/-- A mask of domains (02 R62). -/
def mask23 (v : Nat) : Bool := decide (v < 2 ^ 23)

/-- Flipped bits of a flit's 640 (05 R223). -/
def flips (err : List Nat) : Bool := err.all (fun i => decide (i < 640)) && decide err.Nodup

/-- A supply channel whose power-good does not come, of those that the command may raise (02 R99). -/
def channel (bad : Option Nat) : Bool := bad.all fun c => decide (c < 8)

/-- Errors at words of a 64-byte line. -/
def words (errs : List (Nat × Ecc)) : Bool := errs.all fun p => decide (p.1 < 8)

end WellFormed

open WellFormed

/-- The operands of a command are in the ranges that the device gives them. -/
def Instr.wf : Instr → Bool
  | .registerWrite rq addr size data => rq.wf && device addr && span size && word data
  | .nocRequest rq _ addr len _ _ => rq.wf && device addr && span len
  | .pcieEndpointAccess _ offset len _ => device offset && span len
  | .cellarLocalAccess _ addr len _ => word addr && span len
  | .nocFlitRoute router inPort _ err => decide (router < 36) && decide (inPort < 6) && flips err
  | .nocFlitEject ni _ err => decide (ni < 49) && flips err
  | .nocResponseArrival ni tag => decide (ni < 49) && decide (tag < 64)
  | .nocReqTimeout ni tag => decide (ni < 49) && decide (tag < 64)
  | .arbWindowStart arb => arb.wf
  | .memArbCommit rq data => rq.wf && word data
  | .nocArbCommit rq data => rq.wf && word data
  | .dramRead ctl _ => decide (ctl < 8)
  | .dramWrite ctl _ => decide (ctl < 8)
  | .dramRefresh ch => decide (ch < 16)
  | .mr4Poll ch _ => decide (ch < 16)
  | .larderRead bank errs => decide (bank < 16) && words errs
  | .larderWrite bank errs => decide (bank < 16) && words errs
  | .vddCelPowerGood => true
  | .vddCelLoss => true
  | .vddIo33Low => true
  | .vddIo33Restored => true
  | .pornReset => true
  | .watchdogExpiry => true
  | .wdogKick rq data => rq.wf && word data
  | .softwareColdReset rq data => rq.wf && word data
  | .softwareWarmReset rq data late => rq.wf && word data && mask23 late
  | .startUp => true
  | .fllLock _ _ => true
  | .warmEnd _ => true
  | .warmLimitExpired _ => true
  | .coldWaitReading _ => true
  | .railChannelPowerGood ch => decide (ch < 8)
  | .railFaultTimeout ch => decide (ch < 8)
  | .railFaultDrop ch => decide (ch < 8)
  | .railFaultRetry => true
  | .refclkDetected => true
  | .refclkAbsent => true
  | .configStart _ => true
  | .configPass1Done _ _ => true
  | .dramTrainingDone fail => decide (fail < 65536)
  | .configPass2Done _ => true
  | .cfgSourceLost offset => word offset
  | .cfgDone => true
  | .chainPassStart => true
  | .chainFrameReceive frame => decide (frame.length < 65536)
  | .chainFrameGap => true
  | .cfgChainTimeout => true
  | .flashSvcEnable rq => rq.wf
  | .flashSvcDisable rq late => rq.wf && mask23 late
  | .xspiReadCmd rq data _ => rq.wf && word data
  | .xspiWriteCmd rq data => rq.wf && word data
  | .secKeyRevoke rq data => rq.wf && word data
  | .pwrReqCellar rq late => rq.wf && mask23 late
  | .pwrReqStandby rq late => rq.wf && mask23 late
  | .pwrReqRun rq late bad => rq.wf && mask23 late && channel bad
  | .pwrReqHoldover rq late => rq.wf && mask23 late
  | .standbyWake source bad => decide (source < 5) && channel bad
  | .mainsLost late => mask23 late
  | .mainsPresentDwell => true
  | .domainOnRequest rq mask => rq.wf && mask23 mask
  | .domainOffRequest rq mask => rq.wf && mask23 mask
  | .fenceAck dom => decide (dom < 23)
  | .fenceTimeout dom => decide (dom < 23)
  | .cellarClockMove => true
  | .xtalFail => true
  | .crystalRestored => true
  | .governorEvaluation _ _ => true
  | .thermalTrip _ => true
  | .tripRestart _ => true
  | .avsSetPoint mv _ => decide (mv < 65536)
  | .clkModeReqAdaptive rq _ => rq.wf
  | .clkModeReqDeterministic rq _ => rq.wf
  | .clkModeFloorTimeout => true
  | .droopStretch island _ => decide (island < 238)
  | .refclkLost => true
  | .refclkRelock => true
  | .clkRateWrite rq data => rq.wf && word data
  | .clkStepWrite rq data => rq.wf && word data
  | .clkStepApply => true
  | .ppsInEdge => true
  | .clkPpsMissing => true
  | .ppsOutRise => true
  | .ppsOutFall => true
  | .ethFrameReceive port _ => decide (port < 4)
  | .ethFrameTransmit port _ _ => decide (port < 4)
  | .synceSquelch out => decide (out < 2)
  | .synceUnsquelch out => decide (out < 2)
  | .clkRunArm rq data => rq.wf && word data
  | .clkRunMark => true
  | .hatchPost rq data => rq.wf && word data
  | .hatchLanePost port _ _ => decide (port < 8)
  | .shelfLoad => true
  | .regionReload => true
  | .routeLoad => true
  | .hatchLoadComplete _ => true
  | .regionReloaded _ => true
  | .strEnable rq data => rq.wf && word data
  | .poolAlloc rq pool => rq.wf && decide (pool < 4)
  | .crateFree rq _ => rq.wf
  | .crateGiveLatch rq _ => rq.wf
  | .crateGive rq data => rq.wf && word data
  | .crateReclaim rq data => rq.wf && word data
  | .queueEnable rq q data => rq.wf && decide (q < 128) && word data
  | .queuePush rq q offset _ => rq.wf && decide (q < 128) && decide (offset < 256)
  | .queuePop rq q offset len => rq.wf && decide (q < 128) && decide (offset < 256) && span len
  | .queueSkip rq q => rq.wf && decide (q < 128)
  | .queueFlush rq q => rq.wf && decide (q < 128)
  | .queueClear rq q => rq.wf && decide (q < 128)
  | .eventArrival _ island _ _ _ _ => decide (island < 238)
  | .logIntakeWrite => true
  | .logStatus payload => decide (payload.length ≤ 1500)
  | .logRead payload => decide (payload.length ≤ 1500)
  | .logAck payload => decide (payload.length ≤ 1500)
  | .logBadRequest payload => decide (payload.length ≤ 1500)
  | .slotStrobe region shelf _ => decide (region < 6) && decide (shelf < 8)
  | .regionTimerArm rq region data => rq.wf && decide (region < 6) && word data
  | .triggerCell region => decide (region < 6)
  | .swReq rq region data => rq.wf && decide (region < 6) && word data
  | .shelfSwitch region => decide (region < 6)
  | .spChannelConfig rq port ch data => rq.wf && decide (port < 8) && decide (ch < 8) && word data
  | .spChannelRestart rq port ch => rq.wf && decide (port < 8) && decide (ch < 8)
  | .spOutboundWord port ch _ => decide (port < 8) && decide (ch < 4)
  | .cutPairsWrite rq data => rq.wf && word data
  | .cutRelease lane _ => decide (lane < 16)
  | .br e => decide (e < 4)
  | .jmp e => decide (e < 4)
  | .call e => decide (e < 4)
  | .ret e => decide (e < 4)
  | .loop e => decide (e < 4)
  | .waitall e => decide (e < 4)
  | .waitst e => decide (e < 4)
  | .halt e => decide (e < 4)
  | .evt e => decide (e < 4)
  | .brk e => decide (e < 4)
  | .nop e slot _ => decide (e < 4) && decide (slot < 6)
  | .add e slot => decide (e < 4) && decide (slot < 2)
  | .sub e slot => decide (e < 4) && decide (slot < 2)
  | .and e slot => decide (e < 4) && decide (slot < 2)
  | .or e slot => decide (e < 4) && decide (slot < 2)
  | .xor e slot => decide (e < 4) && decide (slot < 2)
  | .sll e slot => decide (e < 4) && decide (slot < 2)
  | .srl e slot => decide (e < 4) && decide (slot < 2)
  | .sra e slot => decide (e < 4) && decide (slot < 2)
  | .mul e slot => decide (e < 4) && decide (slot < 2)
  | .mulh e slot => decide (e < 4) && decide (slot < 2)
  | .div e slot => decide (e < 4) && decide (slot < 2)
  | .rem e slot => decide (e < 4) && decide (slot < 2)
  | .min e slot => decide (e < 4) && decide (slot < 2)
  | .max e slot => decide (e < 4) && decide (slot < 2)
  | .lih e slot => decide (e < 4) && decide (slot < 2)
  | .cmpEq e slot => decide (e < 4) && decide (slot < 2)
  | .cmpLt e slot => decide (e < 4) && decide (slot < 2)
  | .cmpLtu e slot => decide (e < 4) && decide (slot < 2)
  | .pand e slot => decide (e < 4) && decide (slot < 2)
  | .por e slot => decide (e < 4) && decide (slot < 2)
  | .pnot e slot => decide (e < 4) && decide (slot < 2)
  | .time e slot => decide (e < 4) && decide (slot < 2)
  | .mloadb e => decide (e < 4)
  | .mloadf e => decide (e < 4)
  | .mmul e => decide (e < 4)
  | .mmula e => decide (e < 4)
  | .mconv e => decide (e < 4)
  | .mdrain e => decide (e < 4)
  | .chainOp e => decide (e < 4)
  | .vmov e => decide (e < 4)
  | .vzero e => decide (e < 4)
  | .ldv e _ => decide (e < 4)
  | .stv e => decide (e < 4)
  | .lds e _ => decide (e < 4)
  | .sts e => decide (e < 4)
  | .dmain e => decide (e < 4)
  | .dmaout e => decide (e < 4)
  | .stmS e => decide (e < 4)
  | .ldmS e => decide (e < 4)
  | .stmV e => decide (e < 4)
  | .ldmV e => decide (e < 4)
  | .stmP e => decide (e < 4)
  | .ldmP e => decide (e < 4)
  | .savehL e => decide (e < 4)
  | .savehU e => decide (e < 4)
  | .resthL e => decide (e < 4)
  | .resthU e => decide (e < 4)
  | .ldd e => decide (e < 4)
  | .std e => decide (e < 4)
  | .operationComplete e _ err => decide (e < 4) && decide (err < 3)
  | .blockingTransferFault e bank _ _ => decide (e < 4) && decide (bank < 4)
  | .dmaFault e bank => decide (e < 4) && decide (bank < 4)
  | .spillBlockFetched e bank _ => decide (e < 4) && decide (bank < 4)
  | .budgetExceeded e bank => decide (e < 4) && decide (bank < 4)
  | .doorbell e => decide (e < 4)
  | .jobStart e bank _ => decide (e < 4) && decide (bank < 4)
  | .jobResume e bank _ => decide (e < 4) && decide (bank < 4)
  | .bankSwitchComplete e => decide (e < 4)
  | .bankResume e _ => decide (e < 4)
  | .bankResumeCmd rq e bank _ => rq.wf && decide (e < 4) && decide (bank < 4)
  | .bankAbort rq e bank => rq.wf && decide (e < 4) && decide (bank < 4)
  | .bankEvict rq e bank _ => rq.wf && decide (e < 4) && decide (bank < 4)
  | .evictionComplete e bank => decide (e < 4) && decide (bank < 4)
  | .codeStoreWrite rq e offset data => rq.wf && decide (e < 4) && decide (offset < 524288) && word data
  | .bankViewAccess rq e bank _ offset data => rq.wf && decide (e < 4) && decide (bank < 4) && decide (offset < 65536) && word data
  | .clrSat rq e bank => rq.wf && decide (e < 4) && decide (bank < 4)
  | .modelActivate rq e bank data => rq.wf && decide (e < 4) && decide (bank < 4) && word data
  | .modelLoadBegin e bank => decide (e < 4) && decide (bank < 4)
  | .modelActive e bank => decide (e < 4) && decide (bank < 4)
  | .modelLoadFail e bank cause addr => decide (e < 4) && decide (bank < 4) && decide (cause < 3) && device addr
  | .modelDrop rq e bank data => rq.wf && decide (e < 4) && decide (bank < 4) && word data
  | .radioRelease rq data => rq.wf && word data
  | .radioReleased _ => true
  | .radioWithdraw rq data => rq.wf && word data
  | .backgroundCalibration chain param value _ => decide (chain < 4) && decide (param < 256) && word value
  | .frameBoundary carrier => decide (carrier < 2)
  | .slotBoundary carrier _ => decide (carrier < 2)
  | .beamCommit rq data => rq.wf && word data
  | .fronthaulFrameReceive port msg => decide (port < 4) && decide (msg.plane < 4)
  | .oneWayDelayMeasurement port id => decide (port < 4) && decide (id < 256)
  | .paramRequest carrier => decide (carrier < 2)
  | .configRequest carrier tlvs => decide (carrier < 2) && tlvs.all fun x => decide (x.tag < 65536)
  | .startRequest carrier => decide (carrier < 2)
  | .stopRequest carrier => decide (carrier < 2)
  | .dlTtiRequest carrier sfn slot pdus => decide (carrier < 2) && decide (sfn < 1024) && decide (slot < 160) && pdus.all fun p => decide (p.kind < 8)
  | .ulTtiRequest carrier sfn slot pdus => decide (carrier < 2) && decide (sfn < 1024) && decide (slot < 160) && pdus.all fun p => decide (p.kind < 8)
  | .ulDciRequest carrier sfn slot pdus => decide (carrier < 2) && decide (sfn < 1024) && decide (slot < 160) && pdus.all fun p => decide (p.kind < 8)
  | .txDataRequest carrier sfn slot crates =>
    decide (carrier < 2) && decide (sfn < 1024) && decide (slot < 160) && crates.all fun p => word p.1 && word p.2
  | .fapiUnsupportedMessage carrier type => decide (carrier < 2) && decide (type < 65536)
  | .slotIndication carrier => decide (carrier < 2)
  | .uciIndication carrier => decide (carrier < 2)
  | .tbCrcDeadline carrier => decide (carrier < 2)
  | .crcIndication carrier => decide (carrier < 2)
  | .rachIndication carrier => decide (carrier < 2)
  | .allocationReady _ _ => true
  | .classicalLlrComplete _ => true
  | .learnedCompletion => true
  | .guardInstant carrier => decide (carrier < 2)
  | .engineOverdue engine => decide (engine < 4)
  | .radLrCommit rq data => rq.wf && word data
  | .ldpcBlockDone island _ _ _ _ => decide (island < 2)
  | .ldpcCutoff carrier => decide (carrier < 2)
  | .radLdpcCommit rq data => rq.wf && word data
  | .streamEnable rq stream data => rq.wf && decide (stream < 32) && word data
  | .accessUnit dec _ => decide (dec < 2)
  | .frameOutput stream _ => decide (stream < 32)
  | .compositionJobStart => true
  | .compositionPassEnd => true
  | .compositionRelease => true
  | .visChCommit rq ch data => rq.wf && decide (ch < 8) && word data
  | .visCoefCommit rq data => rq.wf && word data
  | .visChReturn rq ch data => rq.wf && decide (ch < 8) && word data
  | .visEnable rq data => rq.wf && word data
  | .pinCfgWrite rq pin data => rq.wf && decide (pin < 160) && word data
  | .gpioOutWrite rq bank data => rq.wf && decide (bank < 10) && word data
  | .pinqWord => true
  | .matcherHit m _ => decide (m < 16)
  | .adcConversion ch _ => decide (ch < 16)
  | .tachEdge t => decide (t < 8)
  | .tachTimeout t => decide (t < 8)
  | .windowExit k _ => decide (k < 8)
  | .windowReturn k _ => decide (k < 8)
  | .tripLatchClear rq data => rq.wf && word data
  | .pwmCommit rq data => rq.wf && word data
  | .pwmPeriodStart ch => decide (ch < 8)
  | .pleSample l => decide (l < 8)
  | .canFrameReceive n _ _ => decide (n < 2)
  | .canTxRequest rq n data => rq.wf && decide (n < 2) && word data
  | .canTxDone n slot started => decide (n < 2) && decide (slot < 16) && decide (started < 65536)
  | .canRxPop rq n data => rq.wf && decide (n < 2) && word data
  | .canBusOff n _ => decide (n < 2)
  | .canBusOffRecovery n => decide (n < 2)
  | .uartTxdWrite rq u data => rq.wf && decide (u < 2) && word data
  | .uartFrameSent u => decide (u < 2)
  | .uartByteReceive u _ => decide (u < 2)
  | .uartFrameEnd u => decide (u < 2)
  | .uartRxdPop rq u => rq.wf && decide (u < 2)
  | .i2cCommand rq n data => rq.wf && decide (n < 2) && word data
  | .i2cCommandDone n done _ _ _ => decide (n < 2) && decide (done ≤ 64)
  | .i2cTimeout n done => decide (n < 2) && decide (done ≤ 64)
  | .spiCommand rq n data => rq.wf && decide (n < 2) && word data
  | .spiCommandDone n _ => decide (n < 2)
  | .audioSample _ _ => true
  | .audioFrameBoundary => true
  | .audioRingRead rq _ offset len => rq.wf && decide (offset < 131072) && span len
  | .spotterScore => true
  | .spotEnable rq data => rq.wf && word data
  | .consoleTimeout => true
  | .verifyRequest => true
  | .verifyCompletion => true
  | .verifyTimeout => true
  | .batteryCut => true
  | .tetherFrameReceive port _ _ => decide (port < 4)
  | .tetherReplayTimeout port => decide (port < 4)
  | .tetherTrained port => decide (port < 4)
  | .tetherTrainRetry port => decide (port < 4)
  | .groupFormStart => true
  | .hello port groupId member peerPort epoch => decide (port < 4) && decide (groupId.length = 48) && decide (member < 8) && decide (peerPort < 4) && word epoch
  | .manifest device _ => decide (device < 8)
  | .admitMsg members => word members
  | .bench members => word members
  | .yield late => mask23 late
  | .dissolve member reason => decide (member < 8) && decide (reason < 256)
  | .joined => true
  | .resend => true
  | .grpFormTimeout => true
  | .timeExchange child _ _ _ _ _ _ => child.all fun p => decide (p < 4)
  | .movePost rq data => rq.wf && word data
  | .moveWrite remote => decide (remote < 5)
  | .moveRead remote _ => decide (remote < 5)
  | .movePush remote => decide (remote < 5)
  | .moveComplete => true
  | .grpReset rq data => rq.wf && word data
  | .tetherGroupReset source late => decide (source < 8) && mask23 late
  | .tetherLockLost port => decide (port < 4)
  | .clkIslandUnlock island => decide (island < 238)
  | .matcherOutClear m _ => decide (m < 16)
  | .spInboundWord port ch => decide (port < 8) && decide (ch < 4)
  | .ddcWordPresented chain stream _ _ => decide (chain < 4) && decide (stream < 2)

end Sys2Proof
end

