-- ==== Sys2Proof/Tests/Slice0.lean ====
section
/-! SUPPORT. Tests: the well-formedness checks refuse what they should, results that the spec gives, and for each obligation
states and operands that meet its hypotheses. -/

namespace Sys2Proof.Tests

open Sys2Proof.Machine

set_option linter.unusedVariables false
set_option Elab.async false

/-- A state with register fields set. -/
def up (fs : List (Fld × Nat)) (s : State := State.reset) : State := fs.foldl (fun s p => s.wr p.1 p.2) s

/-- The state after a command. -/
def nx (c : Instr) (s : State) : State :=
  match exec c s with
  | .next t => t
  | _ => s

/-! Well-formedness. -/

theorem test_wf_refuses_requesters_and_words :
    Instr.wf (.wdogKick ⟨49, 0⟩ 0) = false ∧ Instr.wf (.wdogKick ⟨44, 4⟩ 0) = false ∧ Instr.wf (.wdogKick ⟨44, 0⟩ (2 ^ 32)) = false ∧
    Instr.wf (.registerWrite ⟨44, 0⟩ (2 ^ 36) 4 0) = false ∧ Instr.wf (.nocRequest ⟨36, 0⟩ false 0 0 [] false) = false ∧
    Instr.wf (.nocRequest ⟨36, 0⟩ false 0 257 [] false) = false ∧ Instr.wf (.softwareWarmReset ⟨44, 0⟩ 0 (2 ^ 23)) = false ∧
    Instr.wf (.cellarLocalAccess false (2 ^ 32) 4 []) = false ∧ Instr.wf (.pcieEndpointAccess false (2 ^ 36) 4 []) = false := by decide

theorem test_wf_refuses_network_and_memory :
    Instr.wf (.nocFlitRoute 36 0 ⟨0, 0⟩ []) = false ∧ Instr.wf (.nocFlitRoute 0 6 ⟨0, 0⟩ []) = false ∧
    Instr.wf (.nocFlitRoute 0 0 ⟨0, 0⟩ [640]) = false ∧ Instr.wf (.nocFlitEject 48 ⟨0, 0⟩ [3, 3]) = false ∧
    Instr.wf (.nocResponseArrival 0 64) = false ∧ Instr.wf (.arbWindowStart (.dram 8)) = false ∧
    Instr.wf (.arbWindowStart (.larder 16)) = false ∧ Instr.wf (.arbWindowStart (.router 36 0)) = false ∧
    Instr.wf (.arbWindowStart (.router 0 6)) = false ∧ Instr.wf (.dramRead 8 .clean) = false ∧ Instr.wf (.dramRefresh 16) = false ∧
    Instr.wf (.mr4Poll 16 0) = false ∧ Instr.wf (.larderRead 16 []) = false ∧ Instr.wf (.larderRead 0 [(8, .single)]) = false := by decide

theorem test_wf_refuses_power_and_clocks :
    Instr.wf (.railFaultDrop 8) = false ∧ Instr.wf (.dramTrainingDone 65536) = false ∧ Instr.wf (.standbyWake 5 none) = false ∧ Instr.wf (.pwrReqRun ⟨36, 0⟩ 0 (some 8)) = false ∧
    Instr.wf (.fenceAck 23) = false ∧ Instr.wf (.avsSetPoint 65536 none) = false ∧ Instr.wf (.droopStretch 238 1) = false ∧
    Instr.wf (.ethFrameReceive 4 []) = false ∧ Instr.wf (.synceSquelch 2) = false ∧ Instr.wf (.clkIslandUnlock 238) = false := by decide

theorem test_wf_refuses_storeroom_log_and_fabric :
    Instr.wf (.hatchLanePost 8 0 0) = false ∧ Instr.wf (.poolAlloc ⟨36, 0⟩ 4) = false ∧ Instr.wf (.queueSkip ⟨36, 0⟩ 128) = false ∧
    Instr.wf (.queuePush ⟨36, 0⟩ 0 256 []) = false ∧  Instr.wf (.regionTimerArm ⟨36, 0⟩ 6 0) = false ∧
    Instr.wf (.slotStrobe 6 0 0) = false ∧ Instr.wf (.slotStrobe 0 8 0) = false ∧ Instr.wf (.spChannelRestart ⟨36, 0⟩ 8 0) = false ∧
    Instr.wf (.spOutboundWord 0 4 0) = false ∧ Instr.wf (.cutRelease 16 false) = false := by decide

theorem test_wf_refuses_engines :
    Instr.wf (.br 4) = false ∧ Instr.wf (.nop 0 6 .clean) = false ∧ Instr.wf (.add 0 2) = false ∧ Instr.wf (.operationComplete 0 0 3) = false ∧
    Instr.wf (.budgetExceeded 0 4) = false ∧ Instr.wf (.codeStoreWrite ⟨36, 0⟩ 0 524288 0) = false ∧
    Instr.wf (.bankViewAccess ⟨36, 0⟩ 0 0 false 65536 0) = false ∧ Instr.wf (.modelLoadFail 0 0 3 0) = false := by decide

theorem test_wf_refuses_radio_and_vision :
    Instr.wf (.backgroundCalibration 4 0 0 false) = false ∧ Instr.wf (.frameBoundary 2) = false ∧
    Instr.wf (.oneWayDelayMeasurement 0 256) = false ∧ Instr.wf (.configRequest 0 [⟨65536, 0, none, none⟩]) = false ∧
    Instr.wf (.dlTtiRequest 0 1024 0 []) = false ∧ Instr.wf (.dlTtiRequest 0 0 160 []) = false ∧
    Instr.wf (.ulDciRequest 0 0 0 [⟨8, 0, 0, [], []⟩]) = false ∧ Instr.wf (.ldpcBlockDone 2 1 true true []) = false ∧
    Instr.wf (.streamEnable ⟨36, 0⟩ 32 0) = false ∧ Instr.wf (.visChReturn ⟨36, 0⟩ 8 0) = false := by decide

theorem test_wf_refuses_plant_cellar_and_groups :
    Instr.wf (.pinCfgWrite ⟨36, 0⟩ 160 0) = false ∧ Instr.wf (.gpioOutWrite ⟨36, 0⟩ 10 0) = false ∧ Instr.wf (.matcherHit 16 0) = false ∧
    Instr.wf (.tachEdge 8) = false ∧ Instr.wf (.canTxDone 2 0 0) = false ∧ Instr.wf (.canTxDone 0 16 0) = false ∧
    Instr.wf (.i2cTimeout 0 65) = false ∧ Instr.wf (.audioRingRead ⟨36, 0⟩ false 131072 4) = false ∧
    Instr.wf (.tetherTrained 4) = false ∧ Instr.wf (.hello 0 [] 0 0 0) = false ∧ Instr.wf (.hello 0 (List.replicate 48 0) 8 0 0) = false ∧
    Instr.wf (.dissolve 0 256) = false ∧ Instr.wf (.timeExchange (some 4) true 0 0 0 0 0) = false ∧ Instr.wf (.moveWrite 5) = false ∧ Instr.wf (.tetherGroupReset 8 0) = false := by decide

theorem test_wf_accepts_the_last_of_each_range :
    Instr.wf (.registerWrite ⟨48, 3⟩ (2 ^ 36 - 4) 4 (2 ^ 32 - 1)) = true ∧ Instr.wf (.nocRequest ⟨36, 0⟩ false 0 256 [] false) = true ∧
    Instr.wf (.hello 3 (List.replicate 48 0) 7 3 0) = true ∧ Instr.wf (.moveWrite 4) = true := by decide

/-! For each obligation with hypotheses, states and operands that meet them. -/

/-- NOC_RT with the valid entries that the service cluster and the cellar core use here. -/
def routes : List (Nat × Nat) :=
  ([0, 8, 24, 37, 40, 42, 43, 44, 46, 47, 48].map fun e => ((Reg.NOC_RT.ENTRY 36 e).key, 0x80000000)) ++
    [2, 43, 46, 47].map fun e => ((Reg.NOC_RT.ENTRY 44 e).key, 0x80000000)

/-- A device in RUN with every domain on. -/
def rn : State :=
  up [(Reg.SYS_PWR_MODE.MODE, 3), (Reg.SYS_PWR_MODE.TIER, 3), (Reg.SYS_DOM_STATE.DOM, 0x7FFFFF), (Reg.MEM_STAT.TRAINED, 1),
      (Reg.CLK_MODE_STAT.REFCLK_OK, 1)]
    { State.reset with csr := routes, pw := { State.reset.pw with step := 0, chEn := 255, chPg := 255, refclk := true } }

/-- A device in CELLAR, with start-up not in progress. -/
def cl : State :=
  up [(Reg.SYS_PWR_MODE.MODE, 1), (Reg.SYS_PWR_MODE.TIER, 1)]
    { State.reset with pw := { State.reset.pw with step := 0, rstPend := none } }

/-- A state at another device time. -/
def tm (s : State) (n : Nat) : State := { s with ck := { s.ck with time := BitVec.ofNat 64 n } }

/-- Routes of an NI. -/
def viaNi (n : Nat) (dsts : List Nat) (s : State) : State := up (dsts.map fun e => (Reg.NOC_RT.ENTRY n e, 0x80000000)) s


namespace W01

def smp0 : State := { rn with pending := [.memArbCommit ⟨36,0⟩ 1, .startUp] }
def smp1 : State := rn
def smp2 : State := { rn with pw := { rn.pw with off := true } }

/-- States and operands that meet the hypotheses of StepRunsTheFrontCommand, clause by clause. -/
theorem witness_StepRunsTheFrontCommand :
    (∃ (s : State), (match s.pending with | c :: rest => decide (True) | _ => false) = true) ∧
    (∃ (s : State), s.pending = []) :=
  ⟨⟨smp0, by decide +kernel⟩,
   ⟨smp1, by decide +kernel⟩⟩

/-- States and operands that meet the hypotheses of EveryStepKeepsTheCanonicalForm, clause by clause. -/
theorem witness_EveryStepKeepsTheCanonicalForm :
    (∃ (s : State), s.canonical ∧ (match step s with | .next t => decide (True) | _ => false) = true) :=
  ⟨smp0, by decide +kernel⟩

/-- States and operands that meet the hypotheses of NothingActsWithoutPower, clause by clause. -/
theorem witness_NothingActsWithoutPower :
    (∃ (c : Instr) (s : State), (s.pw.off = true ∨ s.pw.held = true) ∧ c ≠ .vddCelPowerGood ∧ c ≠ .vddCelLoss ∧ c ≠ .vddIo33Restored) :=
  ⟨(.startUp : Instr), smp2, by decide +kernel⟩

/-- States and operands that meet the hypotheses of TurnedAwayRegisterCommands, clause by clause. -/
theorem witness_TurnedAwayRegisterCommands :
    (∃ (c : Instr) (s : State), s.awake ∧ (match registerAccess c with | some (rq, a, w, d) => decide (mayRequest s rq = true ∧ (match routedAccess s rq a 4 w d with | .err e => decide (True) | _ => false) = true) | _ => false) = true) ∧
    (∃ (c : Instr) (s : State), s.awake ∧ (match registerAccess c with | some (rq, a, w, d) => decide (mayRequest s rq = false) | _ => false) = true) :=
  ⟨⟨(.pwrReqRun ⟨0,0⟩ 0 none : Instr), smp0, by decide +kernel⟩,
   ⟨(.pwrReqRun ⟨0,0⟩ 0 none : Instr), cl, by decide +kernel⟩⟩

/-- States and operands that meet the hypotheses of WritersOfThePowerRegisters, clause by clause. -/
theorem witness_WritersOfThePowerRegisters :
    (∃ (rq : Requester) (a : Nat), a ∈ [Reg.SYS_PWR_REQ.TARGET.addr, Reg.SYS_DOM_ON_REQ.DOM.addr, Reg.SYS_DOM_OFF_REQ.DOM.addr, Reg.SYS_RESET.KEY.addr, Reg.SYS_WARM_CFG.WARM_EN.addr, Reg.SYS_THERM_CFG.THROTTLE_DUTY.addr, Reg.SYS_HOLD_CFG.HOLD_DWELL_S.addr] ∧ (rq.ni = 44 ∨ rq.ni = 36 ∨ rq.ni = 45)) ∧
    (∃ (rq : Requester) (a : Nat), a ∈ [Reg.SYS_PWR_REQ.TARGET.addr, Reg.SYS_DOM_ON_REQ.DOM.addr, Reg.SYS_DOM_OFF_REQ.DOM.addr, Reg.SYS_RESET.KEY.addr, Reg.SYS_WARM_CFG.WARM_EN.addr, Reg.SYS_THERM_CFG.THROTTLE_DUTY.addr, Reg.SYS_HOLD_CFG.HOLD_DWELL_S.addr] ∧ rq.ni ≠ 44 ∧ rq.ni ≠ 36 ∧ rq.ni ≠ 45) :=
  ⟨⟨(⟨44,1⟩ : Requester), Reg.SYS_PWR_REQ.TARGET.addr, by decide +kernel⟩,
   ⟨(⟨39,0⟩ : Requester), Reg.SYS_PWR_REQ.TARGET.addr, by decide +kernel⟩⟩

end W01

namespace W02

def routed := up [(Reg.NOC_RT.ENTRY 36 0, 0x80000003), (Reg.NOC_RT.ENTRY 36 7, 0x80000003), (Reg.NOC_RT.ENTRY 36 8, 0x80000003)] rn
def smp0 : State := rn
def smp1 : State := routed
def smp2 : State := { rn with noc := { rn.noc with out := (List.range 64).map fun t => { ni := 36, tag := t, dst := 0, addr := 0, len := 64, write := false, lines := 1 } } }
def smp3 : State := { rn with mem := { rn.mem with l2 := [(0, ⟨List.replicate 64 7, false⟩)] } }

/-- States and operands that meet the hypotheses of RegisterWrites, clause by clause. -/
theorem witness_RegisterWrites :
    (∃ (s : State) (rq : Requester) (a : Nat) (data : Nat), s.awake ∧ data < 2 ^ 32 ∧ a % 4 = 0 ∧ mayRequest s rq = true ∧ (match routedAccess s rq a 4 true data with | .ok u => decide ((match fieldsAt a with | some [f] => decide ((u = .noc ∧ a ≠ 0xF00300014 ∨ u = .mem ∧ a ≠ 0xF00400048 ∨ u = .sys ∧ a ∉ [0xF00000008, 0xF00000014, 0xF00000018, 0xF00000034, 0xF00000038, 0xF0000003C, 0xF00000068, 0xF00000074])) | _ => false) = true) | _ => false) = true) ∧
    (∃ (s : State) (rq : Requester) (a : Nat) (size : Nat) (data : Nat), s.awake ∧ 0 < size ∧ size ≤ 256 ∧ data < 2 ^ (8 * size) ∧ mayRequest s rq = true ∧ (match routedAccess s rq a size true (data % 2 ^ 32) with | .ok u => decide ((u = .noc ∨ u = .mem ∨ u = .sys ∨ u = .clk ∨ u = .cfg ∨ u = .log ∨ u = .sec) ∧ (size ≠ 4 ∨ a % 4 ≠ 0)) | _ => false) = true) ∧
    (∃ (s : State) (rq : Requester) (a : Nat) (size : Nat) (data : Nat), s.awake ∧ 0 < size ∧ size ≤ 256 ∧ data < 2 ^ (8 * size) ∧ mayRequest s rq = true ∧ (match routedAccess s rq a size true (data % 2 ^ 32) with | .ok u => decide ((u = .noc ∨ u = .mem ∨ u = .sys ∨ u = .clk ∨ u = .cfg ∨ u = .log ∨ u = .sec) ∧ size = 4 ∧ a % 4 = 0 ∧ fieldsAt a = none) | _ => false) = true) :=
  ⟨⟨smp0, (⟨36,0⟩ : Requester), 0xF00300010, 8, by decide +kernel⟩,
   ⟨smp0, (⟨36,0⟩ : Requester), 0xF00400010, 8, 8, by decide +kernel⟩,
   ⟨smp0, (⟨36,0⟩ : Requester), 0xF00001FF0, 4, 8, by decide +kernel⟩⟩

/-- States and operands that meet the hypotheses of MemoryRequestIsInjected, clause by clause. -/
theorem witness_MemoryRequestIsInjected :
    (∃ (s : State) (rq : Requester) (w : Bool) (a : Nat) (len : Nat) (data : List Byte), s.awake ∧ 1 ≤ len ∧ len ≤ 256 ∧ mayRequest s rq = true ∧ (match freeTag s rq.ni with | some tag => decide ((match routedAccess s rq a len w (field data 0 4) with | .ok u => decide ((u = .dram ∨ u = .larder) ∧ (rq.ni ≠ 36 ∨ s.mem.l2 = [])) | _ => false) = true) | _ => false) = true) ∧
    (∃ (s : State) (rq : Requester) (len : Nat), s.awake ∧ 1 ≤ len ∧ len ≤ 256 ∧ requesterUp s rq = true ∧ freeTag s rq.ni = none) ∧
    (∃ (s : State) (rq : Requester) (a : Nat) (len : Nat), s.awake ∧ 1 ≤ len ∧ len ≤ 256 ∧ mayRequest s rq = true ∧ rq.ni = 36 ∧ (match routedAccess s rq a len false 0 with | .ok u => decide ((u = .dram ∨ u = .larder) ∧ l2Holds s a len = true) | _ => false) = true) ∧
    (∃ (s : State) (rq : Requester) (a : Nat), s.awake ∧ a % 4 = 0 ∧ mayRequest s rq = true ∧ (match routedAccess s rq a 4 false 0 with | .ok u => decide ((u = .noc ∨ u = .mem) ∧ (match fieldsAt a with | some [f] => decide (isPairLow a = false ∧ s.latched rq.ni a = none) | _ => false) = true) | _ => false) = true) :=
  ⟨⟨smp1, (⟨36,0⟩ : Requester), false, 8, 8, ([1] : List Byte), by decide +kernel⟩,
   ⟨smp2, (⟨36,0⟩ : Requester), 8, by decide +kernel⟩,
   ⟨smp3, (⟨36,0⟩ : Requester), 8, 8, by decide +kernel⟩,
   ⟨smp1, (⟨36,0⟩ : Requester), 0xF00300010, by decide +kernel⟩⟩

/-- States and operands that meet the hypotheses of NoRouteNoRequest, clause by clause. -/
theorem witness_NoRouteNoRequest :
    (∃ (s : State) (rq : Requester) (a : Nat) (len : Nat), s.awake ∧ 1 ≤ len ∧ len ≤ 256 ∧ mayRequest s rq = true ∧ 2 ≤ s.tier ∧ s.domUp 2 = true ∧ hasTarget s a len = true ∧ fusedTarget s a = false ∧ rq.ni ≠ targetNi a ∧ bit (s.rd (Reg.NOC_RT.ENTRY rq.ni (targetNi a))) 31 = false) :=
  ⟨smp0, (⟨36,0⟩ : Requester), 255, 8, by decide +kernel⟩

/-- States and operands that meet the hypotheses of LocalAndPcieAccess, clause by clause. -/
theorem witness_LocalAndPcieAccess :
    (∃ (s : State) (rq : Requester) (a : Nat) (len : Nat), s.awake ∧ 1 ≤ len ∧ len ≤ 256 ∧ mayRequest s rq = true ∧ hasTarget s a len = false) ∧
    (∃ (s : State) (a : Nat) (len : Nat), s.awake ∧ 1 ≤ len ∧ len ≤ 256 ∧ a < 2 ^ 32 ∧ (localRange a).all (fun r => decide (r.2.2 < a + len - 1)) = true) ∧
    (∃ (s : State) (a : Nat) (len : Nat) (data : List Byte), s.awake ∧ 1 ≤ len ∧ len ≤ 256 ∧ data.length = len ∧ 0x10000000 ≤ a ∧ a + len ≤ 0x10060000) ∧
    (∃ (s : State) (a : Nat) (len : Nat), s.awake ∧ 1 ≤ len ∧ len ≤ 256 ∧ 0x10000000 ≤ a ∧ a + len ≤ 0x10060000) ∧
    (∃ (s : State) (a : Nat) (len : Nat), s.awake ∧ 1 ≤ len ∧ len ≤ 256 ∧ (a + len ≤ 0x10000 ∨ 0x10060000 ≤ a ∧ a + len ≤ 0x10080000)) ∧
    (∃ (s : State) (x : Nat), s.awake ∧ x < 2 ^ 36 ∧ s.domUp 20 = true ∧ s.pcieRoot = false) :=
  ⟨⟨smp0, (⟨36,0⟩ : Requester), 0x803FFFFFF, 8, by decide +kernel⟩,
   ⟨smp0, 0x20000000, 8, by decide +kernel⟩,
   ⟨smp0, 0x10000000, 4, ([1,2,3,4] : List Byte), by decide +kernel⟩,
   ⟨smp0, 0x10000000, 8, by decide +kernel⟩,
   ⟨smp0, 8, 8, by decide +kernel⟩,
   ⟨smp0, 8, by decide +kernel⟩⟩

end W02

namespace W03

def line (w : Bool) (a len : Nat) (poison : Bool := false) : LineReq := { ni := 36, tag := 63, qclass := 0, seq := 0, last := true, addr := a, len := len, write := w, data := if w then List.replicate len 5 else [], poison := poison, flit := ⟨0, 0⟩ }
def outst (late : Bool) (done : Nat) : Outstanding := { ni := 36, tag := 63, dst := 0, addr := 0, len := 64, write := false, lines := 1, done := done, late := late }
def waits (r : LineReq) (late : Bool := false) (done : Nat := 0) (bad : List Nat := []) : State :=
  { rn with noc := { rn.noc with queue := [r], out := [outst late done] }, mem := { rn.mem with dramBad := bad } }
def smp0 : State := waits (line false 0 64)
def smp1 : State := waits (line false 0 64) false 1
def smp2 : State := waits (line false 0 64) true 1
def smp3 : State := waits (line false 0 64) false 0 [0]
def smp4 : State := waits (line true 0 64) false 0 [0]
def smp5 : State := waits (line true 0 8) false 0 [0]
def smp7 : State := waits (line false 0x800000000 64)
def smp8 : State := waits (line true 0x800000000 8 true)
def back (s : State) : State := viaNi 0 [36, 40] s
def old (late : Bool) : State := back { rn with noc := { rn.noc with out := [outst late 1] }, ck := { rn.ck with time := 100000000 } }
def smp9 : State := back smp1
def smp10 : State := back smp2
def smp11 : State := back { smp1 with noc := { smp1.noc with out := [{ outst false 1 with ni := 40 }] }, pw := { smp1.pw with fenceReq := 2 ^ 21 } }
def smp12 : State := up [(Reg.SYS_DOM_STATE.DOM, 0x5FFFFF)] smp11
def smp13 : State := old false
def smp14 : State := old true
def smp15 : State := { rn with noc := { rn.noc with windows := [(0, 0)] } }
def smp16 : State := up [(Reg.MEM_SCRUB_CFG.EN, 1)] (tm rn 20000000000000)
def smp17 : State := { smp7 with mem := { smp7.mem with larderBad := [0] } }
def smp18 : State := { waits (line true 0x800000004 8 true) with mem := { rn.mem with larderBad := [0] } }

/-- States and operands that meet the hypotheses of RoutersForwardFlits, clause by clause. -/
theorem witness_RoutersForwardFlits :
    (∃ (s : State) (router : Nat) (inPort : Nat) (f : Flit) (err : List Nat), s.awake ∧ s.domOn 2 = true ∧ router < 36 ∧ inPort < 6 ∧ s.noc.bufs = [] ∧ s.noc.wires = [] ∧ (onLink s router inPort (flitVn f)).head?.all (· == f) = true ∧ flitEcc err 1 ≠ .double) ∧
    (∃ (s : State) (router : Nat) (inPort : Nat) (f : Flit) (err : List Nat), s.awake ∧ s.domOn 2 = true ∧ router < 36 ∧ inPort < 6 ∧ s.noc.bufs = [] ∧ s.noc.wires = [] ∧ (onLink s router inPort (flitVn f)).head?.all (· == f) = true ∧ flitEcc err 1 = .double) :=
  ⟨⟨smp0, 35, 5, (⟨0,0⟩ : Flit), [0,1], by decide +kernel⟩,
   ⟨smp0, 35, 5, (⟨0,0⟩ : Flit), [310,311], by decide +kernel⟩⟩

/-- States and operands that meet the hypotheses of TargetsTakeFlits, clause by clause. -/
theorem witness_TargetsTakeFlits :
    (∃ (s : State) (ni : Nat) (f : Flit) (err : List Nat), s.awake ∧ s.domOn 2 = true ∧ ni < 64 ∧ s.noc.wires = [] ∧ flitEcc err 0 ≠ .double ∧ flitEcc err 1 ≠ .double ∧ flitKind f ≠ 5) ∧
    (∃ (s : State) (ni : Nat) (f : Flit) (err : List Nat), s.awake ∧ s.domOn 2 = true ∧ ni < 64 ∧ s.noc.wires = [] ∧ flitEcc err 0 = .double ∧ flitEcc err 1 ≠ .double ∧ flitKind f ≠ 5) ∧
    (∃ (s : State) (ni : Nat) (f : Flit) (err : List Nat), s.awake ∧ s.domOn 2 = true ∧ ni < 64 ∧ s.noc.wires = [] ∧ err = [] ∧ flitKind f = 5 ∧ ni < 24 ∧ targetNi (flitAddr f) = ni ∧ inMemory (flitAddr f) (flitBytes f) = true) ∧
    (∃ (s : State) (ni : Nat) (err : List Nat), s.awake ∧ s.domOn 2 = true ∧ ni < 64 ∧ s.noc.wires = [] ∧ flitEcc err 1 = .double) :=
  ⟨⟨smp0, 35, (⟨0,0⟩ : Flit), [619,620], by decide +kernel⟩,
   ⟨smp0, 35, (⟨0,0⟩ : Flit), [0,1], by decide +kernel⟩,
   ⟨smp0, 0, (setHdr (setHdr ⟨0,0⟩ 29 4 5) 45 36 0 : Flit), ([] : List Nat), by decide +kernel⟩,
   ⟨smp0, 35, [310,311], by decide +kernel⟩⟩

/-- States and operands that meet the hypotheses of ResponsesAndTimeouts, clause by clause. -/
theorem witness_ResponsesAndTimeouts :
    (∃ (s : State) (ni : Nat) (tag : Nat), s.awake ∧ (match outOf s ni tag with | some o => decide ((s.noc.wait.filter fun w => w.rq.ni == ni) = [] ∧ o.late = false ∧ o.lines ≤ o.done ∧ answerable s o = true ∧ requesterUp s ⟨ni, 0⟩ = true) | _ => false) = true) ∧
    (∃ (s : State) (ni : Nat) (tag : Nat), s.awake ∧ (match outOf s ni tag with | some o => decide ((s.noc.wait.filter fun w => w.rq.ni == ni) = [] ∧ o.late = true ∧ o.lines ≤ o.done ∧ answerable s o = true ∧ requesterUp s ⟨ni, 0⟩ = true) | _ => false) = true) ∧
    (∃ (s : State) (ni : Nat) (tag : Nat), s.awake ∧ (match outOf s ni tag with | some o => decide ((s.noc.wait.filter fun w => w.rq.ni == ni) = [] ∧ o.lines ≤ o.done ∧ answerable s o = true ∧ requesterUp s ⟨ni, 0⟩ = false) | _ => false) = true) ∧
    (∃ (s : State) (ni : Nat) (tag : Nat), s.awake ∧ (match outOf s ni tag with | some o => decide ((s.noc.wait.filter fun w => w.rq.ni == ni) = [] ∧ o.late = false ∧ timedOut s o = true ∧ requesterUp s ⟨ni, 0⟩ = true) | _ => false) = true) ∧
    (∃ (s : State) (ni : Nat) (tag : Nat), s.awake ∧ (match outOf s ni tag with | some o => decide ((s.noc.wait.filter fun w => w.rq.ni == ni) = [] ∧ o.late = true ∧ timedOut s o = true) | _ => false) = true) :=
  ⟨⟨smp9, 36, 63, by decide +kernel⟩,
   ⟨smp10, 36, 63, by decide +kernel⟩,
   ⟨smp11, 40, 63, by decide +kernel⟩,
   ⟨smp13, 36, 63, by decide +kernel⟩,
   ⟨smp14, 36, 63, by decide +kernel⟩⟩

/-- States and operands that meet the hypotheses of ArbiterWindowsAndCommits, clause by clause. -/
theorem witness_ArbiterWindowsAndCommits :
    (∃ (s : State) (a : ArbId), s.awake ∧ windowOver s a = true) ∧
    (∃ (s : State) (rq : Requester) (d : Nat), s.awake ∧ passes (.memArbCommit rq d) s = true) ∧
    (∃ (s : State) (rq : Requester) (d : Nat), s.awake ∧ passes (.nocArbCommit rq d) s = true) :=
  ⟨⟨smp0, (.dram 0 : ArbId), by decide +kernel⟩,
   ⟨smp0, (⟨36,0⟩ : Requester), 35, by decide +kernel⟩,
   ⟨smp0, (⟨36,0⟩ : Requester), 35, by decide +kernel⟩⟩

/-- States and operands that meet the hypotheses of DramAccessAndRefresh, clause by clause. -/
theorem witness_DramAccessAndRefresh :
    (∃ (s : State) (ctl : Nat) (r : LineReq), s.awake ∧ dramLive s = true ∧ ctl < 8 ∧ r.addr < 0x7C0000000 ∧ r.addr + r.len ≤ 0x7C0000000 ∧ scrubWins s ctl = false ∧ (match nextDram s ctl with | some (r_, i) => decide (r_ = r ∧ r.write = false ∧ s.badAt r.addr 1 = false) | _ => false) = true) ∧
    (∃ (s : State) (ctl : Nat) (r : LineReq) (e : LineErr) (k : Nat), s.awake ∧ dramLive s = true ∧ ctl < 8 ∧ r.addr < 0x7C0000000 ∧ r.addr + r.len ≤ 0x7C0000000 ∧ scrubWins s ctl = false ∧ (match nextDram s ctl with | some (r_, i) => decide (r_ = r ∧ FindsBad s r.addr e k ∧ r.write = false) | _ => false) = true) ∧
    (∃ (s : State) (ctl : Nat) (r : LineReq), s.awake ∧ dramLive s = true ∧ ctl < 8 ∧ r.addr < 0x7C0000000 ∧ r.addr + r.len ≤ 0x7C0000000 ∧ scrubWins s ctl = false ∧ (match nextDram s ctl with | some (r_, i) => decide (r_ = r ∧ r.write = true ∧ r.data.length = r.len ∧ (r.len = 64 ∨ s.badAt r.addr 1 = false)) | _ => false) = true) ∧
    (∃ (s : State) (ctl : Nat) (r : LineReq) (e : LineErr) (k : Nat), s.awake ∧ dramLive s = true ∧ ctl < 8 ∧ r.addr < 0x7C0000000 ∧ r.addr + r.len ≤ 0x7C0000000 ∧ scrubWins s ctl = false ∧ (match nextDram s ctl with | some (r_, i) => decide (r_ = r ∧ FindsBad s r.addr e k ∧ r.write = true ∧ r.len ≠ 64) | _ => false) = true) ∧
    (∃ (s : State) (ctl : Nat), s.awake ∧ dramLive s = true ∧ ctl < 8 ∧ scrubWins s ctl = true ∧ (match scrubDue s ctl with | some k => decide (k + 1 ≠ scrubLines ∧ s.badAt (scrubAddr ctl k) 1 = false) | _ => false) = true) ∧
    (∃ (s : State) (ch : Nat), s.awake ∧ dramLive s = true ∧ ch < 16 ∧ refreshDue s ch = true) ∧
    (∃ (s : State) (ch : Nat) (temp : Int), s.awake ∧ dramLive s = true ∧ ch < 16 ∧ mr4Due s ch = true ∧ refRate temp ≠ s.rd Reg.MEM_STAT.REF_RATE) ∧
    (∃ (s : State) (ch : Nat) (temp : Int), s.awake ∧ dramLive s = true ∧ ch < 16 ∧ mr4Due s ch = true ∧ refRate temp = s.rd Reg.MEM_STAT.REF_RATE) :=
  ⟨⟨smp0, 0, (line false 0 64 : LineReq), by decide +kernel⟩,
   ⟨smp3, 0, (line false 0 64 : LineReq), (.double : LineErr), 2, by decide +kernel⟩,
   ⟨smp4, 0, (line true 0 64 : LineReq), by decide +kernel⟩,
   ⟨smp5, 0, (line true 0 8 : LineReq), (.double : LineErr), 2, by decide +kernel⟩,
   ⟨smp16, 0, by decide +kernel⟩,
   ⟨smp0, 15, by decide +kernel⟩,
   ⟨smp0, 15, (100 : Int), by decide +kernel⟩,
   ⟨smp0, 15, (0 : Int), by decide +kernel⟩⟩

/-- States and operands that meet the hypotheses of LarderAccess, clause by clause. -/
theorem witness_LarderAccess :
    (∃ (s : State) (bank : Nat) (i : Nat) (r : LineReq), s.awake ∧ s.domOn 5 = true ∧ bank < 16 ∧ 0x800000000 ≤ r.addr ∧ 0 < r.len ∧ r.addr + r.len ≤ 0x804000000 ∧ nextGrant s (.larder bank) (8 + bank) 7 (fun i => s.rd (Reg.MEM_ARB_LAR.PRIO i)) = some (r, i) ∧ s.mem.larderBad = [] ∧ r.write = false) ∧
    (∃ (s : State) (bank : Nat) (i : Nat) (r : LineReq), s.awake ∧ s.domOn 5 = true ∧ bank < 16 ∧ 0x800000000 ≤ r.addr ∧ 0 < r.len ∧ r.addr + r.len ≤ 0x804000000 ∧ nextGrant s (.larder bank) (8 + bank) 7 (fun i => s.rd (Reg.MEM_ARB_LAR.PRIO i)) = some (r, i) ∧ s.mem.larderBad = [] ∧ r.write = true ∧ r.data.length = r.len) ∧
    (∃ (s : State) (bank : Nat) (i : Nat) (r : LineReq), s.awake ∧ s.domOn 5 = true ∧ bank < 16 ∧ 0x800000000 ≤ r.addr ∧ 0 < r.len ∧ r.addr + r.len ≤ 0x804000000 ∧ nextGrant s (.larder bank) (8 + bank) 7 (fun i => s.rd (Reg.MEM_ARB_LAR.PRIO i)) = some (r, i) ∧ r.write = false ∧ s.badAt r.addr 1 = true) ∧
    (∃ (s : State) (bank : Nat) (i : Nat) (r : LineReq), s.awake ∧ s.domOn 5 = true ∧ bank < 16 ∧ 0x800000000 ≤ r.addr ∧ 0 < r.len ∧ r.addr + r.len ≤ 0x804000000 ∧ nextGrant s (.larder bank) (8 + bank) 7 (fun i => s.rd (Reg.MEM_ARB_LAR.PRIO i)) = some (r, i) ∧ r.write = true ∧ r.addr % 8 ≠ 0 ∧ s.badAt r.addr 1 = true) :=
  ⟨⟨smp7, 0, 2, (line false 0x800000000 64 : LineReq), by decide +kernel⟩,
   ⟨smp8, 0, 2, (line true 0x800000000 8 true : LineReq), by decide +kernel⟩,
   ⟨smp17, 0, 2, (line false 0x800000000 64 : LineReq), by decide +kernel⟩,
   ⟨smp18, 0, 2, (line true 0x800000004 8 true : LineReq), by decide +kernel⟩⟩

end W03

namespace W04

def adaptive := up [(Reg.CLK_MODE.MODE, 1)] rn
def smp0 : State := adaptive
def smp1 : State := up [(Reg.RAD_STAT.RELEASED,1),(Reg.SYS_PWR_STAT.RADIO_RELEASED,1)] adaptive
def smp2 : State := up [(Reg.CLK_MODE_STAT.REFCLK_OK,0)] adaptive
def smp3 : State := { adaptive with ck := { adaptive.ck with change := some 2, time := 98304 } }
def smp4 : State := { adaptive with ck := { adaptive.ck with step := some 5 } }
def smp5 : State := tm (up [(Reg.CLK_PPS_STAT.EXPECT,1)] { adaptive with ck := { adaptive.ck with ppsIn := some 0 } }) 540672000
def smp6 : State := up [(Reg.CLK_PPS_OUT_CFG.EN,1)] adaptive
def smp7 : State := tm { adaptive with ck := { adaptive.ck with ppsOut := true } } 491520000
def smp8 : State := up [(Reg.CLK_PTP_CFG.PORTS,15),(Reg.CLK_PTP_CFG.ONE_STEP,1)] adaptive
def smp9 : State := up [(Reg.CLK_SYNCE_CFG.SQUELCH,1),(Reg.CLK_SYNCE_CFG.EN1,1)] adaptive
def smp10 : State := { adaptive with ck := { adaptive.ck with runArmed := true } }
def smp11 : State := { adaptive with pw := { adaptive.pw with clkMove := some .rc } }
def smp12 : State := up [(Reg.CLK_PPS_OUT_CFG.EN,1)] { adaptive with ck := { adaptive.ck with ppsDue := true } }
def smp13 : State := { adaptive with pw := { adaptive.pw with clkMove := some .rc, clkDue := some 5 } }

/-- States and operands that meet the hypotheses of ClockingModeChanges, clause by clause. -/
theorem witness_ClockingModeChanges :
    (∃ (s : State) (rq : Requester) (ticks : Nat), s.awake ∧ passes (.clkModeReqAdaptive rq ticks) s = true ∧ s.radioReleased = false ∧ s.busy = false ∧ s.flag Reg.CLK_MODE_STAT.BUSY = false ∧ s.flag Reg.CLK_MODE_STAT.REFCLK_OK = true) ∧
    (∃ (s : State) (rq : Requester) (floor : Option Nat), s.awake ∧ passes (.clkModeReqDeterministic rq floor) s = true ∧ s.radioReleased = false ∧ s.busy = false ∧ s.flag Reg.CLK_MODE_STAT.BUSY = false ∧ s.flag Reg.CLK_MODE_STAT.REFCLK_OK = true) ∧
    (∃ (s : State) (rq : Requester) (ticks : Nat), s.awake ∧ (s.radioReleased = true ∨ s.busy = true ∨ s.flag Reg.CLK_MODE_STAT.BUSY = true) ∧ passes (.clkModeReqAdaptive rq ticks) s = true) ∧
    (∃ (s : State) (rq : Requester) (floor : Option Nat), s.awake ∧ (s.radioReleased = true ∨ s.busy = true ∨ s.flag Reg.CLK_MODE_STAT.BUSY = true) ∧ passes (.clkModeReqDeterministic rq floor) s = true) ∧
    (∃ (s : State), s.awake ∧ (match s.ck.change with | some m => decide (98304 ≤ (s.ck.time - s.ck.changeAt).toNat) | _ => false) = true) :=
  ⟨⟨smp0, (⟨44,1⟩ : Requester), 4294967295, by decide +kernel⟩,
   ⟨smp0, (⟨44,1⟩ : Requester), none, by decide +kernel⟩,
   ⟨smp1, (⟨44,1⟩ : Requester), 4294967295, by decide +kernel⟩,
   ⟨smp1, (⟨44,1⟩ : Requester), none, by decide +kernel⟩,
   ⟨smp3, by decide +kernel⟩⟩

/-- States and operands that meet the hypotheses of DroopsAndLossOfReference, clause by clause. -/
theorem witness_DroopsAndLossOfReference :
    (∃ (s : State) (i : Nat), s.awake ∧ islandLive s i = true ∧ islandDomain i ≠ none) ∧
    (∃ (s : State) (i : Nat), s.awake ∧ islandLocked s i = true ∧ islandDomain i ≠ none) ∧
    (∃ (s : State), s.awake ∧ (s.rd Reg.SYS_PWR_MODE.MODE = 3 ∨ s.rd Reg.SYS_PWR_MODE.MODE = 4) ∧ s.flag Reg.CLK_MODE_STAT.REFCLK_OK = false) ∧
    (∃ (s : State), s.awake ∧ (s.rd Reg.SYS_PWR_MODE.MODE = 3 ∨ s.rd Reg.SYS_PWR_MODE.MODE = 4) ∧ s.flag Reg.CLK_MODE_STAT.REFCLK_OK = true ∧ s.flag Reg.RAD_STAT.RELEASED = false ∧ s.flag Reg.RAD_STAT.CALIBRATING = false) :=
  ⟨⟨smp0, 1, by decide +kernel⟩,
   ⟨smp0, 1, by decide +kernel⟩,
   ⟨smp2, by decide +kernel⟩,
   ⟨smp0, by decide +kernel⟩⟩

/-- States and operands that meet the hypotheses of RateAndStepOfDeviceTime, clause by clause. -/
theorem witness_RateAndStepOfDeviceTime :
    (∃ (s : State) (rq : Requester) (v : Nat), s.awake ∧ v < 2 ^ 32 ∧ passes (.clkRateWrite rq v) s = true) ∧
    (∃ (s : State) (rq : Requester) (v : Nat), s.awake ∧ v < 2 ^ 32 ∧ passes (.clkStepWrite rq v) s = true ∧ s.radioReleased = false) ∧
    (∃ (s : State) (rq : Requester) (v : Nat), s.awake ∧ v < 2 ^ 32 ∧ passes (.clkStepWrite rq v) s = true ∧ s.radioReleased = true ∧ (1 < sInt (s.ck.stepLo.toNat + 2 ^ 32 * v) 64 ∨ sInt (s.ck.stepLo.toNat + 2 ^ 32 * v) 64 < -1)) ∧
    (∃ (s : State), s.awake ∧ (match s.ck.step with | some d => decide (atMark s = true) | _ => false) = true) :=
  ⟨⟨smp0, (⟨44,1⟩ : Requester), 4294967295, by decide +kernel⟩,
   ⟨smp0, (⟨44,1⟩ : Requester), 4294967295, by decide +kernel⟩,
   ⟨smp1, (⟨44,1⟩ : Requester), 4294967295, by decide +kernel⟩,
   ⟨smp4, by decide +kernel⟩⟩

/-- States and operands that meet the hypotheses of OnePulsePerSecond, clause by clause. -/
theorem witness_OnePulsePerSecond :
    (∃ (s : State), s.awake ∧ 2 ≤ s.tier ∧ s.flag Reg.CLK_PPS_STAT.EXPECT = true ∧ s.ck.ppsMissing = false ∧ (match s.ck.ppsIn with | some x => decide (540672000 ≤ (s.ck.time - x).toNat) | _ => false) = true) ∧
    (∃ (s : State), s.awake ∧ 2 ≤ s.tier ∧ s.flag Reg.CLK_PPS_OUT_CFG.EN = true ∧ s.ck.ppsDue = true) ∧
    (∃ (s : State), s.awake ∧ s.ck.ppsOut = true ∧ 491520 * min 999 (max 1 (s.rd Reg.CLK_PPS_OUT_CFG.WIDTH_MS)) ≤ (s.ck.time - s.ck.ppsRise).toNat) :=
  ⟨⟨smp5, by decide +kernel⟩,
   ⟨smp12, by decide +kernel⟩,
   ⟨smp7, by decide +kernel⟩⟩

/-- States and operands that meet the hypotheses of EthernetStampsAndRecoveredClock, clause by clause. -/
theorem witness_EthernetStampsAndRecoveredClock :
    (∃ (s : State) (p : Nat), s.awake ∧ s.domUp 19 = true ∧ 3 ≤ s.tier ∧ p < 4 ∧ bit (s.rd Reg.CLK_PTP_CFG.PORTS) p = true ∧ s.flag Reg.CLK_PTP_CFG.ONE_STEP = true) ∧
    (∃ (s : State) (o : Nat), s.awake ∧ o < 2 ∧ 2 ≤ s.tier ∧ s.flag Reg.CLK_SYNCE_CFG.SQUELCH = true ∧ bit s.ck.squelched o = false) :=
  ⟨⟨smp8, 1, by decide +kernel⟩,
   ⟨smp9, 1, by decide +kernel⟩⟩

/-- States and operands that meet the hypotheses of RunMarkAndCellarClock, clause by clause. -/
theorem witness_RunMarkAndCellarClock :
    (∃ (s : State) (rq : Requester) (d : Nat), s.awake ∧ d < 2 ^ 32 ∧ passes (.clkRunArm rq d) s = true ∧ bit d 0 = true) ∧
    (∃ (s : State), s.awake ∧ s.ck.runArmed = true ∧ atMark s = true ∧ s.flag Reg.CLK_RUN_CTRL.SRC = false ∧ s.rdPair Reg.CLK_RUN_AT_LO.AT Reg.CLK_RUN_AT_HI.AT ≤ s.now) ∧
    (∃ (s : State), s.awake ∧ (match s.pw.clkMove with | some c => decide ((match s.pw.clkDue with | some n => decide (s.svc.count < n) | _ => false) = true) | _ => false) = true) ∧
    (∃ (s : State), s.awake ∧ (match s.pw.clkMove with | some c => decide (s.pw.clkDue.all (fun n => decide (n ≤ s.svc.count)) = true) | _ => false) = true) :=
  ⟨⟨smp0, (⟨44,1⟩ : Requester), 4294967295, by decide +kernel⟩,
   ⟨smp10, by decide +kernel⟩,
   ⟨smp13, by decide +kernel⟩,
   ⟨smp11, by decide +kernel⟩⟩

end W04

namespace W05

def at_ (n : Nat) (f : Power → Power := id) (fs : List (Fld × Nat) := []) : State := up fs { State.reset with pw := f { State.reset.pw with step := n, xtalOk := true } }
def smp0 : State := rn
def smp1 : State := State.reset
def smp2 : State := { rn with pw := { rn.pw with off := true } }
def smp3 : State := tm (up [(Reg.SYS_WDOG_CFG.EN,1)] rn) 983040000
def smp5 : State := at_ 2
def smp6 : State := at_ 2 id [(Reg.SYS_WARM_CFG.WARM_EN,0)]
def smp7 : State := at_ 7
def smp8 : State := at_ 5
def smp9 : State := tm (at_ 5) 442368000000
def smp10 : State := at_ 4 (fun p => { p with coldWait := true })
def smp11 : State := at_ 4 (fun p => { p with coldWait := true }) [(Reg.SYS_WARM_CFG.WARM_EN,0)]
def smp12 : State := at_ 6 (fun p => { p with raise := [0,1,2], chEn := 1 })
def smp13 : State := at_ 6 (fun p => { p with raise := [5], chEn := 63, chPg := 31 })
def smp14 : State := tm { cl with pw := { cl.pw with railRetry := true } } 4915200000

/-- States and operands that meet the hypotheses of SupplyEvents, clause by clause. -/
theorem witness_SupplyEvents :
    (∃ (s : State), s.pw.off = true) ∧
    (∃ (s : State), s.awake) :=
  ⟨⟨smp2, by decide +kernel⟩,
   ⟨smp0, by decide +kernel⟩⟩

/-- States and operands that meet the hypotheses of ResetsAndTheWatchdog, clause by clause. -/
theorem witness_ResetsAndTheWatchdog :
    (∃ (s : State), s.awake ∧ s.flag Reg.SYS_WDOG_CFG.EN = true ∧ 491520 * max 1 (s.rd Reg.SYS_WDOG_CFG.PERIOD_MS) ≤ (s.ck.time - s.pw.kick).toNat) ∧
    (∃ (s : State) (rq : Requester) (d : Nat), s.awake ∧ passes (.softwareColdReset rq d) s = true ∧ bits d 16 16 = 0x5AC0 ∧ bit d 0 = true) ∧
    (∃ (s : State) (rq : Requester) (d : Nat) (late : Nat), s.awake ∧ passes (.softwareWarmReset rq d late) s = true ∧ bits d 16 16 = 0x5AC0 ∧ bit d 0 = false ∧ bit d 1 = true) ∧
    (∃ (s : State) (rq : Requester) (d : Nat), s.awake ∧ passes (.wdogKick rq d) s = true ∧ bits d 0 16 = 0xA5C3) :=
  ⟨⟨smp3, by decide +kernel⟩,
   ⟨smp0, (⟨36,0⟩ : Requester), 0x5AC00001, by decide +kernel⟩,
   ⟨smp0, (⟨36,0⟩ : Requester), 0x5AC00002, 0, by decide +kernel⟩,
   ⟨smp0, (⟨36,0⟩ : Requester), 0xA5C3, by decide +kernel⟩⟩

/-- States and operands that meet the hypotheses of KeyMismatch, clause by clause. -/
theorem witness_KeyMismatch :
    (∃ (s : State) (rq : Requester) (d : Nat), s.awake ∧ passes (.softwareColdReset rq d) s = true ∧ bits d 16 16 ≠ 0x5AC0) ∧
    (∃ (s : State) (rq : Requester) (d : Nat) (late : Nat), s.awake ∧ passes (.softwareWarmReset rq d late) s = true ∧ bits d 16 16 ≠ 0x5AC0) ∧
    (∃ (s : State) (rq : Requester) (d : Nat), s.awake ∧ passes (.wdogKick rq d) s = true ∧ bits d 0 16 ≠ 0xA5C3) ∧
    (∃ (s : State) (rq : Requester) (d : Nat), s.awake ∧ d < 2 ^ 32 ∧ passes (.softwareColdReset rq d) s = true ∧ bits d 16 16 ≠ 0x5AC0) ∧
    (∃ (s : State) (rq : Requester) (d : Nat), s.awake ∧ d < 2 ^ 32 ∧ passes (.wdogKick rq d) s = true ∧ bits d 0 16 ≠ 0xA5C3) :=
  ⟨⟨smp0, (⟨36,0⟩ : Requester), 0, by decide +kernel⟩,
   ⟨smp0, (⟨36,0⟩ : Requester), 0, 0, by decide +kernel⟩,
   ⟨smp0, (⟨36,0⟩ : Requester), 0, by decide +kernel⟩,
   ⟨smp0, (⟨36,0⟩ : Requester), 0, by decide +kernel⟩,
   ⟨smp0, (⟨36,0⟩ : Requester), 0, by decide +kernel⟩⟩

/-- States and operands that meet the hypotheses of StartUpBegins, clause by clause. -/
theorem witness_StartUpBegins :
    (∃ (s : State), s.awake ∧ s.pw.step = 1) ∧
    (∃ (s : State) (tj : BitVec 16), s.awake ∧ s.pw.step = 2 ∧ s.pw.xtalOk = true ∧ s.pw.chPg = 0 ∧ -200 ≤ tj.toInt) ∧
    (∃ (s : State) (tj : BitVec 16), s.awake ∧ s.pw.step = 2 ∧ s.pw.xtalOk = true ∧ s.pw.chPg = 0 ∧ tj.toInt < -200 ∧ s.flag Reg.SYS_WARM_CFG.WARM_EN = true) ∧
    (∃ (s : State) (tj : BitVec 16), s.awake ∧ s.pw.step = 2 ∧ s.pw.xtalOk = true ∧ s.pw.chPg = 0 ∧ tj.toInt < -200 ∧ s.flag Reg.SYS_WARM_CFG.WARM_EN = false) ∧
    (∃ (s : State), s.awake ∧ s.pw.step = 7) :=
  ⟨⟨smp1, by decide +kernel⟩,
   ⟨smp5, (BitVec.ofInt 16 (-200) : BitVec 16), by decide +kernel⟩,
   ⟨smp5, (BitVec.ofInt 16 (-201) : BitVec 16), by decide +kernel⟩,
   ⟨smp6, (BitVec.ofInt 16 (-201) : BitVec 16), by decide +kernel⟩,
   ⟨smp7, by decide +kernel⟩⟩

/-- States and operands that meet the hypotheses of Warming, clause by clause. -/
theorem witness_Warming :
    (∃ (s : State) (tj : BitVec 16), s.awake ∧ s.pw.step = 5 ∧ s.pw.chPg = 0 ∧ -160 ≤ tj.toInt) ∧
    (∃ (s : State) (tj : BitVec 16), s.awake ∧ s.pw.step = 5 ∧ tj.toInt < -160 ∧ 491520000 * (60 * max 1 (s.rd Reg.SYS_WARM_CFG.LIMIT_MIN)) ≤ (s.ck.time - s.pw.warmStart).toNat) ∧
    (∃ (s : State) (tj : BitVec 16), s.awake ∧ s.pw.coldWait = true ∧ s.pw.chPg = 0 ∧ -160 ≤ tj.toInt) ∧
    (∃ (s : State) (tj : BitVec 16), s.awake ∧ s.pw.coldWait = true ∧ s.pw.chPg = 0 ∧ tj.toInt < -160 ∧ s.flag Reg.SYS_WARM_CFG.WARM_EN = true) ∧
    (∃ (s : State) (tj : BitVec 16), s.awake ∧ s.pw.coldWait = true ∧ s.pw.chPg = 0 ∧ tj.toInt < -160 ∧ s.flag Reg.SYS_WARM_CFG.WARM_EN = false) :=
  ⟨⟨smp8, (BitVec.ofInt 16 (-160) : BitVec 16), by decide +kernel⟩,
   ⟨smp9, (BitVec.ofInt 16 (-200) : BitVec 16), by decide +kernel⟩,
   ⟨smp10, (BitVec.ofInt 16 (-160) : BitVec 16), by decide +kernel⟩,
   ⟨smp10, (BitVec.ofInt 16 (-200) : BitVec 16), by decide +kernel⟩,
   ⟨smp11, (BitVec.ofInt 16 (-200) : BitVec 16), by decide +kernel⟩⟩

/-- States and operands that meet the hypotheses of SupplyChannels, clause by clause. -/
theorem witness_SupplyChannels :
    (∃ (s : State), s.awake ∧ (match s.pw.raise with | c :: d :: rest => decide (bit s.pw.chEn c = true) | _ => false) = true) ∧
    (∃ (s : State), s.awake ∧ (match s.pw.raise with | [c] => decide (bit s.pw.chEn c = true ∧ s.pw.step = 6) | _ => false) = true) ∧
    (∃ (s : State), s.awake ∧ (match s.pw.raise with | c :: rest => decide (bit s.pw.chEn c = true) | _ => false) = true) ∧
    (∃ (s : State) (c : Nat), s.awake ∧ bit s.pw.chEn c = true ∧ bit s.pw.chPg c = true) ∧
    (∃ (s : State), s.awake ∧ s.pw.railRetry = true ∧ 4915200000 ≤ (s.ck.time - s.pw.railAt).toNat ∧ StandsIn s 1 1 ∧ s.pw.step = 0 ∧ s.pw.coldWait = false ∧ s.pw.chPg = 0 ∧ s.flag Reg.SYS_FLASH_SVC.EN = false ∧ s.flag Reg.CEL_HOLD_STAT.CUT = false ∧ s.pw.tripped = false) :=
  ⟨⟨smp12, by decide +kernel⟩,
   ⟨smp13, by decide +kernel⟩,
   ⟨smp12, by decide +kernel⟩,
   ⟨smp0, 0, by decide +kernel⟩,
   ⟨smp14, by decide +kernel⟩⟩

end W05

namespace W06

def sb0 := nx (.pwrReqStandby ⟨44,1⟩ 3) rn
def sb := up [(Reg.SYS_WAKE_EN.SOURCES, 31)] sb0
def sb2 := { sb with pw := { sb.pw with keptTier := 2 }, cfg := { sb.cfg with resumeDigest := some (leNat (imageDigest (resumeImage sb) sb.cfg.hdr)) } }
def hd := nx (.pwrReqHoldover ⟨44,1⟩ 0) rn
def smp0 : State := State.reset
def smp1 : State := rn
def smp2 : State := cl
def smp4 : State := sb
def smp5 : State := sb2
def smp6 : State := hd
def smp7 : State := up [(Reg.SYS_PWR_MODE.BUSY,1)] rn
def smp9 : State := { rn with pw := { rn.pw with fenceReq := 2^9 + 2^21+2 } }
def smp10 : State := { rn with pw := { rn.pw with mainsTrig := true } }
def smp11 : State := up [(Reg.SYS_PWR_MODE.BUSY,1)] { rn with pw := { rn.pw with mainsTrig := true } }
def smp12 : State := tm (up [(Reg.SYS_HOLD_CFG.SRC,1),(Reg.CEL_HOLD_STAT.ON_BATTERY,1)] hd) 1000000000000
def smp13 : State := tm (up [(Reg.CEL_HOLD_STAT.ON_BATTERY,1)] { rn with cel := { rn.cel with battLow := some 4 } }) 10000000000000
def smp14 : State := tm (up [(Reg.CEL_HOLD_STAT.ON_BATTERY,1)] { cl with cel := { cl.cel with battLow := some 4 } }) 10000000000000
def smp15 : State := up [(Reg.SYS_DOM_STATE.DOM,31)] rn
def smp16 : State := up [(Reg.SYS_GOV_STAT.LEVEL,1)] rn
def smp17 : State := up [(Reg.SYS_THERM_CFG.TRIP_RESTART,1)] { cl with pw := { cl.pw with tripped := true } }
def smp18 : State := { smp9 with pw := { smp9.pw with domPend := [(1, true)] } }
def smp19 : State := { smp9 with pw := { smp9.pw with domPend := [(1, true), (1, false)] } }
def smp20 : State := { smp9 with ck := { smp9.ck with time := 100000000 } }
def smp21 : State := { rn with ck := { rn.ck with change := some 2 } }

/-- States and operands that meet the hypotheses of PowerRequestsRefused, clause by clause. -/
theorem witness_PowerRequestsRefused :
    (∃ (s : State) (rq : Requester) (late : Nat) (m : Nat) (bad : Option Nat) (c : Instr), s.awake ∧ passes c s = true ∧ (c = .pwrReqCellar rq late ∧ m = 1 ∨ c = .pwrReqStandby rq late ∧ m = 2 ∨ c = .pwrReqRun rq late bad ∧ m = 3 ∨ c = .pwrReqHoldover rq late ∧ m = 4) ∧ s.busy = true) ∧
    (∃ (s : State) (rq : Requester) (late : Nat) (m : Nat) (bad : Option Nat) (c : Instr), s.awake ∧ passes c s = true ∧ (c = .pwrReqCellar rq late ∧ m = 1 ∨ c = .pwrReqStandby rq late ∧ m = 2 ∨ c = .pwrReqRun rq late bad ∧ m = 3 ∨ c = .pwrReqHoldover rq late ∧ m = 4) ∧ s.busy = false ∧ (m = 1 ∧ s.mode = 1 ∨ m = 2 ∧ (s.mode ≠ 3 ∨ s.radioReleased = true) ∨ m = 3 ∧ (s.mode = 3 ∨ s.flag Reg.CEL_HOLD_STAT.CUT = true ∨ s.mode = 1 ∧ s.pw.tripped = true ∧ 800 < tjMax s) ∨ m = 4 ∧ s.mode ≠ 3)) :=
  ⟨⟨smp7, (⟨44,1⟩ : Requester), 0, 1, none, (.pwrReqCellar ⟨44,1⟩ 0 : Instr), by decide +kernel⟩,
   ⟨smp0, (⟨44,1⟩ : Requester), 0, 1, none, (.pwrReqCellar ⟨44,1⟩ 0 : Instr), by decide +kernel⟩⟩

/-- States and operands that meet the hypotheses of PowerModeChanges, clause by clause. -/
theorem witness_PowerModeChanges :
    (∃ (s : State) (rq : Requester) (late : Nat), s.awake ∧ s.busy = false ∧ s.mode ≠ 1 ∧ passes (.pwrReqCellar rq late) s = true) ∧
    (∃ (s : State) (rq : Requester) (late : Nat), s.awake ∧ s.busy = false ∧ s.mode = 3 ∧ s.radioReleased = false ∧ passes (.pwrReqStandby rq late) s = true) ∧
    (∃ (s : State) (rq : Requester) (late : Nat), s.awake ∧ s.busy = false ∧ s.mode = 3 ∧ passes (.pwrReqHoldover rq late) s = true) ∧
    (∃ (s : State) (rq : Requester) (late : Nat) (bad : Option Nat), s.awake ∧ s.busy = false ∧ s.mode = 4 ∧ s.flag Reg.CEL_HOLD_STAT.CUT = false ∧ passes (.pwrReqRun rq late bad) s = true) ∧
    (∃ (s : State) (rq : Requester) (late : Nat) (bad : Option Nat), s.awake ∧ s.busy = false ∧ s.mode = 1 ∧ s.pw.step = 0 ∧ s.pw.coldWait = false ∧ s.pw.tripped = false ∧ s.pw.chPg = 0 ∧ s.flag Reg.CEL_HOLD_STAT.CUT = false ∧ s.flag Reg.SYS_FLASH_SVC.EN = false ∧ passes (.pwrReqRun rq late bad) s = true) ∧
    (∃ (s : State) (rq : Requester) (late : Nat) (bad : Option Nat), s.awake ∧ s.busy = false ∧ s.mode = 2 ∧ s.flag Reg.CEL_HOLD_STAT.CUT = false ∧ s.pw.keptTier = 2 ∧ passes (.pwrReqRun rq late bad) s = true ∧ bad = none ∧ s.cfg.resumeDigest = some (leNat (imageDigest (resumeImage s) s.cfg.hdr))) ∧
    (∃ (s : State) (rq : Requester) (late : Nat) (bad : Option Nat), s.awake ∧ s.busy = false ∧ s.mode = 2 ∧ s.flag Reg.CEL_HOLD_STAT.CUT = false ∧ s.pw.keptTier = 2 ∧ passes (.pwrReqRun rq late bad) s = true ∧ bad = some 2) :=
  ⟨⟨smp1, (⟨44,1⟩ : Requester), 0, by decide +kernel⟩,
   ⟨smp1, (⟨44,1⟩ : Requester), 0, by decide +kernel⟩,
   ⟨smp1, (⟨44,1⟩ : Requester), 0, by decide +kernel⟩,
   ⟨smp6, (⟨44,1⟩ : Requester), 0, (some 2), by decide +kernel⟩,
   ⟨smp2, (⟨44,1⟩ : Requester), 0, (some 2), by decide +kernel⟩,
   ⟨smp5, (⟨44,1⟩ : Requester), 0, none, by decide +kernel⟩,
   ⟨smp5, (⟨44,1⟩ : Requester), 0, (some 2), by decide +kernel⟩⟩

/-- States and operands that meet the hypotheses of WakeMainsAndBattery, clause by clause. -/
theorem witness_WakeMainsAndBattery :
    (∃ (s : State) (src : Nat), s.awake ∧ s.mode = 2 ∧ s.busy = false ∧ src < 5 ∧ bit (s.rd Reg.SYS_WAKE_EN.SOURCES) src = true ∧ s.cfg.resumeDigest = some (leNat (imageDigest (resumeImage s) s.cfg.hdr)) ∧ s.pw.keptTier = 2) ∧
    (∃ (s : State) (src : Nat), s.awake ∧ s.mode = 2 ∧ s.busy = false ∧ src < 5 ∧ bit (s.rd Reg.SYS_WAKE_EN.SOURCES) src = true ∧ s.cfg.resumeDigest ≠ some (leNat (imageDigest (resumeImage s) s.cfg.hdr))) ∧
    (∃ (s : State), s.awake ∧ s.pw.mainsTrig = true ∧ s.busy = false ∧ s.mode = 3) ∧
    (∃ (s : State), s.awake ∧ s.pw.mainsTrig = true ∧ s.busy = true) ∧
    (∃ (s : State), s.awake ∧ s.flag Reg.SYS_HOLD_CFG.SRC = true ∧ s.pw.mainsLost = false ∧ s.mode = 4 ∧ s.busy = false ∧ s.pw.mainsBack + 491520000 * max 1 (s.rd Reg.SYS_HOLD_CFG.HOLD_DWELL_S) ≤ s.now) ∧
    (∃ (s : State), s.awake ∧ (match s.cel.battLow with | some t0 => decide (s.flag Reg.CEL_HOLD_STAT.ON_BATTERY = true ∧ s.flag Reg.CEL_HOLD_STAT.CUT = false ∧ t0 + 491520000 * s.rd Reg.CEL_HOLD_CUT.DWELL_S ≤ s.now ∧ s.mode = 1) | _ => false) = true) ∧
    (∃ (s : State), s.awake ∧ (match s.cel.battLow with | some t0 => decide (s.flag Reg.CEL_HOLD_STAT.ON_BATTERY = true ∧ s.flag Reg.CEL_HOLD_STAT.CUT = false ∧ t0 + 491520000 * s.rd Reg.CEL_HOLD_CUT.DWELL_S ≤ s.now ∧ s.mode ≠ 1 ∧ s.busy = false) | _ => false) = true) :=
  ⟨⟨smp5, 0, by decide +kernel⟩,
   ⟨smp4, 0, by decide +kernel⟩,
   ⟨smp10, by decide +kernel⟩,
   ⟨smp11, by decide +kernel⟩,
   ⟨smp12, by decide +kernel⟩,
   ⟨smp14, by decide +kernel⟩,
   ⟨smp13, by decide +kernel⟩⟩

/-- States and operands that meet the hypotheses of DomainSwitching, clause by clause. -/
theorem witness_DomainSwitching :
    (∃ (s : State) (rq : Requester) (d : Nat), s.awake ∧ passes (.domainOnRequest rq (2 ^ d)) s = true ∧ d < 23 ∧ (d < 5 ∨ bit s.part.fused d = true ∨ s.tier < 2)) ∧
    (∃ (s : State) (rq : Requester) (d : Nat), s.awake ∧ passes (.domainOnRequest rq (2 ^ d)) s = true ∧ d < 23 ∧ 5 ≤ d ∧ bit s.part.fused d = false ∧ 2 ≤ s.tier ∧ bit s.pw.fenceReq d = false ∧ s.domOn d = false) ∧
    (∃ (s : State) (rq : Requester) (d : Nat), s.awake ∧ passes (.domainOnRequest rq (2 ^ d)) s = true ∧ d < 23 ∧ 5 ≤ d ∧ bit s.part.fused d = false ∧ 2 ≤ s.tier ∧ bit s.pw.fenceReq d = true) ∧
    (∃ (s : State) (rq : Requester) (d : Nat), s.awake ∧ passes (.domainOffRequest rq (2 ^ d)) s = true ∧ d < 23 ∧ d < 5) ∧
    (∃ (s : State) (rq : Requester) (d : Nat), s.awake ∧ passes (.domainOffRequest rq (2 ^ d)) s = true ∧ d < 23 ∧ 5 ≤ d ∧ s.domUp d = true) ∧
    (∃ (s : State) (rq : Requester) (d : Nat), s.awake ∧ passes (.domainOffRequest rq (2 ^ d)) s = true ∧ d < 23 ∧ 5 ≤ d ∧ bit s.pw.fenceReq d = true) ∧
    (∃ (s : State) (d : Nat), s.awake ∧ d < 23 ∧ bit s.pw.fenceReq d = true ∧ reloadFence s d = false ∧ ackDue s d = true ∧ bit s.part.fused d = false ∧ (s.pw.domPend.filter fun p => p.1 == d) = [(d, true)]) ∧
    (∃ (s : State) (d : Nat), s.awake ∧ d < 23 ∧ bit s.pw.fenceReq d = true ∧ reloadFence s d = false ∧ ackDue s d = true ∧ bit s.part.fused d = false ∧ (s.pw.domPend.filter fun p => p.1 == d) = [(d, true), (d, false)]) ∧
    (∃ (s : State) (d : Nat), s.awake ∧ d < 23 ∧ bit s.pw.fenceReq d = true ∧ reloadFence s d = false ∧ (s.pw.domPend.filter fun p => p.1 == d) = [] ∧ ackDue s d = true) ∧
    (∃ (s : State) (d : Nat), s.awake ∧ d < 23 ∧ bit s.pw.fenceReq d = true ∧ reloadFence s d = false ∧ (s.pw.domPend.filter fun p => p.1 == d) = [] ∧ fenceExpired s d = true) :=
  ⟨⟨smp0, (⟨44,1⟩ : Requester), 0, by decide +kernel⟩,
   ⟨smp15, (⟨44,1⟩ : Requester), 21, by decide +kernel⟩,
   ⟨smp9, (⟨44,1⟩ : Requester), 21, by decide +kernel⟩,
   ⟨smp0, (⟨44,1⟩ : Requester), 0, by decide +kernel⟩,
   ⟨smp1, (⟨44,1⟩ : Requester), 21, by decide +kernel⟩,
   ⟨smp9, (⟨44,1⟩ : Requester), 21, by decide +kernel⟩,
   ⟨smp18, 1, by decide +kernel⟩,
   ⟨smp19, 1, by decide +kernel⟩,
   ⟨smp9, 1, by decide +kernel⟩,
   ⟨smp20, 1, by decide +kernel⟩⟩

/-- States and operands that meet the hypotheses of CrystalTemperatureAndCoreSupply, clause by clause. -/
theorem witness_CrystalTemperatureAndCoreSupply :
    (∃ (s : State), s.awake ∧ s.pw.xtalOk = true ∧ s.flag Reg.CEL_AUDIO_CFG.EN = false) ∧
    (∃ (s : State) (hi : BitVec 16), s.awake ∧ s.rd Reg.SYS_GOV_STAT.LEVEL = 0 ∧ hi.toInt < 880) ∧
    (∃ (s : State) (hi : BitVec 16), s.awake ∧ s.rd Reg.SYS_GOV_STAT.LEVEL = 0 ∧ 880 ≤ hi.toInt ∧ hi.toInt < 928) ∧
    (∃ (s : State) (hi : BitVec 16), s.awake ∧ s.rd Reg.SYS_GOV_STAT.LEVEL = 1 ∧ hi.toInt ≤ 848) ∧
    (∃ (s : State) (hi : BitVec 16), s.awake ∧ 1000 ≤ hi.toInt) ∧
    (∃ (s : State) (hi : BitVec 16), s.awake ∧ s.pw.tripped = true ∧ s.flag Reg.SYS_THERM_CFG.TRIP_RESTART = true ∧ hi.toInt ≤ 800 ∧ s.mode = 1 ∧ s.busy = false ∧ s.pw.chPg = 0) ∧
    (∃ (s : State) (mv : Nat) (v : Nat), s.awake ∧ 650 ≤ mv ∧ mv ≤ 850 ∧ mv % 5 = 0 ∧ (s.ck.floorDet = true → 800 ≤ mv) ∧ bit s.pw.chPg 1 = true ∧ v ≤ mv + 10 ∧ mv ≤ v + 10 ∧ (s.ck.change = none ∨ v < 800)) ∧
    (∃ (s : State) (mv : Nat) (v : Nat), s.awake ∧ 650 ≤ mv ∧ mv ≤ 850 ∧ mv % 5 = 0 ∧ (s.ck.floorDet = true → 800 ≤ mv) ∧ bit s.pw.chPg 1 = true ∧ v ≤ mv + 10 ∧ mv ≤ v + 10 ∧ s.ck.change = some 2 ∧ 800 ≤ v) ∧
    (∃ (s : State) (mv : Nat) (v : Nat), s.awake ∧ 650 ≤ mv ∧ mv ≤ 850 ∧ mv % 5 = 0 ∧ (s.ck.floorDet = true → 800 ≤ mv) ∧ bit s.pw.chPg 1 = true ∧ (mv + 10 < v ∨ v + 10 < mv) ∧ s.ck.change = none ∧ s.recent 0x0118 0 = false) :=
  ⟨⟨smp0, by decide +kernel⟩,
   ⟨smp0, (0 : BitVec 16), by decide +kernel⟩,
   ⟨smp0, (BitVec.ofNat 16 890 : BitVec 16), by decide +kernel⟩,
   ⟨smp16, (0 : BitVec 16), by decide +kernel⟩,
   ⟨smp0, (BitVec.ofNat 16 1001 : BitVec 16), by decide +kernel⟩,
   ⟨smp17, (0 : BitVec 16), by decide +kernel⟩,
   ⟨smp1, 650, 650, by decide +kernel⟩,
   ⟨smp21, 800, 800, by decide +kernel⟩,
   ⟨smp1, 650, 0, by decide +kernel⟩⟩

end W06

namespace W07

def cfg0 : Cfg := {}
def gr (n : Nat) := up [(Reg.SYS_PWR_MODE.MODE,1),(Reg.SYS_PWR_MODE.TIER,1),(Reg.SYS_PWR_MODE.BUSY,1),(Reg.SYS_DOM_STATE.DOM,31),(Reg.CLK_MODE_STAT.REFCLK_OK,1)] { State.reset with pw := { State.reset.pw with step := n, chEn := 63, chPg := 63, refclk := true } }
def fr (q tot : Nat) (ok : Bool) : ChainFrame := ⟨1, 2, b2n (q == 0) + 2 * b2n (q + 1 == tot), q, tot, [1,2], ok⟩
def ds (op : Nat) : HatchDesc := { op := op, shelf := 3, region := 2, src := 0, section_ := 0, addr := 64, length := 64, queue := 255, tag := 5, reserved := false, poster := 36 }
def s8 := up [(Reg.CFG_STAT.PHASE,2),(Reg.CFG_STAT.SOURCE,2)] (gr 8)
def hr (op : Nat) : State := { rn with hatch := { rn.hatch with queue := [ds op, ds 1] } }
def smp0 : State := gr 8
def smp1 : State := up [(Reg.CFG_STAT.PHASE,2)] (gr 8)
def smp2 : State := gr 9
def smp3 : State := gr 10
def smp6 : State := { gr 11 with pw := { (gr 11).pw with raise := [] } }
def smp7 : State := { rn with cfg := { cfg0 with chainTx := some [1,2,3] } } |> up [(Reg.CFG_STAT.PHASE,6)]
def smp8 : State := s8
def smp9 : State := { s8 with cfg := { cfg0 with chainRx := some ⟨1,2,1,3,[9],false,0⟩ } }
def smp10 : State := { s8 with cfg := { cfg0 with chainRx := some ⟨1,2,1,2,[9],false,0⟩ } }
def smp11 : State := tm { s8 with cfg := { cfg0 with chainRx := some ⟨1,2,1,2,[9],false,0⟩ } } 500000000000
def smp14 : State := { cl with pw := { cl.pw with cfgAborted := true } }
def smp15 : State := { cl with pw := { cl.pw with flashWait := true, chEn := 7, chPg := 7 } } |> up [(Reg.SYS_FLASH_SVC.EN,1)]
def smp17 : State := { rn with cfg := { cfg0 with digest := some 5 } }
def smp18 : State := hr 1
def smp21 : State := { rn with hatch := { rn.hatch with cur := some (ds 1, 0) } }
def smp22 : State := { rn with hatch := { rn.hatch with cur := some (ds 2, 0) } }
def smp23 : State := { rn with hatch := { rn.hatch with queue := [ds 1,ds 1,ds 1,ds 1,ds 1,ds 1,ds 1,ds 1] } }
def smp24 : State := up [(Reg.GFB_SP_CFG.HATCH 2, 1)] { rn with cfg := { cfg0 with hdr := { flags := 7 } } }
def cf (pass hop flags seq tot : Nat) (pl : List Byte) : List Byte :=
  let b := leBytes 2 pass ++ leBytes 1 hop ++ leBytes 1 flags ++ leBytes 4 seq ++ leBytes 2 pl.length ++ [0, 0] ++ leBytes 4 tot ++ pl
  b ++ leBytes 4 (crc32 b)
def smp25 : State := viaNi 43 [0] rn
def smp26 : State := viaNi 43 [0] smp23
def smp27 : State := viaNi 43 [0] smp24
def smp28 : State := { rn with hatch := { rn.hatch with body := some [1, 2, 3], cur := some (ds 2, 0) }, pw := { rn.pw with fenceReq := 2 ^ 12, fenceAt := [(12, (0, 0))] }, fab := { rn.fab with cycle := 64, regions := [(2, { reloading := true, isolated := true })] } }
def smp29 : State := { rn with hatch := { rn.hatch with cur := some ({ ds 3 with queue := 5 }, 0) } }

/-- States and operands that meet the hypotheses of ConfigurationPasses, clause by clause. -/
theorem witness_ConfigurationPasses :
    (∃ (s : State), s.awake ∧ s.pw.step = 8 ∧ s.rd Reg.CFG_STAT.PHASE ≠ 2) ∧
    (∃ (s : State), s.awake ∧ s.pw.step = 8 ∧ s.rd Reg.CFG_STAT.PHASE = 2 ∧ s.rd Reg.CFG_STAT.SOURCE = 0 ∧ -160 ≤ tjMin s) ∧
    (∃ (s : State) (fail : Nat), s.awake ∧ s.pw.step = 9 ∧ -160 ≤ tjMin s ∧ fail = 0) ∧
    (∃ (s : State) (fail : Nat), s.awake ∧ s.pw.step = 9 ∧ -160 ≤ tjMin s ∧ fail ≠ 0) ∧
    (∃ (s : State), s.awake ∧ s.pw.step = 10 ∧ s.rd Reg.CFG_STAT.SOURCE ≠ 2 ∧ bit s.pw.chPg 6 = false) ∧
    (∃ (s : State), s.awake ∧ s.pw.step = 10 ∧ s.rd Reg.CFG_STAT.SOURCE < 2) ∧
    (∃ (s : State), s.awake ∧ s.pw.step = 11 ∧ s.pw.raise = []) :=
  ⟨⟨smp0, by decide +kernel⟩,
   ⟨smp1, by decide +kernel⟩,
   ⟨smp2, 0, by decide +kernel⟩,
   ⟨smp2, 1, by decide +kernel⟩,
   ⟨smp3, by decide +kernel⟩,
   ⟨smp3, by decide +kernel⟩,
   ⟨smp6, by decide +kernel⟩⟩

/-- States and operands that meet the hypotheses of ChainOfDevices, clause by clause. -/
theorem witness_ChainOfDevices :
    (∃ (s : State), s.awake ∧ (match s.cfg.chainTx with | some body => decide (s.rd Reg.CFG_STAT.PHASE = 6 ∧ s.cfg.chainStop = false ∧ s.cfg.chainSent < max 1 (s.rd Reg.CFG_CHAIN_CFG.PASSES) ∧ s.domUp 3 = true ∧ gapOver s = true) | _ => false) = true) ∧
    (∃ (s : State) (b : List Byte), s.awake ∧ onChain s = true ∧ (readFrame b).crcOk = true ∧ flagsAgree (readFrame b) = true ∧ s.cfg.chainRx = none ∧ (readFrame b).seq = 0 ∧ 1 < (readFrame b).total) ∧
    (∃ (s : State) (b : List Byte), s.awake ∧ onChain s = true ∧ (readFrame b).crcOk = true ∧ flagsAgree (readFrame b) = true ∧ (match s.cfg.chainRx with | some r => decide ((readFrame b).pass = r.pass ∧ (readFrame b).seq = r.next ∧ (readFrame b).total = r.total ∧ (readFrame b).hop = r.hop ∧ 4915200 < (s.ck.time - r.at_).toNat) | _ => false) = true) ∧
    (∃ (s : State) (b : List Byte), s.awake ∧ onChain s = true ∧ (readFrame b).crcOk = true ∧ flagsAgree (readFrame b) = true ∧ (match s.cfg.chainRx with | some r => decide ((readFrame b).pass = r.pass ∧ (readFrame b).seq = r.next ∧ (readFrame b).total = r.total ∧ (readFrame b).hop = r.hop ∧ (s.ck.time - r.at_).toNat ≤ 4915200 ∧ (readFrame b).seq + 1 < (readFrame b).total) | _ => false) = true) ∧
    (∃ (s : State) (b : List Byte), s.awake ∧ onChain s = true ∧ (readFrame b).crcOk = true ∧ flagsAgree (readFrame b) = true ∧ (match s.cfg.chainRx with | some r => decide ((readFrame b).pass = r.pass ∧ (readFrame b).seq = r.next ∧ (readFrame b).total = r.total ∧ (readFrame b).hop = r.hop ∧ (s.ck.time - r.at_).toNat ≤ 4915200 ∧ (readFrame b).seq + 1 = (readFrame b).total ∧ s.cfg.chainPass1 = none) | _ => false) = true) ∧
    (∃ (s : State) (b : List Byte), s.awake ∧ onChain s = true ∧ (match s.cfg.chainRx with | some r => decide ((readFrame b).crcOk = false) | _ => false) = true) ∧
    (∃ (s : State), s.awake ∧ onChain s = true ∧ (match s.cfg.chainRx with | some r => decide (4915200 < (s.ck.time - r.at_).toNat) | _ => false) = true) ∧
    (∃ (s : State), s.awake ∧ onChain s = true ∧ 491520000 * max 1 (s.rd Reg.CFG_CHAIN_CFG.WAIT_S) ≤ (s.ck.time - s.cfg.chainT0).toNat) :=
  ⟨⟨smp7, by decide +kernel⟩,
   ⟨smp8, (cf 1 2 1 0 2 [4]), by decide +kernel⟩,
   ⟨smp11, (cf 1 2 2 1 2 [4]), by decide +kernel⟩,
   ⟨smp9, (cf 1 2 0 1 3 [4]), by decide +kernel⟩,
   ⟨smp10, (cf 1 2 2 1 2 [4]), by decide +kernel⟩,
   ⟨smp9, ([] : List Byte), by decide +kernel⟩,
   ⟨smp11, by decide +kernel⟩,
   ⟨smp11, by decide +kernel⟩⟩

/-- States and operands that meet the hypotheses of FlashServiceAndKeys, clause by clause. -/
theorem witness_FlashServiceAndKeys :
    (∃ (s : State) (rq : Requester), s.awake ∧ passes (.flashSvcEnable rq) s = true ∧ s.flag Reg.SYS_FLASH_SVC.EN = false ∧ s.mode = 1 ∧ s.busy = false ∧ s.pw.step = 0 ∧ (s.pw.cfgAborted = true ∨ s.pw.railFaulted = true) ∧ s.pw.chPg = 0) ∧
    (∃ (s : State) (rq : Requester), s.awake ∧ passes (.flashSvcEnable rq) s = true ∧ s.flag Reg.SYS_FLASH_SVC.EN = false ∧ s.mode ≠ 1 ∧ s.pw.step ≠ 8) ∧
    (∃ (s : State), s.awake ∧ s.pw.step ≠ 7 ∧ s.pw.flashWait = true ∧ s.pw.raise = []) ∧
    (∃ (s : State) (rq : Requester) (late : Nat), s.awake ∧ passes (.flashSvcDisable rq late) s = true ∧ s.flag Reg.SYS_FLASH_SVC.EN = true) ∧
    (∃ (s : State) (rq : Requester) (d : Nat) (din : List Byte), s.awake ∧ passes (.xspiReadCmd rq d din) s = true ∧ (cfgPhase s = 0 ∨ cfgPhase s = 6) ∧ Reg.CFG_XSPI_CMD.ADDR_BYTES.reserved d = false ∧ bit d 24 = false) ∧
    (∃ (s : State) (rq : Requester) (d : Nat), s.awake ∧ passes (.xspiWriteCmd rq d) s = true ∧ (cfgPhase s = 0 ∨ cfgPhase s = 6) ∧ Reg.CFG_XSPI_CMD.ADDR_BYTES.reserved d = false ∧ bit d 24 = true) ∧
    (∃ (s : State) (rq : Requester) (d : Nat), s.awake ∧ passes (.secKeyRevoke rq d) s = true ∧ s.locked Reg.SEC_KEY_REVOKE.SLOT = false ∧ s.cfg.digest.isSome = true ∧ bit (d % 16) s.cfg.hdr.keySlot = true) ∧
    (∃ (s : State) (rq : Requester) (d : Nat), s.awake ∧ passes (.secKeyRevoke rq d) s = true ∧ s.locked Reg.SEC_KEY_REVOKE.SLOT = false ∧ (s.cfg.digest.isSome = false ∨ bit (d % 16) s.cfg.hdr.keySlot = false)) :=
  ⟨⟨smp14, (⟨44,1⟩ : Requester), by decide +kernel⟩,
   ⟨smp7, (⟨44,1⟩ : Requester), by decide +kernel⟩,
   ⟨smp15, by decide +kernel⟩,
   ⟨smp15, (⟨44,1⟩ : Requester), 0, by decide +kernel⟩,
   ⟨smp7, (⟨44,1⟩ : Requester), 0, ([] : List Byte), by decide +kernel⟩,
   ⟨smp7, (⟨44,1⟩ : Requester), 0x1000003, by decide +kernel⟩,
   ⟨smp17, (⟨44,1⟩ : Requester), 1, by decide +kernel⟩,
   ⟨smp7, (⟨44,1⟩ : Requester), 0, by decide +kernel⟩⟩

/-- States and operands that meet the hypotheses of Hatch, clause by clause. -/
theorem witness_Hatch :
    (∃ (s : State) (rq : Requester) (d : Nat), s.awake ∧ passes (.hatchPost rq d) s = true ∧ (let a := s.rd Reg.CFG_HATCH_POST_LO.ADDR + 2 ^ 32 * (d % 2 ^ 32); decide (readsClean s controller a 32 = true ∧ s.hatch.queue.length < 8)) = true) ∧
    (∃ (s : State) (rq : Requester) (d : Nat), s.awake ∧ passes (.hatchPost rq d) s = true ∧ (let a := s.rd Reg.CFG_HATCH_POST_LO.ADDR + 2 ^ 32 * (d % 2 ^ 32); decide (readsClean s controller a 32 = true ∧ 8 ≤ s.hatch.queue.length)) = true) ∧
    (∃ (s : State) (p : Nat) (lo : Word) (hi : Word), s.awake ∧ p < 8 ∧ cfgUp s = true ∧ 3 ≤ s.tier ∧ s.domUp 16 = true ∧ s.flag (Reg.GFB_SP_CFG.HATCH p) = true ∧ bit s.cfg.hdr.flags 2 = true ∧ readsClean s controller (lo.toNat + 2 ^ 32 * (hi.toNat % 16)) 32 = true ∧ s.hatch.queue.length < 8) ∧
    (∃ (s : State) (c : Instr), s.awake ∧ s.hatch.cur = none ∧ (match s.hatch.queue with | d :: rest => decide (cfgUp s = true ∧ (d.op = 1 ∧ c = .shelfLoad ∨ d.op = 2 ∧ c = .regionReload ∨ d.op = 3 ∧ c = .routeLoad)) | _ => false) = true) ∧
    (∃ (s : State) (r : Nat), s.awake ∧ r < 6 ∧ bit s.pw.fenceReq (10 + r) = true ∧ (s.region r).reloading = true ∧ ackDue s (10 + r) = true ∧ (match s.hatch.body with | some b => decide ((s.pw.domPend.filter fun p => p.1 == 10 + r) = []) | _ => false) = true) ∧
    (∃ (s : State), s.awake ∧ (match s.hatch.cur with | some (d, 0) => decide (d.op = 3 ∧ d.queue < 128) | _ => false) = true) ∧
    (∃ (s : State), s.awake ∧ (match s.hatch.cur with | some (d, 0) => decide (d.op = 1 ∧ 128 ≤ d.queue ∧ s.domOn (10 + d.region) = true) | _ => false) = true) ∧
    (∃ (s : State), s.awake ∧ (match s.hatch.cur with | some (d, 0) => decide (d.op = 2 ∧ 128 ≤ d.queue ∧ d.region < 6 ∧ s.domOn (10 + d.region) = true ∧ atMark s = true ∧ bit s.pw.fenceReq (10 + d.region) = false) | _ => false) = true) :=
  ⟨⟨smp25, (⟨44,1⟩ : Requester), 0, by decide +kernel⟩,
   ⟨smp26, (⟨44,1⟩ : Requester), 0, by decide +kernel⟩,
   ⟨smp27, 2, (0 : Word), (0 : Word), by decide +kernel⟩,
   ⟨smp18, (.shelfLoad : Instr), by decide +kernel⟩,
   ⟨smp28, 2, by decide +kernel⟩,
   ⟨smp29, by decide +kernel⟩,
   ⟨smp21, by decide +kernel⟩,
   ⟨smp22, by decide +kernel⟩⟩

end W07

namespace W08

def st0 := up [(Reg.STR_POOL_BASE_LO.ADDR 0, 0x100000),(Reg.STR_POOL_COUNT.COUNT 0, 8),(Reg.STR_STATE_BASE_LO.ADDR, 0x200000)] rn
def se := nx (.strEnable ⟨36,0⟩ 1) st0
def sa := nx (.poolAlloc ⟨36,0⟩ 0) se
def sg := nx (.crateGiveLatch ⟨36,0⟩ 0x00100000) sa
def sq0 := up [(Reg.STR_Q_BASE_LO.ADDR 1, 0x40),(Reg.STR_Q_BASE_HI.ADDR 1, 8)] se
def sq := nx (.queueEnable ⟨36,0⟩ 1 0x401) sq0
def sp := nx (.queuePush ⟨36,0⟩ 1 0x40 [1,2,3,4,5,6,7,8]) sq
def ev1 : LogEv := ⟨1, 2, 3, 4, 5, 6⟩
def li (s : State) (n : Nat) : State := { s with log := { s.log with intake := List.replicate n ev1 } }
def smp0 : State := st0
def smp1 : State := up [(Reg.STR_STATE_BASE_LO.ADDR, 0x100000)] st0
def smp2 : State := se
def smp3 : State := up [(Reg.STR_POOL_LOW.LOW 0, 1)] sa
def smp4 : State := sg
def smp6 : State := sq0
def smp7 : State := sq
def smp8 : State := sp
def smp10 : State := li rn 16
def smp12 : State := { li rn 2 with log := { (li rn 2).log with dropped := 3 } }
def smp13 : State := { smp8 with mem := { smp8.mem with larderBad := [8] } }

/-- States and operands that meet the hypotheses of Crates, clause by clause. -/
theorem witness_Crates :
    (∃ (s : State) (rq : Requester) (d : Nat), s.awake ∧ passes (.strEnable rq d) s = true ∧ bit d 0 = true ∧ s.flag Reg.STR_CTRL.EN = false ∧ storeroomOk s = true) ∧
    (∃ (s : State) (rq : Requester) (d : Nat), s.awake ∧ passes (.strEnable rq d) s = true ∧ bit d 0 = true ∧ s.flag Reg.STR_CTRL.EN = false ∧ storeroomOk s = false) ∧
    (∃ (s : State) (rq : Requester) (p : Nat), s.awake ∧ p < 4 ∧ passes (.poolAlloc rq p) s = true ∧ (match s.freeStack p with | i :: rest => decide (s.rd (Reg.STR_POOL_LOW.LOW p) < rest.length) | _ => false) = true) ∧
    (∃ (s : State) (rq : Requester) (p : Nat), s.awake ∧ p < 4 ∧ passes (.poolAlloc rq p) s = true ∧ s.freeStack p = []) ∧
    (∃ (s : State) (rq : Requester) (h : Word), s.awake ∧ passes (.crateFree rq h) s = true ∧ (let p := h.toNat / 2 ^ 30; decide ((let g := h.toNat / 2 ^ 20 % 2 ^ 10; decide ((let i := h.toNat % 2 ^ 20; decide (i < poolCount s p ∧ (s.crate p i).alloc = true ∧ (s.crate p i).gen = g ∧ (s.crate p i).owner = rq.context)) = true)) = true)) = true) ∧
    (∃ (s : State) (rq : Requester) (h : Word), s.awake ∧ passes (.crateFree rq h) s = true ∧ (let p := h.toNat / 2 ^ 30; decide ((let g := h.toNat / 2 ^ 20 % 2 ^ 10; decide ((let i := h.toNat % 2 ^ 20; decide (i < poolCount s p ∧ ((s.crate p i).alloc = false ∨ (s.crate p i).gen ≠ g))) = true)) = true)) = true) ∧
    (∃ (s : State) (rq : Requester) (h : Word), s.awake ∧ passes (.crateFree rq h) s = true ∧ (let p := h.toNat / 2 ^ 30; decide ((let g := h.toNat / 2 ^ 20 % 2 ^ 10; decide ((let i := h.toNat % 2 ^ 20; decide (i < poolCount s p ∧ (s.crate p i).alloc = true ∧ (s.crate p i).gen = g ∧ (s.crate p i).owner ≠ rq.context)) = true)) = true)) = true) ∧
    (∃ (s : State) (rq : Requester) (h : Word), s.awake ∧ passes (.crateGiveLatch rq h) s = true) ∧
    (∃ (s : State) (rq : Requester) (d : Nat), s.awake ∧ passes (.crateGive rq d) s = true ∧ (let h := Tbl.get s.str.latch rq.ni 0; decide ((let p := h / 2 ^ 30 % 4; decide ((let i := h % 2 ^ 20; decide (i < poolCount s p ∧ (s.crate p i).alloc = true ∧ (s.crate p i).gen = h / 2 ^ 20 % 2 ^ 10 ∧ (s.crate p i).owner = rq.context)) = true)) = true)) = true) ∧
    (∃ (s : State) (rq : Requester) (d : Nat), s.awake ∧ passes (.crateReclaim rq d) s = true) :=
  ⟨⟨smp0, (⟨36,0⟩ : Requester), 1, by decide +kernel⟩,
   ⟨smp1, (⟨36,0⟩ : Requester), 1, by decide +kernel⟩,
   ⟨smp2, (⟨36,0⟩ : Requester), 0, by decide +kernel⟩,
   ⟨smp0, (⟨36,0⟩ : Requester), 0, by decide +kernel⟩,
   ⟨smp3, (⟨36,0⟩ : Requester), (BitVec.ofNat 32 0x00100000 : Word), by decide +kernel⟩,
   ⟨smp0, (⟨36,0⟩ : Requester), (BitVec.ofNat 32 0x00100000 : Word), by decide +kernel⟩,
   ⟨smp3, (⟨44,1⟩ : Requester), (BitVec.ofNat 32 0x00100000 : Word), by decide +kernel⟩,
   ⟨smp0, (⟨36,0⟩ : Requester), (BitVec.ofNat 32 0x00100000 : Word), by decide +kernel⟩,
   ⟨smp4, (⟨36,0⟩ : Requester), 0, by decide +kernel⟩,
   ⟨smp0, (⟨36,0⟩ : Requester), 0, by decide +kernel⟩⟩

/-- States and operands that meet the hypotheses of StreamQueues, clause by clause. -/
theorem witness_StreamQueues :
    (∃ (s : State) (rq : Requester) (n : Nat) (d : Nat), s.awake ∧ n < 128 ∧ passes (.queueEnable rq n d) s = true ∧ bit d 0 = true ∧ 4 ≤ bits d 8 5 ∧ bits d 8 5 ≤ 16 ∧ s.flag (Reg.STR_Q_CFG.EN n) = false ∧ queueOk s n (bits d 8 5) = true) ∧
    (∃ (s : State) (rq : Requester) (n : Nat) (d : Nat), s.awake ∧ n < 128 ∧ passes (.queueEnable rq n d) s = true ∧ bit d 0 = true ∧ 4 ≤ bits d 8 5 ∧ bits d 8 5 ≤ 16 ∧ s.flag (Reg.STR_Q_CFG.EN n) = false ∧ queueOk s n (bits d 8 5) = false) ∧
    (∃ (s : State) (rq : Requester) (n : Nat) (o : Nat) (data : List Byte), s.awake ∧ n < 128 ∧ o < 0x80 ∧ o % 8 = 0 ∧ data.length = 8 ∧ mayRequest s rq = true ∧ (match routedAccess s rq (0xF00510000 + 0x100 * n + o) 8 true (leNat (data.take 4)) with | .ok u => decide (s.flag (Reg.STR_Q_CFG.EN n) = true ∧ (s.q n).skipping = false ∧ (s.q n).dropping = false ∧ (s.q n).total < qDepth s n ∧ (s.q n).marks.length < qDepth s n ∧ 0x800000000 ≤ qBase s n) | _ => false) = true) ∧
    (∃ (s : State) (rq : Requester) (n : Nat) (o : Nat) (data : List Byte), s.awake ∧ n < 128 ∧ o < 0x80 ∧ o % 8 = 0 ∧ data.length = 8 ∧ mayRequest s rq = true ∧ (match routedAccess s rq (0xF00510000 + 0x100 * n + o) 8 true (leNat (data.take 4)) with | .ok u => decide (s.flag (Reg.STR_Q_CFG.EN n) = false) | _ => false) = true) ∧
    (∃ (s : State) (rq : Requester) (n : Nat), s.awake ∧ n < 128 ∧ mayRequest s rq = true ∧ (match routedAccess s rq (0xF00510000 + 0x100 * n + 0x80) 16 false 0 with | .ok u => decide ((s.q n).cut = false ∧ (match (s.q n).marks with | m :: rest => decide (0x800000000 ≤ qBase s n ∧ s.badAt (qBase s n + 8 * (s.q n).head) 8 = true) | _ => false) = true) | _ => false) = true) ∧
    (∃ (s : State) (rq : Requester) (n : Nat), s.awake ∧ n < 128 ∧ mayRequest s rq = true ∧ (match routedAccess s rq (0xF00510000 + 0x100 * n + 0x80) 16 false 0 with | .ok u => decide ((s.q n).cut = false ∧ (match (s.q n).marks with | m :: rest => decide (s.mem.larderBad = []) | _ => false) = true) | _ => false) = true) ∧
    (∃ (s : State) (rq : Requester) (n : Nat), s.awake ∧ n < 128 ∧ mayRequest s rq = true ∧ (match routedAccess s rq (0xF00510000 + 0x100 * n + 0x80) 16 false 0 with | .ok u => decide ((s.q n).cut = false ∧ (s.q n).marks = []) | _ => false) = true) ∧
    (∃ (s : State) (rq : Requester) (n : Nat), s.awake ∧ n < 128 ∧ passes (.queueSkip rq n) s = true ∧ (s.q n).marks.contains true = true) ∧
    (∃ (s : State) (rq : Requester) (n : Nat), s.awake ∧ n < 128 ∧ passes (.queueFlush rq n) s = true) ∧
    (∃ (s : State) (rq : Requester) (n : Nat), s.awake ∧ n < 128 ∧ passes (.queueClear rq n) s = true) :=
  ⟨⟨smp6, (⟨36,0⟩ : Requester), 1, 0x401, by decide +kernel⟩,
   ⟨smp0, (⟨36,0⟩ : Requester), 0, 0x401, by decide +kernel⟩,
   ⟨smp7, (⟨36,0⟩ : Requester), 1, 0, ([1,2,3,4,5,6,7,9] : List Byte), by decide +kernel⟩,
   ⟨smp0, (⟨36,0⟩ : Requester), 0, 0, ([1,2,3,4,5,6,7,9] : List Byte), by decide +kernel⟩,
   ⟨smp13, (⟨36,0⟩ : Requester), 1, by decide +kernel⟩,
   ⟨smp8, (⟨36,0⟩ : Requester), 1, by decide +kernel⟩,
   ⟨smp0, (⟨36,0⟩ : Requester), 0, by decide +kernel⟩,
   ⟨smp8, (⟨36,0⟩ : Requester), 1, by decide +kernel⟩,
   ⟨smp0, (⟨36,0⟩ : Requester), 0, by decide +kernel⟩,
   ⟨smp0, (⟨36,0⟩ : Requester), 0, by decide +kernel⟩⟩

/-- States and operands that meet the hypotheses of TroubleLog, clause by clause. -/
theorem witness_TroubleLog :
    (∃ (s : State), s.awake ∧ s.log.intake.length < 16 ∧ s.log.dropped = 0) ∧
    (∃ (s : State), s.awake ∧ s.log.intake.length < 15 ∧ s.log.dropped ≠ 0) ∧
    (∃ (s : State), s.awake ∧ 16 ≤ s.log.intake.length) ∧
    (∃ (s : State), s.awake ∧ (match s.log.intake with | ev :: rest => decide (s.log.dropped = 0 ∧ (s.tier < 3 ∨ s.flag Reg.STR_CTRL.EN = false)) | _ => false) = true) ∧
    (∃ (s : State) (p : List Byte), s.awake ∧ logOp p = 1) ∧
    (∃ (s : State) (p : List Byte), s.awake ∧ logOp p = 2 ∧ 1 ≤ logCount p ∧ logCount p ≤ 44) ∧
    (∃ (s : State) (p : List Byte), s.awake ∧ logOp p = 3) ∧
    (∃ (s : State) (p : List Byte), s.awake ∧ logOp p ≠ 1 ∧ logOp p ≠ 3 ∧ (logOp p = 2 → logCount p = 0 ∨ 44 < logCount p)) :=
  ⟨⟨smp0, by decide +kernel⟩,
   ⟨smp12, by decide +kernel⟩,
   ⟨smp10, by decide +kernel⟩,
   ⟨smp0, by decide +kernel⟩,
   ⟨smp0, ([1,0,0,0,0,0,0,0] : List Byte), by decide +kernel⟩,
   ⟨smp0, ([2,0,3,0,0,0,0,0] : List Byte), by decide +kernel⟩,
   ⟨smp0, ([3,0,0,0,7,0,0,0] : List Byte), by decide +kernel⟩,
   ⟨smp0, ([] : List Byte), by decide +kernel⟩⟩

end W08

namespace W09

def rr (x : Region) : State := { rn with fab := { rn.fab with regions := [(1, x)] } }
def f0 := up [(Reg.GFB_REG_SW_CFG.STROBE_EN 1,1),(Reg.GFB_REG_SW_CFG.CELL_EN 1,1)] (rr { active := 1 })
def smp0 : State := rn
def smp1 : State := f0
def smp3 : State := up [(Reg.GFB_CH_SIZE.BYTES 1 2, 4096),(Reg.GFB_CH_LANES.LANES 1 2, 3),(Reg.GFB_CH_CFG.MODE 1 2, 1)] rn
def smp4 : State := up [(Reg.GFB_CH_CFG.ERR 1 2, 1),(Reg.GFB_CH_CFG.MODE 1 2, 1)] rn
def smp5 : State := up [(Reg.GFB_CH_SIZE.BYTES 1 4, 4096),(Reg.GFB_CH_LANES.LANES 1 4, 3),(Reg.GFB_CH_CFG.MODE 1 4, 1),(Reg.GFB_CH_FPTR.OFFSET 1 4, 128),(Reg.GFB_CH_PTR.OFFSET 1 4, 4032)] rn
def smp6 : State := rr { pend := some ⟨2,1,0⟩ }
def smp7 : State := rr { pend := some ⟨2,1,0⟩, valid := 2 }
def smp9 : State := up [(Reg.GFB_CUT_CFG.PAIRS, 7)] { rn with fab := { rn.fab with cuts := [(1, {presented := 3, released := 1, waiting := [(1, 77)]}), (2, {presented := 3, released := 1})] } }
def smp11 : State := up [(Reg.GFB_SP_CFG.CONV 6,255)] { rn with cfg := { ({} : Cfg) with radioBody := some (List.replicate 4000 1) }, rad := { rn.rad with streams := 255, raw := true } }
def smp12 : State := up [(Reg.GFB_REG_SW_CFG.CELL_EN 1,1)] (rr { active := 1, cells := [(0, { o := ⟨0x80000000, true⟩ })] })
def smp13 : State := viaNi 29 [0, 8] (smp3.setChan 1 2 { fifo := [List.replicate 64 9] })
def smp14 : State := viaNi 29 [0, 1, 2, 3, 4, 5, 6, 7] smp5
def smp15 : State := { smp9 with fab := { smp9.fab with cycle := 50 } }

/-- States and operands that meet the hypotheses of ShelfSwitching, clause by clause. -/
theorem witness_ShelfSwitching :
    (∃ (s : State) (r : Nat), s.awake ∧ r < 6 ∧ regionRuns s r = true ∧ s.domUp (10 + r) = true ∧ (s.region r).pend = none ∧ s.flag (Reg.GFB_REG_SW_CFG.STROBE_EN r) = true) ∧
    (∃ (s : State) (r : Nat) (rq : Requester) (d : Nat), s.awake ∧ r < 6 ∧ regionRuns s r = true ∧ s.domUp (10 + r) = true ∧ (s.region r).pend = none ∧ passes (.regionTimerArm rq r d) s = true) ∧
    (∃ (s : State) (r : Nat), s.awake ∧ r < 6 ∧ regionRuns s r = true ∧ s.domUp (10 + r) = true ∧ (s.region r).pend = none ∧ s.flag (Reg.GFB_REG_SW_CFG.CELL_EN r) = true ∧ (match (Tbl.get (s.region r).cells (s.rd (Reg.GFB_REG_SW_CFG.TRIG_CELL r)) {}).o with | ⟨o, true⟩ => decide (bit o.toNat 31 = true) | _ => false) = true) ∧
    (∃ (s : State) (r : Nat) (rq : Requester) (d : Nat), s.awake ∧ r < 6 ∧ regionRuns s r = true ∧ s.domUp (10 + r) = true ∧ (s.region r).pend = none ∧ passes (.swReq rq r d) s = true) ∧
    (∃ (s : State) (rq : Requester) (r : Nat) (d : Nat), s.awake ∧ r < 6 ∧ regionRuns s r = true ∧ s.domUp (10 + r) = true ∧ (match (s.region r).pend with | some p => decide (0 < p.rank ∧ passes (.swReq rq r d) s = true) | _ => false) = true) ∧
    (∃ (s : State) (r : Nat), s.awake ∧ r < 6 ∧ regionRuns s r = true ∧ (match (s.region r).pend with | some p => decide (p.at_ ≤ s.now ∧ bit (s.region r).valid p.target = true) | _ => false) = true) ∧
    (∃ (s : State) (r : Nat), s.awake ∧ r < 6 ∧ regionRuns s r = true ∧ (match (s.region r).pend with | some p => decide (p.at_ ≤ s.now ∧ bit (s.region r).valid p.target = false) | _ => false) = true) :=
  ⟨⟨smp1, 1, by decide +kernel⟩,
   ⟨smp0, 0, (⟨36,0⟩ : Requester), 0, by decide +kernel⟩,
   ⟨smp12, 1, by decide +kernel⟩,
   ⟨smp0, 0, (⟨36,0⟩ : Requester), 0, by decide +kernel⟩,
   ⟨smp6, (⟨36,0⟩ : Requester), 1, 0, by decide +kernel⟩,
   ⟨smp7, 1, by decide +kernel⟩,
   ⟨smp6, 1, by decide +kernel⟩⟩

/-- States and operands that meet the hypotheses of StreamPorts, clause by clause. -/
theorem witness_StreamPorts :
    (∃ (s : State) (rq : Requester) (p : Nat) (c : Nat) (d : Nat), s.awake ∧ p < 8 ∧ c < 8 ∧ passes (.spChannelConfig rq p c d) s = true ∧ bits d 0 2 ≠ 3 ∧ (channelOk s p c = true ∨ bits d 0 2 = 0) ∧ bit d 31 = false) ∧
    (∃ (s : State) (rq : Requester) (p : Nat) (c : Nat) (d : Nat), s.awake ∧ p < 8 ∧ c < 8 ∧ passes (.spChannelConfig rq p c d) s = true ∧ bits d 0 2 ≠ 3 ∧ channelOk s p c = false ∧ bits d 0 2 ≠ 0) ∧
    (∃ (s : State) (rq : Requester) (p : Nat) (c : Nat), s.awake ∧ p < 8 ∧ c < 8 ∧ passes (.spChannelRestart rq p c) s = true ∧ (4 ≤ c ∨ s.rd (Reg.GFB_CH_CFG.MODE p c) ≠ 1 ∨ (s.chan p c).fifo = [])) ∧
    (∃ (s : State) (rq : Requester) (p : Nat) (c : Nat), s.awake ∧ p < 8 ∧ c < 8 ∧ passes (.spChannelRestart rq p c) s = true ∧ c < 4 ∧ s.rd (Reg.GFB_CH_CFG.MODE p c) = 1 ∧ (match (s.chan p c).fifo with | [l] => decide (l.length = 64 ∧ (let a := chBase s p c + s.rd (Reg.GFB_CH_PTR.OFFSET p c); decide (a % 64 = 0 ∧ writesClear s (chRequester s p c) a l = true ∧ (s.rd (Reg.GFB_CH_PTR.OFFSET p c) + 64) % s.rd (Reg.GFB_CH_SIZE.BYTES p c) ≠ s.rd (Reg.GFB_CH_FPTR.OFFSET p c) % s.rd (Reg.GFB_CH_SIZE.BYTES p c))) = true) | _ => false) = true) ∧
    (∃ (s : State) (p : Nat) (c : Nat), s.awake ∧ p < 8 ∧ c < 4 ∧ s.domUp 16 = true ∧ regionRuns s (portRegion p) = true ∧ s.rd (Reg.GFB_CH_CFG.MODE p c) = 1 ∧ s.flag (Reg.GFB_CH_CFG.ERR p c) = false ∧ (s.chan p c).fifo.length < 64 ∧ (s.chan p c).line.length < 60) ∧
    (∃ (s : State) (p : Nat) (c : Nat), s.awake ∧ p < 8 ∧ c < 4 ∧ s.domUp 16 = true ∧ regionRuns s (portRegion p) = true ∧ s.rd (Reg.GFB_CH_CFG.MODE p c) ≠ 0 ∧ s.flag (Reg.GFB_CH_CFG.ERR p c) = true) ∧
    (∃ (s : State) (p : Nat) (c : Nat), s.awake ∧ p < 8 ∧ 4 ≤ c ∧ c < 8 ∧ s.domUp 16 = true ∧ s.flag (Reg.GFB_CH_CFG.ERR p c) = false ∧ s.rd (Reg.GFB_CH_CFG.MODE p c) = 1 ∧ s.rd (Reg.GFB_CH_PTR.OFFSET p c) ≠ s.rd (Reg.GFB_CH_FPTR.OFFSET p c) ∧ readsClean s ⟨28 + p, s.rd (Reg.GFB_CH_CFG.CLASS p c)⟩ (chBase s p c + s.rd (Reg.GFB_CH_PTR.OFFSET p c)) 64 = true) :=
  ⟨⟨smp0, (⟨36,0⟩ : Requester), 0, 0, 0, by decide +kernel⟩,
   ⟨smp0, (⟨36,0⟩ : Requester), 0, 0, 1, by decide +kernel⟩,
   ⟨smp0, (⟨36,0⟩ : Requester), 0, 0, by decide +kernel⟩,
   ⟨smp13, (⟨36,0⟩ : Requester), 1, 2, by decide +kernel⟩,
   ⟨smp3, 1, 2, by decide +kernel⟩,
   ⟨smp4, 1, 2, by decide +kernel⟩,
   ⟨smp14, 1, 4, by decide +kernel⟩⟩

/-- States and operands that meet the hypotheses of CutThroughPath, clause by clause. -/
theorem witness_CutThroughPath :
    (∃ (s : State) (rq : Requester) (d : Nat), s.awake ∧ passes (.cutPairsWrite rq d) s = true ∧ (let m := d % 2 ^ 16; decide ((m = 0 ∨ s.ck.cut = true ∧ s.radioReleased = false ∧ andNot m (s.rd (Reg.GFB_SP_CFG.CONV 6) &&& s.rd (Reg.GFB_SP_CFG.CONV 7)) = 0))) = true) ∧
    (∃ (s : State) (rq : Requester) (d : Nat), s.awake ∧ passes (.cutPairsWrite rq d) s = true ∧ (let m := d % 2 ^ 16; decide (m ≠ 0 ∧ s.ck.cut = false)) = true) ∧
    (∃ (s : State) (l : Nat), s.awake ∧ l < 16 ∧ s.domUp 16 = true ∧ bit (s.rd Reg.GFB_CUT_CFG.PAIRS) l = true ∧ (s.cut l).released < (s.cut l).presented ∧ s.fab.cycle < releaseAt (s.cut l) (s.cut l).released) ∧
    (∃ (s : State) (l : Nat), s.awake ∧ l < 16 ∧ s.domUp 16 = true ∧ bit (s.rd Reg.GFB_CUT_CFG.PAIRS) l = true ∧ (s.cut l).released < (s.cut l).presented ∧ releaseAt (s.cut l) (s.cut l).released ≤ s.fab.cycle ∧ (match Tbl.find (s.cut l).waiting (s.cut l).released with | some w => decide (True) | _ => false) = true) ∧
    (∃ (s : State) (l : Nat), s.awake ∧ l < 16 ∧ s.domUp 16 = true ∧ bit (s.rd Reg.GFB_CUT_CFG.PAIRS) l = true ∧ (s.cut l).released < (s.cut l).presented ∧ releaseAt (s.cut l) (s.cut l).released ≤ s.fab.cycle ∧ Tbl.find (s.cut l).waiting (s.cut l).released = none) ∧
    (∃ (s : State) (chain : Nat) (stream : Nat), s.awake ∧ chain < 4 ∧ stream < 2 ∧ ddcRuns s chain stream = true) :=
  ⟨⟨smp0, (⟨36,0⟩ : Requester), 0, by decide +kernel⟩,
   ⟨smp0, (⟨36,0⟩ : Requester), 1, by decide +kernel⟩,
   ⟨smp9, 2, by decide +kernel⟩,
   ⟨smp15, 1, by decide +kernel⟩,
   ⟨smp15, 2, by decide +kernel⟩,
   ⟨smp11, 0, 0, by decide +kernel⟩⟩

end W09

namespace W10

def ieUp := (List.range 2).foldl (fun s b => up [(Reg.IE_BANK_SS.SIZE 0 b, 64)] s) (up [(Reg.CLK_MODE.MODE, 2)] rn)
def mk (b slot x : Nat) (f : Bank → Bank := id) (s : State := ieUp) : State :=
  s.setEng 0 { active := b, code := Mem.writeN [] 0 (leBytes 64 (x * 2 ^ slotLo slot)), staging := Mem.writeN [] 0 ((List.range 8).map fun i => BitVec.ofNat 8 (i * 37 % 251)), banks := [(b, f { state := 1, s := [(3, 0x8000000000000000), (4, 0xFFFFFFFFFFFFFFFF), (5, 1024), (6, 77), (63, 128)], p := [(2, 5), (3, 12)], v := [(1, 12345), (2, 999)] })] }
def sx (op sd sa sb : Nat) (imm : Option Nat := none) : Nat := op + sd * 2^12 + sa * 2^18 + sb * 2^24 + (match imm with | some i => 2^30 + 2^32 * i | none => 0)
def cx (op sa : Nat) (imm : Nat) : Nat := op + sa * 2^12 + imm * 2^24
def lx (op sa sb rx : Nat) (imm : Nat := 0) : Nat := op + sa * 2^12 + sb * 2^18 + rx * 2^24 + imm * 2^32
def mx (op fmt sa sb sc cnt rest : Nat) : Nat := op + fmt * 2^12 + sa * 2^16 + sb * 2^22 + sc * 2^28 + cnt * 2^34 + rest
def w2 : Bank → Bank := fun k => { k with weights := { loaded := true, fmt := 2 } }
def smp0 : State := mk 1 1 (sx 1 7 3 4)
def smp1 : State := mk 1 2 (sx 0x10 2 3 3)
def smp2 : State := mk 1 1 (sx 0x16 7 0 0)
def smp3 : State := mk 1 1 (sx 0x16 7 0 0) id (up [(Reg.CLK_MODE.MODE, 1)] ieUp)
def smp4 : State := mk 1 0 (cx 1 0 0xFFFFFFFFF0)
def smp5 : State := mk 1 0 (cx 2 5 0)
def smp6 : State := mk 1 0 (cx 3 0 3)
def smp7 : State := mk 1 0 (cx 4 0 0)
def smp8 : State := mk 1 0 (cx 5 6 4)
def smp9 : State := mk 1 0 (cx 6 0 0)
def smp10 : State := mk 1 0 (cx 7 0 0)
def smp11 : State := mk 1 0 (cx 8 0 0)
def smp12 : State := mk 1 0 (cx 9 0 0x123456)
def smp13 : State := mk 1 0 (cx 10 0 0)
def smp14 : State := mk 1 0 0
def smp15 : State := mk 1 0 0 (fun k => { k with loops := [⟨3, 64, 0⟩] })
def smp16 : State := mk 1 3 (mx 1 2 5 0 0 2 (2^46 * 2))
def smp17 : State := mk 1 3 (mx 3 2 5 0 5 145 (2^46 * 2 + 2^56 * 8)) w2
def smp18 : State := mk 1 3 (mx 6 2 5 0 5 17 (2^46 * 8 + 2^56 * 8))
def smp19 : State := mk 1 4 (2 + 7*2^12 + 1 * 2^17)
def smp20 : State := mk 1 5 (lx 1 0 0 3 512)
def smp21 : State := mk 1 5 (lx 7 5 6 9)
def smp22 : State := mk 1 5 (lx 0x0D 5 6 9)
def smp23 : State := mk 1 0 (cx 5 0 4)
def smp24 : State := mk 1 0 (cx 5 6 4) (fun k => { k with loops := List.replicate 4 ⟨3, 640, 640⟩ })
def smp25 : State := mk 1 0 (cx 5 3 4) (fun k => { k with loops := List.replicate 4 ⟨3, 640, 640⟩ })

/-- States and operands that meet the hypotheses of EngineControlFlow, clause by clause. -/
theorem witness_EngineControlFlow :
    (∃ (s : State) (e : Nat) (b : Nat) (x : Nat), s.awake ∧ Alone s e b 0 x ∧ opc x = 1) ∧
    (∃ (s : State) (e : Nat) (b : Nat) (x : Nat), s.awake ∧ Alone s e b 0 x ∧ (let k := s.bank e b; decide (opc x = 2 ∧ k.sc (cSA x) % 64 = 0)) = true) ∧
    (∃ (s : State) (e : Nat) (b : Nat) (x : Nat), s.awake ∧ Alone s e b 0 x ∧ opc x = 3) ∧
    (∃ (s : State) (e : Nat) (b : Nat) (x : Nat), s.awake ∧ Alone s e b 0 x ∧ (let k := s.bank e b; decide (opc x = 4 ∧ k.sc 63 % 64 = 0)) = true) ∧
    (∃ (s : State) (e : Nat) (b : Nat) (x : Nat), s.awake ∧ Alone s e b 0 x ∧ (let k := s.bank e b; decide (opc x = 5 ∧ (∀ l ∈ k.loops.head?, l.last ≠ k.pc) ∧ k.sc (cSA x) ≠ 0 ∧ ofInt (cImm x) 16 ≠ 0 ∧ k.loops.length < 4)) = true) ∧
    (∃ (s : State) (e : Nat) (b : Nat) (x : Nat), s.awake ∧ Alone s e b 0 x ∧ (let k := s.bank e b; decide (opc x = 5 ∧ (∀ l ∈ k.loops.head?, l.last ≠ k.pc) ∧ (k.sc (cSA x) = 0 ∨ ofInt (cImm x) 16 = 0))) = true) ∧
    (∃ (s : State) (e : Nat) (b : Nat) (x : Nat), s.awake ∧ Alone s e b 0 x ∧ (let k := s.bank e b; decide (opc x = 5 ∧ (∀ l ∈ k.loops.head?, l.last ≠ k.pc) ∧ k.sc (cSA x) ≠ 0 ∧ ofInt (cImm x) 16 ≠ 0 ∧ 4 ≤ k.loops.length ∧ b ≠ 0)) = true) ∧
    (∃ (s : State) (e : Nat) (b : Nat) (x : Nat), s.awake ∧ Alone s e b 0 x ∧ (let k := s.bank e b; decide (k.loops = [] ∧ opc x = 6)) = true) ∧
    (∃ (s : State) (e : Nat) (b : Nat) (x : Nat), s.awake ∧ Alone s e b 0 x ∧ (let k := s.bank e b; decide (k.loops = [] ∧ opc x = 7)) = true) ∧
    (∃ (s : State) (e : Nat) (b : Nat) (x : Nat), s.awake ∧ Alone s e b 0 x ∧ (let k := s.bank e b; decide (k.loops = [] ∧ opc x = 8 ∧ s.flag (Reg.IE_CTRL.EN e) = false)) = true) ∧
    (∃ (s : State) (e : Nat) (b : Nat) (x : Nat), s.awake ∧ Alone s e b 0 x ∧ (let k := s.bank e b; decide (k.loops = [] ∧ opc x = 9)) = true) ∧
    (∃ (s : State) (e : Nat) (b : Nat) (x : Nat), s.awake ∧ Alone s e b 0 x ∧ (let k := s.bank e b; decide (k.loops = [] ∧ opc x = 10 ∧ b ≠ 0)) = true) ∧
    (∃ (s : State) (e : Nat) (b : Nat) (i : Nat), s.awake ∧ i < 6 ∧ Alone s e b i 0 ∧ (let k := s.bank e b; decide (k.loops = [])) = true) ∧
    (∃ (s : State) (e : Nat) (b : Nat) (i : Nat), s.awake ∧ i < 6 ∧ Alone s e b i 0 ∧ (let k := s.bank e b; decide ((match k.loops with | l :: rest => decide (l.last = k.pc ∧ 1 < l.count) | _ => false) = true)) = true) :=
  ⟨⟨smp4, 0, 1, (slotOfBundle (bundleAt smp4 0 (smp4.bank 0 1).pc) 0), by decide +kernel⟩,
   ⟨smp5, 0, 1, (slotOfBundle (bundleAt smp5 0 (smp5.bank 0 1).pc) 0), by decide +kernel⟩,
   ⟨smp6, 0, 1, (slotOfBundle (bundleAt smp6 0 (smp6.bank 0 1).pc) 0), by decide +kernel⟩,
   ⟨smp7, 0, 1, (slotOfBundle (bundleAt smp7 0 (smp7.bank 0 1).pc) 0), by decide +kernel⟩,
   ⟨smp8, 0, 1, (slotOfBundle (bundleAt smp8 0 (smp8.bank 0 1).pc) 0), by decide +kernel⟩,
   ⟨smp23, 0, 1, (slotOfBundle (bundleAt smp23 0 (smp23.bank 0 1).pc) 0), by decide +kernel⟩,
   ⟨smp24, 0, 1, (slotOfBundle (bundleAt smp24 0 (smp24.bank 0 1).pc) 0), by decide +kernel⟩,
   ⟨smp9, 0, 1, (slotOfBundle (bundleAt smp9 0 (smp9.bank 0 1).pc) 0), by decide +kernel⟩,
   ⟨smp10, 0, 1, (slotOfBundle (bundleAt smp10 0 (smp10.bank 0 1).pc) 0), by decide +kernel⟩,
   ⟨smp11, 0, 1, (slotOfBundle (bundleAt smp11 0 (smp11.bank 0 1).pc) 0), by decide +kernel⟩,
   ⟨smp12, 0, 1, (slotOfBundle (bundleAt smp12 0 (smp12.bank 0 1).pc) 0), by decide +kernel⟩,
   ⟨smp13, 0, 1, (slotOfBundle (bundleAt smp13 0 (smp13.bank 0 1).pc) 0), by decide +kernel⟩,
   ⟨smp14, 0, 1, 0, by decide +kernel⟩,
   ⟨smp15, 0, 1, 0, by decide +kernel⟩⟩

set_option synthInstance.maxHeartbeats 400000 in
set_option synthInstance.maxSize 4000 in
/-- States and operands that meet the hypotheses of EngineScalars, clause by clause. -/
theorem witness_EngineScalars :
    (∃ (s : State) (e : Nat) (b : Nat) (sl : Nat) (x : Nat) (c : Instr) (R : Nat), s.awake ∧ sl < 2 ∧ Alone s e b (1 + sl) x ∧ (s.bank e b).loops = [] ∧ (let k := s.bank e b; decide ((let A := k.sc (sSA x); decide ((let B := (if sImmF x then ofInt (sImm x) 64 else k.sc (sSB x)); decide ((opc x = 0x01 ∧ c = .add e sl ∧ R = (A + B) % 2 ^ 64 ∨ opc x = 0x02 ∧ c = .sub e sl ∧ R = (A + 2 ^ 64 - B) % 2 ^ 64 ∨ opc x = 0x03 ∧ c = .and e sl ∧ R = A &&& B ∨ opc x = 0x04 ∧ c = .or e sl ∧ R = A ||| B ∨ opc x = 0x05 ∧ c = .xor e sl ∧ R = A ^^^ B ∨ opc x = 0x06 ∧ c = .sll e sl ∧ R = A * 2 ^ (B % 64) % 2 ^ 64 ∨ opc x = 0x07 ∧ c = .srl e sl ∧ R = A / 2 ^ (B % 64) ∨ opc x = 0x08 ∧ c = .sra e sl ∧ R = ofInt (sInt A 64 / (2 ^ (B % 64) : Nat)) 64 ∨ opc x = 0x09 ∧ c = .mul e sl ∧ R = A * B % 2 ^ 64 ∨ opc x = 0x0A ∧ c = .mulh e sl ∧ R = ofInt (sInt A 64 * sInt B 64 / (2 ^ 64 : Nat)) 64 ∨ opc x = 0x0B ∧ c = .div e sl ∧ B = 0 ∧ R = 2 ^ 64 - 1 ∨ opc x = 0x0B ∧ c = .div e sl ∧ A = 2 ^ 63 ∧ B = 2 ^ 64 - 1 ∧ R = 2 ^ 63 ∨ opc x = 0x0B ∧ c = .div e sl ∧ B ≠ 0 ∧ ¬ (A = 2 ^ 63 ∧ B = 2 ^ 64 - 1) ∧ R = ofInt (Int.tdiv (sInt A 64) (sInt B 64)) 64 ∨ opc x = 0x0C ∧ c = .rem e sl ∧ B = 0 ∧ R = A ∨ opc x = 0x0C ∧ c = .rem e sl ∧ A = 2 ^ 63 ∧ B = 2 ^ 64 - 1 ∧ R = 0 ∨ opc x = 0x0C ∧ c = .rem e sl ∧ B ≠ 0 ∧ ¬ (A = 2 ^ 63 ∧ B = 2 ^ 64 - 1) ∧ R = ofInt (Int.tmod (sInt A 64) (sInt B 64)) 64 ∨ opc x = 0x0D ∧ c = .min e sl ∧ R = (if sInt A 64 ≤ sInt B 64 then A else B) ∨ opc x = 0x0E ∧ c = .max e sl ∧ R = (if sInt A 64 ≤ sInt B 64 then B else A) ∨ opc x = 0x0F ∧ c = .lih e sl ∧ R = k.sc (sSD x) % 2 ^ 32 + 2 ^ 32 * bits x 32 32))) = true)) = true)) = true) ∧
    (∃ (s : State) (e : Nat) (b : Nat) (sl : Nat) (x : Nat) (c : Instr) (R : Nat), s.awake ∧ sl < 2 ∧ Alone s e b (1 + sl) x ∧ (s.bank e b).loops = [] ∧ (let k := s.bank e b; decide ((let A := k.sc (sSA x); decide ((let B := (if sImmF x then ofInt (sImm x) 64 else k.sc (sSB x)); decide ((opc x = 0x10 ∧ c = .cmpEq e sl ∧ R = (if A = B then 2 ^ 256 - 1 else 0) ∨ opc x = 0x11 ∧ c = .cmpLt e sl ∧ R = (if sInt A 64 < sInt B 64 then 2 ^ 256 - 1 else 0) ∨ opc x = 0x12 ∧ c = .cmpLtu e sl ∧ R = (if A < B then 2 ^ 256 - 1 else 0) ∨ opc x = 0x13 ∧ c = .pand e sl ∧ R = k.pr (sSA x) &&& k.pr (sSB x) ∨ opc x = 0x14 ∧ c = .por e sl ∧ R = k.pr (sSA x) ||| k.pr (sSB x) ∨ opc x = 0x15 ∧ c = .pnot e sl ∧ R = 2 ^ 256 - 1 - k.pr (sSA x)))) = true)) = true)) = true) ∧
    (∃ (s : State) (e : Nat) (b : Nat) (sl : Nat) (x : Nat), s.awake ∧ sl < 2 ∧ Alone s e b (1 + sl) x ∧ (s.bank e b).loops = [] ∧ (let k := s.bank e b; decide (opc x = 0x16 ∧ engExact s e = true)) = true) ∧
    (∃ (s : State) (e : Nat) (b : Nat) (sl : Nat) (x : Nat), s.awake ∧ sl < 2 ∧ Alone s e b (1 + sl) x ∧ (s.bank e b).loops = [] ∧ (let k := s.bank e b; decide (opc x = 0x16 ∧ engExact s e = false)) = true) :=
  ⟨⟨smp0, 0, 1, 0, (slotOfBundle (bundleAt smp0 0 (smp0.bank 0 1).pc) (1 + 0)), (.add 0 0 : Instr), 9223372036854775807, by decide +kernel⟩,
   ⟨smp1, 0, 1, 1, (slotOfBundle (bundleAt smp1 0 (smp1.bank 0 1).pc) (1 + 1)), (.cmpEq 0 1 : Instr), (2^256 - 1 : Nat), by decide +kernel⟩,
   ⟨smp2, 0, 1, 0, (slotOfBundle (bundleAt smp2 0 (smp2.bank 0 1).pc) (1 + 0)), by decide +kernel⟩,
   ⟨smp3, 0, 1, 0, (slotOfBundle (bundleAt smp3 0 (smp3.bank 0 1).pc) (1 + 0)), by decide +kernel⟩⟩

/-- States and operands that meet the hypotheses of EngineOperationsIssue, clause by clause. -/
theorem witness_EngineOperationsIssue :
    (∃ (s : State) (e : Nat) (b : Nat) (x : Nat) (c : Instr), s.awake ∧ Alone s e b 3 x ∧ (s.bank e b).loops = [] ∧ spilled s e b = false ∧ mFault s e b (s.bank e b) x = none ∧ ((mSpan s e b (s.bank e b) x).all fun r => readOk s e b r.1 r.2) = true ∧ (opc x = 1 ∧ c = .mloadb e ∨ opc x = 2 ∧ c = .mloadf e)) ∧
    (∃ (s : State) (e : Nat) (b : Nat) (x : Nat) (c : Instr), s.awake ∧ Alone s e b 3 x ∧ (s.bank e b).loops = [] ∧ spilled s e b = false ∧ mFault s e b (s.bank e b) x = none ∧ ((mSpan s e b (s.bank e b) x).all fun r => readOk s e b r.1 r.2) = true ∧ (let k := s.bank e b; decide ((opc x = 3 ∧ c = .mmul e ∨ opc x = 4 ∧ c = .mmula e ∨ opc x = 5 ∧ c = .mconv e) ∧ k.weights.serves (mFmt x) = true)) = true) ∧
    (∃ (s : State) (e : Nat) (b : Nat) (x : Nat), s.awake ∧ Alone s e b 3 x ∧ (s.bank e b).loops = [] ∧ spilled s e b = false ∧ mFault s e b (s.bank e b) x = none ∧ ((mSpan s e b (s.bank e b) x).all fun r => readOk s e b r.1 r.2) = true ∧ opc x = 6) ∧
    (∃ (s : State) (e : Nat) (b : Nat) (x : Nat) (c : Instr) (R : Nat), s.awake ∧ Alone s e b 4 x ∧ (s.bank e b).loops = [] ∧ (let k := s.bank e b; decide ((opc x = 1 ∧ c = .chainOp e ∧ R = (chainResult k x (Config.freeValue s.fresh)).1 ∨ opc x = 2 ∧ c = .vmov e ∧ R = laneMerge k x (k.vec (vVA x)) ∨ opc x = 3 ∧ c = .vzero e ∧ R = laneMerge k x 0))) = true) ∧
    (∃ (s : State) (e : Nat) (b : Nat) (x : Nat) (c : Instr), s.awake ∧ Alone s e b 5 x ∧ (s.bank e b).loops = [] ∧ spilled s e b = false ∧ lFault s e b (s.bank e b) x = none ∧ (opc x = 1 ∧ c = .ldv e .clean ∨ opc x = 3 ∧ c = .lds e .clean ∨ opc x = 2 ∧ c = .stv e ∨ opc x = 4 ∧ c = .sts e ∨ opc x = 5 ∧ c = .dmain e ∨ opc x = 6 ∧ c = .dmaout e ∨ opc x = 0x12 ∧ c = .std e)) ∧
    (∃ (s : State) (e : Nat) (b : Nat) (x : Nat) (c : Instr), s.awake ∧ Alone s e b 5 x ∧ (s.bank e b).loops = [] ∧ spilled s e b = false ∧ lFault s e b (s.bank e b) x = none ∧ (let k := s.bank e b; decide ((opc x = 7 ∧ c = .stmS e ∨ opc x = 8 ∧ c = .ldmS e ∨ opc x = 9 ∧ c = .stmV e ∨ opc x = 0x0A ∧ c = .ldmV e ∨ opc x = 0x0B ∧ c = .stmP e ∨ opc x = 0x0C ∧ c = .ldmP e) ∧ multiMask k x ≠ 0)) = true) ∧
    (∃ (s : State) (e : Nat) (b : Nat) (x : Nat) (c : Instr), s.awake ∧ Alone s e b 5 x ∧ (s.bank e b).loops = [] ∧ spilled s e b = false ∧ lFault s e b (s.bank e b) x = none ∧ (opc x = 0x0D ∧ c = .savehL e ∨ opc x = 0x0E ∧ c = .savehU e ∨ opc x = 0x0F ∧ c = .resthL e ∨ opc x = 0x10 ∧ c = .resthU e ∨ opc x = 0x11 ∧ c = .ldd e)) :=
  ⟨⟨smp16, 0, 1, (slotOfBundle (bundleAt smp16 0 (smp16.bank 0 1).pc) 3), (.mloadb 0 : Instr), by decide +kernel⟩,
   ⟨smp17, 0, 1, (slotOfBundle (bundleAt smp17 0 (smp17.bank 0 1).pc) 3), (.mmul 0 : Instr), by decide +kernel⟩,
   ⟨smp18, 0, 1, (slotOfBundle (bundleAt smp18 0 (smp18.bank 0 1).pc) 3), by decide +kernel⟩,
   ⟨smp19, 0, 1, (slotOfBundle (bundleAt smp19 0 (smp19.bank 0 1).pc) 4), (.vmov 0 : Instr), 12345, by decide +kernel⟩,
   ⟨smp20, 0, 1, (slotOfBundle (bundleAt smp20 0 (smp20.bank 0 1).pc) 5), (.ldv 0 .clean : Instr), by decide +kernel⟩,
   ⟨smp21, 0, 1, (slotOfBundle (bundleAt smp21 0 (smp21.bank 0 1).pc) 5), (.stmS 0 : Instr), by decide +kernel⟩,
   ⟨smp22, 0, 1, (slotOfBundle (bundleAt smp22 0 (smp22.bank 0 1).pc) 5), (.savehL 0 : Instr), by decide +kernel⟩⟩

end W10

namespace W11

def ieUp := up [(Reg.IE_BANK_SS.SIZE 0 1, 64),(Reg.CLK_MODE.MODE, 2)] rn
def mkE (f : Bank → Bank) (g : Engine → Engine := id) (s : State := ieUp) : State :=
  s.setEng 0 (g { active := 1, staging := Mem.writeN [] 0 [1,2,3], banks := [(1, f { state := 1, s := [(3, 5), (63, 128)], pc := 64 })] })
def en1 : Entry := { id := 0, bank := 1, slot := 5, op := 3, dstS := 4, sOut := [(2, 77)] }
def tr1 : Transfer := { op := 8, addr := 64, mask := 6, link := 0, rx := 0, pc := 64, data := [], area := [] }
def job0 : Job := ⟨false, 3, 9, 128, 7, 8, 0⟩
def jobR : Job := ⟨true, 3, 9, 128, 7, 4608, 0⟩
def jobB : Job := ⟨false, 3, 9, 128, 7, 8, 1⟩
def jobq : State := up [(Reg.IE_CTRL.EN 0, 1),(Reg.IE_BANK_JOBQ.EN 0 1, 1),(Reg.IE_BANK_JOBQ.QUEUE 0 1, 3),(Reg.STR_Q_CFG.EN 3,1),(Reg.STR_Q_CFG.DEPTH_LOG2 3,4),(Reg.STR_Q_BASE_HI.ADDR 3, 8),(Reg.STR_Q_PEND.PEND 0, 8),(Reg.STR_Q_NOTIFY.TARGETS 3, 512)]
  ({ (mkE fun k => { k with state := 0 }) with mem := { State.reset.mem with larder := Mem.writeN [] 0 ((leBytes 8 (2^8*5 + 2^16 * 77 + 2^32 * 128)) ++ leBytes 8 1 ++ leBytes 8 64 ++ leBytes 8 5) } }.setQ 3 { marks := [false,false,false,true] })
def saved : State := let s := mkE id; { s with mem := { s.mem with dram := Mem.writeN [] 4608 (saveArea (s.bank 0 1) 1 false 2 192 0 5) } }
def ld0 : Loading := { addr := 64, codeOfs := 128, codeLen := 64, entry := 0, weightOfs := 192, w := 65536, work := 4096, codeAt := 0, spill := false }
def smp0 : State := mkE id (fun g => { g with entries := [en1] })
def smp3 : State := mkE (fun k => { k with transfer := some tr1 })
def smp4 : State := mkE (fun k => { k with dmaFault := true })
def smp5 : State := mkE (fun k => { k with job := some jobB, cycles := 65 })
def smp6 : State := mkE (fun k => { k with ring := { slots := [(0, (0, false))] } })
def smp8 : State := jobq
def smp9 : State := mkE (fun k => { k with state := 0, ready := some job0 })
def smp10 : State := (let s := saved; s.onBank 0 1 fun k => { k with state := 0, ready := some jobR })
def smp11 : State := mkE id (fun g => { g with active := 0, switching := some 1 })
def smp12 : State := mkE (fun k => { k with state := 2 })
def smp13 : State := up [(Reg.IE_BANK_EXC.RESUMABLE 0 1, 1)] (mkE (fun k => { k with state := 3, job := some job0 }))
def smp14 : State := mkE (fun k => { k with state := 4, evict := true, job := some job0 })
def smp15 : State := up [(Reg.IE_BANK_MODEL_STAT.BUSY 0 1, 1)] ieUp
def smp16 : State := up [(Reg.IE_BANK_MODEL_ADDR_LO.ADDR 0 1, 1)] ieUp
def smp17 : State := mkE (fun k => { k with state := 0, loading := some ld0 })
def smp18 : State := mkE (fun k => { k with state := 0, loading := some { ld0 with begun := true, done := true } })
def smp19 : State := viaNi 45 [24] smp0

/-- States and operands that meet the hypotheses of EngineCompletionsAndFaults, clause by clause. -/
theorem witness_EngineCompletionsAndFaults :
    (∃ (s : State) (e : Nat), s.awake ∧ engUp s e = true ∧ (match (s.eng e).entries with | [n] => decide (n.drop = false ∧ (n.slot = 3 ∨ n.slot = 4 ∨ n.slot = 5 ∧ 1 ≤ n.op ∧ n.op ≤ 4) ∧ (s.bank e n.bank).halting = false ∧ (s.bank e n.bank).ring.wait = [] ∧ n.sats = [] ∧ entryDue s n = true) | _ => false) = true) ∧
    (∃ (s : State) (e : Nat) (b : Nat), s.awake ∧ b ≠ 0 ∧ (s.bank e b).again = false ∧ (match (s.bank e b).transfer with | some tr => decide (7 ≤ tr.op ∧ tr.op ≤ 12 ∧ tr.mask ≠ 0 ∧ tr.mask < 2 ^ 64) | _ => false) = true) ∧
    (∃ (s : State) (e : Nat) (b : Nat), s.awake ∧ b ≠ 0 ∧ issuing s e b = true ∧ (s.bank e b).transfer = none ∧ (s.bank e b).dmaFault = true) ∧
    (∃ (s : State) (e : Nat) (b : Nat), s.awake ∧ b ≠ 0 ∧ issuing s e b = true ∧ (s.bank e b).transfer = none ∧ (match (s.bank e b).job with | some j => decide (j.budget ≠ 0 ∧ (s.bank e b).noBudget = false ∧ 64 * j.budget < (s.bank e b).cycles ∧ (s.bank e b).halting = false) | _ => false) = true) ∧
    (∃ (s : State) (e : Nat) (b : Nat) (j : Nat), s.awake ∧ engUp s e = true ∧ (match slotOf (s.bank e b).ring j with | some slot => decide (ringReady (s.bank e b).ring j = false ∧ (s.bank e b).state ≠ 2) | _ => false) = true) :=
  ⟨⟨smp0, 0, by decide +kernel⟩,
   ⟨smp3, 0, 1, by decide +kernel⟩,
   ⟨smp4, 0, 1, by decide +kernel⟩,
   ⟨smp5, 0, 1, by decide +kernel⟩,
   ⟨smp6, 0, 1, 0, by decide +kernel⟩⟩

/-- States and operands that meet the hypotheses of EngineJobsAndBanks, clause by clause. -/
theorem witness_EngineJobsAndBanks :
    (∃ (s : State) (e : Nat), s.awake ∧ s.flag (Reg.IE_CTRL.EN e) = false) ∧
    (∃ (s : State) (e : Nat) (b : Nat), s.awake ∧ e < 4 ∧ b < 4 ∧ engUp s e = true ∧ eventLine s (9 + e) = true ∧ (s.eng e).doorbell = false ∧ s.flag (Reg.IE_CTRL.EN e) = true ∧ (∀ c : Nat, c < 4 → s.flag (Reg.IE_BANK_JOBQ.EN e c) = (c == b)) ∧ (let n := s.rd (Reg.IE_BANK_JOBQ.QUEUE e b); decide (s.flag (Reg.STR_Q_CFG.EN n) = true ∧ (s.q n).marks = [false, false, false, true] ∧ (s.q n).cut = false ∧ s.mem.larderBad = [] ∧ (s.bank e b).state = 0 ∧ (s.bank e b).ready = none ∧ (s.bank e b).job = none ∧ (s.bank e b).loading = none ∧ (match parseJob ((List.range 4).map fun i => s.bytesAt (qBase s n + 8 * (((s.q n).head + i) % qDepth s n)) 8) with | some j => decide ((s.q n).head < qDepth s n) | _ => false) = true)) = true) ∧
    (∃ (s : State) (e : Nat) (b : Nat), s.awake ∧ b < 4 ∧ mayStart s e b = true ∧ (s.eng e).active = b ∧ spilled s e b = false ∧ (match (s.bank e b).ready with | some j => decide (j.resume = false) | _ => false) = true) ∧
    (∃ (s : State) (e : Nat) (b : Nat), s.awake ∧ b < 4 ∧ mayStart s e b = true ∧ (s.eng e).active = b ∧ spilled s e b = false ∧ (match (s.bank e b).ready with | some j => decide (j.resume = true) | _ => false) = true) ∧
    (∃ (s : State) (e : Nat), s.awake ∧ (match (s.eng e).switching with | some b => decide ((s.eng e).entries = [] ∧ (s.bank e b).evict = false) | _ => false) = true) ∧
    (∃ (s : State) (e : Nat) (b : Nat), s.awake ∧ b < 4 ∧ engUp s e = true ∧ (s.eng e).active = b ∧ (s.eng e).switching = none ∧ higherWork s e b = false ∧ (s.bank e b).state = 2) ∧
    (∃ (s : State) (rq : Requester) (e : Nat) (b : Nat), s.awake ∧ e < 4 ∧ b < 4 ∧ (s.bank e b).state = 3 ∧ passes (.bankResumeCmd rq e b 0) s = true ∧ s.flag (Reg.IE_BANK_EXC.RESUMABLE e b) = true ∧ (s.eng e).active = b ∧ (s.eng e).switching = none ∧ higherWork s e b = false) ∧
    (∃ (s : State) (rq : Requester) (e : Nat) (b : Nat), s.awake ∧ e < 4 ∧ b < 4 ∧ (s.bank e b).state = 3 ∧ passes (.bankAbort rq e b) s = true ∧ s.flag (Reg.IE_CTRL.EN e) = false) ∧
    (∃ (s : State) (rq : Requester) (e : Nat) (b : Nat), s.awake ∧ e < 4 ∧ b < 4 ∧ passes (.bankEvict rq e b 0) s = true ∧ issuing s e b = true ∧ (s.bank e b).transfer = none) ∧
    (∃ (s : State) (e : Nat) (b : Nat), s.awake ∧ e < 4 ∧ b < 4 ∧ engUp s e = true ∧ (s.bank e b).state = 4 ∧ (s.eng e).entries = [] ∧ s.flag (Reg.IE_CTRL.EN e) = false) ∧
    (∃ (s : State) (rq : Requester) (e : Nat) (o : Nat) (d : Nat), s.awake ∧ e < 4 ∧ o < 524288 ∧ o % 4 = 0 ∧ passes (.codeStoreWrite rq e o d) s = true ∧ o % 64 ≠ 0x3C) ∧
    (∃ (s : State) (rq : Requester) (e : Nat) (o : Nat) (d : Nat), s.awake ∧ e < 4 ∧ o < 524288 ∧ o % 4 = 0 ∧ passes (.codeStoreWrite rq e o d) s = true ∧ o % 64 = 0x3C ∧ (s.eng e).collect = []) ∧
    (∃ (s : State) (rq : Requester) (e : Nat) (b : Nat) (o : Nat) (d : Nat), s.awake ∧ e < 4 ∧ b < 4 ∧ o < 0x200 ∧ o % 4 = 0 ∧ ((s.bank e b).state = 0 ∨ (s.bank e b).state = 2 ∨ (s.bank e b).state = 3) ∧ passes (.bankViewAccess rq e b false o d) s = true) ∧
    (∃ (s : State) (rq : Requester) (e : Nat) (b : Nat) (o : Nat) (d : Nat), s.awake ∧ e < 4 ∧ b < 4 ∧ o < 0x200 ∧ o % 4 = 0 ∧ ((s.bank e b).state = 0 ∨ (s.bank e b).state = 2 ∨ (s.bank e b).state = 3) ∧ passes (.bankViewAccess rq e b true o d) s = true ∧ rq.ni = 45 ∧ 8 ≤ o) ∧
    (∃ (s : State) (rq : Requester) (e : Nat) (b : Nat) (o : Nat) (d : Nat), s.awake ∧ e < 4 ∧ b < 4 ∧ o < 0x200 ∧ o % 4 = 0 ∧ ((s.bank e b).state = 0 ∨ (s.bank e b).state = 2 ∨ (s.bank e b).state = 3) ∧ passes (.bankViewAccess rq e b true o d) s = true ∧ rq.ni ≠ 45) ∧
    (∃ (s : State) (rq : Requester) (e : Nat) (b : Nat), s.awake ∧ e < 4 ∧ b < 4 ∧ passes (.clrSat rq e b) s = true) :=
  ⟨⟨smp0, 0, by decide +kernel⟩,
   ⟨smp8, 0, 1, by decide +kernel⟩,
   ⟨smp9, 0, 1, by decide +kernel⟩,
   ⟨smp10, 0, 1, by decide +kernel⟩,
   ⟨smp11, 0, by decide +kernel⟩,
   ⟨smp12, 0, 1, by decide +kernel⟩,
   ⟨smp13, (⟨36,0⟩ : Requester), 0, 1, by decide +kernel⟩,
   ⟨smp13, (⟨36,0⟩ : Requester), 0, 1, by decide +kernel⟩,
   ⟨smp0, (⟨36,0⟩ : Requester), 0, 1, by decide +kernel⟩,
   ⟨smp14, 0, 1, by decide +kernel⟩,
   ⟨smp0, (⟨36,0⟩ : Requester), 0, 0, 0, by decide +kernel⟩,
   ⟨smp0, (⟨36,0⟩ : Requester), 0, 60, 0, by decide +kernel⟩,
   ⟨smp0, (⟨36,0⟩ : Requester), 0, 0, 0, 0, by decide +kernel⟩,
   ⟨smp19, (⟨45,0⟩ : Requester), 0, 0, 8, 0, by decide +kernel⟩,
   ⟨smp0, (⟨36,0⟩ : Requester), 0, 0, 0, 0, by decide +kernel⟩,
   ⟨smp0, (⟨36,0⟩ : Requester), 0, 0, by decide +kernel⟩⟩

/-- States and operands that meet the hypotheses of ModelsInBanks, clause by clause. -/
theorem witness_ModelsInBanks :
    (∃ (s : State) (rq : Requester) (e : Nat) (b : Nat) (d : Nat), s.awake ∧ e < 4 ∧ b < 4 ∧ d < 2 ^ 30 ∧ passes (.modelActivate rq e b d) s = true ∧ s.flag (Reg.IE_BANK_MODEL_STAT.BUSY e b) = true) ∧
    (∃ (s : State) (rq : Requester) (e : Nat) (b : Nat) (d : Nat), s.awake ∧ e < 4 ∧ b < 4 ∧ d < 2 ^ 30 ∧ passes (.modelActivate rq e b d) s = true ∧ s.flag (Reg.IE_BANK_MODEL_STAT.BUSY e b) = false ∧ (modelAddr s e b % 64 ≠ 0 ∨ inMemory (modelAddr s e b) 128 = false)) ∧
    (∃ (s : State) (rq : Requester) (e : Nat) (b : Nat) (d : Nat), s.awake ∧ e < 4 ∧ b < 4 ∧ d < 2 ^ 30 ∧ passes (.modelActivate rq e b d) s = true ∧ s.flag (Reg.IE_BANK_MODEL_STAT.BUSY e b) = false ∧ modelAddr s e b % 64 = 0 ∧ inMemory (modelAddr s e b) 128 = true) ∧
    (∃ (s : State) (e : Nat) (b : Nat), s.awake ∧ (match (s.bank e b).loading with | some l => decide (engUp s e = true ∧ (s.bank e b).state = 0 ∧ (s.bank e b).ready = none ∧ l.begun = false) | _ => false) = true) ∧
    (∃ (s : State) (e : Nat) (b : Nat), s.awake ∧ (match (s.bank e b).loading with | some l => decide (engUp s e = true ∧ l.begun = true ∧ l.done = true ∧ copiesRun s e b = true ∧ s.flag (Reg.IE_CTRL.EN e) = false) | _ => false) = true) ∧
    (∃ (s : State) (e : Nat) (b : Nat) (cause : Nat), s.awake ∧ (match (s.bank e b).loading with | some l => decide (engUp s e = true ∧ l.begun = true ∧ l.err = none ∧ cause ≤ 1) | _ => false) = true) ∧
    (∃ (s : State) (rq : Requester) (e : Nat) (b : Nat) (d : Nat), s.awake ∧ e < 4 ∧ b < 4 ∧ d < 2 ^ 30 ∧ passes (.modelDrop rq e b d) s = true ∧ s.flag (Reg.IE_BANK_MODEL_STAT.BUSY e b) = false) :=
  ⟨⟨smp15, (⟨36,0⟩ : Requester), 0, 1, 0, by decide +kernel⟩,
   ⟨smp16, (⟨36,0⟩ : Requester), 0, 1, 0, by decide +kernel⟩,
   ⟨smp0, (⟨36,0⟩ : Requester), 0, 0, 0, by decide +kernel⟩,
   ⟨smp17, 0, 1, by decide +kernel⟩,
   ⟨smp18, 0, 1, by decide +kernel⟩,
   ⟨smp18, 0, 1, 0, by decide +kernel⟩,
   ⟨smp0, (⟨36,0⟩ : Requester), 0, 0, 0, by decide +kernel⟩⟩

end W11

namespace W12

def rb (role carriers mu layers : Nat) : List Byte :=
  let car : List Nat := [mu, 2, 20, layers, 2, 3, 10, 7, 8, 9]
  (List.range 1024).map fun i => BitVec.ofNat 8 (if i = 0 then role else if i = 1 then carriers else if 64 ≤ i ∧ i < 74 then car.getD (i - 64) 0 else if 448 ≤ i ∧ i < 458 then car.getD (i - 448) 0 else if i = 960 then 15 else if i = 988 then 255 else if i = 128 then 0 else 0)
def radS (role carriers mu layers time : Nat) (fs : List (Fld × Nat)) (f : Radio → Radio := id) : State :=
  let s := viaNi 37 [8, 9, 10, 11, 47] (tm rn time)
  up ([(Reg.RAD_STAT.RELEASED,1),(Reg.RAD_STAT.MAX_LAYERS,layers),(Reg.STR_Q_CFG.EN 8,1),(Reg.STR_Q_CFG.DEPTH_LOG2 8,6),(Reg.STR_Q_BASE_HI.ADDR 8,8),(Reg.STR_Q_CFG.EN 7,1),(Reg.STR_Q_CFG.DEPTH_LOG2 7,4),(Reg.STR_Q_BASE_LO.ADDR 7,0x8000),(Reg.STR_Q_BASE_HI.ADDR 7,8)] ++ (List.range 4).map (fun p => (Reg.RAD_ETH_CFG.EN p, 1)) ++ fs) { s with cfg := { s.cfg with radioBody := some (rb role carriers mu layers) }, rad := f s.rad }
def smp0 : State := radS 2 1 1 2 0 [(Reg.RAD_STAT.RELEASED,0)]
def smp1 : State := radS 2 1 1 2 0 []
def smp2 : State := radS 2 1 1 2 4915200 [(Reg.RAD_STAT.RELEASED,0),(Reg.RAD_STAT.CALIBRATING,1)]
def smp4 : State := radS 1 2 0 2 4915200 []
def smp6 : State := radS 2 2 1 4 491520 [(Reg.SYS_GOV_STAT.LEVEL,3)] (fun r => { r with beamPend := [(0, 7, [1,2,3,4,5,6,7,8])] })
def smp7 : State := radS 2 2 1 2 491520 [] (fun r => { r with stopMask := 3, streams := 3, stopCause := 1, fapi := [(0,2)] })
def smp8 : State := radS 2 2 1 2 491520 [] (fun r => { r with stopMask := 1, streams := 1, stopCause := 1 })
def smp9 : State := radS 2 2 1 2 (4915200*400) [(Reg.RAD_STAT.STARTED,3)]
def msg (type plane symbol : Nat) (octets : Nat := 100) (eaxc : Nat := 0) (ok : Bool := true) : FhMsg :=
  { octets := octets, overEthernet := true, headerOk := ok, type := type, section_ := 1, extension := false, beam := 0, comp := 1, eaxc := eaxc, plane := plane, symbol := symbol, first := 0, count := 12, data := List.replicate 48 3 }
def smp10 : State := radS 3 1 1 2 0 [] (fun r => { r with reqs := [⟨0, 0x80, 0, 0, 0, [⟨0, 1, 0, [], []⟩], []⟩] })
def smp11 : State := radS 1 1 1 2 0 [] (fun r => { r with cplane := [⟨0, 1, 0, 0, 12, 0⟩] })
def smp12 : State := radS 1 1 1 2 0 [] (fun r => { r with cplane := [⟨0, 1, 100000, 0, 12, 0⟩] })
def smp13 : State := viaNi 37 [0, 1, 2, 3, 4, 5, 6, 7] (radS 2 1 1 2 0 [])

/-- States and operands that meet the hypotheses of RadioReleaseAndSlots, clause by clause. -/
theorem witness_RadioReleaseAndSlots :
    (∃ (s : State) (rq : Requester) (d : Nat), s.awake ∧ passes (.radioRelease rq d) s = true ∧ bit d 1 = false ∧ releaseReason s = 0) ∧
    (∃ (s : State) (rq : Requester) (d : Nat), s.awake ∧ passes (.radioRelease rq d) s = true ∧ bit d 1 = false ∧ releaseReason s ≠ 0) ∧
    (∃ (s : State) (ok : Bool), s.awake ∧ radUp s = true ∧ s.flag Reg.RAD_STAT.CALIBRATING = true ∧ radioTime s % 4915200 = 0 ∧ s.now ≤ s.rad.calAt.toNat + 14745600 ∧ s.flag Reg.CLK_MODE_STAT.REFCLK_OK = true ∧ ok = true) ∧
    (∃ (s : State) (ok : Bool), s.awake ∧ radUp s = true ∧ s.flag Reg.RAD_STAT.CALIBRATING = true ∧ radioTime s % 4915200 = 0 ∧ s.now ≤ s.rad.calAt.toNat + 14745600 ∧ (s.flag Reg.CLK_MODE_STAT.REFCLK_OK = false ∨ ok = false)) ∧
    (∃ (s : State) (rq : Requester) (d : Nat), s.awake ∧ passes (.radioWithdraw rq d) s = true ∧ bit d 0 = false ∧ s.flag Reg.RAD_STAT.RELEASED = true) ∧
    (∃ (s : State) (chain : Nat) (p : Nat), s.awake ∧ radUp s = true ∧ s.flag Reg.RAD_STAT.RELEASED = true ∧ chain < 4 ∧ p < 256) ∧
    (∃ (s : State) (c : Nat), s.awake ∧ radUp s = true ∧ s.flag Reg.RAD_STAT.RELEASED = true ∧ carrierOn s c = true ∧ c < 2 ∧ radioTime s % 4915200 = 0) ∧
    (∃ (s : State) (c : Nat), s.awake ∧ radUp s = true ∧ s.flag Reg.RAD_STAT.RELEASED = true ∧ carrierOn s c = true ∧ c < 2 ∧ atSlot s c = true ∧ s.rad.gatePend = [] ∧ bit s.rad.fapiStop c = false ∧ s.rad.uplane = [] ∧ bit s.rad.stopMask c = false ∧ s.rad.beamPend = [] ∧ (s.rd Reg.SYS_GOV_STAT.LEVEL < 3 ∨ configLayers (radioBody s) ≤ 2) ∧ s.rd Reg.RAD_STAT.MAX_LAYERS = configLayers (radioBody s) ∧ s.rad.reqs = [] ∧ s.rad.cplane = []) ∧
    (∃ (s : State) (c : Nat), s.awake ∧ radUp s = true ∧ s.flag Reg.RAD_STAT.RELEASED = true ∧ carrierOn s c = true ∧ c < 2 ∧ atSlot s c = true ∧ s.rad.gatePend = [] ∧ bit s.rad.fapiStop c = false ∧ s.rad.uplane = [] ∧ bit s.rad.stopMask c = false ∧ s.rad.beamPend = [] ∧ (s.rd Reg.SYS_GOV_STAT.LEVEL < 3 ∨ configLayers (radioBody s) ≤ 2) ∧ s.rd Reg.RAD_STAT.MAX_LAYERS = configLayers (radioBody s) ∧ (match s.rad.reqs with | [r] => decide (r.carrier = c ∧ r.type = 0x80 ∧ r.boundary = s.now ∧ r.crates = [] ∧ (∀ p ∈ r.pdus, p.layers ≤ configLayers (radioBody s)) ∧ s.rad.cplane = [] ∧ radioRole (radioBody s) = 3 ∧ slotHasDl s c = true) | _ => false) = true) ∧
    (∃ (s : State) (c : Nat), s.awake ∧ radUp s = true ∧ s.flag Reg.RAD_STAT.RELEASED = true ∧ carrierOn s c = true ∧ c < 2 ∧ atSlot s c = true ∧ s.rad.gatePend = [] ∧ bit s.rad.fapiStop c = false ∧ s.rad.uplane = [] ∧ bit s.rad.stopMask c = false ∧ s.rad.beamPend = [] ∧ (s.rd Reg.SYS_GOV_STAT.LEVEL < 3 ∨ configLayers (radioBody s) ≤ 2) ∧ s.rd Reg.RAD_STAT.MAX_LAYERS = configLayers (radioBody s) ∧ s.rad.reqs = [] ∧ radioRole (radioBody s) = 1 ∧ (match s.rad.cplane with | [x] => decide (x.plane = 1 ∧ bits x.eaxc 4 4 = c ∧ windowEnded s 1 x.symbol = true) | _ => false) = true) ∧
    (∃ (s : State) (c : Nat), s.awake ∧ radUp s = true ∧ s.flag Reg.RAD_STAT.RELEASED = true ∧ carrierOn s c = true ∧ c < 2 ∧ atSlot s c = true ∧ s.rad.gatePend = [] ∧ bit s.rad.fapiStop c = false ∧ s.rad.uplane = [] ∧ bit s.rad.stopMask c = false ∧ s.rad.reqs = [] ∧ s.rad.cplane = [] ∧ 3 ≤ s.rd Reg.SYS_GOV_STAT.LEVEL ∧ 2 < configLayers (radioBody s) ∧ s.rd Reg.RAD_STAT.MAX_LAYERS ≠ 2 ∧ (match s.rad.beamPend with | [(c_, at_, bs)] => decide (c_ = c ∧ at_ + 4096 ≤ s.now) | _ => false) = true) ∧
    (∃ (s : State) (c : Nat), s.awake ∧ radUp s = true ∧ s.flag Reg.RAD_STAT.RELEASED = true ∧ carrierOn s c = true ∧ c < 2 ∧ atSlot s c = true ∧ s.rad.gatePend = [] ∧ bit s.rad.fapiStop c = false ∧ s.rad.uplane = [] ∧ bit s.rad.stopMask c = true ∧ s.rad.reqs = [] ∧ clrBit s.rad.stopMask c ≠ 0) ∧
    (∃ (s : State) (c : Nat), s.awake ∧ radUp s = true ∧ s.flag Reg.RAD_STAT.RELEASED = true ∧ carrierOn s c = true ∧ c < 2 ∧ atSlot s c = true ∧ s.rad.gatePend = [] ∧ bit s.rad.fapiStop c = false ∧ s.rad.uplane = [] ∧ bit s.rad.stopMask c = true ∧ s.rad.reqs = [] ∧ clrBit s.rad.stopMask c = 0) ∧
    (∃ (s : State) (rq : Requester) (c : Nat) (d : Nat), s.awake ∧ c < 2 ∧ d % 4 = 2 ^ c ∧ passes (.beamCommit rq d) s = true ∧ readsClean s radioRq (s.rdPair (Reg.RAD_BEAM_BASE_LO.ADDR c) (Reg.RAD_BEAM_BASE_HI.ADDR c)) 4096 = true) ∧
    (∃ (s : State) (p : Nat), s.awake ∧ radUp s = true ∧ s.domUp 19 = true ∧ p < 4 ∧ s.flag (Reg.RAD_ETH_CFG.EN p) = true ∧ bit (fhPorts s) p = true) ∧
    (∃ (s : State) (p : Nat) (m : FhMsg), s.awake ∧ radUp s = true ∧ s.domUp 19 = true ∧ p < 4 ∧ s.flag (Reg.RAD_ETH_CFG.EN p) = true ∧ bit (fhPorts s) p = true ∧ s.cfg.radioBody.isSome = true ∧ radioRole (radioBody s) ≠ 3 ∧ 9216 < m.octets) ∧
    (∃ (s : State) (p : Nat) (m : FhMsg), s.awake ∧ radUp s = true ∧ s.domUp 19 = true ∧ p < 4 ∧ s.flag (Reg.RAD_ETH_CFG.EN p) = true ∧ bit (fhPorts s) p = true ∧ s.cfg.radioBody.isSome = true ∧ radioRole (radioBody s) ≠ 3 ∧ m.octets ≤ 9216 ∧ m.overEthernet = true ∧ m.headerOk = true ∧ m.type = 5) ∧
    (∃ (s : State) (p : Nat) (m : FhMsg), s.awake ∧ radUp s = true ∧ s.domUp 19 = true ∧ p < 4 ∧ s.flag (Reg.RAD_ETH_CFG.EN p) = true ∧ bit (fhPorts s) p = true ∧ s.cfg.radioBody.isSome = true ∧ radioRole (radioBody s) ≠ 3 ∧ m.octets ≤ 9216 ∧ (m.type ≠ 5 ∨ m.overEthernet = false ∨ m.headerOk = false) ∧ (fhSupported m = false ∨ eaxcOk s m.eaxc = false ∨ fhPlaneOk s m = false ∨ (radioRole (radioBody s) = 1 ∧ m.plane = 0 ∧ s.rad.limited = true ∧ 2 ≤ m.eaxc % 16))) ∧
    (∃ (s : State) (p : Nat) (m : FhMsg), s.awake ∧ radUp s = true ∧ s.domUp 19 = true ∧ p < 4 ∧ s.flag (Reg.RAD_ETH_CFG.EN p) = true ∧ bit (fhPorts s) p = true ∧ s.cfg.radioBody.isSome = true ∧ radioRole (radioBody s) ≠ 3 ∧ m.octets ≤ 9216 ∧ fhSupported m = true ∧ eaxcOk s m.eaxc = true ∧ fhPlaneOk s m = true ∧ (radioRole (radioBody s) ≠ 1 ∨ m.plane ≠ 0 ∨ s.rad.limited = false ∨ m.eaxc % 16 < 2) ∧ fhWindow s m = 1) ∧
    (∃ (s : State) (p : Nat) (m : FhMsg), s.awake ∧ radUp s = true ∧ s.domUp 19 = true ∧ p < 4 ∧ s.flag (Reg.RAD_ETH_CFG.EN p) = true ∧ bit (fhPorts s) p = true ∧ s.cfg.radioBody.isSome = true ∧ radioRole (radioBody s) ≠ 3 ∧ m.octets ≤ 9216 ∧ fhSupported m = true ∧ eaxcOk s m.eaxc = true ∧ fhPlaneOk s m = true ∧ (radioRole (radioBody s) ≠ 1 ∨ m.plane ≠ 0 ∨ s.rad.limited = false ∨ m.eaxc % 16 < 2) ∧ fhWindow s m = 2) ∧
    (∃ (s : State) (p : Nat) (m : FhMsg), s.awake ∧ radUp s = true ∧ s.domUp 19 = true ∧ p < 4 ∧ s.flag (Reg.RAD_ETH_CFG.EN p) = true ∧ bit (fhPorts s) p = true ∧ s.cfg.radioBody.isSome = true ∧ radioRole (radioBody s) ≠ 3 ∧ m.octets ≤ 9216 ∧ fhSupported m = true ∧ eaxcOk s m.eaxc = true ∧ fhPlaneOk s m = true ∧ (radioRole (radioBody s) ≠ 1 ∨ m.plane ≠ 0 ∨ s.rad.limited = false ∨ m.eaxc % 16 < 2) ∧ fhWindow s m = 0 ∧ (m.type = 2 ∨ radioRole (radioBody s) ≠ 1 ∨ hasSection s m = true)) ∧
    (∃ (s : State) (p : Nat) (m : FhMsg), s.awake ∧ radUp s = true ∧ s.domUp 19 = true ∧ p < 4 ∧ s.flag (Reg.RAD_ETH_CFG.EN p) = true ∧ bit (fhPorts s) p = true ∧ s.cfg.radioBody.isSome = true ∧ radioRole (radioBody s) ≠ 3 ∧ m.octets ≤ 9216 ∧ fhSupported m = true ∧ eaxcOk s m.eaxc = true ∧ fhPlaneOk s m = true ∧ (radioRole (radioBody s) ≠ 1 ∨ m.plane ≠ 0 ∨ s.rad.limited = false ∨ m.eaxc % 16 < 2) ∧ fhWindow s m = 0 ∧ m.type ≠ 2 ∧ radioRole (radioBody s) = 1 ∧ hasSection s m = false) :=
  ⟨⟨smp0, (⟨36,0⟩ : Requester), 0, by decide +kernel⟩,
   ⟨smp1, (⟨36,0⟩ : Requester), 0, by decide +kernel⟩,
   ⟨smp2, true, by decide +kernel⟩,
   ⟨smp2, false, by decide +kernel⟩,
   ⟨smp1, (⟨36,0⟩ : Requester), 0, by decide +kernel⟩,
   ⟨smp1, 0, 0, by decide +kernel⟩,
   ⟨smp1, 0, by decide +kernel⟩,
   ⟨smp1, 0, by decide +kernel⟩,
   ⟨smp10, 0, by decide +kernel⟩,
   ⟨smp11, 0, by decide +kernel⟩,
   ⟨smp6, 0, by decide +kernel⟩,
   ⟨smp7, 0, by decide +kernel⟩,
   ⟨smp8, 0, by decide +kernel⟩,
   ⟨smp13, (⟨36,0⟩ : Requester), 0, 1, by decide +kernel⟩,
   ⟨smp0, 0, by decide +kernel⟩,
   ⟨smp0, 0, (msg 0 0 100000 10000 : FhMsg), by decide +kernel⟩,
   ⟨smp0, 0, (msg 5 0 0 : FhMsg), by decide +kernel⟩,
   ⟨smp0, 0, (msg 0 0 100000 : FhMsg), by decide +kernel⟩,
   ⟨smp4, 0, (msg 2 1 5200000 : FhMsg), by decide +kernel⟩,
   ⟨smp4, 0, (msg 0 0 100000 : FhMsg), by decide +kernel⟩,
   ⟨smp11, 0, (msg 2 1 100000 : FhMsg), by decide +kernel⟩,
   ⟨smp11, 0, (msg 0 0 100000 : FhMsg), by decide +kernel⟩⟩

/-- States and operands that meet the hypotheses of FapiMessages, clause by clause. -/
theorem witness_FapiMessages :
    (∃ (s : State) (c : Nat), s.awake ∧ fapiUp s c = true ∧ c < 2) ∧
    (∃ (s : State) (c : Nat) (tlvs : List ConfigTlv), s.awake ∧ fapiUp s c = true ∧ c < 2 ∧ tlvs.filter (badTlv s c) = []) ∧
    (∃ (s : State) (c : Nat) (tlvs : List ConfigTlv), s.awake ∧ fapiUp s c = true ∧ c < 2 ∧ tlvs.filter (badTlv s c) ≠ []) ∧
    (∃ (s : State) (c : Nat), s.awake ∧ fapiUp s c = true ∧ c < 2 ∧ s.flag Reg.RAD_STAT.RELEASED = true) ∧
    (∃ (s : State) (c : Nat), s.awake ∧ fapiUp s c = true ∧ c < 2 ∧ s.flag Reg.RAD_STAT.RELEASED = false) ∧
    (∃ (s : State) (c : Nat), s.awake ∧ fapiUp s c = true ∧ c < 2 ∧ bit (s.rd Reg.RAD_STAT.STARTED) c = true) ∧
    (∃ (s : State) (c : Nat), s.awake ∧ fapiUp s c = true ∧ c < 2 ∧ bit (s.rd Reg.RAD_STAT.STARTED) c = false) ∧
    (∃ (s : State) (c : Nat), s.awake ∧ fapiUp s c = true ∧ c < 2) ∧
    (∃ (s : State) (c : Nat), s.awake ∧ fapiUp s c = true ∧ c < 2) ∧
    (∃ (s : State) (c : Nat), s.awake ∧ fapiOn s c = true ∧ (radUp s = false ∨ s.rad.allocs = [] ∧ s.rad.blocks = [] ∧ s.rd Reg.RAD_LDPC_CUT.COUNT < 2 ^ 32)) :=
  ⟨⟨smp0, 0, by decide +kernel⟩,
   ⟨smp0, 0, ([] : List ConfigTlv), by decide +kernel⟩,
   ⟨smp0, 0, ([⟨0x1000, 3, some (1,1), none⟩,⟨0x1001,0,none,some .ptRs⟩] : List ConfigTlv), by decide +kernel⟩,
   ⟨smp1, 0, by decide +kernel⟩,
   ⟨smp0, 0, by decide +kernel⟩,
   ⟨smp9, 0, by decide +kernel⟩,
   ⟨smp0, 0, by decide +kernel⟩,
   ⟨smp0, 0, by decide +kernel⟩,
   ⟨smp0, 0, by decide +kernel⟩,
   ⟨smp9, 0, by decide +kernel⟩⟩

end W12

namespace W13

def rb (role carriers mu layers : Nat) : List Byte :=
  let car : List Nat := [mu, 2, 20, layers, 2, 3, 10, 7, 8, 9]
  (List.range 1024).map fun i => BitVec.ofNat 8 (if i = 0 then role else if i = 1 then carriers else if 64 ≤ i ∧ i < 74 then car.getD (i - 64) 0 else if 448 ≤ i ∧ i < 458 then car.getD (i - 448) 0 else if i = 960 then 15 else if i = 988 then 255 else if i = 128 then 0 else 0)
def radS (role carriers mu layers time : Nat) (fs : List (Fld × Nat)) (f : Radio → Radio := id) : State :=
  let s := viaNi 37 [8, 9, 10, 11, 47] (tm rn time)
  up ([(Reg.RAD_STAT.RELEASED,1),(Reg.RAD_STAT.MAX_LAYERS,layers),(Reg.STR_Q_CFG.EN 8,1),(Reg.STR_Q_CFG.DEPTH_LOG2 8,6),(Reg.STR_Q_BASE_HI.ADDR 8,8),(Reg.STR_Q_CFG.EN 7,1),(Reg.STR_Q_CFG.DEPTH_LOG2 7,4),(Reg.STR_Q_BASE_LO.ADDR 7,0x8000),(Reg.STR_Q_BASE_HI.ADDR 7,8)] ++ (List.range 4).map (fun p => (Reg.RAD_ETH_CFG.EN p, 1)) ++ fs) { s with cfg := { s.cfg with radioBody := some (rb role carriers mu layers) }, rad := f s.rad }
def al0 : Alloc := { id := 3, tag := 77, carrier := 0, sfn := 0, slot := 0, slotEnd := 245760, guardAt := 245760 + 73728, mode := 0, thresh := 10, pdu := ⟨false, false, true, 9, 1, 240000, [⟨1, 100, 100, 4⟩, ⟨1, 100, 100, 4⟩]⟩, g := 4, desc := 0xC0100000, inputs := [], cl := [0xC0100001], ll := [], left := 2 }
def aS (time : Nat) (as : List Alloc) (f : Radio → Radio := id) (fs : List (Fld × Nat) := []) : State :=
  let s := radS 2 1 1 2 time ([(Reg.RAD_STAT.STARTED,1),(Reg.STR_POOL_BASE_HI.ADDR 3,8),(Reg.STR_POOL_BASE_LO.ADDR 3,0x20000),(Reg.STR_POOL_COUNT.COUNT 3,8),(Reg.RAD_HARQ_CFG.BUFS,2),(Reg.RAD_LR_CFG.CQ,7)] ++ fs) (fun r => f { r with allocs := as })
  let s := s.setFree 3 [2,3,4,5]
  let s := ((s.setCrate 3 0 { alloc := true, gen := 1, owner := 0x94 }).setCrate 3 1 { alloc := true, gen := 1, owner := 0x94 }).setFree 0 [4]
  let s := s.storeBytes (0x800020000) (leBytes 2 77 ++ [0] ++ leBytes 1 0 ++ leBytes 2 1 ++ [0,1,0,0,5,0] ++ leBytes 4 100)
  let s := s.storeBytes 0x800008000 (leBytes 8 77)
  (s.setCrate 0 4 {gen := 5}).setQ 7 { marks := [true] }
def smp0 : State := aS 245760 []
def smp4 : State := aS 245760 [{ al0 with engine := some 1 }]
def smp5 : State := aS 245760 [al0]
def smp7 : State := aS 245760 [{ al0 with engine := some 1, clDone := true }]
def smp8 : State := aS 400000 [{al0 with engine := some 1}]
def smp12 : State := aS 400000 [{ al0 with chosen := some 1 }] (fun r => { r with islands := [(0, ⟨3, 0, 300000, 8, [0, 0, 0]⟩), (1, ⟨3, 1, 300000, 8, [0, 0, 0]⟩)], harq := [(1,(0,9,1))] })
def smp13 : State := aS 400000 [{ al0 with chosen := some 1, left := 1 }] (fun r => { r with islands := [(0, ⟨3, 1, 300000, 8, [0, 0, 0]⟩)], harq := [(1,(0,9,1))] })
def smp15 : State := aS (245760*3+126976) [{ al0 with chosen := some 1, crc := some true, payload := [1,2,3], engine := some 1 }]
def smp16 : State := aS (245760*3+126976) [{ al0 with chosen := some 1, crc := some false }]

/-- States and operands that meet the hypotheses of ReceiverGateAndDecoder, clause by clause. -/
theorem witness_ReceiverGateAndDecoder :
    (∃ (s : State) (h : Nat) (p : PuschInfo) (c : Nat), s.awake ∧ radUp s = true ∧ s.flag Reg.RAD_STAT.RELEASED = true ∧ readyInTime s p = true ∧ readsClean s radioRq (crateAddr s h) 256 = true ∧ c < 2 ∧ c = field (s.bytesAt (crateAddr s h) 256) 2 1 ∧ carrierOn s c = true ∧ 2 * llrCrates (field (s.bytesAt (crateAddr s h) 256) 12 4) ≤ (s.freeStack 3).length) ∧
    (∃ (s : State) (id : Nat), s.awake ∧ radUp s = true ∧ (match allocOf s id with | some a => decide (a.chosen = none ∧ a.noCl = false ∧ classicalInTime s a.pdu = true ∧ a.engine.isSome = true ∧ a.comp = none) | _ => false) = true) ∧
    (∃ (s : State) (id : Nat), s.awake ∧ radUp s = true ∧ (match allocOf s id with | some a => decide (a.chosen = none ∧ a.noCl = false ∧ classicalInTime s a.pdu = true ∧ (a.engine = none ∨ a.comp.isSome = true) ∧ a.reported = false ∧ a.pdu.blocks ≠ [] ∧ a.carrier < 2) | _ => false) = true) ∧
    (∃ (s : State), s.awake ∧ radUp s = true ∧ (let n := s.rd Reg.RAD_LR_CFG.CQ; decide ((s.q n).marks = [true] ∧ (s.q n).cut = false ∧ s.mem.larderBad = [] ∧ (let w := leNat (s.bytesAt (qBase s n + 8 * (s.q n).head) 8); decide ((match (s.rad.allocs.find? fun x => x.tag == bits w 0 16 && x.engine.isSome && x.comp.isNone) with | some a => decide (allocOf s a.id = some a ∧ readsClean s radioRq (crateAddr s a.desc) 12 = true ∧ bits w 16 8 = 0 ∧ a.chosen = none ∧ a.clDone = false) | _ => false) = true)) = true)) = true) ∧
    (∃ (s : State), s.awake ∧ radUp s = true ∧ (let n := s.rd Reg.RAD_LR_CFG.CQ; decide ((s.q n).marks = [true] ∧ (s.q n).cut = false ∧ s.mem.larderBad = [] ∧ (let w := leNat (s.bytesAt (qBase s n + 8 * (s.q n).head) 8); decide ((match (s.rad.allocs.find? fun x => x.tag == bits w 0 16 && x.engine.isSome && x.comp.isNone) with | some a => decide (allocOf s a.id = some a ∧ readsClean s radioRq (crateAddr s a.desc) 12 = true ∧ bits w 16 8 = 0 ∧ a.chosen = none ∧ a.clDone = true ∧ a.reported = false ∧ a.pdu.blocks ≠ [] ∧ a.carrier < 2) | _ => false) = true)) = true)) = true) ∧
    (∃ (s : State) (c : Nat), s.awake ∧ radUp s = true ∧ (match (s.rad.allocs.filter fun x => x.carrier == c && x.chosen.isNone && decide (x.guardAt ≤ (s.now : Int))) with | [a] => decide (allocOf s a.id = some a ∧ a.reported = false ∧ a.pdu.blocks ≠ [] ∧ a.carrier < 2) | _ => false) = true) ∧
    (∃ (s : State) (e : Nat), s.awake ∧ radUp s = true ∧ engOverdue s e = true) ∧
    (∃ (s : State) (rq : Requester) (d : Nat), s.awake ∧ bit d 0 = true ∧ passes (.radLrCommit rq d) s = true) ∧
    (∃ (s : State) (rq : Requester) (d : Nat), s.awake ∧ bit d 0 = true ∧ passes (.radLdpcCommit rq d) s = true) ∧
    (∃ (s : State) (i : Nat) (iters : Nat) (good : Bool), s.awake ∧ radUp s = true ∧ i < 2 ∧ (match Tbl.find s.rad.islands i with | some r => decide (s.rad.blocks = [] ∧ (match allocOf s r.alloc with | some a => decide (blockStops s r iters good = true ∧ 1 < a.left) | _ => false) = true) | _ => false) = true) ∧
    (∃ (s : State) (i : Nat) (iters : Nat) (good : Bool), s.awake ∧ radUp s = true ∧ i < 2 ∧ (match Tbl.find s.rad.islands i with | some r => decide (s.rad.blocks = [] ∧ (match allocOf s r.alloc with | some a => decide (blockStops s r iters good = true ∧ a.left = 1 ∧ a.reported = false ∧ a.carrier < 2) | _ => false) = true) | _ => false) = true) ∧
    (∃ (s : State) (c : Nat) (n : Nat) (r : LdpcRun) (a : Alloc), s.awake ∧ radUp s = true ∧ c < 2 ∧ allocOf s a.id = some a ∧ a.carrier = c ∧ a.slotEnd + 120832 ≤ (s.now : Int) ∧ a.reported = false ∧ (s.rad.islands = [(0, r)] ∧ r.alloc = a.id ∧ s.rad.blocks = [] ∨ s.rad.islands = [] ∧ s.rad.blocks = [(a.id, n)])) ∧
    (∃ (s : State) (c : Nat), s.awake ∧ radUp s = true ∧ fapiOn s c = true ∧ s.flag Reg.RAD_STAT.RELEASED = true ∧ bit (s.rd Reg.RAD_STAT.STARTED) c = true ∧ ((s.now : Int) - (126976 + slotTicks (radioBody s) c) - frameOfs (radioBody s)) % slotTicks (radioBody s) c = 0 ∧ (match s.rad.allocs with | [a] => decide (a.carrier = c ∧ a.reported = false ∧ (match a.crc with | some ok => decide (a.slotEnd + 126976 ≤ (s.now : Int) ∧ ok = false) | _ => false) = true) | _ => false) = true) ∧
    (∃ (s : State) (c : Nat), s.awake ∧ radUp s = true ∧ fapiOn s c = true ∧ s.flag Reg.RAD_STAT.RELEASED = true ∧ bit (s.rd Reg.RAD_STAT.STARTED) c = true ∧ ((s.now : Int) - (126976 + slotTicks (radioBody s) c) - frameOfs (radioBody s)) % slotTicks (radioBody s) c = 0 ∧ (match s.rad.allocs with | [a] => decide (a.carrier = c ∧ a.reported = false ∧ (match a.crc with | some ok => decide (a.slotEnd + 126976 ≤ (s.now : Int) ∧ ok = true ∧ (match (s.freeStack (poolFor a.payload.length)).head? with | some i => decide (crateHandle (poolFor a.payload.length) (s.crate (poolFor a.payload.length) i).gen i ≠ 0) | _ => false) = true) | _ => false) = true) | _ => false) = true) :=
  ⟨⟨smp0, 0xC0100000, ({ al0.pdu with symEnd := 245760 } : PuschInfo), 0, by decide +kernel⟩,
   ⟨smp4, 3, by decide +kernel⟩,
   ⟨smp5, 3, by decide +kernel⟩,
   ⟨smp4, by decide +kernel⟩,
   ⟨smp7, by decide +kernel⟩,
   ⟨smp8, 0, by decide +kernel⟩,
   ⟨smp4, 1, by decide +kernel⟩,
   ⟨smp0, (⟨36,0⟩ : Requester), 1, by decide +kernel⟩,
   ⟨smp0, (⟨36,0⟩ : Requester), 1, by decide +kernel⟩,
   ⟨smp12, 0, 1, true, by decide +kernel⟩,
   ⟨smp13, 0, 1, true, by decide +kernel⟩,
   ⟨smp13, 0, 1, (⟨3, 1, 300000, 8, [0, 0, 0]⟩ : LdpcRun), ({ al0 with chosen := some 1, left := 1 } : Alloc), by decide +kernel⟩,
   ⟨smp16, 0, by decide +kernel⟩,
   ⟨smp15, 0, by decide +kernel⟩⟩

end W13

namespace W14

def dscM (mode : Nat) (reg : Nat) (need : Nat) (on : Nat := 1) : Mem :=
  (((Mem.writeN · 0 (leBytes 2 16 ++ leBytes 2 16)) ∘ (Mem.writeN · 20 [BitVec.ofNat 8 need, BitVec.ofNat 8 mode]) ∘ (Mem.writeN · 24 (leBytes 8 0x100000 ++ leBytes 8 0x110000)) ∘ (Mem.writeN · 16 (leBytes 4 (100 + 2^10*512+2^20*512))) ∘
   (Mem.writeN · 128 ([BitVec.ofNat 8 on,1,0,0,255,0,0,0] ++ leBytes 2 0 ++ leBytes 2 0 ++ leBytes 2 16 ++ leBytes 2 16 ++ leBytes 2 0 ++ leBytes 2 0 ++ leBytes 2 16 ++ leBytes 2 16)) ∘ (Mem.writeN · 576 (leBytes 2 0 ++ leBytes 2 0 ++ leBytes 2 16 ++ leBytes 2 16 ++ [BitVec.ofNat 8 reg]))) [])
def dhead (mode need : Nat) : List Byte := leBytes 2 16 ++ leBytes 2 16 ++ List.replicate 16 0 ++ [BitVec.ofNat 8 need, BitVec.ofNat 8 mode]
def dlit : List Byte := leBytes 2 16 ++ (leBytes 2 16 ++ (List.replicate 12 0 ++ (leBytes 4 (100 + 2^10*512 + 2^20*512) ++ ([0, 1, 0, 0] ++ (leBytes 8 0x100000 ++ (leBytes 8 0x110000 ++ (List.replicate 88 0 ++ ([1,1,0,0,255,0,0,0] ++ (leBytes 2 0 ++ (leBytes 2 0 ++ (leBytes 2 16 ++ (leBytes 2 16 ++ (leBytes 2 0 ++ (leBytes 2 0 ++ (leBytes 2 16 ++ (leBytes 2 16 ++ (List.replicate 424 0 ++ (leBytes 2 0 ++ (leBytes 2 0 ++ (leBytes 2 16 ++ (leBytes 2 16 ++ (List.replicate 440 0))))))))))))))))))))))
def vj : VisJob := { ch := 1, stream := 2, slot := 1, pts := 99, frame := 7, w := 16, h := 16, ten := false }
def visS (fs : List (Fld × Nat)) (f : Vision → Vision := id) (d : Mem := dscM 1 0 0) : State :=
  let s := viaNi 41 (List.range 8) (viaNi 42 (List.range 8) (tm rn 100000))
  up ([(Reg.VIS_CTRL.EN,1),(Reg.VIS_STR_CFG.EN 2,1),(Reg.VIS_STR_CFG.INQ 2,7),(Reg.VIS_STR_STAT.STATE 2,1),(Reg.VIS_STR_SLOT.PAGES 2,1),(Reg.VIS_STR_SLOT_BASE_LO.ADDR 2,0x200000),(Reg.VIS_CH_CFG.EN 1,1),(Reg.VIS_CH_CFG.STREAM 1,2),(Reg.VIS_CH_CFG.CQ 1,8),(Reg.VIS_CH_CFG.CONSUMER 1,0x55),
    (Reg.VIS_PROOF_BASE_LO.ADDR,0x300000),(Reg.VIS_PROOF_SIZE.BYTES,100000),(Reg.VIS_CH_DESC_LO.ADDR 1,0x80000),
    (Reg.STR_Q_CFG.EN 8,1),(Reg.STR_Q_CFG.DEPTH_LOG2 8,6),(Reg.STR_Q_BASE_HI.ADDR 8,8),(Reg.STR_Q_CFG.EN 7,1),(Reg.STR_Q_CFG.DEPTH_LOG2 7,4),(Reg.STR_Q_BASE_LO.ADDR 7,0x8000),(Reg.STR_Q_BASE_HI.ADDR 7,8),
    (Reg.STR_POOL_BASE_HI.ADDR 3,8),(Reg.STR_POOL_BASE_LO.ADDR 3,0x20000),(Reg.STR_POOL_COUNT.COUNT 3,8),(Reg.STR_POOL_BASE_HI.ADDR 0,8),(Reg.STR_POOL_BASE_LO.ADDR 0,0x1000),(Reg.STR_POOL_COUNT.COUNT 0,8)] ++ fs)
   ({ s with vis := f { streams := [(2, { pics := [⟨1,99,16,16,false,false,true,true,1⟩] })] },
             mem := { s.mem with dram := Mem.writeN (d.map fun (c : Host.Cell) => (c.1 + 0x80000, c.2)) 0x201000 ((List.range 16).map fun i => BitVec.ofNat 8 (if i % 64 < 16 then i*7%200 else 0)), larder := Mem.writeN [] 0x8000 (leBytes 8 (0xC0100000 + 2^32*100) ++ leBytes 8 1234) }, cfg := { s.cfg with visionBody := some [], map := { frameBase := 0x200000, frameSize := 0x100000 } } }
   |>.setQ 7 { marks := [false, true] } |>.setCrate 3 0 { alloc := true, gen := 1, owner := 0xA6 } |>.setFree 3 [2,3] |>.setFree 0 [4] |>.setCrate 0 4 { gen := 3 })
def jb (f : VisJob → VisJob) : Vision → Vision := fun v => { v with jobs := [f vj] }
def smp0 : State := visS []
def smp1 : State := visS [(Reg.VIS_STR_CFG.EN 2,0),(Reg.VIS_STR_SIZE.MAX_W 2,16),(Reg.VIS_STR_SIZE.MAX_H 2,16),(Reg.VIS_STR_STAT.STATE 2,0)]
def smp2 : State := { visS [] with cfg := { State.reset.cfg with visionBody := none } }
def smp5 : State := visS [] (fun v => { v with jobs := [vj] })
def smp7 : State := visS [(Reg.VIS_CH_DESC_LO.ADDR 1,0x80001)] (fun v => { v with jobs := [vj], coefNext := some [] })
def smp9 : State := visS [] (jb fun j => { j with phase := 1, desc := dhead 1 0 })
def smp10 : State := visS [] (jb fun j => { j with phase := 1, desc := dhead 1 1 })
def smp13 : State := visS [] (jb fun j => { j with phase := 1, desc := dhead 0 0 })
def smp14 : State := visS [] (jb fun j => { j with phase := 2, desc := dhead 0 0, crates := [0xC0100000], list := 4 + 3*2^20, tiles := [1] })
def smp15 : State := visS [(Reg.VIS_STR_SLOT.COUNT 2, 4)]

set_option synthInstance.maxHeartbeats 400000 in
set_option synthInstance.maxSize 4000 in
/-- States and operands that meet the hypotheses of VisionStreamsAndJobs, clause by clause. -/
theorem witness_VisionStreamsAndJobs :
    (∃ (s : State) (rq : Requester) (d : Nat), s.awake ∧ passes (.visEnable rq d) s = true ∧ bit d 0 = true ∧ s.cfg.visionBody = none) ∧
    (∃ (s : State) (rq : Requester) (d : Nat), s.awake ∧ passes (.visEnable rq d) s = true ∧ (bit d 0 = false ∨ s.cfg.visionBody.isSome = true)) ∧
    (∃ (s : State) (rq : Requester) (m : Nat) (d : Nat), s.awake ∧ m < 32 ∧ passes (.streamEnable rq m d) s = true ∧ s.flag (Reg.VIS_STR_CFG.EN m) = false ∧ bit d 0 = true ∧ (let ok := streamOkToEnable (s.wr (Reg.VIS_STR_CFG.MAX_FPS m) (bits d 16 8)) m (bits d 1 2); decide (ok = true)) = true) ∧
    (∃ (s : State) (rq : Requester) (m : Nat) (d : Nat), s.awake ∧ m < 32 ∧ passes (.streamEnable rq m d) s = true ∧ s.flag (Reg.VIS_STR_CFG.EN m) = false ∧ bit d 0 = true ∧ (let ok := streamOkToEnable (s.wr (Reg.VIS_STR_CFG.MAX_FPS m) (bits d 16 8)) m (bits d 1 2); decide (ok = false)) = true) ∧
    (∃ (s : State) (dec : Nat) (p : VisDecode), s.awake ∧ visOn s = true ∧ dec < 2 ∧ (match nextStream s dec with | some m => decide ((let n := s.rd (Reg.VIS_STR_CFG.INQ m); decide ((s.q n).cut = false ∧ (s.q n).head < qDepth s n ∧ (match freeSlot s m with | some slot => decide (slotBase s m + slot * slotSize s m + frameBytes p.w p.h p.ten ≤ 0xF00000000) | _ => false) = true)) = true) | _ => false) = true) ∧
    (∃ (s : State) (m : Nat) (slot : Nat), s.awake ∧ m < 32 ∧ visOn s = true ∧ s.rd (Reg.VIS_STR_STAT.STATE m) = 1 ∧ (match ((s.stream m).pics.find? fun q => q.slot == slot && q.wait) with | some p => decide (p.bad = false ∧ readsClean s visDecoder (slotBase s m + slot * slotSize s m) (frameBytes p.w p.h p.ten) = true) | _ => false) = true) ∧
    (∃ (s : State) (rq : Requester) (n : Nat) (d : Nat), s.awake ∧ n < 8 ∧ bit d 0 = true ∧ passes (.visChCommit rq n d) s = true) ∧
    (∃ (s : State) (rq : Requester) (n : Nat) (d : Nat), s.awake ∧ n < 8 ∧ bit d 0 = true ∧ passes (.visCoefCommit rq d) s = true) ∧
    (∃ (s : State) (rq : Requester) (n : Nat) (d : Nat), s.awake ∧ n < 8 ∧ passes (.visChReturn rq n d) s = true) ∧
    (∃ (s : State), s.awake ∧ (match s.vis.jobs with | j :: rest => decide (visUp s = true ∧ j.ch < 8 ∧ s.flag Reg.VIS_CTRL.EN = true ∧ j.phase = 0 ∧ (let c := takeDesc (takeCoef s) j.ch; decide ((let a := c.rdPair (Reg.VIS_CH_DESC_LO.ADDR j.ch) (Reg.VIS_CH_DESC_HI.ADDR j.ch); decide ((a % 64 ≠ 0 ∨ inMemory a 1024 = false))) = true)) = true) | _ => false) = true) ∧
    (∃ (s : State), s.awake ∧ (match s.vis.jobs with | j :: rest => decide (visUp s = true ∧ j.ch < 8 ∧ s.flag Reg.VIS_CTRL.EN = true ∧ j.phase = 0 ∧ (let c := takeDesc (takeCoef s) j.ch; decide ((let a := c.rdPair (Reg.VIS_CH_DESC_LO.ADDR j.ch) (Reg.VIS_CH_DESC_HI.ADDR j.ch); decide (a % 64 = 0 ∧ inMemory a 1024 = true ∧ overlap a 1024 s.cfg.map.frameBase s.cfg.map.frameSize = false ∧ readsClean c visCompositor a 1024 = true ∧ (let d := c.bytesAt a 1024; decide (descFault d j.w j.h s.cfg.map.frameBase s.cfg.map.frameSize = none ∧ outBytes d ≤ s.rd Reg.VIS_PROOF_SIZE.BYTES ∧ (dMode d ≠ 0 ∨ cratesNeeded d ≤ 60))) = true)) = true)) = true) | _ => false) = true) ∧
    (∃ (s : State), s.awake ∧ (match s.vis.jobs with | j :: rest => decide (visUp s = true ∧ j.ch < 8 ∧ j.phase = 1 ∧ j.endAt ≤ s.now ∧ (∀ i : Nat, i < 4 → field (dMask j.desc i) 0 1 = 0) ∧ (let b := slotBase s j.stream + j.slot * slotSize s j.stream; decide ((let n := frameBytes j.w j.h j.ten; decide (readsClean s visCompositor b n = true ∧ (let f := frameOfBytes j.w j.h j.ten (fun o => (s.bytesAt b n).getD o 0); decide ((let img := (fun b => composePix s.vis.coef f j.desc [[], [], [], []] b); decide ((failingRegions (cscOf s) j.desc (img false) (img true) ≠ 0 ∨ declaredRegions j.desc < field j.desc 20 1))) = true)) = true)) = true)) = true) | _ => false) = true) ∧
    (∃ (s : State), s.awake ∧ (match s.vis.jobs with | j :: rest => decide (visUp s = true ∧ j.ch < 8 ∧ j.phase = 1 ∧ j.endAt ≤ s.now ∧ (∀ i : Nat, i < 4 → field (dMask j.desc i) 0 1 = 0) ∧ (let b := slotBase s j.stream + j.slot * slotSize s j.stream; decide ((let n := frameBytes j.w j.h j.ten; decide (readsClean s visCompositor b n = true ∧ (let f := frameOfBytes j.w j.h j.ten (fun o => (s.bytesAt b n).getD o 0); decide ((let img := (fun b => composePix s.vis.coef f j.desc [[], [], [], []] b); decide (failingRegions (cscOf s) j.desc (img false) (img true) = 0 ∧ field j.desc 20 1 ≤ declaredRegions j.desc ∧ dMode j.desc = 1 ∧ bit s.vis.lent (2 * j.ch + nextBuf s j.ch) = false)) = true)) = true)) = true)) = true) | _ => false) = true) ∧
    (∃ (s : State), s.awake ∧ (match s.vis.jobs with | j :: rest => decide (visUp s = true ∧ j.ch < 8 ∧ j.phase = 1 ∧ j.endAt ≤ s.now ∧ (∀ i : Nat, i < 4 → field (dMask j.desc i) 0 1 = 0) ∧ (let b := slotBase s j.stream + j.slot * slotSize s j.stream; decide ((let n := frameBytes j.w j.h j.ten; decide (readsClean s visCompositor b n = true ∧ (let f := frameOfBytes j.w j.h j.ten (fun o => (s.bytesAt b n).getD o 0); decide ((let img := (fun b => composePix s.vis.coef f j.desc [[], [], [], []] b); decide ((let u := (s.busWrite visCompositor (s.rdPair Reg.VIS_PROOF_BASE_LO.ADDR Reg.VIS_PROOF_BASE_HI.ADDR) (outputBytes (cscOf s) j.desc (img false))).1; decide (failingRegions (cscOf s) j.desc (img false) (img true) = 0 ∧ field j.desc 20 1 ≤ declaredRegions j.desc ∧ dMode j.desc ≠ 1 ∧ (match allocOutput u (cratesNeeded j.desc) with | (v, some hs) => decide (True) | _ => false) = true)) = true)) = true)) = true)) = true)) = true) | _ => false) = true) ∧
    (∃ (s : State), s.awake ∧ (match s.vis.jobs with | j :: rest => decide (visUp s = true ∧ j.ch < 8 ∧ j.phase = 2) | _ => false) = true) :=
  ⟨⟨smp2, (⟨36,0⟩ : Requester), 1, by decide +kernel⟩,
   ⟨smp0, (⟨36,0⟩ : Requester), 0, by decide +kernel⟩,
   ⟨smp1, (⟨36,0⟩ : Requester), 2, (0x1E0000 + 0x200 * 7 + 3 : Nat), by decide +kernel⟩,
   ⟨smp0, (⟨36,0⟩ : Requester), 0, 1, by decide +kernel⟩,
   ⟨smp0, 0, (⟨false, 16, 16, 1, false, false, true, true, [], List.replicate 384 5⟩ : VisDecode), by decide +kernel⟩,
   ⟨smp0, 2, 1, by decide +kernel⟩,
   ⟨smp0, (⟨36,0⟩ : Requester), 0, 1, by decide +kernel⟩,
   ⟨smp0, (⟨36,0⟩ : Requester), 0, 1, by decide +kernel⟩,
   ⟨smp0, (⟨36,0⟩ : Requester), 0, 0, by decide +kernel⟩,
   ⟨smp7, by decide +kernel⟩,
   ⟨smp5, by decide +kernel⟩,
   ⟨smp10, by decide +kernel⟩,
   ⟨smp9, by decide +kernel⟩,
   ⟨smp13, by decide +kernel⟩,
   ⟨smp14, by decide +kernel⟩⟩

end W14

namespace W15

def pf (i func sig : Nat) : List (Fld × Nat) := [(Reg.CEL_PIN_CFG.FUNC i, func),(Reg.CEL_PIN_CFG.SIG i, sig)]
def plS (fs : List (Fld × Nat)) (f : Plant → Plant := id) (time : Nat := 1000000000) : State :=
  let s := tm rn time
  up ([(Reg.STR_CTRL.EN,1),(Reg.STR_Q_CFG.EN 8,1),(Reg.STR_Q_CFG.DEPTH_LOG2 8,6),(Reg.STR_Q_BASE_HI.ADDR 8,8),(Reg.STR_Q_CFG.EN 7,1),(Reg.STR_Q_CFG.DEPTH_LOG2 7,4),(Reg.STR_Q_BASE_LO.ADDR 7,0x8000),(Reg.STR_Q_BASE_HI.ADDR 7,8),(Reg.CEL_PINQ_CFG.QUEUE,7),(Reg.CEL_PINQ_CFG.EN,1)] ++ fs)
   ({ s with cel := f s.cel, pw := { s.pw with xtalOk := true }, mem := { s.mem with larder := Mem.writeN [] 0x8000 (leBytes 8 (1 + 2^16*0xA5A5) ++ leBytes 8 (1 + 2^5)) } } |>.setQ 7 { marks := [true, true] })
def cmds2 : Plant → Plant := fun c => { c with i2cCmd := [(0, 0x0580 + 3),(1, 0x400 + 9)], spiCmd := [(0, 0x1000004),(1, 66)] }
def smp0 : State := plS []
def smp2 : State := (plS []).setQ 7 { marks := [true, false], head := 1 }
def smp3 : State := plS [(Reg.CEL_PM_CFG.MODE 1,1),(Reg.CEL_PM_CFG.WAKE 1,1),(Reg.CEL_PM_CFG.QEN 1,1),(Reg.CEL_PM_CFG.QUEUE 1,8),(Reg.CEL_PM_CARE.CARE_A 1,1),(Reg.CEL_PM_PAT.VAL_A 1,1),(Reg.CEL_PM_CFG.MODE 0,3),(Reg.CEL_PM_STAT.HIT 0,1)]
def smp6 : State := plS [(Reg.CEL_ADC_CFG.CH_EN,3)] (fun c => { c with adcDone := 1, adcScans := 300 })
def smp7 : State := plS (pf 5 6 1) (fun c => { c with tachEdge := [(1, 8),(0,8)] })
def smp8 : State := plS [(Reg.CEL_CMP_CFG.EN 1,1),(Reg.CEL_CMP_CFG.TRIP_EN 1,1),(Reg.CEL_CMP_CFG.TRIP_MASK 1,7),(Reg.CEL_TRIP_STAT.LATCHED,2)]
def smp9 : State := plS [(Reg.CEL_CMP_CFG.EN 1,1),(Reg.CEL_CMP_CFG.TRIP_EN 1,1),(Reg.CEL_CMP_CFG.TRIP_MASK 1,1),(Reg.CEL_TRIP_STAT.LATCHED,255),(Reg.CEL_CMP_STAT.OUT 1,1),(Reg.CEL_PWM_CFG.EN 1,1)]
def smp11 : State := plS [(Reg.CEL_PLE_CFG.EN 1,1),(Reg.CEL_PLE_CFG.SRC_KIND 1,0),(Reg.CEL_PLE_CFG.PERIOD_MS 1,2)] (fun c => { c with ple := [(1, { enAt := 1000000000 - 983040*3 })] })
def smp12 : State := plS [(Reg.CEL_PLE_CFG.EN 1,1),(Reg.CEL_PLE_CFG.SRC_KIND 1,2),(Reg.CEL_PLE_CFG.PERIOD_MS 1,2),(Reg.CEL_PLE_SP.SP 1,500),(Reg.CEL_PLE_SP.PV_REG 1,200),(Reg.CEL_PLE_GAIN.KP 1,300),(Reg.CEL_PLE_GAIN.KI 1,3),(Reg.CEL_PLE_CFG.PWM 1,1),(Reg.CEL_PLE_CFG.OUT_EN 1,1),(Reg.CEL_PLE_SLEW.SLEW 1,40)] (fun c => { c with ple := [(1, { enAt := 1000000000 - 983040*3 })] })
def smp15 : State := plS ([(Reg.CEL_CAN_CTRL.EN 0,1),(Reg.CEL_CAN_CTRL.AUTO_REC 0,1),(Reg.CEL_CAN_FLT.EN 0 1,1),(Reg.CEL_CAN_MASK.WAKE 0 1,1),(Reg.CEL_CAN_TX_PEND.SLOTS 0,3),(Reg.CEL_CAN_RX_STAT.COUNT 0,2),(Reg.CEL_CAN_RX_STAT.HEAD 0,63)] ++ pf 2 2 1)
def smp16 : State := plS ([(Reg.CEL_CAN_CTRL.EN 0,1),(Reg.CEL_CAN_FLT.EN 0 1,1),(Reg.CEL_CAN_RX_STAT.COUNT 0,64)] ++ pf 2 2 1)
def smp17 : State := plS [(Reg.CEL_CAN_CTRL.EN 0,1),(Reg.CEL_CAN_CTRL.AUTO_REC 0,1),(Reg.CEL_CAN_STAT.STATE 0,2),(Reg.CEL_CAN_STAT.TEC 0,2)]
def smp18 : State := plS ([(Reg.CEL_UART_CFG.EN 0,1),(Reg.CEL_UART_FMT.MODBUS 0,0)] ++ pf 2 3 1) (fun c => { c with uart := [(0, { rx := [3,4], tx := [5], lastRx := 5 })] })
def smp19 : State := plS ([(Reg.CEL_UART_CFG.EN 0,1)] ++ pf 2 3 1) (fun c => { c with uart := [(0, { rx := List.replicate 256 3, tx := List.replicate 256 2, lastRx := 5 })] })
def smp20 : State := plS ([(Reg.CEL_UART_CFG.EN 0,1)] ++ pf 2 3 1) (fun c => { c with uart := [(0, { rx := [3,4], frame := [1,2], tx := [5,0x106,7], lastRx := 5, sending := some 7 })] })
def smp22 : State := plS [(Reg.CEL_I2C_CFG.EN 0,1)]
def smp23 : State := plS ([(Reg.CEL_I2C_STAT.BUSY 0,1),(Reg.CEL_I2C_STAT.BUSY 1,1),(Reg.CEL_SPI_STAT.BUSY 0,1),(Reg.CEL_SPI_STAT.BUSY 1,1)] ++ pf 2 4 1 ++ pf 3 4 3 ++ pf 4 4 0 ++ pf 8 5 2) cmds2
def smp24 : State := plS [(Reg.CEL_ADC_CFG.CH_EN,3)] (fun c => { c with adcDone := 1, adcScans := 300 }) 0
def smp25 : State := up [(Reg.CEL_PM_SEL.PIN0 1 0, 2)] smp3

/-- States and operands that meet the hypotheses of PlantIo, clause by clause. -/
theorem witness_PlantIo :
    (∃ (s : State) (rq : Requester) (i : Nat) (d : Nat), s.awake ∧ i < 160 ∧ passes (.pinCfgWrite rq i d) s = true ∧ pinWriter s rq i = false) ∧
    (∃ (s : State) (rq : Requester) (i : Nat) (d : Nat), s.awake ∧ i < 160 ∧ passes (.pinCfgWrite rq i d) s = true ∧ pinWriter s rq i = true ∧ pinFuncOk i (bits d 8 4) (bits d 12 4) = true ∧ bits d 16 3 ≤ 3 ∧ bits d 20 2 ≤ 2 ∧ bits d 24 3 ≤ 4) ∧
    (∃ (s : State) (rq : Requester) (b : Nat) (d : Nat), s.awake ∧ b < 10 ∧ passes (.gpioOutWrite rq b d) s = true) ∧
    (∃ (s : State) (b : Nat), s.awake ∧ (let n := s.rd Reg.CEL_PINQ_CFG.QUEUE; decide (s.flag Reg.CEL_PINQ_CFG.EN = true ∧ 3 ≤ s.tier ∧ s.flag Reg.STR_CTRL.EN = true ∧ (s.q n).marks ≠ [] ∧ (s.q n).cut = false ∧ s.mem.larderBad = [] ∧ (∀ p ∈ s.cel.pinqAt, p + 40 ≤ s.now) ∧ (let w := leNat (s.bytesAt (qBase s n + 8 * (s.q n).head) 8); decide (b < 10 ∧ bits w 0 4 = b ∧ bits w 4 12 = 0 ∧ bits w 32 32 = 0)) = true)) = true) ∧
    (∃ (s : State), s.awake ∧ (let n := s.rd Reg.CEL_PINQ_CFG.QUEUE; decide (s.flag Reg.CEL_PINQ_CFG.EN = true ∧ 3 ≤ s.tier ∧ s.flag Reg.STR_CTRL.EN = true ∧ (s.q n).marks ≠ [] ∧ (s.q n).cut = false ∧ s.mem.larderBad = [] ∧ (∀ p ∈ s.cel.pinqAt, p + 40 ≤ s.now) ∧ (let w := leNat (s.bytesAt (qBase s n + 8 * (s.q n).head) 8); decide ((10 ≤ bits w 0 4 ∨ bits w 4 12 ≠ 0 ∨ bits w 32 32 ≠ 0))) = true)) = true) ∧
    (∃ (s : State) (m : Nat) (lv : BitVec 16), s.awake ∧ m < 16 ∧ matcherIsMains s m = false ∧ (let v := matchVector s m lv.toNat; decide (hitAllowed s m v = true)) = true) ∧
    (∃ (s : State) (m : Nat) (lv : BitVec 16), s.awake ∧ m < 16 ∧ matcherIsMains s m = false ∧ (let v := matchVector s m lv.toNat; decide (hitAllowed s m v = false)) = true) ∧
    (∃ (s : State) (m : Nat) (lv : BitVec 16), s.awake ∧ m < 16 ∧ matcherIsMains s m = false ∧ (let v := matchVector s m lv.toNat; decide (s.rd (Reg.CEL_PM_CFG.MODE m) = 1 ∧ patA s m v = false)) = true) ∧
    (∃ (s : State) (c : Nat), s.awake ∧ c < 16 ∧ c ≠ s.rd Reg.CEL_HOLD_CUT.BATT_CH ∧ c ≠ 2 ∧ (let left := (ones (s.rd Reg.CEL_ADC_CFG.CH_EN) 16).filter (fun x => !bit s.cel.adcDone x); decide ((if left = [] then (ones (s.rd Reg.CEL_ADC_CFG.CH_EN) 16).head? else left.head?) = some c ∧ (let n := (ones (s.rd Reg.CEL_ADC_CFG.CH_EN) 16).length; decide ((let done := n - left.length; decide (adcDue s n done ≤ s.now)) = true)) = true)) = true) ∧
    (∃ (s : State) (c : Nat), s.awake ∧ c < 16 ∧ c ≠ s.rd Reg.CEL_HOLD_CUT.BATT_CH ∧ c ≠ 2 ∧ (let left := (ones (s.rd Reg.CEL_ADC_CFG.CH_EN) 16).filter (fun x => !bit s.cel.adcDone x); decide ((if left = [] then (ones (s.rd Reg.CEL_ADC_CFG.CH_EN) 16).head? else left.head?) = some c ∧ (let n := (ones (s.rd Reg.CEL_ADC_CFG.CH_EN) 16).length; decide ((let done := n - left.length; decide (s.now < adcDue s n done)) = true)) = true)) = true) ∧
    (∃ (s : State) (k : Nat), s.awake ∧ k < 8 ∧ (match Tbl.find s.cel.tachEdge k with | some last => decide (inputOn s 6 k = true) | _ => false) = true) ∧
    (∃ (s : State) (k : Nat), s.awake ∧ k < 8 ∧ (match Tbl.find s.cel.tachEdge k with | some last => decide (last + 491520000 ≤ s.now) | _ => false) = true) ∧
    (∃ (s : State) (k : Nat) (uv : Int), s.awake ∧ k < 8 ∧ compIsMains s k = false ∧ insideWindow s k uv 0 = false ∧ s.flag (Reg.CEL_CMP_STAT.OUT k) = false ∧ s.flag (Reg.CEL_CMP_CFG.EN k) = true ∧ s.flag (Reg.CEL_CMP_CFG.TRIP_EN k) = true ∧ andNot (s.rd (Reg.CEL_CMP_CFG.TRIP_MASK k)) (s.rd Reg.CEL_TRIP_STAT.LATCHED) ≠ 0) ∧
    (∃ (s : State) (k : Nat) (uv : Int), s.awake ∧ k < 8 ∧ compIsMains s k = false ∧ insideWindow s k uv 0 = false ∧ s.flag (Reg.CEL_CMP_STAT.OUT k) = false ∧ (s.flag (Reg.CEL_CMP_CFG.EN k) = false ∨ s.flag (Reg.CEL_CMP_CFG.TRIP_EN k) = false)) ∧
    (∃ (s : State) (k : Nat) (uv : Int), s.awake ∧ k < 8 ∧ compIsMains s k = false ∧ s.flag (Reg.CEL_CMP_STAT.OUT k) = true ∧ insideWindow s k uv (s.rd (Reg.CEL_CMP_CFG.HYS k)) = true) ∧
    (∃ (s : State) (rq : Requester) (d : Nat), s.awake ∧ passes (.tripLatchClear rq d) s = true) ∧
    (∃ (s : State) (rq : Requester) (c : Nat) (d : Nat), s.awake ∧ c < 8 ∧ d % 256 = 2 ^ c ∧ passes (.pwmCommit rq d) s = true ∧ s.flag (Reg.CEL_PWM_CFG.EN c) = true) ∧
    (∃ (s : State) (rq : Requester) (c : Nat) (d : Nat), s.awake ∧ c < 8 ∧ d % 256 = 2 ^ c ∧ passes (.pwmCommit rq d) s = true ∧ s.flag (Reg.CEL_PWM_CFG.EN c) = false) ∧
    (∃ (s : State) (c : Nat), s.awake ∧ c < 8 ∧ atPeriod s c = true) ∧
    (∃ (s : State) (l : Nat), s.awake ∧ l < 8 ∧ atPleSample s l = true ∧ (let c := s.rd (Reg.CEL_PLE_CFG.PWM l); decide (c < 8 ∧ pleNoSource s l = true ∧ s.flag (Reg.CEL_PLE_STAT.NOSRC l) = false)) = true) ∧
    (∃ (s : State) (l : Nat), s.awake ∧ l < 8 ∧ atPleSample s l = true ∧ (let c := s.rd (Reg.CEL_PLE_CFG.PWM l); decide (c < 8 ∧ pleNoSource s l = false)) = true) :=
  ⟨⟨smp0, (⟨36,0⟩ : Requester), 0, 0, by decide +kernel⟩,
   ⟨smp0, (⟨44,0⟩ : Requester), 0, 0, by decide +kernel⟩,
   ⟨smp0, (⟨36,0⟩ : Requester), 0, 0, by decide +kernel⟩,
   ⟨smp0, 1, by decide +kernel⟩,
   ⟨smp2, by decide +kernel⟩,
   ⟨smp25, 1, (1#16 : BitVec 16), by decide +kernel⟩,
   ⟨smp3, 0, (1#16 : BitVec 16), by decide +kernel⟩,
   ⟨smp3, 1, (1#16 : BitVec 16), by decide +kernel⟩,
   ⟨smp6, 1, by decide +kernel⟩,
   ⟨smp24, 1, by decide +kernel⟩,
   ⟨smp7, 1, by decide +kernel⟩,
   ⟨smp7, 0, by decide +kernel⟩,
   ⟨smp8, 1, (-3 : Int), by decide +kernel⟩,
   ⟨smp0, 0, (-3 : Int), by decide +kernel⟩,
   ⟨smp9, 1, 1000000, by decide +kernel⟩,
   ⟨smp0, (⟨44,0⟩ : Requester), 0, by decide +kernel⟩,
   ⟨smp9, (⟨44,0⟩ : Requester), 1, 2, by decide +kernel⟩,
   ⟨smp0, (⟨44,0⟩ : Requester), 0, 1, by decide +kernel⟩,
   ⟨smp9, 1, by decide +kernel⟩,
   ⟨smp11, 1, by decide +kernel⟩,
   ⟨smp12, 1, by decide +kernel⟩⟩

/-- States and operands that meet the hypotheses of SerialControllers, clause by clause. -/
theorem witness_SerialControllers :
    (∃ (s : State) (n : Nat) (fr : CanFrame), s.awake ∧ n < 2 ∧ canLive s n = true ∧ inputOn s 2 (2 * n + 1) = true ∧ (fr.fdf = false ∨ s.flag (Reg.CEL_CAN_CTRL.FD n) = true) ∧ (match (List.range 32).find? (canMatch s n fr) with | some f => decide (s.rd (Reg.CEL_CAN_RX_STAT.COUNT n) < 64) | _ => false) = true) ∧
    (∃ (s : State) (n : Nat) (fr : CanFrame), s.awake ∧ n < 2 ∧ canLive s n = true ∧ inputOn s 2 (2 * n + 1) = true ∧ (fr.fdf = false ∨ s.flag (Reg.CEL_CAN_CTRL.FD n) = true) ∧ (match (List.range 32).find? (canMatch s n fr) with | some f => decide (64 ≤ s.rd (Reg.CEL_CAN_RX_STAT.COUNT n)) | _ => false) = true) ∧
    (∃ (s : State) (n : Nat) (slot : Nat) (started : Nat), s.awake ∧ n < 2 ∧ canLive s n = true ∧ slot < 16 ∧ started < 65536 ∧ s.flag (Reg.CEL_CAN_CTRL.LISTEN n) = false ∧ bit (s.rd (Reg.CEL_CAN_TX_PEND.SLOTS n)) slot = true ∧ bit started slot = true ∧ andNot started (s.rd (Reg.CEL_CAN_TX_PEND.SLOTS n)) = 0 ∧ canFirst s n slot started = true) ∧
    (∃ (s : State) (n : Nat), s.awake ∧ n < 2 ∧ canLive s n = true) ∧
    (∃ (s : State) (n : Nat), s.awake ∧ n < 2 ∧ s.rd (Reg.CEL_CAN_STAT.STATE n) = 2 ∧ s.flag (Reg.CEL_CAN_CTRL.AUTO_REC n) = true ∧ s.flag (Reg.CEL_CAN_CTRL.EN n) = true ∧ canClocked s = true) ∧
    (∃ (s : State) (rq : Requester) (n : Nat) (d : Nat), s.awake ∧ n < 2 ∧ passes (.canTxRequest rq n d) s = true) ∧
    (∃ (s : State) (rq : Requester) (n : Nat) (d : Nat), s.awake ∧ n < 2 ∧ passes (.canRxPop rq n d) s = true ∧ bit d 0 = true ∧ s.rd (Reg.CEL_CAN_RX_STAT.COUNT n) ≠ 0) ∧
    (∃ (s : State) (rq : Requester) (n : Nat) (d : Nat), s.awake ∧ n < 2 ∧ passes (.uartTxdWrite rq n d) s = true ∧ (s.uart n).tx.length < 256) ∧
    (∃ (s : State) (rq : Requester) (n : Nat) (d : Nat), s.awake ∧ n < 2 ∧ passes (.uartTxdWrite rq n d) s = true ∧ 256 ≤ (s.uart n).tx.length) ∧
    (∃ (s : State) (rq : Requester) (n : Nat), s.awake ∧ n < 2 ∧ passes (.uartRxdPop rq n) s = true) ∧
    (∃ (s : State) (rq : Requester) (n : Nat) (d : Nat), s.awake ∧ n < 2 ∧ passes (.i2cCommand rq n d) s = true ∧ s.flag (Reg.CEL_I2C_STAT.BUSY n) = false ∧ s.flag (Reg.CEL_I2C_CFG.EN n) = true) ∧
    (∃ (s : State) (rq : Requester) (n : Nat) (d : Nat), s.awake ∧ n < 2 ∧ passes (.i2cCommand rq n d) s = true ∧ s.flag (Reg.CEL_I2C_STAT.BUSY n) = true) ∧
    (∃ (s : State) (rq : Requester) (n : Nat) (d : Nat), s.awake ∧ n < 2 ∧ passes (.spiCommand rq n d) s = true ∧ s.flag (Reg.CEL_SPI_STAT.BUSY n) = false) ∧
    (∃ (s : State) (rq : Requester) (n : Nat) (d : Nat), s.awake ∧ n < 2 ∧ passes (.spiCommand rq n d) s = true ∧ s.flag (Reg.CEL_SPI_STAT.BUSY n) = true) ∧
    (∃ (s : State) (u : Nat), s.awake ∧ u < 2 ∧ s.flag (Reg.CEL_UART_CFG.EN u) = true ∧ uartDe s u = false ∧ inputOn s 3 (4 * u + 1) = true ∧ (s.uart u).dropping = false ∧ (s.uart u).rx.length < 256) ∧
    (∃ (s : State) (u : Nat), s.awake ∧ u < 2 ∧ s.flag (Reg.CEL_UART_CFG.EN u) = true ∧ uartDe s u = false ∧ inputOn s 3 (4 * u + 1) = true ∧ 256 ≤ (s.uart u).rx.length) ∧
    (∃ (s : State) (u : Nat), s.awake ∧ u < 2 ∧ s.flag (Reg.CEL_UART_FMT.MODBUS u) = true ∧ (s.uart u).frame ≠ [] ∧ (s.uart u).lastRx + uartT35 s u ≤ s.now ∧ (s.uart u).dropping = false) ∧
    (∃ (s : State) (u : Nat), s.awake ∧ u < 2 ∧ uartFrameOut s u = true) ∧
    (∃ (s : State) (n : Nat) (done : Nat) (arb : Bool), s.awake ∧ n < 2 ∧ s.flag (Reg.CEL_I2C_STAT.BUSY n) = true ∧ (let cmd := Tbl.get s.cel.i2cCmd n 0; decide (inputOn s 4 (2 * n + 1) = true ∧ bit cmd 7 = false ∧ (let k := min done (min 64 (bits cmd 8 7)); decide ((9 * (k + 1) ≤ i2cBits s n ∨ arb = true))) = true)) = true) ∧
    (∃ (s : State) (n : Nat) (done : Nat) (arb : Bool), s.awake ∧ n < 2 ∧ s.flag (Reg.CEL_I2C_STAT.BUSY n) = true ∧ (let cmd := Tbl.get s.cel.i2cCmd n 0; decide (inputOn s 4 (2 * n + 1) = true ∧ bit cmd 7 = true ∧ (let k := min done (min 64 (bits cmd 8 7)); decide ((9 * (k + 1) ≤ i2cBits s n ∨ arb = true))) = true)) = true) ∧
    (∃ (s : State) (n : Nat), s.awake ∧ n < 2 ∧ s.flag (Reg.CEL_I2C_STAT.BUSY n) = true ∧ inputOn s 4 (2 * n) = true) ∧
    (∃ (s : State) (n : Nat), s.awake ∧ n < 2 ∧ s.flag (Reg.CEL_SPI_STAT.BUSY n) = true ∧ (let cmd := Tbl.get s.cel.spiCmd n 0; decide (Tbl.get s.cel.cmdAt (2 + n) 0 + spiTicks cmd ≤ s.now)) = true) :=
  ⟨⟨smp15, 0, (⟨5,false,false,8,false,false,false,[1,2]⟩ : CanFrame), by decide +kernel⟩,
   ⟨smp16, 0, (⟨5,false,false,8,false,false,false,[1,2]⟩ : CanFrame), by decide +kernel⟩,
   ⟨smp15, 0, 0, 1, by decide +kernel⟩,
   ⟨smp15, 0, by decide +kernel⟩,
   ⟨smp17, 0, by decide +kernel⟩,
   ⟨smp0, (⟨44,0⟩ : Requester), 0, 0, by decide +kernel⟩,
   ⟨smp15, (⟨44,0⟩ : Requester), 0, 1, by decide +kernel⟩,
   ⟨smp0, (⟨44,0⟩ : Requester), 0, 0, by decide +kernel⟩,
   ⟨smp19, (⟨44,0⟩ : Requester), 0, 0, by decide +kernel⟩,
   ⟨smp0, (⟨36,0⟩ : Requester), 0, by decide +kernel⟩,
   ⟨smp22, (⟨44,0⟩ : Requester), 0, 0, by decide +kernel⟩,
   ⟨smp23, (⟨44,0⟩ : Requester), 0, 0, by decide +kernel⟩,
   ⟨smp0, (⟨44,0⟩ : Requester), 0, 0, by decide +kernel⟩,
   ⟨smp23, (⟨44,0⟩ : Requester), 0, 0, by decide +kernel⟩,
   ⟨smp18, 0, by decide +kernel⟩,
   ⟨smp19, 0, by decide +kernel⟩,
   ⟨smp20, 0, by decide +kernel⟩,
   ⟨smp20, 0, by decide +kernel⟩,
   ⟨smp23, 1, 0, true, by decide +kernel⟩,
   ⟨smp23, 0, 0, true, by decide +kernel⟩,
   ⟨smp23, 0, by decide +kernel⟩,
   ⟨smp23, 1, by decide +kernel⟩⟩

end W15

namespace W16

def mdl : Mem := let recs := leBytes 1 1 ++ [0] ++ leBytes 2 40 ++ leBytes 2 1 ++ [4,0] ++ leBytes 4 96 ++ leBytes 4 136 ++ List.replicate 16 0
   let body := recs ++ (List.range 40).map (fun i => BitVec.ofNat 8 (i % 5)) ++ leBytes 4 900 ++ List.replicate 52 0
   Mem.writeN [] 0 (leBytes 4 0x534B584A ++ [1, 1, 5, 0] ++ leBytes 4 192 ++ List.replicate 48 0 ++ leBytes 4 (crc32 body) ++ body)
def svS (fs : List (Fld × Nat)) (f : Service → Service := id) (time : Nat := 1000000000) : State :=
  let s := tm rn time
  up ([(Reg.STR_CTRL.EN,1),(Reg.STR_Q_CFG.EN 8,1),(Reg.STR_Q_CFG.DEPTH_LOG2 8,6),(Reg.STR_Q_BASE_HI.ADDR 8,8),(Reg.STR_Q_CFG.EN 7,1),(Reg.STR_Q_CFG.DEPTH_LOG2 7,4),(Reg.STR_Q_BASE_LO.ADDR 7,0x8000),(Reg.STR_Q_BASE_HI.ADDR 7,8),
    (Reg.CEL_AUDIO_CFG.EN,1),(Reg.CEL_AUDIO_CFG.MIC_EN,3),(Reg.CEL_AUDIO_CFG.GAIN0,4),(Reg.CEL_WAKE_SEQ.SEQ,77),(Reg.CEL_VER_CFG.CQ,7),(Reg.CEL_VER_CFG.EN,1),(Reg.CEL_VER_CFG.READY,1),(Reg.CEL_VER_CFG.JOBQ,8)] ++ fs)
   ({ s with svc := f { s.svc with model := mdl }, mem := { s.mem with larder := Mem.writeN [] 0x8000 (leBytes 8 77 ++ leBytes 8 (77 + 2^16)), dram := Mem.writeN [] 0x100 (leBytes 8 (77 + 2^16 + 2^24*99)) } } |>.setQ 7 { marks := [true, true] })
def smp0 : State := svS []
def smp2 : State := svS [] (fun v => { v with count := 40000, ver := some { sample := 1, mic := 0 } })
def smp6 : State := svS [(Reg.CEL_SPOT_CFG.EN,1),(Reg.CEL_SPOT_CFG.THRESH,255)] (fun v => { v with frames := 3, scored := 1, feats := [List.replicate 40 3] })
def smp7 : State := svS [(Reg.CEL_SPOT_CFG.EN,1),(Reg.CEL_SPOT_CFG.THRESH,20)] (fun v => { v with frames := 3, scored := 1, feats := [List.replicate 40 3] })
def smp9 : State := svS [] (fun v => { v with model := [] })
def smp10 : State := svS [] (fun v => { v with console := some 8 })
def smp12 : State := svS [] (fun v => { v with ver := some { sample := 1, mic := 1, request := some 0 } })
def smp13 : State := (svS [(Reg.CEL_VER_ADDR_LO.ADDR,0x100)] (fun v => { v with ver := some { sample := 1, mic := 1, request := some 1 } }))
def smp14 : State := (svS [(Reg.CEL_VER_ADDR_LO.ADDR,0x100)] (fun v => { v with ver := some { sample := 1, mic := 1, request := some 1 } })).setQ 7 { marks := [true], head := 1 }
def smp15 : State := svS [(Reg.CEL_SPOT_CFG.EN,1),(Reg.CEL_SPOT_CFG.THRESH,20),(Reg.CEL_AUDIO_SAMPLES.SAMPLE_CNT,480)] (fun v => { v with frames := 3, scored := 1, feats := [List.replicate 40 3] })

set_option synthInstance.maxHeartbeats 400000 in
set_option synthInstance.maxSize 4000 in
/-- States and operands that meet the hypotheses of CellarServices, clause by clause. -/
theorem witness_CellarServices :
    (∃ (s : State), s.awake ∧ s.flag Reg.CEL_AUDIO_CFG.EN = true ∧ sampleDue s = true) ∧
    (∃ (s : State), s.awake ∧ s.flag Reg.CEL_AUDIO_CFG.EN = true ∧ s.svc.count % 160 = 0 ∧ s.svc.frames < s.svc.count / 160) ∧
    (∃ (s : State) (o : Nat) (n : Nat), s.awake ∧ o < 0x20000 ∧ o % 4 = 0 ∧ n % 4 = 0 ∧ 4 ≤ n ∧ n ≤ 256 ∧ o / 0x10000 = (o + n - 1) / 0x10000) ∧
    (∃ (s : State), s.awake ∧ s.flag Reg.CEL_SPOT_CFG.EN = true ∧ s.svc.scored < s.svc.frames ∧ modelNum s 5 1 ≤ s.svc.feats.length ∧ (let sc := spotScore s; decide ((sc < s.rd Reg.CEL_SPOT_CFG.THRESH ∨ (∃ d, s.svc.lastDet = some d ∧ d < s.rd Reg.CEL_SPOT_CFG.REFRACT)))) = true) ∧
    (∃ (s : State), s.awake ∧ s.flag Reg.CEL_SPOT_CFG.EN = true ∧ s.svc.scored < s.svc.frames ∧ modelNum s 5 1 ≤ s.svc.feats.length ∧ (let sc := spotScore s; decide (s.rd Reg.CEL_SPOT_CFG.THRESH ≤ sc ∧ (∀ d ∈ s.svc.lastDet, s.rd Reg.CEL_SPOT_CFG.REFRACT ≤ d) ∧ s.svc.ver = none ∧ (s.flag Reg.CEL_VER_CFG.EN = false ∨ (s.rd Reg.CEL_AUDIO_SAMPLES.SAMPLE_CNT + 2 ^ 32 - (160 * s.svc.frames - 1) % 2 ^ 32) % 2 ^ 32 ≤ 32769 - verLen s))) = true) ∧
    (∃ (s : State) (rq : Requester) (d : Nat), s.awake ∧ passes (.spotEnable rq d) s = true ∧ bits d 1 2 ≤ 2 ∧ bit d 0 = true ∧ s.flag Reg.CEL_SPOT_CFG.EN = false ∧ keywordReason s ≠ 0) ∧
    (∃ (s : State) (rq : Requester) (d : Nat), s.awake ∧ passes (.spotEnable rq d) s = true ∧ bits d 1 2 ≤ 2 ∧ (bit d 0 = false ∨ s.flag Reg.CEL_SPOT_CFG.EN = true ∨ keywordReason s = 0)) ∧
    (∃ (s : State), s.awake ∧ (match s.svc.console with | some e => decide (e ≤ s.now) | _ => false) = true) ∧
    (∃ (s : State), s.awake ∧ (match s.svc.ver with | some v => decide (v.request = none ∧ s.mode = 3 ∧ 3 ≤ s.tier ∧ s.flag Reg.STR_CTRL.EN = true ∧ s.flag Reg.CEL_VER_CFG.READY = true) | _ => false) = true) ∧
    (∃ (s : State), s.awake ∧ (match s.svc.ver with | some v => decide ((match v.request with | some at_ => decide (at_ + 491520 * max 1 (s.rd Reg.CEL_VER_LEN.TIMEOUT_MS) ≤ s.now) | _ => false) = true) | _ => false) = true) ∧
    (∃ (s : State), s.awake ∧ (match s.svc.ver with | some v => decide ((match v.request with | some at_ => decide ((let q := s.rd Reg.CEL_VER_CFG.CQ; decide (s.flag Reg.CEL_VER_CFG.EN = true ∧ 3 ≤ s.tier ∧ s.mem.larderBad = [] ∧ (s.q q).marks ≠ [] ∧ (s.q q).cut = false ∧ (let w := s.bytesAt (qBase s q + 8 * (s.q q).head) 8; decide (field w 0 2 = s.rd Reg.CEL_WAKE_SEQ.SEQ % 65536 ∧ field w 2 1 ≠ 0)) = true)) = true) | _ => false) = true) | _ => false) = true) ∧
    (∃ (s : State), s.awake ∧ (match s.svc.ver with | some v => decide ((match v.request with | some at_ => decide ((let q := s.rd Reg.CEL_VER_CFG.CQ; decide (s.flag Reg.CEL_VER_CFG.EN = true ∧ 3 ≤ s.tier ∧ s.mem.larderBad = [] ∧ (s.q q).marks ≠ [] ∧ (s.q q).cut = false ∧ (let w := s.bytesAt (qBase s q + 8 * (s.q q).head) 8; decide (field w 0 2 = s.rd Reg.CEL_WAKE_SEQ.SEQ % 65536 ∧ field w 2 1 = 0 ∧ (match (popSlot s q).1.busRead cellarCore (s.rdPair Reg.CEL_VER_ADDR_LO.ADDR Reg.CEL_VER_ADDR_HI.ADDR) 8 with | (u, some (bs, false)) => decide (leNat bs % 65536 = s.rd Reg.CEL_WAKE_SEQ.SEQ % 65536 ∧ u.rd Reg.CEL_WAKE_SEQ.SEQ = s.rd Reg.CEL_WAKE_SEQ.SEQ) | _ => false) = true)) = true)) = true) | _ => false) = true) | _ => false) = true) :=
  ⟨⟨smp0, by decide +kernel⟩,
   ⟨smp2, by decide +kernel⟩,
   ⟨smp0, 0, 4, by decide +kernel⟩,
   ⟨smp6, by decide +kernel⟩,
   ⟨smp15, by decide +kernel⟩,
   ⟨smp9, (⟨44,0⟩ : Requester), 1, by decide +kernel⟩,
   ⟨smp0, (⟨44,0⟩ : Requester), 0, by decide +kernel⟩,
   ⟨smp10, by decide +kernel⟩,
   ⟨smp2, by decide +kernel⟩,
   ⟨smp12, by decide +kernel⟩,
   ⟨smp14, by decide +kernel⟩,
   ⟨smp13, by decide +kernel⟩⟩

end W16

namespace W17

def gid : List Byte := leBytes 48 0xABCDEF
def gent (role tol : Nat) (ports routes : List Nat) (dig : Nat) : List Byte :=
  leBytes 1 role ++ leBytes 1 tol ++ [0,0] ++ (ports.map (BitVec.ofNat 8)) ++ (routes.map (BitVec.ofNat 8)) ++ leBytes 48 dig
def gbody : List Byte := gid ++ leBytes 8 7 ++ leBytes 4 0x01020304 ++ [0,0] ++ leBytes 2 3 ++
  gent 1 0 [128 + 16 + 0, 128+32+1, 0, 0] [255,0,1,255,255,255,255,255] 0 ++
  gent 2 1 [128 + 0, 0, 0, 0] [0,255,0,255,255,255,255,255] 99 ++ gent 2 1 [0, 128+1, 0, 0] [1,1,255,255,255,255,255,255] 98 ++
  (List.replicate 5 (gent 0 0 [0,0,0,0] [255,255,255,255,255,255,255,255] 0)).flatten
def mani (h rev epoch dig : Nat) (magic : Nat := 0x4D47584A) : List Byte :=
  leBytes 4 magic ++ [1, BitVec.ofNat 8 h, 2, 0] ++ leBytes 2 rev ++ [0,0] ++ leBytes 4 0x01020304 ++ leBytes 8 epoch ++ leBytes 8 0 ++ leBytes 48 dig ++ gid
def grS (fs : List (Fld × Nat)) (f : Group → Group := id) (own : Nat := 1) (time : Nat := 10000000000) : State :=
  let s := tm rn time
  up ([(Reg.STR_CTRL.EN,1),(Reg.STR_Q_CFG.EN 8,1),(Reg.STR_Q_CFG.DEPTH_LOG2 8,6),(Reg.STR_Q_BASE_HI.ADDR 8,8),(Reg.CFG_STAT.HOP, own),(Reg.GRP_STAT.STATE,2),
     (Reg.GRP_TETHER_STAT.STATE 0, 2),(Reg.GRP_TETHER_STAT.STATE 1, 1)] ++ fs)
   { s with cfg := { s.cfg with groupBody := some gbody }, grp := f s.grp, mem := { s.mem with larder := Mem.writeN [] 0x100 ([1,0,0,5] ++ leBytes 4 64 ++ leBytes 8 0x800000200 ++ leBytes 8 64 ++ [8,0] ++ leBytes 2 12 ++ leBytes 4 0) } }
def fr (ty seq ack nak : Nat) (ok : Bool := true) : List Byte :=
  let b := leBytes 2 (seq + 4096 * ty) ++ leBytes 2 (ack + 16384 * nak) ++ List.replicate 80 7
  b ++ leBytes 4 (if ok then crc32 b else 3)
def ou (n : Nat) : TetherOut := ⟨n, 1, 0, .joined, 0, 0, false⟩
def mv (op : Nat) (st : Option Nat := none) : Move := { op := op, member := 0, qclass := 0, queue := 0, length := 64, local_ := 0x800000000 , remote := 0, cq := 8, tag := 4, status := st }
def smp0 : State := grS []
def smp1 : State := grS [] (fun g => { g with ports := [(0, { next := 5, unacked := [ou 3, ou 4], seq := 5, hello := true })] })
def smp2 : State := grS [] (fun g => { g with ports := [(0, { next := 5, unacked := [ou 3, ou 4], replays := 15 })], moves := [mv 1] })
def smp3 : State := grS [] (fun g => { g with moves := [mv 1, mv 2, mv 3] })
def smp4 : State := grS [] (fun g => { g with moves := [mv 1, { mv 2 with member := 4, local_ := 0x8000100 }] })
def smp5 : State := grS [] (fun g => { g with moves := [mv 1 , mv 2 (some 0)] })
def smp8 : State := grS [(Reg.GRP_MEMBERS.ADMITTED, 7)] id 0
def smp11 : State := (let s := grS [(Reg.GRP_STAT.STATE, 0)]; { s with pw := { s.pw with step := 12 } })
def smp12 : State := (let s := grS [(Reg.GRP_STAT.STATE, 0)] id 0; { s with pw := { s.pw with step := 12 } })
def smp15 : State := (let s := grS [] (fun g => { g with answered := [2,1], judged := [(2,7)] }) 0; { s with pw := { s.pw with step := 12 } })
def smp16 : State := viaNi 40 [8, 12] (grS [])
def smp17 : State := viaNi 40 [8, 12] smp3

set_option synthInstance.maxHeartbeats 400000 in
set_option synthInstance.maxSize 4000 in
/-- States and operands that meet the hypotheses of TetherLinksAndMover, clause by clause. -/
theorem witness_TetherLinksAndMover :
    (∃ (s : State) (p : Nat) (f : List Byte), s.awake ∧ p < 4 ∧ 2 ≤ portState s p ∧ f.length = 88 ∧ 1 ≤ bits (field f 0 2) 12 4 ∧ bits (field f 0 2) 12 4 ≤ 3 ∧ (let x := s.tether p; decide (field f 84 4 = crc32 (slice f 0 84) ∧ bits (field f 0 2) 0 12 = x.next ∧ bit (field f 2 2) 14 = false)) = true) ∧
    (∃ (s : State) (p : Nat) (f : List Byte), s.awake ∧ p < 4 ∧ 2 ≤ portState s p ∧ f.length = 88 ∧ 1 ≤ bits (field f 0 2) 12 4 ∧ bits (field f 0 2) 12 4 ≤ 3 ∧ (let x := s.tether p; decide ((field f 84 4 ≠ crc32 (slice f 0 84) ∨ bits (field f 0 2) 0 12 ≠ x.next))) = true) ∧
    (∃ (s : State) (p : Nat), s.awake ∧ p < 4 ∧ (let x := s.tether p; decide (2 ≤ portState s p ∧ 983 ≤ (s.ck.time - x.ackAt).toNat ∧ x.unacked ≠ [] ∧ x.replays < 15)) = true) ∧
    (∃ (s : State) (p : Nat), s.awake ∧ p < 4 ∧ (let x := s.tether p; decide (2 ≤ portState s p ∧ 983 ≤ (s.ck.time - x.ackAt).toNat ∧ x.unacked ≠ [] ∧ 15 ≤ x.replays ∧ isLeader s = false)) = true) ∧
    (∃ (s : State) (p : Nat), s.awake ∧ p < 4 ∧ 2 ≤ portState s p ∧ isLeader s = false) ∧
    (∃ (s : State) (p : Nat), s.awake ∧ p < 4 ∧ portState s p = 1 ∧ inGroup s = true) ∧
    (∃ (s : State) (p : Nat), s.awake ∧ p < 4 ∧ portState s p = 1 ∧ 24576000 ≤ (s.ck.time - (s.tether p).ackAt).toNat) ∧
    (∃ (s : State) (rq : Requester) (d : Nat), s.awake ∧ passes (.movePost rq d) s = true ∧ (let v := s.wr Reg.GRP_MOVE_POST_HI.ADDR d; decide ((match v.busRead ⟨40, 0⟩ (v.rdPair Reg.GRP_MOVE_POST_LO.ADDR Reg.GRP_MOVE_POST_HI.ADDR) 32 with | (u, some (bs, bad)) => decide (True) | _ => false) = true)) = true) ∧
    (∃ (s : State) (rq : Requester) (d : Nat), s.awake ∧ passes (.movePost rq d) s = true ∧ (let v := s.wr Reg.GRP_MOVE_POST_HI.ADDR d; decide ((match v.busRead ⟨40, 0⟩ (v.rdPair Reg.GRP_MOVE_POST_LO.ADDR Reg.GRP_MOVE_POST_HI.ADDR) 32 with | (u, none) => decide (True) | _ => false) = true)) = true) ∧
    (∃ (s : State), s.awake ∧ (match nextMove s 1 with | some m => decide ((match s.busRead ⟨40, m.qclass⟩ m.local_ m.length with | (u, some (bs, false)) => decide (True) | _ => false) = true) | _ => false) = true) ∧
    (∃ (s : State), s.awake ∧ (match nextMove s 3 with | some m => decide ((match s.busRead ⟨40, m.qclass⟩ m.local_ m.length with | (u, some (bs, false)) => decide (True) | _ => false) = true) | _ => false) = true) ∧
    (∃ (s : State) (remote : Nat), s.awake ∧ (match nextMove s 2 with | some m => decide ((remote = 2 ∨ remote = 4)) | _ => false) = true) ∧
    (∃ (s : State) (bytes : List Byte) (remote : Nat), s.awake ∧ (match nextMove s 2 with | some m => decide (remote ≠ 2 ∧ remote ≠ 4 ∧ (let v := sendMember s m.member 1 (.request false m.qclass m.remote []); decide ((match v.busWrite ⟨40, m.qclass⟩ m.local_ (slice bytes 0 m.length) with | (u, ok) => decide (True)) = true)) = true) | _ => false) = true) ∧
    (∃ (s : State), s.awake ∧ (match takeDone s.grp.moves with | some (m, st, ms) => decide (True) | _ => false) = true) :=
  ⟨⟨smp0, 0, (fr 1 0 0 0 : List Byte), by decide +kernel⟩,
   ⟨smp0, 0, (fr 1 5 4 0 : List Byte), by decide +kernel⟩,
   ⟨smp1, 0, by decide +kernel⟩,
   ⟨smp2, 0, by decide +kernel⟩,
   ⟨smp0, 0, by decide +kernel⟩,
   ⟨smp0, 1, by decide +kernel⟩,
   ⟨smp0, 1, by decide +kernel⟩,
   ⟨smp16, (⟨36,0⟩ : Requester), 8, by decide +kernel⟩,
   ⟨smp0, (⟨36,0⟩ : Requester), 0, by decide +kernel⟩,
   ⟨smp17, by decide +kernel⟩,
   ⟨smp17, by decide +kernel⟩,
   ⟨smp3, 2, by decide +kernel⟩,
   ⟨smp4, gid, 0, by decide +kernel⟩,
   ⟨smp5, by decide +kernel⟩⟩

/-- States and operands that meet the hypotheses of GroupFormingAndReset, clause by clause. -/
theorem witness_GroupFormingAndReset :
    (∃ (s : State), s.awake ∧ s.pw.step = 12 ∧ inGroup s = true ∧ grpState s = 0 ∧ (isMember s = true ∨ (∃ k ∈ declared s, k ∉ s.grp.answered))) ∧
    (∃ (s : State) (p : Nat) (h : Nat) (q : Nat) (id : List Byte), s.awake ∧ p < 4 ∧ h < 8 ∧ q < 4 ∧ 2 ≤ portState s p ∧ inGroup s = true ∧ id ≠ slice (groupBody s) 0 48) ∧
    (∃ (s : State) (p : Nat) (h : Nat) (q : Nat), s.awake ∧ p < 4 ∧ h < 8 ∧ q < 4 ∧ 2 ≤ portState s p ∧ inGroup s = true ∧ h = 0 ∧ s.ownMember = 0) ∧
    (∃ (s : State) (p : Nat) (h : Nat) (q : Nat), s.awake ∧ p < 4 ∧ h < 8 ∧ q < 4 ∧ 2 ≤ portState s p ∧ inGroup s = true ∧ (h ≠ 0 ∨ s.ownMember ≠ 0) ∧ groupPort (groupBody s) s.ownMember p ≠ 128 + 16 * h + q) ∧
    (∃ (s : State) (p : Nat) (h : Nat) (q : Nat), s.awake ∧ p < 4 ∧ h < 8 ∧ q < 4 ∧ 2 ≤ portState s p ∧ inGroup s = true ∧ (h ≠ 0 ∨ s.ownMember ≠ 0) ∧ groupPort (groupBody s) s.ownMember p = 128 + 16 * h + q) ∧
    (∃ (s : State) (dev : Nat) (m : List Byte), s.awake ∧ isLeader s = true ∧ grpState s = 2 ∧ (let h := manifestMember m; decide (h < 8 ∧ (let row := verdict s dev m; decide (row = 1)) = true)) = true) ∧
    (∃ (s : State) (dev : Nat) (m : List Byte), s.awake ∧ isLeader s = true ∧ grpState s = 2 ∧ (let h := manifestMember m; decide (h < 8 ∧ (let row := verdict s dev m; decide ((s.pw.step ≠ 12 ∨ (∃ k ∈ declared s, k ≠ h ∧ k ∉ s.grp.answered)) ∧ row = 8)) = true)) = true) ∧
    (∃ (s : State) (dev : Nat) (m : List Byte), s.awake ∧ isLeader s = true ∧ grpState s = 2 ∧ (let h := manifestMember m; decide (h < 8 ∧ (let row := verdict s dev m; decide ((s.pw.step ≠ 12 ∨ (∃ k ∈ declared s, k ≠ h ∧ k ∉ s.grp.answered)) ∧ row = 3)) = true)) = true) ∧
    (∃ (s : State) (dev : Nat) (m : List Byte), s.awake ∧ isLeader s = true ∧ grpState s = 2 ∧ (let h := manifestMember m; decide (h < 8 ∧ (let row := verdict s dev m; decide ((s.pw.step ≠ 12 ∨ (∃ k ∈ declared s, k ≠ h ∧ k ∉ s.grp.answered)) ∧ (row = 4 ∨ row = 5))) = true)) = true) ∧
    (∃ (s : State) (dev : Nat) (m : List Byte), s.awake ∧ isLeader s = true ∧ grpState s = 2 ∧ (let h := manifestMember m; decide (h < 8 ∧ (let row := verdict s dev m; decide (row = 8 ∧ s.pw.step = 12 ∧ (∀ k ∈ declared s, k = h ∨ k ∈ s.grp.answered))) = true)) = true) ∧
    (∃ (s : State) (w : Nat), s.awake ∧ isMember s = true ∧ (let fl := [Reg.GRP_STAT.STATE, Reg.GRP_MEMBERS.ADMITTED, Reg.GRP_MEMBERS.BENCHED, Reg.GRP_MEMBERS.LOST]; decide (True)) = true) ∧
    (∃ (s : State), s.awake ∧ isMember s = true) ∧
    (∃ (s : State), s.awake ∧ isMember s = true ∧ s.pw.step ≠ 12) ∧
    (∃ (s : State), s.awake ∧ s.pw.step = 12 ∧ inGroup s = true ∧ seconds (field (groupBody s) 62 2) ≤ (s.ck.time - s.grp.formAt).toNat ∧ (isLeader s = true ∨ grpState s = 1)) ∧
    (∃ (s : State) (t1 : DWord) (t2 : DWord) (t3 : DWord) (t4 : DWord) (pOfs : Int), s.awake ∧ isMember s = true ∧ (let offs := (s.grp.offs ++ [(t2 - t1).toInt - (t4 - t3).toInt]).drop (s.grp.offs.length - 15); decide (True)) = true) ∧
    (∃ (s : State) (p : Nat), s.awake ∧ inGroup s = true ∧ p < 4 ∧ (s.tether p).hello = true) ∧
    (∃ (s : State) (rq : Requester) (d : Nat), s.awake ∧ passes (.grpReset rq d) s = true ∧ bits d 16 16 ≠ 0x6B71) ∧
    (∃ (s : State) (rq : Requester) (d : Nat), s.awake ∧ passes (.grpReset rq d) s = true ∧ bits d 16 16 = 0x6B71 ∧ (isLeader s = false ∨ grpState s ≠ 2)) ∧
    (∃ (s : State) (rq : Requester) (d : Nat), s.awake ∧ passes (.grpReset rq d) s = true ∧ bits d 16 16 = 0x6B71 ∧ isLeader s = true ∧ grpState s = 2) :=
  ⟨⟨smp11, by decide +kernel⟩,
   ⟨smp0, 0, 0, 0, ([] : List Byte), by decide +kernel⟩,
   ⟨smp8, 0, 0, 0, by decide +kernel⟩,
   ⟨smp0, 0, 0, 1, by decide +kernel⟩,
   ⟨smp0, 0, 0, 0, by decide +kernel⟩,
   ⟨smp8, 0, gid, by decide +kernel⟩,
   ⟨smp8, 0, (mani 1 0x4101 7 99 : List Byte), by decide +kernel⟩,
   ⟨smp8, 0, (mani 1 0 6 99 : List Byte), by decide +kernel⟩,
   ⟨smp8, 0, (mani 1 0 8 99 : List Byte), by decide +kernel⟩,
   ⟨smp15, 0, (mani 1 0x4101 7 99 : List Byte), by decide +kernel⟩,
   ⟨smp0, 0, by decide +kernel⟩,
   ⟨smp0, by decide +kernel⟩,
   ⟨smp0, by decide +kernel⟩,
   ⟨smp12, by decide +kernel⟩,
   ⟨smp0, (0#64 : DWord), (0#64 : DWord), (0#64 : DWord), (0#64 : DWord), (-3 : Int), by decide +kernel⟩,
   ⟨smp1, 0, by decide +kernel⟩,
   ⟨smp0, (⟨36,0⟩ : Requester), 0, by decide +kernel⟩,
   ⟨smp0, (⟨36,0⟩ : Requester), 0x6B710003, by decide +kernel⟩,
   ⟨smp8, (⟨36,0⟩ : Requester), 0x6B710003, by decide +kernel⟩⟩

end W17

/-! Results that the spec gives. -/

/-- 02 R116: revision A1 after reset. -/
theorem test_reset_revision : (State.reset.rd Reg.SYS_ID.REV_LETTER, State.reset.rd Reg.SYS_ID.REV_DIGIT) = (0x41, 1) := by decide +kernel

/-- 02 R107: a wrong key is ignored and logged. -/
theorem test_key_mismatch :
    (nx (.wdogKick ⟨44, 1⟩ 0xA5C2) rn).log.intake.getLast?.map (·.code) = some 0x010C ∧
    (nx (.wdogKick ⟨44, 1⟩ 0xA5C2) rn).pw = rn.pw := by decide +kernel

/-- 02 R74: a request while BUSY is 1 is refused and logged 0x0109. -/
theorem test_power_request_while_busy :
    (nx (.pwrReqHoldover ⟨44, 1⟩ 0) (up [(Reg.SYS_PWR_MODE.BUSY, 1)] rn)).log.intake.getLast?.map (·.code) = some 0x0109 := by decide +kernel

/-- 05 R231: no route, no request. -/
theorem test_no_route :
    (nx (.nocRequest ⟨37, 0⟩ false 0 64 [] false) rn).resp.busError = true ∧
    (nx (.nocRequest ⟨37, 0⟩ false 0 64 [] false) rn).log.intake.getLast?.map (·.code) = some 0x0404 := by decide +kernel

/-- 08 R387: integer operations of the scalar slots on the operands 2^63 and 2^64 - 1. -/
theorem test_engine_add_wraps : ((nx (.add 0 0) (W10.mk 1 1 (W10.sx 0x01 7 3 4))).bank 0 1).sc 7 = 0x7FFFFFFFFFFFFFFF := by decide +kernel
theorem test_engine_div_overflow : ((nx (.div 0 0) (W10.mk 1 1 (W10.sx 0x0B 7 3 4))).bank 0 1).sc 7 = 0x8000000000000000 := by decide +kernel
theorem test_engine_div_by_zero : ((nx (.div 0 0) (W10.mk 1 1 (W10.sx 0x0B 7 6 0))).bank 0 1).sc 7 = 0xFFFFFFFFFFFFFFFF := by decide +kernel
theorem test_engine_rem_by_zero : ((nx (.rem 0 0) (W10.mk 1 1 (W10.sx 0x0C 7 6 0))).bank 0 1).sc 7 = 77 := by decide +kernel
theorem test_engine_mulh_signed : ((nx (.mulh 0 0) (W10.mk 1 1 (W10.sx 0x0A 7 3 6))).bank 0 1).sc 7 = 0xFFFFFFFFFFFFFFD9 := by decide +kernel
theorem test_engine_sra_signed : ((nx (.sra 0 0) (W10.mk 1 1 (W10.sx 0x08 7 3 0 (some 63)))).bank 0 1).sc 7 = 0xFFFFFFFFFFFFFFFF := by
  decide +kernel
theorem test_engine_srl_unsigned : ((nx (.srl 0 0) (W10.mk 1 1 (W10.sx 0x07 7 3 0 (some 63)))).bank 0 1).sc 7 = 1 := by decide +kernel
theorem test_engine_min_signed : ((nx (.min 0 0) (W10.mk 1 1 (W10.sx 0x0D 7 3 6))).bank 0 1).sc 7 = 0x8000000000000000 := by decide +kernel
theorem test_engine_s0_is_zero : ((nx (.add 0 0) (W10.mk 1 1 (W10.sx 0x01 0 6 6))).bank 0 1).sc 0 = 0 := by decide +kernel

/-- 06 R279: the first crate of pool 0 in a fresh storeroom: POOL 0, GEN as its state table holds it, INDEX 0. -/
theorem test_pool_alloc : (nx (.poolAlloc ⟨36, 0⟩ 0) W08.se).resp.value % 2 ^ 20 = 0 ∧ (nx (.poolAlloc ⟨36, 0⟩ 0) W08.se).resp.busError = false := by
  decide +kernel

/-- The CRC-32 of the frames and of the models: its published check value. -/
theorem test_crc32 : crc32 [0x31, 0x32, 0x33, 0x34, 0x35, 0x36, 0x37, 0x38, 0x39] = 0xCBF43926 := by decide +kernel

/-- 16 R748, R749: instants 0, 90, 100 and 190 give a path delay of 90 ticks. -/
theorem test_time_exchange :
    (nx (.timeExchange none true 0 90 100 190 0) (W17.grS [(Reg.GRP_TIME_CFG.HW_SERVO, 0)])).rd Reg.GRP_TIME_DELAY.TICKS = 90 ∧
    (nx (.timeExchange none true 0 90 100 190 0) (W17.grS [(Reg.GRP_TIME_CFG.HW_SERVO, 0)])).grp.offs = [0] := by decide +kernel

/-- 16 R732: the sixteenth replay takes the link down. -/
theorem test_sixteenth_replay :
    (nx (.tetherReplayTimeout 0) (W17.grS [] (fun g => { g with ports := [(0, { unacked := [W17.ou 3], replays := 15 })] }))).log.intake.getLast?.map
      (·.code) = some 0x2402 := by decide +kernel

/-- 16 R757: a wrong key at GRP_RESET, and the right one at a device that is not the leader. -/
theorem test_group_reset :
    (nx (.grpReset ⟨36, 0⟩ 0x6B700001) (W17.grS [])).log.intake.getLast?.map (·.code) = some 0x010C ∧
    (nx (.grpReset ⟨36, 0⟩ 0x6B710001) (W17.grS [])).log.intake.getLast?.map (·.code) = some 0x240D := by decide +kernel

end Sys2Proof.Tests
end

section
/-! What the checks of an access let through, and what a write of one word then reaches: the rules that statements about register
commands and about REGISTER_WRITE rest on (00 R7, R8, R14, 01 R41-R43, 02 R115, 05 R231). -/

namespace Sys2Proof.Machine

/-! Words as bytes. -/

theorem leBytes_length (n v : Nat) : (leBytes n v).length = n := by
  induction n generalizing v with
  | zero => rfl
  | succ n ih => simp [leBytes, ih]

theorem leNat_leBytes (n v : Nat) : leNat (leBytes n v) = v % 256 ^ n := by
  induction n generalizing v with
  | zero => simp [leBytes, leNat, Nat.mod_one]
  | succ n ih =>
    have hpow : 256 ^ (n + 1) = 256 * 256 ^ n := Nat.pow_succ'
    rw [leBytes, leNat, ih, BitVec.toNat_ofNat, hpow, Nat.mod_mul]

theorem slice_all (bs : List Byte) : slice bs 0 bs.length = bs := by simp [slice]

/-- The word written is the word that its bytes hold (00 R8). -/
theorem field_leBytes {n v : Nat} (h : v < 256 ^ n) : field (leBytes n v) 0 n = v := by
  have hs := slice_all (leBytes n v)
  rw [leBytes_length] at hs
  rw [field, hs, leNat_leBytes, Nat.mod_eq_of_lt h]

/-! The checks. -/

theorem allowed_iff {s : State} {rq : Requester} {a d : Nat} {w : Bool} :
    allowed s rq a w d = true ↔ mayRequest s rq = true ∧ ∃ t, routedAccess s rq a 4 w d = .ok t := by
  unfold allowed
  cases routedAccess s rq a 4 w d <;> simp

/-- An access that the checks let through goes to the window it lies in. -/
theorem checkAccess_ok {s : State} {rq : Requester} {a len d : Nat} {w : Bool} {t : Target}
    (h : checkAccess s rq a len w d = .ok t) : t = (windowOf a).1 := by
  unfold checkAccess at h
  split at h
  rename_i u hi hw
  repeat' split at h
  all_goals cases h
  rw [hw]

/-- An access past its route and its checks has a route, and the checks let it through to its window. -/
theorem routedAccess_ok {s : State} {rq : Requester} {a len d : Nat} {w : Bool} {t : Target}
    (h : routedAccess s rq a len w d = .ok t) :
    unrouted s rq a len = none ∧ checkAccess s rq a len w d = .ok (windowOf a).1 := by
  unfold routedAccess at h
  cases hu : unrouted s rq a len with
  | some e => rw [hu] at h; cases h
  | none =>
    rw [hu] at h
    have hc : checkAccess s rq a len w d = .ok t := h
    exact ⟨rfl, checkAccess_ok hc ▸ hc⟩

/-- The SYS window (01 R41). -/
theorem windowOf_sys {a : Nat} (lo : 0xF00000000 ≤ a) (hi : a ≤ 0xF000FFFFF) : windowOf a = (.sys, 0xF000FFFFF) := by
  have h1 : ¬ a ≤ 0x7BFFFFFFF := by omega
  have h2 : ¬ a ≤ 0x803FFFFFF := by omega
  have h3 : ¬ a ≤ 0xBFFFFFFFF := by omega
  simp [windowOf, memoryMap, List.find?, lo, hi, h1, h2, h3]

/-- The SYS window answers in every tier and stands in no domain (01 R44, 02 R60). -/
theorem unitUp_sys {s : State} {rq : Requester} {a hi : Nat} (h : windowOf a = (.sys, hi)) : unitUp s rq a = true := by
  simp [unitUp, domainOf, tierReached, h]

/-- In the SYS window the write right is the one check that can fail (02 R115). -/
theorem checkAccess_sys_write {s : State} {rq : Requester} {a len d : Nat} (lo : 0xF00000000 ≤ a) (ha : a ≤ 0xF000FFFFF)
    (hi : a + len - 1 ≤ 0xF000FFFFF) :
    checkAccess s rq a len true d = if mayWrite rq a then .ok .sys else .err (s.denied a rq) := by
  have hw := windowOf_sys lo ha
  cases hm : mayWrite rq a <;> simp [checkAccess, hw, noWindow, unitUp_sys hw, Nat.not_lt.mpr hi, hm]

/-! Write rights. -/

theorem isControl_iff (rq : Requester) : rq.isControl = true ↔ rq.ni = 44 ∨ rq.ni = 36 ∨ rq.ni = 45 := by
  simp only [Requester.isControl, Bool.or_eq_true, beq_iff_eq]
  omega

theorem mayWrite_controlOnly {rq : Requester} {a : Nat} (h : a ∈ controlOnly) : mayWrite rq a = rq.isControl := by
  have hf : a ≠ 0xF00000074 := fun e => absurd (e ▸ h) (by decide)
  have hc : controlOnly.contains a = true := List.contains_iff_mem.mpr h
  rw [mayWrite, if_neg hf, if_pos hc]

/-- A write without the right is answered with a bus error and 0x0107, which carries the address and the requester (02 R115);
its island is the requester's (log entry 14). -/
theorem denied_logs (s : State) (a : Nat) (rq : Requester) :
    (s.denied a rq).resp.busError = true ∧ Logs s (s.denied a rq) rq.island 0x0107 a (a / 2 ^ 32 % 16 + 256) rq.ni :=
  ⟨rfl, (logs_logEvent ..).congr rfl rfl⟩

/-! Commands that are one register access. -/

/-- A register command that passes its checks has its effect. -/
theorem Runs.of_atRegister {c : Instr} {s : State} {rq : Requester} {a d : Nat} {w : Bool} {k : State → State}
    {P : State → Prop} (hc : exec c s = whilePowered s fun s => atRegister s rq a w d k) (hs : s.awake)
    (ha : allowed s rq a w d = true) (hP : P (k s)) : Runs c s P :=
  ⟨k s, by rw [hc, whilePowered_awake hs, atRegister_allowed ha], hP⟩

/-- A write of one word that passes its route and its checks, made as a request on the network, reaches its window's target. -/
theorem nocRequest_word_write {s : State} {rq : Requester} {a d : Nat} (h : allowed s rq a true d = true) (hd : d < 2 ^ 32)
    (hm : (windowOf a).1 ≠ .dram ∧ (windowOf a).1 ≠ .larder) :
    nocRequest s rq true a 4 (leBytes 4 d) false = targetAccess s rq (windowOf a).1 true a 4 (leBytes 4 d) := by
  obtain ⟨hmay, t, hr⟩ := allowed_iff.mp h
  obtain ⟨hroute, hcheck⟩ := routedAccess_ok hr
  obtain ⟨hup, htag⟩ : requesterUp s rq = true ∧ (freeTag s rq.ni).isSome = true := by
    simpa [mayRequest] using hmay
  have htag' : (freeTag s rq.ni).isNone = false := by simpa using htag
  have hword : field (leBytes 4 d) 0 4 = d := field_leBytes hd
  simp [nocRequest, checkedRequest, hup, htag', hroute, hword, hcheck, hm]

/-- A word written to a SYS register acts on that register (00 R8, R13). -/
theorem targetAccess_sys_word {s : State} {rq : Requester} {a d : Nat} (ha : a % 4 = 0) (hf : (fieldsAt a).isSome = true)
    (hd : d < 2 ^ 32) : targetAccess s rq .sys true a 4 (leBytes 4 d) = sysWrite s rq a d := by
  have hword : field (leBytes 4 d) 0 4 = d := field_leBytes hd
  simp [targetAccess, unitAccess, regWrite, writeWindow, unitWrite, ha, hf, hword]

/-- REGISTER_WRITE of a word to a SYS register, its route and checks passed, acts on that register. -/
theorem Runs.registerWrite_sys {s : State} {rq : Requester} {a d : Nat} {P : State → Prop} (hs : s.awake)
    (lo : 0xF00000000 ≤ a) (hi : a ≤ 0xF000FFFFF) (ha : a % 4 = 0) (hf : (fieldsAt a).isSome = true) (hd : d < 2 ^ 32)
    (h : allowed s rq a true d = true) (hP : P (sysWrite s rq a d)) : Runs (.registerWrite rq a 4 d) s P := by
  have hw : (windowOf a).1 = .sys := by rw [windowOf_sys lo hi]
  have hx : exec (.registerWrite rq a 4 d) s = whilePowered s fun s => nocRequest s rq true a 4 (leBytes 4 d) false := rfl
  refine ⟨sysWrite s rq a d, ?_, hP⟩
  rw [hx, whilePowered_awake hs, nocRequest_word_write h hd (by simp [hw]), hw, targetAccess_sys_word ha hf hd]

end Sys2Proof.Machine
end

section
/-! The power registers of the SYS window: who may write them (02 R115), and keys that do not match (02 R107). -/

namespace Sys2Proof.Machine

/-! The write rights of 02 R115. -/

/-- A write of a word to a register that only the control requesters may write, within the SYS window, is answered by who asks. -/
theorem checkAccess_sys_controlOnly {s : State} {rq : Requester} {a d : Nat} (lo : 0xF00000000 ≤ a) (hi : a + 3 ≤ 0xF000FFFFF)
    (h : a ∈ controlOnly) :
    checkAccess s rq a 4 true d = if rq.isControl then .ok .sys else .err (s.denied a rq) := by
  rw [checkAccess_sys_write lo (by omega) (by omega), mayWrite_controlOnly h]

/-! Keys (02 R107). -/

/-- A key that does not match is logged as 0x010C by island 234 (log entry 14), and beside the log only the answer changes. -/
theorem keyMismatch_logs_confined (s : State) (rq : Requester) (a d : Nat) :
    Logs s (keyMismatch s rq a d) 234 0x010C a d rq.ni ∧
      Confined [.resp, .log] (only [Reg.LOG_LOST_DROP.COUNT]) s (keyMismatch s rq a d) :=
  ⟨(logs_logEvent ..).congr rfl rfl,
    ((Confined.refl _ _ s).logEvent _ _ _ _ _ (by decide) (only_key (by decide))).answer _ (by decide)⟩

/-- The same after a free value was drawn, as REGISTER_WRITE draws one for SYS_RESET (log entry 20). -/
theorem keyMismatch_useFresh_logs_confined (s : State) (rq : Requester) (a d : Nat) :
    Logs s (keyMismatch s.useFresh rq a d) 234 0x010C a d rq.ni ∧
      Confined [.resp, .log, .fresh] (only [Reg.LOG_LOST_DROP.COUNT]) s (keyMismatch s.useFresh rq a d) := by
  obtain ⟨hlogs, hconf⟩ := keyMismatch_logs_confined s.useFresh rq a d
  have hdraw : Confined [.resp, .log, .fresh] (only [Reg.LOG_LOST_DROP.COUNT]) s s.useFresh :=
    (Confined.refl _ _ s).useFresh (by decide)
  exact ⟨hlogs, hdraw.trans (hconf.mono (by decide) fun _ h => h)⟩

theorem writeReset_wrongKey {d : Nat} (h : bits d 16 16 ≠ 0x5AC0) (s : State) (rq : Requester) (late : Nat) :
    writeReset s rq d late = keyMismatch s rq 0xF00000034 d := if_pos h

theorem writeKick_wrongKey {d : Nat} (h : bits d 0 16 ≠ 0xA5C3) (s : State) (rq : Requester) :
    writeKick s rq d = keyMismatch s rq 0xF0000003C d := if_pos h

/-- A write to SYS_RESET draws what the surroundings bring to a reset before its key is looked at (log entry 20). -/
theorem sysWrite_reset (s : State) (rq : Requester) (d : Nat) :
    sysWrite s rq 0xF00000034 d = writeReset s.useFresh rq d (s.freeVal 23) := rfl

theorem sysWrite_kick (s : State) (rq : Requester) (d : Nat) : sysWrite s rq 0xF0000003C d = writeKick s rq d := rfl

theorem fieldsAt_reset : (fieldsAt 0xF00000034).isSome = true := by decide

theorem fieldsAt_kick : (fieldsAt 0xF0000003C).isSome = true := by decide

end Sys2Proof.Machine

/-! The statements.  They stand beside the model's namespace, which has a `keyMismatch` of its own. -/

namespace Sys2Proof.Proofs

open Sys2Proof.Machine

/-- Settles O8: in the SYS window the write right alone can turn a write away, and the seven registers are among those of the control
requesters. -/
theorem writersOfThePowerRegisters : Obligations.WritersOfThePowerRegisters := by
  intro s rq a d ha
  obtain ⟨hlo, hhi, hc⟩ : 0xF00000000 ≤ a ∧ a + 3 ≤ 0xF000FFFFF ∧ a ∈ controlOnly := by
    revert a
    decide
  rw [checkAccess_sys_controlOnly hlo hhi hc]
  refine ⟨fun h => if_pos ((isControl_iff rq).mpr h), fun h44 h36 h45 => ?_⟩
  have hn : ¬ rq.isControl = true := by
    rw [isControl_iff]
    omega
  exact ⟨s.denied a rq, if_neg hn, denied_logs s a rq⟩

/-- Settles O27: each of the five commands reaches the register's own write, which looks at the key first. -/
theorem keyMismatch : Obligations.KeyMismatch := by
  intro s rq d late hs
  refine ⟨fun ha hk => ?cold, fun ha hk => ?warm, fun ha hk => ?kick, fun hd ha hk => ?write_reset, fun hd ha hk => ?write_kick⟩
  case cold => exact .of_atRegister rfl hs ha (writeReset_wrongKey hk s rq 0 ▸ keyMismatch_logs_confined ..)
  case warm => exact .of_atRegister rfl hs ha (writeReset_wrongKey hk s rq late ▸ keyMismatch_logs_confined ..)
  case kick => exact .of_atRegister rfl hs ha (writeKick_wrongKey hk s rq ▸ keyMismatch_logs_confined ..)
  case write_reset =>
    refine .registerWrite_sys hs (by decide) (by decide) (by decide) fieldsAt_reset hd ha ?_
    rw [sysWrite_reset, writeReset_wrongKey hk]
    exact keyMismatch_useFresh_logs_confined ..
  case write_kick =>
    refine .registerWrite_sys hs (by decide) (by decide) (by decide) fieldsAt_kick hd ha ?_
    rw [sysWrite_kick, writeKick_wrongKey hk]
    exact keyMismatch_logs_confined ..

end Sys2Proof.Proofs
end

section
/-! Requests without a route (05 R231): the first line of a byte range is looked up first, and a request that has no route to it has
no effect beside its bus error and the entry 0x0404. -/

namespace Sys2Proof.Machine

/-- The first line of a byte range starts where the range starts (05 R220). -/
theorem linesOf_eq_cons (a len : Nat) : ∃ n ls, linesOf a len = (a, n) :: ls := by
  have hstart : max a (64 * (a / 64)) = a := Nat.max_eq_left (Nat.mul_div_le a 64)
  simp [linesOf, List.range_succ_eq_map, hstart]

/-- A source without a valid route to the target of its first byte has its gap there. -/
theorem routeGap_eq_start {s : State} {src a : Nat} (h : hasRoute s src (targetNi a) = false) (len : Nat) :
    routeGap s src a len = some a := by
  obtain ⟨n, ls, hl⟩ := linesOf_eq_cons a (min len 1024)
  simp [routeGap, hl, h]

/-- Another NI is reached only over a route entry with VALID 1 (05 R231). -/
theorem hasRoute_eq_false {s : State} {src dst : Nat} (hn : src ≠ dst)
    (hv : bit (s.rd (Reg.NOC_RT.ENTRY src dst)) 31 = false) : hasRoute s src dst = false := by
  simp [hasRoute, hn, hv]

/-- A request that the network would carry, without a route to the target of its first byte, is answered with a bus error and
0x0404 (05 R231). -/
theorem unrouted_eq_some {s : State} {rq : Requester} {a len : Nat} (ht : hasTarget s a len = true) (htier : 2 ≤ s.tier)
    (hnoc : s.domUp 2 = true) (hf : fusedTarget s a = false) (hr : hasRoute s rq.ni (targetNi a) = false) :
    unrouted s rq a len = some (s.logEvent (niIsland rq.ni) 0x0404 rq.ni (targetNi a) a).busErr := by
  simp [unrouted, ht, htier, hnoc, hf, routeGap_eq_start hr]

theorem mayRequest_iff {s : State} {rq : Requester} :
    mayRequest s rq = true ↔ requesterUp s rq = true ∧ (freeTag s rq.ni).isSome = true := by
  rw [mayRequest, Bool.and_eq_true]

/-- A request of 1 to 256 bytes that is not injected ends with its answer at the source (05 R231). -/
theorem nocRequest_unrouted {s e : State} {rq : Requester} {a len : Nat} (hlo : 1 ≤ len) (hhi : len ≤ 256)
    (hm : mayRequest s rq = true) (hu : unrouted s rq a len = some e) (w : Bool) (data : List Byte) (poison : Bool) :
    nocRequest s rq w a len data poison = e := by
  obtain ⟨hup, htag⟩ := mayRequest_iff.mp hm
  have hfree : (freeTag s rq.ni).isNone = false := by simpa using htag
  have hlen : len ≠ 0 := by omega
  simp [nocRequest, hlen, Nat.not_lt.mpr hhi, hup, hfree, hu]

/-- An event raised with a bus error: beside the log only the answer changes. -/
theorem logEvent_busErr_logs_confined (s : State) (island code a0 a1 a2 : Nat) :
    Logs s (s.logEvent island code a0 a1 a2).busErr island code a0 a1 a2 ∧
      Confined [.resp, .log] (only [Reg.LOG_LOST_DROP.COUNT]) s (s.logEvent island code a0 a1 a2).busErr :=
  ⟨(logs_logEvent ..).congr rfl rfl,
    ((Confined.refl _ _ s).logEvent _ _ _ _ _ (by decide) (only_key (by decide))).busErr (by decide)⟩

/-- NOC_REQUEST acts as the request does, while the device is awake. -/
theorem Runs.of_nocRequest {s : State} {rq : Requester} {w poison : Bool} {a len : Nat} {data : List Byte} {P : State → Prop}
    (hs : s.awake) (hP : P (nocRequest s rq w a len data poison)) : Runs (.nocRequest rq w a len data poison) s P :=
  ⟨_, whilePowered_awake hs fun s => nocRequest s rq w a len data poison, hP⟩

end Sys2Proof.Machine

namespace Sys2Proof.Proofs

open Sys2Proof.Machine

/-- Settles O11: the gap in the routes is at the first line, and the answer to it is all that the request leaves. -/
theorem noRouteNoRequest : Obligations.NoRouteNoRequest := by
  intro s rq w poison a len data hs hlo hhi hm htier hnoc ht hf hn hv
  have hu := unrouted_eq_some ht htier hnoc hf (hasRoute_eq_false hn hv)
  refine .of_nocRequest hs ?_
  rw [nocRequest_unrouted hlo hhi hm hu]
  exact ⟨rfl, logEvent_busErr_logs_confined ..⟩

end Sys2Proof.Proofs
end
